-- ==== Sys2Proof/Word.lean ====
section
/-!
DEFINITION. The word types of the X648 and the small types its commands carry: 32-bit words, bytes, domains, ports.
-/

namespace Sys2Proof

/-- A register or memory word (06, lead). -/
abbrev Word := BitVec 32

/-- A byte. -/
abbrev Byte := BitVec 8

/-- A 24-bit byte address (06 R181). -/
abbrev Addr := BitVec 24

/-- A domain, D0-D3 (05 R134). -/
abbrev Dom := Fin 4

/-- The accessors of registers and memory windows, with the PORT codes of 06 R232. -/
inductive Port where
  | spi | net
  | pe (n : Fin 4)
  | dma | stream | u2d
  deriving DecidableEq, Repr

/-- PORT code of an accessor (06 R232). -/
def Port.code : Port → Nat
  | .spi => 0
  | .net => 1
  | .pe n => 2 + n.val
  | .dma => 6
  | .stream => 7
  | .u2d => 8

/-- Sign-extension of the low `w` bits of `n` to an integer (two's complement). -/
def sext (w n : Nat) : Int :=
  let m := n % 2 ^ w
  if m < 2 ^ (w - 1) then (m : Int) else (m : Int) - (2 ^ w : Nat)

/-- The low `w` bits of an integer, as a natural number (two's complement). -/
def wrap (w : Nat) (i : Int) : Nat := (i % ((2 ^ w : Nat) : Int)).toNat

/-- `n` held between 0 and `max`. -/
def satN (max n : Nat) : Nat := if n ≤ max then n else max

/-- An integer held between two bounds. -/
def clampI (lo hi x : Int) : Int := if x < lo then lo else if hi < x then hi else x

end Sys2Proof
end

