-- ==== Sys2Proof/Config.lean ====
section
/-!
DEFINITION. What the X648 leaves free: values no rule of the spec fixes. Each is an opaque constant with no body, so
that no proof can rest on a value of it (assumption log 2).
-/

namespace Sys2Proof.Config

/-- The `n`-th value of the free source: random blocks (19 R733) and every value the spec leaves open. -/
opaque freeBits : Nat → BitVec 64

end Sys2Proof.Config
end

