-- ==== Sys2Proof/Machine/RegTable.lean ====
section
/-!
DEFINITION. The register table of the X648: every register of the address map (06 R182) with its place, its fields,
their access codes (00 R11), reset values (00 R13), bake classes (00 R14) and reserved values (06 R190), its owner rule
(05 R136-R141) and lock group (06 R213), as the register section of each block's chapter gives them.
-/

namespace Sys2Proof.Machine

/-- Access codes of a field (00 R11). A reserved field has no entry. -/
inductive Acc where
  | rw | ro | w1c | w1s | rc | wo
  deriving DecidableEq, Repr

/-- Bake classes (00 R14): slice, PWM period, scan frame, packet end, immediate. -/
inductive Bake where
  | s | p | f | k | i
  deriving DecidableEq, Repr

/-- The values a field takes; any other value is a reserved value of it (06 R190). -/
inductive ValRule where
  | any
  | range (lo hi : Nat)
  | align4     -- a multiple of 4
  | etype      -- at least 0x0600 and not 0x8100 (08 R311)
  | bit8clear  -- bit 8 is 0 (08 R312)
  | bit8set    -- bit 8 is 1 (08 R312)
  | evt        -- an event code that is not reserved (11 R439)
  | cons       -- a consumer binding: 0-16 or 18 (09 R326)
  | trig       -- a trigger code: 0-15 or 31 (16 R611)
  | trig0      -- a trigger code of entry 0: 1-15 or 31 (16 R615)
  deriving DecidableEq, Repr

/-- Whether `v` is a value of the field and not a reserved one. -/
def ValRule.ok : ValRule → Nat → Bool
  | .any, _ => true
  | .range lo hi, v => lo ≤ v && v ≤ hi
  | .align4, v => v % 4 == 0
  | .etype, v => 0x0600 ≤ v && v != 0x8100
  | .bit8clear, v => v / 256 % 2 == 0
  | .bit8set, v => v / 256 % 2 == 1
  | .evt, v => v ≤ 4 || (0x80 ≤ v && v ≤ 0xDF)
  | .cons, v => v ≤ 16 || v == 18
  | .trig, v => v ≤ 15 || v == 31
  | .trig0, v => (1 ≤ v && v ≤ 15) || v == 31

/-- One field of a register: its lowest bit, its width, access code, reset value (the default where the reset is `img`),
bake class and reserved values. -/
structure Field where
  name : String
  lo : Nat
  w : Nat
  acc : Acc
  rst : Nat
  bake : Bake
  ok : ValRule
  deriving DecidableEq, Repr

/-- A field of the table. -/
def fl (name : String) (lo w : Nat) (acc : Acc) (rst : Nat) (bake : Bake) (ok : ValRule := .any) : Field :=
  ⟨name, lo, w, acc, rst, bake, ok⟩

/-- `n` equal fields side by side. -/
def flr (name : String) (lo w : Nat) : Nat → Acc → Nat → Bake → (ok : ValRule := .any) → List Field
  | 0, _, _, _, _ => []
  | n + 1, acc, rst, bake, ok =>
    ⟨name, lo, w, acc, rst % 2 ^ w, bake, ok⟩ :: flr name (lo + w) w n acc (rst / 2 ^ w) bake ok

/-- Who may access a register (05 R136-R141 and the register section of each chapter). -/
inductive Own where
  | pub                -- read by every domain, no writable field
  | pubPriv            -- read by every domain, written by D0 only
  | pubIrq (n : Nat)   -- read by every domain, flags cleared by D0 and the owner of IRQ n
  | privIrq (n : Nat)  -- privileged, but the owner of IRQ n also reads it and clears its flags
  | priv               -- privileged
  | dom                -- belongs to the domain of its index, read by D0
  | str | grid | pe | rack | sem | adcReg | adcInj | grp | pix  -- belongs to the owner of that resource
  | disp               -- belongs to the owner of the engine named by the entry (11 R437)
  | ctx                -- context registers (11, registers)
  | bank               -- banked per port and domain (06 R220)
  | domRst             -- DOM_RST (05 R157)
  | swTrig             -- DISP_SWTRIG (11 R441)
  | dctl               -- FLT_DCTL (18 R690)
  | peCmd              -- PEn_CMD (11 R445)
  | otsel              -- TLM_OTSEL, TLM_OT_HI, TLM_OT_LO (17 R669)
  | dlkCap             -- DLK_CAP (09, registers)
  | intEn | intPri     -- checked field by field (05 R141)
  | fltStat | fltGstat -- checked field by field (18 R682)
  | netStat | tlmStat  -- flags cleared by D0 and the owner of the source each flag drives
  | spiLast            -- SPI_LAST (07 R264)
  | u2dD0 | u2dNone    -- written through U2D only; read by D0, or by no port (20, registers)
  deriving DecidableEq, Repr

/-- Lock groups (06 R213). -/
inductive Lock where
  | none | own | limit | hearth | clk
  deriving DecidableEq, Repr

/-- The addresses of a register array: `base + s1 * i + s2 * j` for `i < n1`, `j < n2`. -/
structure Place where
  base : Nat
  n1 : Nat
  s1 : Nat
  n2 : Nat
  s2 : Nat
  deriving DecidableEq, Repr

/-- Access rule of a register array. -/
structure RegRule where
  own : Own
  lock : Lock
  crit : Bool
  bitAlias : Bool
  deriving DecidableEq, Repr

/-- The registers, one name for each register array of the spec. -/
inductive RegId where
  | devId | devVer | devUidLo | devUidHi | bakeCtl | lockCtl | regStat | regCap | regTmr | regTmrCnt | regPar
  | snapReq | snapStat | snapHi | snapLo | pinStrap | pinLevel | gpioCfg | padCfg | gpioEdge | ownStr | ownPe
  | ownAdc | ownRackLo | ownRackHi | ownSemLo | ownSemHi | ownRmem | ownDmem | ownHot | ownTray0 | ownTray1 | ownIrq0
  | ownIrq1 | ownIrq2 | ownIrq3 | ownIrq4 | ownIrq5 | ownStat | domPorten | domRst | domStat | qosStat | domQos
  | domViol | domInfl | intEn | intPend | intCfg | intTop | intPri | clkCfg | clkStat | clkMoncfg | clkFmeas
  | pwrStat | rstCause | pwrCmd | pwrWakecfg | pwrWktmr | pwrWakesrc | hwdtCfg | hwdtSvc | hwdtStat | dwdtStat
  | bootTime | spiLast | spiStat | spiErrcnt | spiCtl | spiSesscmd | spiSessstat | spiChalHi | spiChalLo | spiRespHi
  | spiRespLo | netCfg | netEtype | netMacHi | netMacLo | netMcastHi | netMcastLo | netPlca | netPlca2 | netStat
  | netCnt0 | netCnt1 | netCnt2 | netCtl | netKeysel | netEpoch | netEvcfg | netHostHi | netHostLo | netTimecfg
  | netTepoch | netTfloorHi | netTfloorLo | netTstat | netTofs | netTrate | netTraycfg | netTrayStat | rackCfg
  | rackStat | rackPush | rackRet | rackPop | rackPopw1 | rackPopw2 | rackPopw3 | rackPart | semCfg | semStat
  | semTake | semGive | waitTmo | dlkCnt | dlkCap | rackGstat | memCfg | memEccstat | memUecap | memCecap | memSweep
  | memFahead | memLardstat | memBank | imgCmd | imgSrc | imgDst | imgStat | imgAseq | imgBseq | imgAlen | imgBlen
  | imgEcc | peSlice | peSliceno | peCtl | peStat | peExc | peExcpc | peExcaddr | peCmd | peOvrcnt | peCtxStat
  | peCtxWork | dispCfg | dispStart | dispSwtrig | dispTmHi | dispTmLo | dispStat | pwmCtl | pwmPer | pwmCa | pwmCb
  | pwmDt | pwmBlk | pwmTrg | pwmSync | pwmTripcfg | pwmProof | pwmStat | pwmCnt | pwmTon | pwmTper | pwmEvcnt
  | pwmProofstat | strCtl | strIref | strCmp | strLimit | strLoop | strDmax | strDmin | strFfv | strDet | strDim
  | strStat | strMeas | strOut | strVmon | strEvcnt | bypCfg | bypUnused | bypDet | bypState | bypPhase | bypStat
  | bypAutobyp | bypShortpx | bypEb | gridCtl | gridFrate | gridPhase | gridImax | gridColi | gridDet | gridStat
  | gridSyncslip | gridFcnt | gridRowoff | gridColoff | gridPxcap | gridEvcnt | adcCtl | adcCmd | adcStat | adcCalofs
  | adcCalgain | adcRegctl | adcRegstat | adcInjctl | adcInjstat | adcInjsw | adcInj | adcIres | adcTbl | adcRes
  | adcShrcfg | adcShrstat | adcShrflag | adcRef | adcRefmeas | adcTrigcfg | adcCorr | adcCorrRsv | tlmCfg | tlmStat
  | tlmOtsel | tlmOtHi | tlmOtLo | tlmCnt | tlmGrpCfg | tlmGrpCal | tlmCrv | tlmPixA | tlmPixB | fltStat | fltReact
  | fltGstat | fltCnt | fltDctl | fltCap | hearthCmd | hearthCfg | hearthSel | hearthStat | hearthRamp | lcStat
  | lcCmd | lcChalHi | lcChalLo | lcRespHi | lcRespLo | keyCmd | keyAttr | keyData | keyTagHi | keyTagLo | keySlot
  | keyStat | secStat | u2dStat | u2dHalt | u2dStep | u2dCtxsel | u2dCtxpc | u2dCtxflg | dbgFrz | u2dCtxv | u2dBp
  | u2dTrcfg | u2dTrpop | u2dTrw1 | u2dTrstat
  deriving DecidableEq, Repr

/-- The place of each register array: base address, first count and stride, second count and stride. -/
def RegId.place : RegId → Place
  | .devId => ⟨0x0, 1, 0x0, 1, 0x0⟩
  | .devVer => ⟨0x4, 1, 0x0, 1, 0x0⟩
  | .devUidLo => ⟨0x8, 1, 0x0, 1, 0x0⟩
  | .devUidHi => ⟨0xC, 1, 0x0, 1, 0x0⟩
  | .bakeCtl => ⟨0x40, 4, 0x4, 1, 0x0⟩
  | .lockCtl => ⟨0x50, 1, 0x0, 1, 0x0⟩
  | .regStat => ⟨0x60, 4, 0x10, 1, 0x0⟩
  | .regCap => ⟨0x64, 4, 0x10, 1, 0x0⟩
  | .regTmr => ⟨0xA0, 1, 0x0, 1, 0x0⟩
  | .regTmrCnt => ⟨0xA4, 1, 0x0, 1, 0x0⟩
  | .regPar => ⟨0xA8, 1, 0x0, 1, 0x0⟩
  | .snapReq => ⟨0xC0, 1, 0x0, 1, 0x0⟩
  | .snapStat => ⟨0xC4, 1, 0x0, 1, 0x0⟩
  | .snapHi => ⟨0xC8, 1, 0x0, 1, 0x0⟩
  | .snapLo => ⟨0xCC, 1, 0x0, 1, 0x0⟩
  | .pinStrap => ⟨0x100, 1, 0x0, 1, 0x0⟩
  | .pinLevel => ⟨0x104, 1, 0x0, 1, 0x0⟩
  | .gpioCfg => ⟨0x110, 6, 0x4, 1, 0x0⟩
  | .padCfg => ⟨0x130, 1, 0x0, 1, 0x0⟩
  | .gpioEdge => ⟨0x134, 1, 0x0, 1, 0x0⟩
  | .ownStr => ⟨0x1000, 1, 0x0, 1, 0x0⟩
  | .ownPe => ⟨0x1004, 1, 0x0, 1, 0x0⟩
  | .ownAdc => ⟨0x1008, 1, 0x0, 1, 0x0⟩
  | .ownRackLo => ⟨0x100C, 1, 0x0, 1, 0x0⟩
  | .ownRackHi => ⟨0x1010, 1, 0x0, 1, 0x0⟩
  | .ownSemLo => ⟨0x1014, 1, 0x0, 1, 0x0⟩
  | .ownSemHi => ⟨0x1018, 1, 0x0, 1, 0x0⟩
  | .ownRmem => ⟨0x101C, 1, 0x0, 1, 0x0⟩
  | .ownDmem => ⟨0x1020, 1, 0x0, 1, 0x0⟩
  | .ownHot => ⟨0x1024, 1, 0x0, 1, 0x0⟩
  | .ownTray0 => ⟨0x1028, 1, 0x0, 1, 0x0⟩
  | .ownTray1 => ⟨0x102C, 1, 0x0, 1, 0x0⟩
  | .ownIrq0 => ⟨0x1030, 1, 0x0, 1, 0x0⟩
  | .ownIrq1 => ⟨0x1034, 1, 0x0, 1, 0x0⟩
  | .ownIrq2 => ⟨0x1038, 1, 0x0, 1, 0x0⟩
  | .ownIrq3 => ⟨0x103C, 1, 0x0, 1, 0x0⟩
  | .ownIrq4 => ⟨0x1040, 1, 0x0, 1, 0x0⟩
  | .ownIrq5 => ⟨0x1044, 1, 0x0, 1, 0x0⟩
  | .ownStat => ⟨0x1050, 1, 0x0, 1, 0x0⟩
  | .domPorten => ⟨0x1060, 1, 0x0, 1, 0x0⟩
  | .domRst => ⟨0x1064, 1, 0x0, 1, 0x0⟩
  | .domStat => ⟨0x1068, 1, 0x0, 1, 0x0⟩
  | .qosStat => ⟨0x106C, 1, 0x0, 1, 0x0⟩
  | .domQos => ⟨0x1080, 4, 0x10, 1, 0x0⟩
  | .domViol => ⟨0x1084, 4, 0x10, 1, 0x0⟩
  | .domInfl => ⟨0x1088, 4, 0x10, 1, 0x0⟩
  | .intEn => ⟨0x2000, 4, 0x40, 3, 0x4⟩
  | .intPend => ⟨0x2010, 4, 0x40, 3, 0x4⟩
  | .intCfg => ⟨0x2020, 4, 0x40, 1, 0x0⟩
  | .intTop => ⟨0x2024, 4, 0x40, 1, 0x0⟩
  | .intPri => ⟨0x2100, 12, 0x4, 1, 0x0⟩
  | .clkCfg => ⟨0x3000, 1, 0x0, 1, 0x0⟩
  | .clkStat => ⟨0x3004, 1, 0x0, 1, 0x0⟩
  | .clkMoncfg => ⟨0x3008, 1, 0x0, 1, 0x0⟩
  | .clkFmeas => ⟨0x300C, 1, 0x0, 1, 0x0⟩
  | .pwrStat => ⟨0x3100, 1, 0x0, 1, 0x0⟩
  | .rstCause => ⟨0x3104, 1, 0x0, 1, 0x0⟩
  | .pwrCmd => ⟨0x3108, 1, 0x0, 1, 0x0⟩
  | .pwrWakecfg => ⟨0x310C, 1, 0x0, 1, 0x0⟩
  | .pwrWktmr => ⟨0x3110, 1, 0x0, 1, 0x0⟩
  | .pwrWakesrc => ⟨0x3114, 1, 0x0, 1, 0x0⟩
  | .hwdtCfg => ⟨0x3120, 1, 0x0, 1, 0x0⟩
  | .hwdtSvc => ⟨0x3124, 1, 0x0, 1, 0x0⟩
  | .hwdtStat => ⟨0x3128, 1, 0x0, 1, 0x0⟩
  | .dwdtStat => ⟨0x312C, 1, 0x0, 1, 0x0⟩
  | .bootTime => ⟨0x3130, 1, 0x0, 1, 0x0⟩
  | .spiLast => ⟨0x4000, 1, 0x0, 1, 0x0⟩
  | .spiStat => ⟨0x4004, 1, 0x0, 1, 0x0⟩
  | .spiErrcnt => ⟨0x4008, 1, 0x0, 1, 0x0⟩
  | .spiCtl => ⟨0x400C, 1, 0x0, 1, 0x0⟩
  | .spiSesscmd => ⟨0x4010, 1, 0x0, 1, 0x0⟩
  | .spiSessstat => ⟨0x4014, 1, 0x0, 1, 0x0⟩
  | .spiChalHi => ⟨0x4018, 1, 0x0, 1, 0x0⟩
  | .spiChalLo => ⟨0x401C, 1, 0x0, 1, 0x0⟩
  | .spiRespHi => ⟨0x4020, 1, 0x0, 1, 0x0⟩
  | .spiRespLo => ⟨0x4024, 1, 0x0, 1, 0x0⟩
  | .netCfg => ⟨0x5000, 1, 0x0, 1, 0x0⟩
  | .netEtype => ⟨0x5004, 1, 0x0, 1, 0x0⟩
  | .netMacHi => ⟨0x5008, 1, 0x0, 1, 0x0⟩
  | .netMacLo => ⟨0x500C, 1, 0x0, 1, 0x0⟩
  | .netMcastHi => ⟨0x5010, 1, 0x0, 1, 0x0⟩
  | .netMcastLo => ⟨0x5014, 1, 0x0, 1, 0x0⟩
  | .netPlca => ⟨0x5018, 1, 0x0, 1, 0x0⟩
  | .netPlca2 => ⟨0x501C, 1, 0x0, 1, 0x0⟩
  | .netStat => ⟨0x5020, 1, 0x0, 1, 0x0⟩
  | .netCnt0 => ⟨0x5024, 1, 0x0, 1, 0x0⟩
  | .netCnt1 => ⟨0x5028, 1, 0x0, 1, 0x0⟩
  | .netCnt2 => ⟨0x502C, 1, 0x0, 1, 0x0⟩
  | .netCtl => ⟨0x5030, 1, 0x0, 1, 0x0⟩
  | .netKeysel => ⟨0x5034, 1, 0x0, 1, 0x0⟩
  | .netEpoch => ⟨0x5038, 1, 0x0, 1, 0x0⟩
  | .netEvcfg => ⟨0x503C, 1, 0x0, 1, 0x0⟩
  | .netHostHi => ⟨0x5040, 4, 0x8, 1, 0x0⟩
  | .netHostLo => ⟨0x5044, 4, 0x8, 1, 0x0⟩
  | .netTimecfg => ⟨0x5060, 1, 0x0, 1, 0x0⟩
  | .netTepoch => ⟨0x5064, 1, 0x0, 1, 0x0⟩
  | .netTfloorHi => ⟨0x5068, 1, 0x0, 1, 0x0⟩
  | .netTfloorLo => ⟨0x506C, 1, 0x0, 1, 0x0⟩
  | .netTstat => ⟨0x5070, 1, 0x0, 1, 0x0⟩
  | .netTofs => ⟨0x5074, 1, 0x0, 1, 0x0⟩
  | .netTrate => ⟨0x5078, 1, 0x0, 1, 0x0⟩
  | .netTraycfg => ⟨0x507C, 1, 0x0, 1, 0x0⟩
  | .netTrayStat => ⟨0x5080, 4, 0x4, 1, 0x0⟩
  | .rackCfg => ⟨0x6000, 32, 0x20, 1, 0x0⟩
  | .rackStat => ⟨0x6004, 32, 0x20, 1, 0x0⟩
  | .rackPush => ⟨0x6008, 32, 0x20, 1, 0x0⟩
  | .rackRet => ⟨0x600C, 32, 0x20, 1, 0x0⟩
  | .rackPop => ⟨0x6010, 32, 0x20, 1, 0x0⟩
  | .rackPopw1 => ⟨0x6014, 32, 0x20, 1, 0x0⟩
  | .rackPopw2 => ⟨0x6018, 32, 0x20, 1, 0x0⟩
  | .rackPopw3 => ⟨0x601C, 32, 0x20, 1, 0x0⟩
  | .rackPart => ⟨0x6400, 32, 0x4, 1, 0x0⟩
  | .semCfg => ⟨0x6800, 32, 0x10, 1, 0x0⟩
  | .semStat => ⟨0x6804, 32, 0x10, 1, 0x0⟩
  | .semTake => ⟨0x6808, 32, 0x10, 1, 0x0⟩
  | .semGive => ⟨0x680C, 32, 0x10, 1, 0x0⟩
  | .waitTmo => ⟨0x6C00, 1, 0x0, 1, 0x0⟩
  | .dlkCnt => ⟨0x6C04, 1, 0x0, 1, 0x0⟩
  | .dlkCap => ⟨0x6C08, 1, 0x0, 1, 0x0⟩
  | .rackGstat => ⟨0x6C0C, 1, 0x0, 1, 0x0⟩
  | .memCfg => ⟨0x7000, 1, 0x0, 1, 0x0⟩
  | .memEccstat => ⟨0x7004, 1, 0x0, 1, 0x0⟩
  | .memUecap => ⟨0x7008, 1, 0x0, 1, 0x0⟩
  | .memCecap => ⟨0x700C, 1, 0x0, 1, 0x0⟩
  | .memSweep => ⟨0x7010, 1, 0x0, 1, 0x0⟩
  | .memFahead => ⟨0x7014, 1, 0x0, 1, 0x0⟩
  | .memLardstat => ⟨0x7018, 1, 0x0, 1, 0x0⟩
  | .memBank => ⟨0x7040, 11, 0x4, 1, 0x0⟩
  | .imgCmd => ⟨0x7100, 1, 0x0, 1, 0x0⟩
  | .imgSrc => ⟨0x7104, 1, 0x0, 1, 0x0⟩
  | .imgDst => ⟨0x7108, 1, 0x0, 1, 0x0⟩
  | .imgStat => ⟨0x710C, 1, 0x0, 1, 0x0⟩
  | .imgAseq => ⟨0x7110, 1, 0x0, 1, 0x0⟩
  | .imgBseq => ⟨0x7114, 1, 0x0, 1, 0x0⟩
  | .imgAlen => ⟨0x7118, 1, 0x0, 1, 0x0⟩
  | .imgBlen => ⟨0x711C, 1, 0x0, 1, 0x0⟩
  | .imgEcc => ⟨0x7120, 1, 0x0, 1, 0x0⟩
  | .peSlice => ⟨0x8000, 1, 0x0, 1, 0x0⟩
  | .peSliceno => ⟨0x8004, 1, 0x0, 1, 0x0⟩
  | .peCtl => ⟨0x8100, 4, 0x20, 1, 0x0⟩
  | .peStat => ⟨0x8104, 4, 0x20, 1, 0x0⟩
  | .peExc => ⟨0x8108, 4, 0x20, 1, 0x0⟩
  | .peExcpc => ⟨0x810C, 4, 0x20, 1, 0x0⟩
  | .peExcaddr => ⟨0x8110, 4, 0x20, 1, 0x0⟩
  | .peCmd => ⟨0x8114, 4, 0x20, 1, 0x0⟩
  | .peOvrcnt => ⟨0x8118, 4, 0x20, 1, 0x0⟩
  | .peCtxStat => ⟨0x8200, 16, 0x8, 1, 0x0⟩
  | .peCtxWork => ⟨0x8204, 16, 0x8, 1, 0x0⟩
  | .dispCfg => ⟨0x9000, 32, 0x8, 1, 0x0⟩
  | .dispStart => ⟨0x9004, 32, 0x8, 1, 0x0⟩
  | .dispSwtrig => ⟨0x9100, 1, 0x0, 1, 0x0⟩
  | .dispTmHi => ⟨0x9110, 4, 0x8, 1, 0x0⟩
  | .dispTmLo => ⟨0x9114, 4, 0x8, 1, 0x0⟩
  | .dispStat => ⟨0x9140, 4, 0x4, 1, 0x0⟩
  | .pwmCtl => ⟨0xA000, 6, 0x200, 1, 0x0⟩
  | .pwmPer => ⟨0xA004, 6, 0x200, 1, 0x0⟩
  | .pwmCa => ⟨0xA008, 6, 0x200, 1, 0x0⟩
  | .pwmCb => ⟨0xA00C, 6, 0x200, 1, 0x0⟩
  | .pwmDt => ⟨0xA010, 6, 0x200, 1, 0x0⟩
  | .pwmBlk => ⟨0xA014, 6, 0x200, 1, 0x0⟩
  | .pwmTrg => ⟨0xA018, 6, 0x200, 1, 0x0⟩
  | .pwmSync => ⟨0xA01C, 6, 0x200, 1, 0x0⟩
  | .pwmTripcfg => ⟨0xA020, 6, 0x200, 1, 0x0⟩
  | .pwmProof => ⟨0xA024, 6, 0x200, 1, 0x0⟩
  | .pwmStat => ⟨0xA028, 6, 0x200, 1, 0x0⟩
  | .pwmCnt => ⟨0xA02C, 6, 0x200, 1, 0x0⟩
  | .pwmTon => ⟨0xA030, 6, 0x200, 1, 0x0⟩
  | .pwmTper => ⟨0xA034, 6, 0x200, 1, 0x0⟩
  | .pwmEvcnt => ⟨0xA038, 6, 0x200, 1, 0x0⟩
  | .pwmProofstat => ⟨0xA03C, 6, 0x200, 1, 0x0⟩
  | .strCtl => ⟨0xB000, 6, 0x100, 1, 0x0⟩
  | .strIref => ⟨0xB004, 6, 0x100, 1, 0x0⟩
  | .strCmp => ⟨0xB008, 6, 0x100, 1, 0x0⟩
  | .strLimit => ⟨0xB00C, 6, 0x100, 1, 0x0⟩
  | .strLoop => ⟨0xB010, 6, 0x100, 1, 0x0⟩
  | .strDmax => ⟨0xB014, 6, 0x100, 1, 0x0⟩
  | .strDmin => ⟨0xB018, 6, 0x100, 1, 0x0⟩
  | .strFfv => ⟨0xB01C, 6, 0x100, 1, 0x0⟩
  | .strDet => ⟨0xB020, 6, 0x100, 1, 0x0⟩
  | .strDim => ⟨0xB024, 6, 0x100, 1, 0x0⟩
  | .strStat => ⟨0xB028, 6, 0x100, 1, 0x0⟩
  | .strMeas => ⟨0xB02C, 6, 0x100, 1, 0x0⟩
  | .strOut => ⟨0xB030, 6, 0x100, 1, 0x0⟩
  | .strVmon => ⟨0xB034, 6, 0x100, 1, 0x0⟩
  | .strEvcnt => ⟨0xB038, 6, 0x100, 1, 0x0⟩
  | .bypCfg => ⟨0xC000, 6, 0x80, 1, 0x0⟩
  | .bypUnused => ⟨0xC004, 6, 0x80, 1, 0x0⟩
  | .bypDet => ⟨0xC008, 6, 0x80, 1, 0x0⟩
  | .bypState => ⟨0xC00C, 6, 0x80, 1, 0x0⟩
  | .bypPhase => ⟨0xC010, 6, 0x80, 4, 0x4⟩
  | .bypStat => ⟨0xC020, 6, 0x80, 1, 0x0⟩
  | .bypAutobyp => ⟨0xC024, 6, 0x80, 1, 0x0⟩
  | .bypShortpx => ⟨0xC028, 6, 0x80, 1, 0x0⟩
  | .bypEb => ⟨0xC02C, 6, 0x80, 1, 0x0⟩
  | .gridCtl => ⟨0xD000, 1, 0x0, 1, 0x0⟩
  | .gridFrate => ⟨0xD004, 1, 0x0, 1, 0x0⟩
  | .gridPhase => ⟨0xD008, 1, 0x0, 1, 0x0⟩
  | .gridImax => ⟨0xD00C, 1, 0x0, 1, 0x0⟩
  | .gridColi => ⟨0xD010, 6, 0x4, 1, 0x0⟩
  | .gridDet => ⟨0xD028, 1, 0x0, 1, 0x0⟩
  | .gridStat => ⟨0xD02C, 1, 0x0, 1, 0x0⟩
  | .gridSyncslip => ⟨0xD030, 1, 0x0, 1, 0x0⟩
  | .gridFcnt => ⟨0xD034, 1, 0x0, 1, 0x0⟩
  | .gridRowoff => ⟨0xD038, 1, 0x0, 1, 0x0⟩
  | .gridColoff => ⟨0xD03C, 1, 0x0, 1, 0x0⟩
  | .gridPxcap => ⟨0xD040, 1, 0x0, 1, 0x0⟩
  | .gridEvcnt => ⟨0xD044, 1, 0x0, 1, 0x0⟩
  | .adcCtl => ⟨0xE000, 2, 0x400, 1, 0x0⟩
  | .adcCmd => ⟨0xE004, 2, 0x400, 1, 0x0⟩
  | .adcStat => ⟨0xE008, 2, 0x400, 1, 0x0⟩
  | .adcCalofs => ⟨0xE00C, 2, 0x400, 1, 0x0⟩
  | .adcCalgain => ⟨0xE010, 2, 0x400, 1, 0x0⟩
  | .adcRegctl => ⟨0xE014, 2, 0x400, 1, 0x0⟩
  | .adcRegstat => ⟨0xE018, 2, 0x400, 1, 0x0⟩
  | .adcInjctl => ⟨0xE01C, 2, 0x400, 1, 0x0⟩
  | .adcInjstat => ⟨0xE020, 2, 0x400, 1, 0x0⟩
  | .adcInjsw => ⟨0xE024, 2, 0x400, 1, 0x0⟩
  | .adcInj => ⟨0xE040, 2, 0x400, 8, 0x4⟩
  | .adcIres => ⟨0xE060, 2, 0x400, 8, 0x4⟩
  | .adcTbl => ⟨0xE100, 2, 0x400, 64, 0x4⟩
  | .adcRes => ⟨0xE200, 2, 0x400, 64, 0x4⟩
  | .adcShrcfg => ⟨0xE800, 1, 0x0, 1, 0x0⟩
  | .adcShrstat => ⟨0xE804, 1, 0x0, 1, 0x0⟩
  | .adcShrflag => ⟨0xE808, 1, 0x0, 1, 0x0⟩
  | .adcRef => ⟨0xE80C, 1, 0x0, 1, 0x0⟩
  | .adcRefmeas => ⟨0xE810, 1, 0x0, 1, 0x0⟩
  | .adcTrigcfg => ⟨0xE814, 1, 0x0, 1, 0x0⟩
  | .adcCorr => ⟨0xE900, 39, 0x4, 1, 0x0⟩
  | .adcCorrRsv => ⟨0xE99C, 9, 0x4, 1, 0x0⟩
  | .tlmCfg => ⟨0xF000, 1, 0x0, 1, 0x0⟩
  | .tlmStat => ⟨0xF004, 1, 0x0, 1, 0x0⟩
  | .tlmOtsel => ⟨0xF008, 1, 0x0, 1, 0x0⟩
  | .tlmOtHi => ⟨0xF00C, 1, 0x0, 1, 0x0⟩
  | .tlmOtLo => ⟨0xF010, 1, 0x0, 1, 0x0⟩
  | .tlmCnt => ⟨0xF018, 1, 0x0, 1, 0x0⟩
  | .tlmGrpCfg => ⟨0xF020, 7, 0x8, 1, 0x0⟩
  | .tlmGrpCal => ⟨0xF024, 7, 0x8, 1, 0x0⟩
  | .tlmCrv => ⟨0xF080, 4, 0x20, 8, 0x4⟩
  | .tlmPixA => ⟨0xF100, 480, 0x8, 1, 0x0⟩
  | .tlmPixB => ⟨0xF104, 480, 0x8, 1, 0x0⟩
  | .fltStat => ⟨0x10000, 4, 0x4, 1, 0x0⟩
  | .fltReact => ⟨0x10010, 8, 0x4, 1, 0x0⟩
  | .fltGstat => ⟨0x10030, 1, 0x0, 1, 0x0⟩
  | .fltCnt => ⟨0x10034, 1, 0x0, 1, 0x0⟩
  | .fltDctl => ⟨0x10038, 1, 0x0, 1, 0x0⟩
  | .fltCap => ⟨0x10040, 4, 0x4, 1, 0x0⟩
  | .hearthCmd => ⟨0x10080, 1, 0x0, 1, 0x0⟩
  | .hearthCfg => ⟨0x10084, 1, 0x0, 1, 0x0⟩
  | .hearthSel => ⟨0x10088, 1, 0x0, 1, 0x0⟩
  | .hearthStat => ⟨0x1008C, 1, 0x0, 1, 0x0⟩
  | .hearthRamp => ⟨0x10090, 1, 0x0, 1, 0x0⟩
  | .lcStat => ⟨0x11000, 1, 0x0, 1, 0x0⟩
  | .lcCmd => ⟨0x11004, 1, 0x0, 1, 0x0⟩
  | .lcChalHi => ⟨0x11008, 1, 0x0, 1, 0x0⟩
  | .lcChalLo => ⟨0x1100C, 1, 0x0, 1, 0x0⟩
  | .lcRespHi => ⟨0x11010, 1, 0x0, 1, 0x0⟩
  | .lcRespLo => ⟨0x11014, 1, 0x0, 1, 0x0⟩
  | .keyCmd => ⟨0x11020, 1, 0x0, 1, 0x0⟩
  | .keyAttr => ⟨0x11024, 1, 0x0, 1, 0x0⟩
  | .keyData => ⟨0x11028, 4, 0x4, 1, 0x0⟩
  | .keyTagHi => ⟨0x11038, 1, 0x0, 1, 0x0⟩
  | .keyTagLo => ⟨0x1103C, 1, 0x0, 1, 0x0⟩
  | .keySlot => ⟨0x11040, 4, 0x4, 1, 0x0⟩
  | .keyStat => ⟨0x11050, 1, 0x0, 1, 0x0⟩
  | .secStat => ⟨0x11060, 1, 0x0, 1, 0x0⟩
  | .u2dStat => ⟨0x12000, 1, 0x0, 1, 0x0⟩
  | .u2dHalt => ⟨0x12004, 1, 0x0, 1, 0x0⟩
  | .u2dStep => ⟨0x12008, 1, 0x0, 1, 0x0⟩
  | .u2dCtxsel => ⟨0x1200C, 1, 0x0, 1, 0x0⟩
  | .u2dCtxpc => ⟨0x12010, 1, 0x0, 1, 0x0⟩
  | .u2dCtxflg => ⟨0x12014, 1, 0x0, 1, 0x0⟩
  | .dbgFrz => ⟨0x12020, 1, 0x0, 1, 0x0⟩
  | .u2dCtxv => ⟨0x12040, 16, 0x4, 1, 0x0⟩
  | .u2dBp => ⟨0x12080, 4, 0x4, 1, 0x0⟩
  | .u2dTrcfg => ⟨0x120C0, 1, 0x0, 1, 0x0⟩
  | .u2dTrpop => ⟨0x120C4, 1, 0x0, 1, 0x0⟩
  | .u2dTrw1 => ⟨0x120C8, 1, 0x0, 1, 0x0⟩
  | .u2dTrstat => ⟨0x120CC, 1, 0x0, 1, 0x0⟩

/-- The rule of each register array: who may access it, its lock group, whether it is critical, whether the
bit-addressed alias reaches it (06 R196). -/
def RegId.rule : RegId → RegRule
  | .devId | .devVer | .devUidLo | .devUidHi | .regTmrCnt | .pinLevel | .ownStat | .domStat | .qosStat | .clkFmeas
  | .dwdtStat | .bootTime | .spiErrcnt | .netCnt0 | .netCnt1 | .netCnt2 | .netEpoch | .netTstat | .netTofs |
  .netTrate | .imgAseq | .imgBseq | .peSliceno | .adcShrstat | .adcRefmeas | .tlmCnt | .fltCnt | .hearthRamp |
  .keySlot => ⟨.pub, .none, false, false⟩
  | .bakeCtl | .regStat | .domInfl | .intPend => ⟨.dom, .none, false, true⟩
  | .lockCtl => ⟨.pubPriv, .none, true, true⟩
  | .regCap | .domViol | .intCfg | .intTop | .netTrayStat | .dispTmHi | .dispTmLo | .dispStat | .fltCap => ⟨.dom, .none, false, false⟩
  | .regTmr | .regPar | .rstCause | .adcStat => ⟨.pubPriv, .none, false, true⟩
  | .snapReq | .snapStat | .snapHi | .snapLo => ⟨.bank, .none, false, false⟩
  | .pinStrap => ⟨.pub, .none, true, false⟩
  | .gpioCfg | .padCfg | .pwrCmd | .pwrWktmr | .hwdtSvc | .spiCtl | .spiSesscmd | .spiSessstat | .spiChalHi |
  .spiChalLo | .spiRespHi | .spiRespLo | .netCfg | .netEtype | .netMacHi | .netMacLo | .netMcastHi | .netMcastLo |
  .netPlca | .netPlca2 | .netCtl | .netKeysel | .netEvcfg | .netHostHi | .netHostLo | .netTimecfg | .netTepoch |
  .netTfloorHi | .netTfloorLo | .netTraycfg | .rackPart | .waitTmo | .memCfg | .memUecap | .memCecap | .memSweep |
  .memFahead | .memLardstat | .memBank | .imgCmd | .imgSrc | .imgDst | .imgAlen | .imgBlen | .imgEcc | .peSlice |
  .adcCtl | .adcCmd | .adcCalofs | .adcCalgain | .adcShrcfg | .adcRef | .adcCorr | .adcCorrRsv | .tlmCfg | .tlmCrv
  | .hearthCmd | .lcCmd | .lcChalHi | .lcChalLo | .lcRespHi | .lcRespLo | .keyCmd | .keyAttr | .keyData |
  .keyTagHi | .keyTagLo | .keyStat => ⟨.priv, .none, false, false⟩
  | .gpioEdge => ⟨(.pubIrq 21), .none, false, true⟩
  | .ownStr | .ownPe | .ownAdc | .ownRackLo | .ownRackHi | .ownSemLo | .ownSemHi | .ownRmem | .ownDmem | .ownHot |
  .ownTray0 | .ownTray1 | .ownIrq0 | .ownIrq1 | .ownIrq2 | .ownIrq3 | .ownIrq4 | .ownIrq5 | .domPorten => ⟨.priv, .own, true, true⟩
  | .domRst => ⟨.domRst, .none, false, false⟩
  | .domQos => ⟨.priv, .own, false, false⟩
  | .intEn => ⟨.intEn, .none, false, true⟩
  | .intPri => ⟨.intPri, .none, false, false⟩
  | .clkCfg | .clkMoncfg => ⟨.priv, .clk, false, false⟩
  | .clkStat => ⟨(.pubIrq 90), .none, false, true⟩
  | .pwrStat => ⟨(.pubIrq 89), .none, false, false⟩
  | .pwrWakecfg | .pwrWakesrc | .hwdtStat => ⟨.priv, .none, false, true⟩
  | .hwdtCfg | .fltReact | .hearthCfg => ⟨.priv, .hearth, false, false⟩
  | .spiLast => ⟨.spiLast, .none, false, false⟩
  | .spiStat => ⟨(.pubIrq 85), .none, false, false⟩
  | .netStat => ⟨.netStat, .none, false, false⟩
  | .rackCfg | .rackPush | .rackRet | .rackPop | .rackPopw1 | .rackPopw2 | .rackPopw3 => ⟨.rack, .none, false, false⟩
  | .rackStat => ⟨.rack, .none, false, true⟩
  | .semCfg | .semTake | .semGive => ⟨.sem, .none, false, false⟩
  | .semStat => ⟨.sem, .none, false, true⟩
  | .dlkCnt | .rackGstat | .imgStat | .secStat => ⟨.pubPriv, .none, false, false⟩
  | .dlkCap => ⟨.dlkCap, .none, false, false⟩
  | .memEccstat => ⟨(.pubIrq 92), .none, false, false⟩
  | .peCtl | .peExc | .peExcpc | .peExcaddr | .peOvrcnt => ⟨.pe, .none, false, false⟩
  | .peStat => ⟨.pe, .none, false, true⟩
  | .peCmd => ⟨.peCmd, .none, false, false⟩
  | .peCtxStat => ⟨.ctx, .none, false, true⟩
  | .peCtxWork => ⟨.ctx, .none, false, false⟩
  | .dispCfg => ⟨.disp, .none, false, true⟩
  | .dispStart => ⟨.disp, .none, false, false⟩
  | .dispSwtrig => ⟨.swTrig, .none, false, false⟩
  | .pwmCtl | .pwmStat | .strCtl | .strStat | .bypUnused | .bypStat | .bypAutobyp | .bypShortpx => ⟨.str, .none, false, true⟩
  | .pwmPer | .pwmCa | .pwmCb | .pwmDt | .pwmBlk | .pwmTrg | .pwmSync | .pwmTripcfg | .pwmProof | .pwmCnt |
  .pwmTon | .pwmTper | .pwmEvcnt | .pwmProofstat | .strIref | .strCmp | .strLoop | .strDmax | .strDmin | .strFfv |
  .strDet | .strDim | .strMeas | .strOut | .strVmon | .strEvcnt | .bypCfg | .bypDet | .bypState | .bypPhase |
  .bypEb => ⟨.str, .none, false, false⟩
  | .strLimit => ⟨.str, .limit, true, false⟩
  | .gridCtl | .gridStat | .gridRowoff | .gridColoff => ⟨.grid, .none, false, true⟩
  | .gridFrate | .gridPhase | .gridColi | .gridDet | .gridSyncslip | .gridFcnt | .gridPxcap | .gridEvcnt => ⟨.grid, .none, false, false⟩
  | .gridImax => ⟨.grid, .limit, true, false⟩
  | .adcRegctl | .adcTbl | .adcRes => ⟨.adcReg, .none, false, false⟩
  | .adcRegstat => ⟨.adcReg, .none, false, true⟩
  | .adcInjctl | .adcInjsw | .adcInj | .adcIres => ⟨.adcInj, .none, false, false⟩
  | .adcInjstat => ⟨.adcInj, .none, false, true⟩
  | .adcShrflag => ⟨(.privIrq 68), .none, false, true⟩
  | .adcTrigcfg => ⟨(.privIrq 22), .none, false, false⟩
  | .tlmStat => ⟨.tlmStat, .none, false, false⟩
  | .tlmOtsel | .tlmOtHi | .tlmOtLo => ⟨.otsel, .none, false, false⟩
  | .tlmGrpCfg | .tlmGrpCal => ⟨.grp, .none, false, false⟩
  | .tlmPixA | .tlmPixB => ⟨.pix, .none, false, false⟩
  | .fltStat => ⟨.fltStat, .none, false, true⟩
  | .fltGstat => ⟨.fltGstat, .none, false, true⟩
  | .fltDctl => ⟨.dctl, .none, false, false⟩
  | .hearthSel => ⟨.priv, .hearth, true, false⟩
  | .hearthStat => ⟨(.pubIrq 87), .none, false, true⟩
  | .lcStat => ⟨.pubPriv, .none, true, false⟩
  | .u2dStat | .u2dHalt | .dbgFrz | .u2dTrstat => ⟨.u2dD0, .none, false, false⟩
  | .u2dStep | .u2dCtxsel | .u2dCtxpc | .u2dCtxflg | .u2dCtxv | .u2dBp | .u2dTrcfg | .u2dTrpop | .u2dTrw1 => ⟨.u2dNone, .none, false, false⟩

/-- Fields of the registers of the block: device. -/
def fieldsDevice : RegId → List Field
  | .devId => [fl "PART" 0 16 .ro 0x648 .i, fl "GRADE" 16 4 .ro 1 .i, fl "FAMILY" 20 8 .ro 0x58 .i]  -- R226
  | .devVer => [fl "STEP" 0 8 .ro 1 .i, fl "ROMVER" 8 16 .ro 0x100 .i]  -- R227
  | .devUidLo => [fl "UID" 0 32 .ro 0 .i]  -- R228
  | .devUidHi => [fl "UID" 0 32 .ro 0 .i]  -- R228
  | .bakeCtl =>
    [fl "HOLD" 0 1 .rw 0 .i, fl "PENDS" 8 1 .ro 0 .i, fl "PENDP" 9 1 .ro 0 .i, fl "PENDF" 10 1 .ro 0 .i, fl "PENDK"
    11 1 .ro 0 .i]  -- R229
  | .lockCtl =>
    [fl "OWN_LOCK" 0 1 .w1s 0 .i, fl "LIMIT_LOCK" 1 1 .w1s 0 .i, fl "HEARTH_LOCK" 2 1 .w1s 0 .i, fl "CLK_LOCK" 3 1
    .w1s 0 .i]  -- R230
  | .regStat =>
    [fl "RSVW" 0 1 .w1c 0 .i, fl "LOCKV" 1 1 .w1c 0 .i, fl "WRCOLL" 2 1 .w1c 0 .i, fl "BUSERR" 3 1 .w1c 0 .i, fl
    "CAPOVF" 4 1 .w1c 0 .i]  -- R231
  | .regCap => [fl "ADDR" 0 24 .rc 0 .i, fl "PORT" 24 4 .rc 0 .i, fl "KIND" 28 3 .rc 0 .i, fl "VALID" 31 1 .rc 0 .i]  -- R232
  | .regTmr => [fl "ADDR" 0 24 .ro 0 .i, fl "TMRFAIL" 30 1 .w1c 0 .i, fl "TMRFIX" 31 1 .w1c 0 .i]  -- R233
  | .regTmrCnt => [fl "COUNT" 0 16 .ro 0 .i]  -- R234
  | .regPar => [fl "ADDR" 0 24 .ro 0 .i, fl "DOM" 24 2 .ro 0 .i, fl "OVF" 30 1 .w1c 0 .i, fl "CFGPAR" 31 1 .w1c 0 .i]  -- R235
  | .snapReq => [fl "SEL" 0 4 .wo 0 .i (.range 0 4)]  -- R236
  | .snapStat => [fl "SEL" 0 4 .ro 0 .i, fl "STALE" 30 1 .rc 0 .i, fl "VALID" 31 1 .rc 0 .i]  -- R236
  | .snapHi => [fl "VALUE" 0 32 .ro 0 .i]  -- R236
  | .snapLo => [fl "VALUE" 0 32 .ro 0 .i]  -- R236
  | .pinStrap =>
    [fl "HSELRAW" 0 8 .ro 0 .i, fl "HSELCODE" 8 3 .ro 0 .i, fl "HSELVALID" 11 1 .ro 0 .i, fl "HENRST" 12 1 .ro 0 .i,
    fl "TESTHI" 13 1 .ro 0 .i]  -- R58
  | .pinLevel =>
    [fl "HEN" 0 1 .ro 0 .i, fl "TRIPN" 1 1 .ro 0 .i, fl "TRIGIN" 2 1 .ro 0 .i, fl "FSYNC" 3 1 .ro 0 .i, fl "WAKE" 4
    1 .ro 0 .i, fl "GPIO" 5 6 .ro 0 .i, fl "VDDIOOK" 11 1 .ro 0 .i]  -- R59
  | .gpioCfg =>
    [fl "FUNC" 0 3 .rw 0 .i (.range 0 4), fl "PULL" 4 2 .rw 1 .i (.range 0 2), fl "OD" 6 1 .rw 0 .i, fl "INV" 7 1
    .rw 0 .i, fl "OUT" 8 1 .rw 0 .i, fl "EDGE" 9 2 .rw 0 .i]  -- R60
  | .padCfg => [fl "SDODRV" 0 1 .rw 0 .i, fl "FSYNCOUT" 1 1 .rw 0 .i]  -- R61
  | .gpioEdge => [fl "EDGE" 0 6 .w1c 0 .i]  -- R62
  | _ => []

/-- Fields of the registers of the block: domains. -/
def fieldsDomains : RegId → List Field
  | .ownStr => flr "STR" 0 2 6 .rw 0 .s ++ [fl "GRID" 12 2 .rw 0 .s]  -- R164
  | .ownPe => flr "OWNER" 0 2 4 .rw 0 .s ++ flr "MASK" 8 4 4 .rw 0 .s  -- R165
  | .ownAdc => [fl "AREG" 0 2 .rw 0 .s, fl "AINJ" 2 2 .rw 0 .s, fl "BREG" 4 2 .rw 0 .s, fl "BINJ" 6 2 .rw 0 .s]  -- R166
  | .ownRackLo => [fl "FIXED" 0 24 .ro 0xE4E4E4 .i] ++ flr "RACK" 24 2 4 .rw 0 .s  -- R167
  | .ownRackHi => flr "RACK" 0 2 16 .rw 0 .s  -- R167
  | .ownSemLo => flr "SEM" 0 2 16 .rw 0 .s  -- R168
  | .ownSemHi => flr "SEM" 0 2 16 .rw 0 .s  -- R168
  | .ownRmem => flr "UNIT" 0 2 16 .rw 0 .s  -- R169
  | .ownDmem => flr "UNIT" 0 2 8 .rw 0 .s  -- R169
  | .ownHot => flr "HOT" 0 2 16 .rw 0 .s  -- R169
  | .ownTray0 => flr "GRP" 0 2 16 .rw 0 .s  -- R169
  | .ownTray1 => flr "GRP" 0 2 8 .rw 0 .s  -- R169
  | .ownIrq0 => flr "IRQ" 0 2 16 .ro 0 .i  -- R170
  | .ownIrq1 => flr "IRQ16_20" 0 2 5 .ro 0 .i ++ flr "IRQ21_22" 10 2 2 .rw 0 .s ++ flr "IRQ24_31" 16 2 8 .ro 0 .i  -- R170
  | .ownIrq2 => flr "IRQ" 0 2 16 .ro 0 .i  -- R170
  | .ownIrq3 => flr "IRQ" 0 2 16 .ro 0 .i  -- R170
  | .ownIrq4 => flr "IRQ64_67" 0 2 4 .ro 0 .i ++ flr "IRQ68_71" 8 2 4 .rw 0 .s ++ flr "IRQ72_79" 16 2 8 .ro 0 .i  -- R170
  | .ownIrq5 =>
    flr "IRQ80_87" 0 2 8 .rw 0 .s ++ [fl "IRQ88" 16 2 .ro 0 .i] ++ flr "IRQ89_90" 18 2 2 .rw 0 .s ++ [fl "IRQ91" 22
    2 .ro 0 .i, fl "IRQ92" 24 2 .rw 0 .s] ++ flr "IRQ93_95" 26 2 3 .ro 0 .i  -- R170
  | .ownStat => [fl "PEPEND" 0 4 .ro 0 .i, fl "SEMPEND" 4 1 .ro 0 .i]  -- R171
  | .domPorten => [fl "SPI" 0 4 .rw 0xF .k, fl "NET" 4 4 .rw 0 .k]  -- R172
  | .domRst => [fl "RST" 0 4 .wo 0 .i, fl "KEY" 8 8 .wo 0 .i]  -- R173
  | .domStat => [fl "RSTBUSY" 0 4 .ro 0 .i]  -- R174
  | .qosStat => [fl "POOLUSE" 0 6 .ro 0 .i, fl "OVERSUB" 6 1 .ro 0 .i]  -- R175
  | .domQos =>
    [fl "RACKW" 0 4 .rw 4 .i (.range 1 15), fl "DMAW" 4 4 .rw 4 .i (.range 1 15), fl "ENGSHARE" 8 4 .rw 4 .i (.range
    1 15), fl "QUOTA" 12 6 .rw 0xF .i (.range 0 60), fl "KEEPLIT" 24 1 .rw 0 .i]  -- R176
  | .domViol =>
    [fl "ADDR" 0 24 .rc 0 .i, fl "PORT" 24 3 .rc 0 .i, fl "CAUSE" 27 3 .rc 0 .i, fl "OVF" 30 1 .rc 0 .i, fl "VALID"
    31 1 .rc 0 .i]  -- R177
  | .domInfl => [fl "USE" 0 6 .ro 0 .i, fl "QUOTAHIT" 16 1 .w1c 0 .i]  -- R178
  | _ => []

/-- Fields of the registers of the block: interrupts. -/
def fieldsInterrupts : RegId → List Field
  | .intEn => flr "EN" 0 1 32 .rw 0 .i  -- R179
  | .intPend => flr "PEND" 0 1 32 .w1c 0 .i  -- R179
  | .intCfg => [fl "ROUTE" 0 2 .rw 1 .i, fl "THRESH" 4 4 .rw 0 .i, fl "EVGAP" 8 8 .rw 0xA .i]  -- R179
  | .intTop => [fl "IRQ" 0 7 .ro 0 .i, fl "PRI" 8 4 .ro 0 .i, fl "ANY" 31 1 .ro 0 .i]  -- R179
  | .intPri => flr "PRI" 0 4 8 .rw 0 .i  -- R180
  | _ => []

/-- Fields of the registers of the block: clocks and power. -/
def fieldsClocksAndPower : RegId → List Field
  | .clkCfg => [fl "REFSEL" 0 1 .rw 0 .i, fl "XTALEN" 1 1 .rw 0 .i, fl "XTALGM" 2 2 .rw 1 .i (.range 0 2)]  -- R130
  | .clkStat =>
    [fl "REFACT" 0 1 .ro 0 .i, fl "XTALOK" 1 1 .ro 0 .i, fl "PLLLOCK" 2 1 .ro 0 .i, fl "SLEWING" 3 1 .ro 0 .i, fl
    "AONBK" 4 1 .ro 0 .i, fl "XTALFAIL" 8 1 .w1c 0 .i, fl "PLLFAIL" 9 1 .w1c 0 .i, fl "PWMSTOP" 10 1 .w1c 0 .i, fl
    "LFRCFAIL" 11 1 .w1c 0 .i]  -- R131
  | .clkMoncfg => [fl "XDEV" 0 2 .rw 2 .i]  -- R132
  | .clkFmeas => [fl "COUNT" 0 20 .ro 0 .i]  -- R133
  | .pwrStat =>
    [fl "BOOTDONE" 0 1 .ro 0 .i, fl "NOIMG" 1 1 .ro 0 .i, fl "VBATLOW" 2 1 .ro 0 .i, fl "VBATHI" 3 1 .ro 0 .i, fl
    "VCC5OK" 4 1 .ro 0 .i, fl "AVDDOK" 5 1 .ro 0 .i, fl "VREFOK" 6 1 .ro 0 .i, fl "REFUSE" 8 3 .ro 0 .i, fl
    "VBATLOWF" 16 1 .w1c 0 .i, fl "VBATHIF" 17 1 .w1c 0 .i, fl "VCC5F" 18 1 .w1c 0 .i, fl "AVDDF" 19 1 .w1c 0 .i, fl
    "VDDIOF" 20 1 .w1c 0 .i]  -- R93
  | .rstCause =>
    [fl "POR" 0 1 .w1c 1 .i, fl "BOR" 1 1 .w1c 0 .i, fl "PIN" 2 1 .w1c 0 .i, fl "DWDT" 3 1 .w1c 0 .i, fl "STARTFAIL"
    4 1 .w1c 0 .i, fl "DSWAKE" 5 1 .w1c 0 .i]  -- R94
  | .pwrCmd => [fl "CMD" 0 3 .wo 0 .i, fl "KEY" 8 8 .wo 0 .i]  -- R95
  | .pwrWakecfg => [fl "PINEN" 0 1 .rw 1 .i, fl "TMREN" 1 1 .rw 0 .i, fl "CSNEN" 2 1 .rw 0 .i]  -- R96
  | .pwrWktmr => [fl "COUNT" 0 24 .rw 0 .i]  -- R97
  | .pwrWakesrc => [fl "PIN" 0 1 .w1c 0 .i, fl "TMR" 1 1 .w1c 0 .i, fl "CSN" 2 1 .w1c 0 .i, fl "ENERGY" 3 1 .w1c 0 .i]  -- R98
  | .hwdtCfg => [fl "TIMEOUT" 0 10 .rw 0x64 .i (.range 1 1023), fl "EN" 16 1 .rw 0 .i]  -- R99
  | .hwdtSvc => [fl "CODE" 0 8 .wo 0 .i]  -- R100
  | .hwdtStat => [fl "REMAIN" 0 10 .ro 0 .i, fl "EXPIRED" 16 1 .w1c 0 .i, fl "BADSVC" 17 1 .w1c 0 .i]  -- R101
  | .dwdtStat => [fl "COUNT" 0 8 .ro 0 .i]  -- R102
  | .bootTime => [fl "USEC" 0 16 .ro 0 .i]  -- R103
  | _ => []

/-- Fields of the registers of the block: SPI. -/
def fieldsSpi : RegId → List Field
  | .spiLast => [fl "STATUS" 0 32 .ro 0 .i]  -- R265
  | .spiStat =>
    [fl "CMDCRC" 0 1 .w1c 0 .i, fl "DATACRC" 1 1 .w1c 0 .i, fl "LENERR" 2 1 .w1c 0 .i, fl "MALFORM" 3 1 .w1c 0 .i,
    fl "ABANDON" 4 1 .w1c 0 .i, fl "SESSREQ" 5 1 .w1c 0 .i, fl "DISCARD" 6 1 .w1c 0 .i, fl "LONG" 7 1 .w1c 0 .i, fl
    "SHORTGAP" 8 1 .w1c 0 .i]  -- R266
  | .spiErrcnt =>
    [fl "CMDCRC" 0 8 .ro 0 .i, fl "DATACRC" 8 8 .ro 0 .i, fl "LEN" 16 8 .ro 0 .i, fl "ABANDON" 24 8 .ro 0 .i]  -- R267
  | .spiCtl => [fl "CNTCLR" 0 1 .wo 0 .i]  -- R268
  | .spiSesscmd => [fl "CMD" 0 2 .wo 0 .i (.range 0 2), fl "KSEL" 4 2 .wo 0 .i]  -- R269
  | .spiSessstat =>
    [fl "SESS" 0 1 .ro 0 .i, fl "CHAL" 1 1 .ro 0 .i, fl "RESULT" 2 3 .ro 0 .i, fl "FAILCNT" 8 4 .ro 0 .i, fl
    "LOCKOUT" 12 1 .ro 0 .i, fl "KSEL" 16 2 .ro 0 .i]  -- R270
  | .spiChalHi => [fl "CHAL" 0 32 .ro 0 .i]  -- R271
  | .spiChalLo => [fl "CHAL" 0 32 .ro 0 .i]  -- R271
  | .spiRespHi => [fl "RESP" 0 32 .wo 0 .i]  -- R272
  | .spiRespLo => [fl "RESP" 0 32 .wo 0 .i]  -- R272
  | _ => []

/-- Fields of the registers of the block: network. -/
def fieldsNetwork : RegId → List Field
  | .netCfg => [fl "PHYEN" 0 1 .rw 0 .i, fl "MCEN" 1 1 .rw 0 .i]  -- R310
  | .netEtype => [fl "ETYPE" 0 16 .rw 0x88B5 .i .etype]  -- R311
  | .netMacHi => [fl "MAC" 0 16 .rw 0x200 .k .bit8clear]  -- R312
  | .netMacLo => [fl "MAC" 0 32 .rw 0 .k]  -- R312
  | .netMcastHi => [fl "MAC" 0 16 .rw 0x358 .k .bit8set]  -- R312
  | .netMcastLo => [fl "MAC" 0 32 .rw 1 .k]  -- R312
  | .netPlca =>
    [fl "ID" 0 4 .rw 1 .i, fl "NCNT" 8 5 .rw 8 .i (.range 1 16), fl "TOTMR" 16 8 .rw 0x20 .i, fl "BURST" 24 8 .rw 0
    .i]  -- R313
  | .netPlca2 => [fl "BTMR" 0 8 .rw 0x80 .i]  -- R313
  | .netStat =>
    [fl "PHYON" 0 1 .ro 0 .i, fl "PLCAOK" 1 1 .ro 0 .i, fl "COORD" 2 1 .ro 0 .i, fl "TLOCK" 3 1 .ro 0 .i, fl "RXOVF"
    8 1 .w1c 0 .i, fl "PLCACHG" 9 1 .w1c 0 .i, fl "TXDROP" 10 1 .w1c 0 .i, fl "AUTHFAIL" 11 1 .w1c 0 .i, fl "REPLAY"
    12 1 .w1c 0 .i, fl "EPOCHNAK" 13 1 .w1c 0 .i, fl "TCHG" 14 1 .w1c 0 .i, fl "EVLOST" 15 1 .w1c 0 .i]  -- R314
  | .netCnt0 => [fl "RXOK" 0 16 .ro 0 .i, fl "RXDROP" 16 16 .ro 0 .i]  -- R315
  | .netCnt1 => [fl "AUTHFAIL" 0 16 .ro 0 .i, fl "REPLAY" 16 16 .ro 0 .i]  -- R315
  | .netCnt2 => [fl "TXOK" 0 16 .ro 0 .i, fl "TXRETRY" 16 16 .ro 0 .i]  -- R315
  | .netCtl => [fl "CNTCLR" 0 1 .wo 0 .i]  -- R316
  | .netKeysel => flr "KSEL" 0 2 4 .rw 0 .k  -- R317
  | .netEpoch => [fl "EPOCH" 0 32 .ro 0 .i]  -- R318
  | .netEvcfg => [fl "ACKTO" 0 8 .rw 0x14 .i (.range 1 255), fl "RETRY" 8 4 .rw 3 .i]  -- R319
  | .netHostHi => [fl "MAC" 0 16 .rw 0 .k]  -- R312
  | .netHostLo => [fl "MAC" 0 32 .rw 0 .k]  -- R312
  | .netTimecfg =>
    [fl "ROLE" 0 2 .rw 2 .i (.range 0 2), fl "TDOM" 2 2 .rw 0 .i, fl "ALIGN" 4 1 .rw 0 .i, fl "TINT" 8 8 .rw 0xA .i
    (.range 1 255), fl "HOLD" 16 8 .rw 0x32 .i (.range 1 255), fl "PDLY" 24 8 .rw 0 .i]  -- R320
  | .netTepoch => [fl "EPOCH" 0 32 .rw 0 .i]  -- R321
  | .netTfloorHi => [fl "FLOOR" 0 16 .rw 0 .i]  -- R321
  | .netTfloorLo => [fl "FLOOR" 0 32 .rw 0 .i]  -- R321
  | .netTstat => [fl "STATE" 0 2 .ro 0 .i]  -- R322
  | .netTofs => [fl "E" 0 32 .ro 0 .i]  -- R322
  | .netTrate => [fl "RATE" 0 24 .ro 0 .i]  -- R322
  | .netTraycfg => [fl "MAXLEAD" 0 16 .rw 0x7D0 .i (.range 1 65535)]  -- R323
  | .netTrayStat =>
    [fl "PEND" 0 3 .ro 0 .i, fl "LIVEV" 3 1 .ro 0 .i, fl "LIVE" 4 4 .ro 0 .i, fl "SKIP" 8 8 .ro 0 .i, fl "LATE" 16 1
    .w1c 0 .i]  -- R324
  | _ => []

/-- Fields of the registers of the block: racks. -/
def fieldsRacks : RegId → List Field
  | .rackCfg =>
    [fl "EN" 0 1 .rw 1 .i, fl "FULLPOL" 1 1 .rw 0 .i, fl "PROD" 8 5 .rw 0 .i (.range 0 16), fl "CONS" 16 5 .rw 0 .i
    .cons, fl "WM" 22 10 .rw 0 .i (.range 0 512)]  -- R353
  | .rackStat =>
    [fl "FILL" 0 10 .ro 0 .i, fl "OVF" 16 1 .w1c 0 .i, fl "PUSHFULL" 17 1 .w1c 0 .i, fl "PARTIAL" 18 1 .w1c 0 .i, fl
    "ECCERR" 19 1 .w1c 0 .i, fl "DONE" 20 1 .w1c 0 .i, fl "ABORT" 21 1 .w1c 0 .i]  -- R354
  | .rackPush => [fl "WORD" 0 32 .wo 0 .i]  -- R355
  | .rackRet => [fl "LAST" 0 4 .ro 0 .i, fl "TAG" 8 8 .ro 0 .i, fl "ERRIDX" 16 6 .ro 0 .i, fl "RETCNT" 24 8 .ro 0 .i]  -- R356
  | .rackPop => [fl "WORD0" 0 32 .rc 0 .i]  -- R357
  | .rackPopw1 => [fl "WORD" 0 32 .ro 0 .i]  -- R357
  | .rackPopw2 => [fl "WORD" 0 32 .ro 0 .i]  -- R357
  | .rackPopw3 => [fl "WORD" 0 32 .ro 0 .i]  -- R357
  | .rackPart => [fl "BASE" 0 9 .rw 0 .i, fl "SIZE" 16 10 .rw 0x10 .i (.range 1 512)]  -- R358
  | .semCfg => [fl "MODE" 0 1 .rw 0 .i, fl "MAX" 16 16 .rw 0xFFFF .i (.range 1 65535)]  -- R359
  | .semStat =>
    [fl "COUNT" 0 16 .ro 0 .i, fl "HELD" 16 1 .ro 0 .i, fl "HOLDER" 17 5 .ro 0 .i, fl "HDOM" 22 2 .ro 0 .i, fl
    "WAITERS" 24 5 .ro 0 .i, fl "OVF" 30 1 .w1c 0 .i, fl "BADGIVE" 31 1 .w1c 0 .i]  -- R360
  | .semTake => [fl "STALE" 30 1 .rc 0 .i, fl "VALID" 31 1 .rc 0 .i]  -- R361
  | .semGive => [fl "GIVE" 0 1 .wo 0 .i]  -- R361
  | .waitTmo => [fl "ENG" 0 16 .rw 0x3E8 .i (.range 1 65535), fl "AGT" 16 16 .rw 0x3E8 .i (.range 1 65535)]  -- R362
  | .dlkCnt => [fl "DEADLOCK" 0 16 .ro 0 .i, fl "TIMEOUT" 16 16 .ro 0 .i]  -- R363
  | .dlkCap =>
    [fl "AGENT" 0 5 .rc 0 .i, fl "DOM" 5 2 .rc 0 .i, fl "RTYPE" 8 2 .rc 0 .i, fl "INDEX" 10 5 .rc 0 .i, fl "CAUSE"
    16 2 .rc 0 .i, fl "OVF" 30 1 .rc 0 .i, fl "VALID" 31 1 .rc 0 .i]  -- R364
  | .rackGstat => [fl "ECCFIX" 0 16 .ro 0 .i, fl "PARTERR" 16 1 .w1c 0 .i, fl "OVERLAP" 17 1 .w1c 0 .i]  -- R365
  | _ => []

/-- Fields of the registers of the block: memory and image. -/
def fieldsMemoryAndImage : RegId → List Field
  | .memCfg => [fl "SPAREEN" 0 1 .rw 1 .i]  -- R405
  | .memEccstat =>
    [fl "CORR" 0 16 .ro 0 .i, fl "CE" 16 1 .w1c 0 .i, fl "UE" 17 1 .w1c 0 .i, fl "SPARED" 18 1 .w1c 0 .i, fl
    "SPAREFULL" 19 1 .w1c 0 .i]  -- R406
  | .memUecap =>
    [fl "ADDR" 0 24 .rc 0 .i, fl "REQ" 24 4 .rc 0 .i, fl "OVF" 29 1 .rc 0 .i, fl "STALE" 30 1 .rc 0 .i, fl "VALID"
    31 1 .rc 0 .i]  -- R407
  | .memCecap => [fl "ADDR" 0 24 .ro 0 .i, fl "SYND" 24 7 .ro 0 .i]  -- R408
  | .memSweep => [fl "PASSES" 0 16 .ro 0 .i, fl "LASTLEN" 16 16 .ro 0 .i]  -- R409
  | .memFahead => [fl "USED" 0 4 .ro 0 .i, fl "LATE" 8 8 .ro 0 .i]  -- R410
  | .memLardstat => [fl "WIPING" 0 1 .ro 0 .i, fl "WIPED" 1 1 .w1c 0 .i, fl "CAUSE" 2 3 .ro 0 .i]  -- R411
  | .memBank => [fl "SPARES" 0 4 .ro 0 .i, fl "FUSECOL" 4 3 .ro 0 .i, fl "LASTROW" 8 8 .ro 0 .i]  -- R412
  | .imgCmd =>
    [fl "OP" 0 3 .wo 0 .i (.range 0 5), fl "BANK" 3 1 .wo 0 .i, fl "COUNT" 4 7 .wo 0 .i, fl "KEY" 16 8 .wo 0 .i]  -- R413
  | .imgSrc => [fl "SRC" 0 24 .rw 0 .i]  -- R414
  | .imgDst => [fl "OFFSET" 0 20 .rw 0 .i]  -- R414
  | .imgStat =>
    [fl "ACTIVE" 0 1 .ro 0 .i, fl "AVALID" 1 1 .ro 0 .i, fl "BVALID" 2 1 .ro 0 .i, fl "BUSY" 3 1 .ro 0 .i, fl
    "SWAPPEND" 4 1 .ro 0 .i, fl "RESULT" 8 4 .ro 0 .i, fl "DONE" 16 1 .w1c 0 .i, fl "ERR" 17 1 .w1c 0 .i, fl
    "CFGSKIP" 24 8 .ro 0 .i]  -- R415
  | .imgAseq => [fl "SEQ" 0 32 .ro 0 .i]  -- R416
  | .imgBseq => [fl "SEQ" 0 32 .ro 0 .i]  -- R416
  | .imgAlen => [fl "ILEN" 0 32 .ro 0 .i]  -- R416
  | .imgBlen => [fl "ILEN" 0 32 .ro 0 .i]  -- R416
  | .imgEcc => [fl "CORR" 0 16 .ro 0 .i, fl "UE" 16 1 .w1c 0 .i]  -- R417
  | _ => []

/-- Fields of the registers of the block: engines. -/
def fieldsEngines : RegId → List Field
  | .peSlice => [fl "RATE" 0 10 .rw 0x12C .s (.range 60 600)]  -- R448
  | .peSliceno => [fl "K" 0 32 .ro 0 .i]  -- R448
  | .peCtl => [fl "EXCSTOP" 0 1 .rw 0 .i, fl "INVAL" 1 1 .wo 0 .i]  -- R449
  | .peStat =>
    [fl "CUR" 0 5 .ro 0 .i, fl "HALTED" 5 1 .ro 0 .i, fl "OVR" 6 1 .w1c 0 .i, fl "CERR" 7 1 .w1c 0 .i, fl "MISS" 16
    16 .ro 0 .i]  -- R450
  | .peExc =>
    [fl "CODE" 0 4 .rc 0 .i, fl "CTX" 4 5 .rc 0 .i, fl "OVF" 29 1 .rc 0 .i, fl "STALE" 30 1 .rc 0 .i, fl "VALID" 31
    1 .rc 0 .i]  -- R451
  | .peExcpc => [fl "PC" 0 17 .ro 0 .i]  -- R452
  | .peExcaddr => [fl "ADDR" 0 24 .ro 0 .i]  -- R452
  | .peCmd => [fl "CTX" 0 2 .wo 0 .i, fl "CMD" 4 3 .wo 0 .i (.range 0 4)]  -- R453
  | .peOvrcnt => [fl "COUNT" 0 16 .ro 0 .i]  -- R454
  | .peCtxStat =>
    [fl "STATE" 0 3 .ro 0 .i, fl "SB" 3 1 .ro 0 .i, fl "QUEUED" 4 3 .ro 0 .i, fl "PRESENT" 7 1 .ro 0 .i, fl "CONSEC"
    8 2 .ro 0 .i, fl "OFFREJ" 10 1 .w1c 0 .i, fl "SKIP" 16 8 .ro 0 .i]  -- R455
  | .peCtxWork => [fl "WORK" 0 22 .ro 0 .i]  -- R456
  | .dispCfg =>
    [fl "EN" 0 1 .rw 0 .s, fl "MODE" 1 1 .rw 0 .s, fl "ENG" 2 2 .rw 0 .s, fl "DOM" 4 2 .rw 0 .s, fl "PRI" 8 4 .rw 0
    .s, fl "EVT" 16 8 .rw 0 .s .evt, fl "DIV" 24 8 .rw 0 .s]  -- R457
  | .dispStart => [fl "START" 0 17 .rw 0 .s .align4, fl "ARG" 20 12 .rw 0 .s]  -- R458
  | .dispSwtrig => [fl "TRIG" 0 32 .wo 0 .i]  -- R459
  | .dispTmHi => [fl "TM" 0 32 .rw 0 .i]  -- R460
  | .dispTmLo => [fl "TM" 0 32 .rw 0 .i]  -- R460
  | .dispStat =>
    [fl "DROP" 0 8 .ro 0 .i, fl "COAL" 8 8 .ro 0 .i, fl "BADEVT" 16 1 .w1c 0 .i, fl "TMFIRED" 17 1 .w1c 0 .i]  -- R461
  | _ => []

/-- Fields of the registers of the block: PPWM. -/
def fieldsPpwm : RegId → List Field
  | .pwmCtl =>
    [fl "RUN" 0 1 .rw 0 .s, fl "MODE" 1 2 .rw 0 .p (.range 0 2), fl "UPD" 3 1 .rw 0 .s, fl "MAIN" 4 1 .rw 0 .s, fl
    "SYNCEN" 5 1 .rw 0 .p, fl "PKEN" 6 1 .rw 0 .p, fl "CASRC" 7 1 .rw 0 .s, fl "SYNCIN" 8 1 .rw 0 .s, fl "TRGEN" 9 1
    .rw 0 .p]  -- R529
  | .pwmPer => [fl "PER" 0 21 .rw 0x6000 .p (.range 4096 68266)]  -- R530
  | .pwmCa => [fl "CA" 0 21 .rw 0 .p]  -- R530
  | .pwmCb => [fl "CB" 0 21 .rw 0 .p]  -- R530
  | .pwmDt => [fl "DTR" 0 8 .rw 0x20 .p, fl "DTF" 8 8 .rw 0x20 .p]  -- R530
  | .pwmBlk => [fl "LEN" 0 8 .rw 0x20 .p, fl "ILIM" 8 1 .rw 0 .p]  -- R530
  | .pwmTrg => [fl "DELAY" 0 16 .rw 0 .p, fl "ANCHOR" 16 2 .rw 0 .p, fl "DIV" 18 4 .rw 0 .p]  -- R530
  | .pwmSync => [fl "PHASE" 0 21 .rw 0 .p]  -- R530
  | .pwmTripcfg => [fl "EXTEN" 0 1 .rw 1 .i, fl "EXTLAT" 4 1 .rw 1 .i, fl "ILIMLAT" 5 1 .rw 0 .i]  -- R531
  | .pwmProof => [fl "INT" 0 2 .rw 1 .i]  -- R532
  | .pwmStat =>
    [fl "DRIVE" 0 1 .ro 0 .i, fl "LINE" 1 1 .ro 0 .i, fl "READY" 2 1 .ro 0 .i, fl "COARSE" 3 1 .ro 0 .i, fl "FROZEN"
    4 1 .ro 0 .i, fl "TRIPACT" 5 1 .ro 0 .i, fl "TRIPSRC" 6 3 .ro 0 .i, fl "TRIP" 16 1 .w1c 0 .i, fl "PROOFF" 17 1
    .w1c 0 .i, fl "SYNCMISS" 18 1 .w1c 0 .i, fl "TRGMISS" 19 1 .w1c 0 .i, fl "CFGIGN" 20 1 .w1c 0 .i]  -- R533
  | .pwmCnt => [fl "CNT" 0 16 .ro 0 .i]  -- R534
  | .pwmTon => [fl "TON" 0 21 .ro 0 .i]  -- R534
  | .pwmTper => [fl "TPER" 0 21 .ro 0 .i]  -- R534
  | .pwmEvcnt =>
    [fl "TRIPS" 0 8 .ro 0 .i, fl "SWAPS" 8 8 .ro 0 .i, fl "SYNCMISS" 16 8 .ro 0 .i, fl "TRGMISS" 24 8 .ro 0 .i]  -- R534
  | .pwmProofstat =>
    [fl "SPAN0" 0 6 .ro 0 .i, fl "SPAN1" 8 6 .ro 0 .i, fl "FAIL0" 16 1 .ro 0 .i, fl "FAIL1" 17 1 .ro 0 .i]  -- R534
  | _ => []

/-- Fields of the registers of the block: strings. -/
def fieldsStrings : RegId → List Field
  | .strCtl =>
    [fl "EN" 0 1 .rw 0 .s, fl "TOPO" 1 2 .rw 0 .s (.range 0 2), fl "FFEN" 3 1 .rw 0 .s, fl "SHORTOFF" 4 1 .rw 0 .i,
    fl "FBAUTO" 5 1 .rw 1 .i]  -- R553
  | .strIref => [fl "IREF" 0 12 .rw 0 .s, fl "RAMP" 16 12 .rw 0x10 .s (.range 1 4095)]  -- R554
  | .strCmp => [fl "REF" 0 10 .rw 0x3FF .p, fl "SLOPE" 12 8 .rw 0 .p, fl "FBREF" 22 10 .rw 0 .s]  -- R555
  | .strLimit => [fl "ILIM" 0 8 .rw 0xFF .i (.range 10 255), fl "OVP" 16 8 .rw 0xFF .i (.range 8 255)]  -- R556
  | .strLoop => [fl "KP" 0 12 .rw 0 .p, fl "KI" 12 12 .rw 0x100 .p, fl "SHIFT" 24 5 .rw 0xC .p (.range 0 16)]  -- R557
  | .strDmax => [fl "DMAX" 0 21 .rw 0x5C00 .p]  -- R558
  | .strDmin => [fl "DMIN" 0 21 .rw 0 .p]  -- R558
  | .strFfv => [fl "VF" 0 12 .rw 0xBB8 .s, fl "VFIX" 16 12 .rw 0 .s]  -- R559
  | .strDet => [fl "SMARG" 0 8 .rw 0 .i, fl "OPENEN" 8 1 .rw 1 .i]  -- R560
  | .strDim => [fl "DEN" 0 1 .rw 0 .s, fl "DUTY" 4 11 .rw 0 .s, fl "PER" 16 16 .rw 0x3E8 .s (.range 100 10000)]  -- R561
  | .strStat =>
    [fl "ACTIVE" 0 1 .ro 0 .i, fl "RAMPING" 1 1 .ro 0 .i, fl "FALLBACK" 2 1 .ro 0 .i, fl "SLEWING" 3 1 .ro 0 .i, fl
    "OPENLK" 4 1 .ro 0 .i, fl "LOOPOVR" 16 1 .w1c 0 .i, fl "ILIMF" 17 1 .w1c 0 .i, fl "OVPF" 18 1 .w1c 0 .i, fl
    "OPEN" 19 1 .w1c 0 .i, fl "SHORT" 20 1 .w1c 0 .i, fl "FBENT" 21 1 .w1c 0 .i, fl "CFGERR" 22 1 .w1c 0 .i]  -- R562
  | .strMeas => [fl "ILED" 0 12 .ro 0 .i, fl "IEFF" 16 12 .ro 0 .i]  -- R563
  | .strOut => [fl "U" 0 21 .ro 0 .i, fl "LIT" 24 5 .ro 0 .i]  -- R563
  | .strVmon => [fl "VIN" 0 10 .ro 0 .i, fl "VSTR" 16 12 .ro 0 .i]  -- R563
  | .strEvcnt => [fl "OVRCNT" 0 8 .ro 0 .i, fl "CONSEC" 8 4 .ro 0 .i, fl "FBCNT" 16 8 .ro 0 .i]  -- R563
  | _ => []

/-- Fields of the registers of the block: bypass. -/
def fieldsBypass : RegId → List Field
  | .bypCfg => [fl "FREQ" 0 12 .rw 0x3E8 .s (.range 200 3200), fl "PSYNC" 12 1 .rw 0 .s]  -- R592
  | .bypUnused => [fl "MASK" 0 16 .rw 0 .s]  -- R593
  | .bypDet =>
    [fl "VOPEN" 0 5 .rw 8 .i (.range 0 22), fl "VSHORT" 8 4 .rw 4 .i, fl "AUTOEN" 16 1 .rw 1 .i, fl "SHORTEN" 17 1
    .rw 1 .i]  -- R594
  | .bypState => [fl "SW" 0 16 .ro 0 .i, fl "LIT" 16 5 .ro 0 .i]  -- R595
  | .bypPhase => flr "PHASE" 0 8 4 .rw 0 .s  -- R596
  | .bypStat =>
    [fl "LIVE" 0 1 .ro 0 .i, fl "DRIVEN" 1 1 .ro 0 .i, fl "OPEN" 16 1 .w1c 0 .i, fl "SHORT" 17 1 .w1c 0 .i, fl
    "DEFER" 18 1 .w1c 0 .i]  -- R597
  | .bypAutobyp => [fl "MASK" 0 16 .w1c 0 .i]  -- R598
  | .bypShortpx => [fl "MASK" 0 16 .w1c 0 .i]  -- R598
  | .bypEb => [fl "DEFCNT" 0 16 .ro 0 .i, fl "MAXDEF" 16 16 .ro 0 .i]  -- R599
  | _ => []

/-- Fields of the registers of the block: grid. -/
def fieldsGrid : RegId → List Field
  | .gridCtl => [fl "EN" 0 1 .rw 0 .s, fl "SRC" 1 2 .rw 0 .f (.range 0 2), fl "SLIP" 3 1 .rw 0 .f]  -- R600
  | .gridFrate => [fl "FR" 0 12 .rw 0x12C .f (.range 60 2000)]  -- R601
  | .gridPhase =>
    [fl "TDIS" 0 8 .rw 0xA .f, fl "TPRE" 8 8 .rw 0x14 .f, fl "TBLK" 16 8 .rw 0xA .f, fl "PREV" 24 6 .rw 0x14 .f]  -- R602
  | .gridImax => [fl "ROWMAX" 0 8 .rw 0xF0 .i (.range 0 240), fl "COLMAX" 8 8 .rw 0xF0 .i (.range 0 240)]  -- R603
  | .gridColi => flr "COL" 0 8 4 .rw 0 .f (.range 0 240)  -- R604
  | .gridDet => [fl "HRSHORT" 0 5 .rw 0x10 .i (.range 2 31), fl "DETEN" 8 1 .rw 1 .i]  -- R605
  | .gridStat =>
    [fl "RUN" 0 1 .ro 0 .i, fl "LOCK" 1 1 .ro 0 .i, fl "LOL" 2 1 .ro 0 .i, fl "ROWN" 4 4 .ro 0 .i, fl "FRAME" 16 1
    .w1c 0 .i, fl "SLIP" 17 1 .w1c 0 .i, fl "LOSTLOCK" 18 1 .w1c 0 .i, fl "ROWF" 19 1 .w1c 0 .i, fl "COLF" 20 1 .w1c
    0 .i, fl "PXOPEN" 21 1 .w1c 0 .i, fl "PXSHORT" 22 1 .w1c 0 .i, fl "ROWSCALE" 23 1 .w1c 0 .i, fl "CFGERR" 24 1
    .w1c 0 .i]  -- R606
  | .gridSyncslip => [fl "COUNT" 0 16 .ro 0 .i, fl "CONSEC" 16 3 .ro 0 .i]  -- R607
  | .gridFcnt => [fl "COUNT" 0 32 .ro 0 .i]  -- R607
  | .gridRowoff => [fl "ROW" 0 16 .w1c 0 .i]  -- R607
  | .gridColoff => [fl "COL" 0 24 .w1c 0 .i]  -- R607
  | .gridPxcap =>
    [fl "ROW" 0 4 .rc 0 .i, fl "COL" 4 5 .rc 0 .i, fl "KIND" 9 1 .rc 0 .i, fl "OVF" 29 1 .rc 0 .i, fl "STALE" 30 1
    .rc 0 .i, fl "VALID" 31 1 .rc 0 .i]  -- R608
  | .gridEvcnt => [fl "ROWSCALE" 0 16 .ro 0 .i, fl "PXFLT" 16 16 .ro 0 .i]  -- R607
  | _ => []

/-- Fields of the registers of the block: ADC. -/
def fieldsAdc : RegId → List Field
  | .adcCtl => [fl "PD" 0 1 .rw 1 .i, fl "INJPRE" 1 1 .rw 0 .i]  -- R637
  | .adcCmd => [fl "CMD" 0 3 .wo 0 .i (.range 0 3), fl "PARK" 3 1 .wo 0 .i, fl "KEY" 8 8 .wo 0 .i]  -- R638
  | .adcStat =>
    [fl "STATE" 0 2 .ro 0 .i, fl "AWAKE" 2 1 .ro 0 .i, fl "HOST" 3 1 .ro 0 .i, fl "CALDONE" 16 1 .w1c 0 .i, fl
    "CALERR" 17 1 .w1c 0 .i, fl "CALABORT" 18 1 .w1c 0 .i, fl "FOVER" 19 1 .w1c 0 .i, fl "RESTOK" 20 1 .w1c 0 .i, fl
    "RESTFAIL" 21 1 .w1c 0 .i, fl "CMDREF" 22 1 .w1c 0 .i]  -- R639
  | .adcCalofs => [fl "CALOFS" 0 12 .rw 0 .i]  -- R640
  | .adcCalgain => [fl "CALGAIN" 0 16 .rw 0x8000 .i]  -- R640
  | .adcRegctl => [fl "EN" 0 1 .rw 0 .s, fl "LAST" 1 6 .rw 0 .s, fl "WRAPF" 7 1 .rw 0 .s]  -- R641
  | .adcRegstat =>
    [fl "POS" 0 6 .ro 0 .i, fl "LOOPS" 8 8 .ro 0 .i, fl "WRAP" 16 1 .w1c 0 .i, fl "MBOVR" 17 1 .w1c 0 .i, fl
    "STRREF" 18 1 .w1c 0 .i, fl "FOREIGN" 19 1 .w1c 0 .i]  -- R642
  | .adcInjctl => [fl "EN" 0 1 .rw 0 .s, fl "DONEIE" 8 8 .rw 0 .s]  -- R643
  | .adcInjstat =>
    [fl "DONE" 0 8 .w1c 0 .i, fl "OVRCNT" 8 8 .ro 0 .i, fl "INJOVR" 16 1 .w1c 0 .i, fl "MBOVR" 17 1 .w1c 0 .i, fl
    "STRREF" 18 1 .w1c 0 .i, fl "FOREIGN" 19 1 .w1c 0 .i, fl "CALWAIT" 20 1 .w1c 0 .i]  -- R644
  | .adcInjsw => [fl "TRIG" 0 8 .wo 0 .i]  -- R645
  | .adcInj =>
    [fl "SRC" 0 6 .rw 0 .s (.range 0 38), fl "TRIG" 8 5 .rw 0x1F .s .trig, fl "DELAY" 16 8 .rw 0 .s, fl "RACK" 24 3
    .rw 0 .s, fl "SEN" 27 1 .rw 0 .s]  -- R646
  | .adcIres =>
    [fl "VALUE" 0 12 .rc 0 .i, fl "SRC" 12 6 .rc 0 .i, fl "CONV" 18 1 .rc 0 .i, fl "FO" 19 1 .rc 0 .i, fl "SEQ" 20 8
    .rc 0 .i, fl "STALE" 30 1 .rc 0 .i, fl "VALID" 31 1 .rc 0 .i]  -- R648
  | .adcTbl =>
    [fl "SRC" 0 6 .rw 0 .s (.range 0 38), fl "REP" 8 4 .rw 0 .s, fl "DLY" 12 8 .rw 0 .s, fl "RACK" 20 3 .rw 0 .s, fl
    "SEN" 23 1 .rw 0 .s]  -- R647
  | .adcRes =>
    [fl "VALUE" 0 12 .rc 0 .i, fl "SRC" 12 6 .rc 0 .i, fl "CONV" 18 1 .rc 0 .i, fl "FO" 19 1 .rc 0 .i, fl "SEQ" 20 8
    .rc 0 .i, fl "STALE" 30 1 .rc 0 .i, fl "VALID" 31 1 .rc 0 .i]  -- R648
  | .adcShrcfg =>
    [fl "SRC" 0 6 .rw 0x1D .i (.range 0 38), fl "INT" 8 8 .rw 0xA .i, fl "THR" 16 8 .rw 0xC .i, fl "PERS" 24 4 .rw 4
    .i (.range 1 15), fl "FOEN" 28 1 .rw 1 .i]  -- R649
  | .adcShrstat => [fl "A" 0 12 .ro 0 .i, fl "B" 12 12 .ro 0 .i, fl "MISCNT" 24 4 .ro 0 .i]  -- R650
  | .adcShrflag =>
    [fl "SKIPCNT" 0 8 .ro 0 .i, fl "PMIS" 16 1 .w1c 0 .i, fl "REFA" 17 1 .w1c 0 .i, fl "REFB" 18 1 .w1c 0 .i, fl
    "SKIP" 19 1 .w1c 0 .i]  -- R651
  | .adcRef => [fl "REFCODE" 0 12 .ro 0 .i, fl "REFTOL" 16 8 .rw 0xC .i (.range 1 255)]  -- R652
  | .adcRefmeas => [fl "ADCA" 0 12 .ro 0 .i, fl "ADCB" 16 12 .ro 0 .i]  -- R653
  | .adcTrigcfg => [fl "EDGE" 0 2 .rw 0 .i, fl "FILT" 4 4 .rw 2 .i, fl "EDGEF" 16 1 .w1c 0 .i]  -- R654
  | .adcCorr => [fl "OFS" 0 12 .rw 0 .i, fl "GAIN" 16 16 .rw 0x8000 .i]  -- R655
  | _ => []

/-- Fields of the registers of the block: telemetry. -/
def fieldsTelemetry : RegId → List Field
  | .tlmCfg => [fl "EN" 0 1 .rw 1 .i, fl "AGEMAX" 8 8 .rw 0x40 .i (.range 1 255), fl "RROW" 16 10 .rw 0x1F4 .i]  -- R673
  | .tlmStat =>
    [fl "ENG" 0 7 .ro 0 .i, fl "ENGCHG" 16 1 .w1c 0 .i, fl "RECF" 17 1 .w1c 0 .i, fl "VFRANGE" 18 1 .w1c 0 .i, fl
    "HOT" 19 1 .w1c 0 .i, fl "RACKREF" 20 1 .w1c 0 .i, fl "STALE" 21 1 .w1c 0 .i, fl "CRVERR" 22 1 .w1c 0 .i]  -- R674
  | .tlmOtsel => [fl "SEL" 0 9 .rw 0 .i (.range 0 492)]  -- R675
  | .tlmOtHi => [fl "COUNT" 0 16 .rw 0 .i]  -- R675
  | .tlmOtLo => [fl "COUNT" 0 32 .rw 0 .i]  -- R675
  | .tlmCnt => [fl "DISC" 0 16 .ro 0 .i, fl "DROP" 16 16 .ro 0 .i]  -- R676
  | .tlmGrpCfg =>
    [fl "MODE" 0 2 .rw 0 .s (.range 0 2), fl "CURVE" 2 2 .rw 0 .s, fl "TAU" 4 3 .rw 2 .s, fl "REC" 7 1 .rw 0 .i, fl
    "FSTEP" 8 8 .rw 0x10 .s (.range 1 255), fl "RACK" 16 2 .rw 0 .i, fl "STRINT" 24 8 .rw 0 .i]  -- R677
  | .tlmGrpCal => [fl "ILSB" 0 12 .rw 0 .s, fl "ICAL" 12 12 .rw 0 .s, fl "TCAL" 24 8 .rw 0 .s]  -- R678
  | .tlmCrv => [fl "T" 0 16 .rw 0 .s, fl "F" 16 13 .rw 0x1000 .s (.range 0 4096)]  -- R679
  | .tlmPixA => [fl "VM" 0 12 .ro 0 .i, fl "EST" 12 1 .ro 0 .i, fl "STALE" 13 1 .ro 0 .i, fl "TF" 16 16 .ro 0 .i]  -- R680
  | .tlmPixB => [fl "F" 0 13 .ro 0x1000 .i, fl "FTGT" 16 13 .ro 0x1000 .i]  -- R680
  | _ => []

/-- Fields of the registers of the block: faults. -/
def fieldsFaults : RegId → List Field
  | .fltStat => flr "FLT" 0 1 32 .w1c 0 .i  -- R705
  | .fltReact => flr "REACT" 0 2 16 .rw 0 .i  -- R706
  | .fltGstat =>
    [fl "CONT" 0 7 .ro 0 .i, fl "DCONT" 8 4 .ro 0 .i] ++ flr "F2F" 16 1 4 .w1c 0 .i ++ [fl "RECF0" 20 1 .w1c 0 .i,
    fl "RECF1" 21 1 .w1c 0 .i, fl "RELREF" 22 1 .w1c 0 .i]  -- R707
  | .fltCnt => [fl "F0" 0 8 .ro 0 .i, fl "F1" 8 8 .ro 0 .i, fl "F2" 16 8 .ro 0 .i, fl "F3" 24 8 .ro 0 .i]  -- R708
  | .fltDctl => [fl "REL" 0 4 .wo 0 .i, fl "KEY" 8 8 .wo 0 .i]  -- R709
  | .fltCap =>
    [fl "NUM" 0 7 .rc 0 .i, fl "CLASS" 8 2 .rc 0 .i, fl "REACT" 10 2 .rc 0 .i, fl "OVF" 29 1 .rc 0 .i, fl "STALE" 30
    1 .rc 0 .i, fl "VALID" 31 1 .rc 0 .i]  -- R710
  | .hearthCmd => [fl "CMD" 0 2 .wo 0 .i (.range 0 2), fl "PRESET" 4 3 .wo 0 .i, fl "KEY" 8 8 .wo 0 .i]  -- R711
  | .hearthCfg => [fl "RAMP" 0 8 .rw 0x14 .i (.range 5 200)]  -- R712
  | .hearthSel => [fl "PF3" 0 3 .rw 0 .i, fl "PWDT" 4 3 .rw 0 .i, fl "PHEN" 8 3 .rw 0 .i]  -- R713
  | .hearthStat =>
    [fl "STATE" 0 2 .ro 0 .i, fl "CAUSE" 4 4 .ro 0 .i, fl "SRC" 8 2 .ro 0 .i, fl "PRESET" 12 3 .ro 0 .i, fl "REFUSE"
    16 3 .ro 0 .i, fl "ENTERED" 24 1 .w1c 0 .i, fl "EXITED" 25 1 .w1c 0 .i, fl "RAMPDONE" 26 1 .w1c 0 .i]  -- R714
  | .hearthRamp => [fl "K" 0 16 .ro 0 .i, fl "N" 16 16 .ro 0 .i]  -- R715
  | _ => []

/-- Fields of the registers of the block: security. -/
def fieldsSecurity : RegId → List Field
  | .lcStat =>
    [fl "STATE" 0 3 .ro 0 .i, fl "BUSY" 3 1 .ro 0 .i, fl "CHAL" 4 1 .ro 0 .i, fl "LOCKOUT" 5 1 .ro 0 .i, fl "RESULT"
    8 4 .ro 0 .i, fl "DONE" 16 1 .w1c 0 .i, fl "ERR" 17 1 .w1c 0 .i]  -- R738
  | .lcCmd => [fl "TARGET" 0 3 .wo 0 .i (.range 0 4), fl "ASEL" 4 2 .wo 0 .i, fl "KEY" 8 8 .wo 0 .i]  -- R739
  | .lcChalHi => [fl "CHAL" 0 32 .ro 0 .i]  -- R740
  | .lcChalLo => [fl "CHAL" 0 32 .ro 0 .i]  -- R740
  | .lcRespHi => [fl "RESP" 0 32 .wo 0 .i]  -- R740
  | .lcRespLo => [fl "RESP" 0 32 .wo 0 .i]  -- R740
  | .keyCmd =>
    [fl "OP" 0 2 .wo 0 .i (.range 0 2), fl "SLOT" 4 2 .wo 0 .i, fl "WSEL" 8 2 .wo 0 .i, fl "WRAP" 12 1 .wo 0 .i, fl
    "KEY" 16 8 .wo 0 .i]  -- R741
  | .keyAttr => [fl "USE" 0 5 .rw 0 .i, fl "VER" 16 16 .rw 0 .i]  -- R742
  | .keyData => [fl "WORD" 0 32 .wo 0 .i]  -- R742
  | .keyTagHi => [fl "TAG" 0 32 .wo 0 .i]  -- R742
  | .keyTagLo => [fl "TAG" 0 32 .wo 0 .i]  -- R742
  | .keySlot => [fl "STATE" 0 2 .ro 0 .i, fl "USE" 4 5 .ro 0 .i, fl "VER" 16 16 .ro 0 .i]  -- R743
  | .keyStat => [fl "BUSY" 0 1 .ro 0 .i, fl "RESULT" 4 4 .ro 0 .i, fl "DONE" 16 1 .w1c 0 .i, fl "ERR" 17 1 .w1c 0 .i]  -- R744
  | .secStat =>
    [fl "TAMPCNT" 0 8 .ro 0 .i, fl "RNGFAIL" 8 8 .ro 0 .i, fl "KEYSOFF" 16 1 .ro 0 .i, fl "CLK" 20 1 .w1c 0 .i, fl
    "VDD" 21 1 .w1c 0 .i, fl "U2D" 22 1 .w1c 0 .i, fl "LARD" 23 1 .w1c 0 .i, fl "LCV" 24 1 .w1c 0 .i, fl "RECERR" 25
    1 .w1c 0 .i]  -- R745
  | _ => []

/-- Fields of the registers of the block: U2D. -/
def fieldsU2D : RegId → List Field
  | .u2dStat =>
    [fl "ATT" 0 1 .ro 0 .i, fl "FRZACT" 1 1 .ro 0 .i, fl "HALTED" 2 4 .ro 0 .i, fl "BPHIT" 6 2 .ro 0 .i, fl "ATTF"
    16 1 .w1c 0 .i, fl "HALTF" 17 1 .w1c 0 .i, fl "STEPREF" 18 1 .w1c 0 .i, fl "FRZDRV" 19 1 .w1c 0 .i, fl "CRCERR"
    20 1 .w1c 0 .i]  -- R763
  | .u2dHalt => [fl "HALT" 0 4 .rw 0 .i]  -- R763
  | .u2dStep => [fl "CTX" 0 4 .wo 0 .i, fl "GO" 31 1 .wo 0 .i]  -- R763
  | .u2dCtxsel => [fl "CTX" 0 4 .rw 0 .i]  -- R763
  | .u2dCtxpc => [fl "PC" 0 17 .rw 0 .i .align4]  -- R763
  | .u2dCtxflg =>
    [fl "Z" 0 1 .rw 0 .i, fl "N" 1 1 .rw 0 .i, fl "C" 2 1 .rw 0 .i, fl "V" 3 1 .rw 0 .i, fl "WST" 4 3 .rw 0 .i]  -- R763
  | .dbgFrz => [fl "FRZ" 0 11 .rw 0 .i]  -- R763
  | .u2dCtxv => [fl "V" 0 32 .rw 0 .i]  -- R763
  | .u2dBp => [fl "PC" 0 17 .rw 0 .i .align4, fl "MASK" 24 4 .rw 0 .i, fl "EN" 31 1 .rw 0 .i]  -- R763
  | .u2dTrcfg =>
    [fl "EN" 0 1 .rw 0 .i, fl "STOP" 1 1 .rw 0 .i, fl "DISP" 2 1 .rw 0 .i, fl "FLT" 3 1 .rw 0 .i, fl "HRTH" 4 1 .rw
    0 .i, fl "HALT" 5 1 .rw 0 .i]  -- R763
  | .u2dTrpop => [fl "WORD0" 0 32 .rc 0 .i]  -- R763
  | .u2dTrw1 => [fl "WORD1" 0 32 .ro 0 .i]  -- R763
  | .u2dTrstat => [fl "FILL" 0 7 .ro 0 .i, fl "LOST" 8 8 .ro 0 .i]  -- R763
  | _ => []

/-- The fields of each register; a bit in no field is reserved (00 R12). -/
def RegId.fields (r : RegId) : List Field :=
  match r.place.base / 0x1000 with
  | 0x0 => fieldsDevice r
  | 0x1 => fieldsDomains r
  | 0x2 => fieldsInterrupts r
  | 0x3 => fieldsClocksAndPower r
  | 0x4 => fieldsSpi r
  | 0x5 => fieldsNetwork r
  | 0x6 => fieldsRacks r
  | 0x7 => fieldsMemoryAndImage r
  | 0x8 => fieldsEngines r
  | 0x9 => fieldsEngines r
  | 0xA => fieldsPpwm r
  | 0xB => fieldsStrings r
  | 0xC => fieldsBypass r
  | 0xD => fieldsGrid r
  | 0xE => fieldsAdc r
  | 0xF => fieldsTelemetry r
  | 0x10 => fieldsFaults r
  | 0x11 => fieldsSecurity r
  | 0x12 => fieldsU2D r
  | _ => []

/-- The bits of each register that image load sets: its fields whose Reset is img (00 R13; 10 R398). -/
def RegId.imgMask : RegId → Nat
  | .ownStr => 0x3FFF
  | .ownPe => 0xFFFFFF
  | .ownAdc | .domPorten | .netPlca2 | .netKeysel | .adcRegctl | .hearthCfg => 0xFF
  | .ownRackLo => 0xFF000000
  | .ownRackHi | .ownSemLo | .ownSemHi | .ownRmem | .ownHot | .ownTray0 | .netMacLo | .netMcastLo | .netHostLo |
  .waitTmo | .bypPhase | .gridColi | .tlmGrpCal | .fltReact => 0xFFFFFFFF
  | .ownDmem | .ownTray1 | .netEtype | .netMacHi | .netMcastHi | .netHostHi | .netTraycfg | .pwmDt | .bypUnused |
  .gridImax => 0xFFFF
  | .ownIrq1 => 0x3C00
  | .ownIrq4 => 0xFF00
  | .ownIrq5 => 0x33CFFFF
  | .domQos => 0x103FFFF
  | .intCfg | .netCfg | .pwmProof | .adcCtl => 0x3
  | .clkCfg => 0xF
  | .hwdtCfg => 0x103FF
  | .netPlca => 0xFFFF1F0F
  | .netEvcfg | .gridFrate => 0xFFF
  | .netTimecfg => 0xFFFFFF1F
  | .rackCfg => 0xFFDF1F03
  | .rackPart => 0x3FF01FF
  | .semCfg => 0xFFFF0001
  | .memCfg | .peCtl => 0x1
  | .peSlice => 0x3FF
  | .dispCfg => 0xFFFF0F3F
  | .dispStart => 0xFFF1FFFF
  | .pwmCtl => 0x3FE
  | .pwmPer | .pwmCb | .pwmSync | .strDmax | .strDmin => 0x1FFFFF
  | .pwmBlk | .strDet => 0x1FF
  | .pwmTrg => 0x3FFFFF
  | .pwmTripcfg => 0x31
  | .strCtl => 0x3E
  | .strIref => 0xFFF0000
  | .strCmp => 0xFFCFF3FF
  | .strLimit => 0xFF00FF
  | .strLoop | .tlmCrv => 0x1FFFFFFF
  | .strFfv => 0xFFF0FFF
  | .bypCfg => 0x1FFF
  | .bypDet => 0x30F1F
  | .gridCtl => 0xE
  | .gridPhase => 0x3FFFFFFF
  | .gridDet => 0x11F
  | .adcInjctl => 0xFF01
  | .adcInj => 0xFFF1F3F
  | .adcTbl => 0xFFFF3F
  | .adcShrcfg => 0x1FFFFF3F
  | .adcRef => 0xFF0000
  | .adcTrigcfg => 0xF3
  | .adcCorr => 0xFFFF0FFF
  | .tlmCfg => 0x3FFFF01
  | .tlmGrpCfg => 0xFF03FFFF
  | .hearthSel => 0x777
  | _ => 0

/-- The registers of each 4 KiB block (06 R182). -/
def blockRegs : Nat → List RegId
  | 0x0 => [.devId, .devVer, .devUidLo, .devUidHi, .bakeCtl, .lockCtl, .regStat, .regCap, .regTmr, .regTmrCnt,
    .regPar, .snapReq, .snapStat, .snapHi, .snapLo, .pinStrap, .pinLevel, .gpioCfg, .padCfg, .gpioEdge]
  | 0x1 => [.ownStr, .ownPe, .ownAdc, .ownRackLo, .ownRackHi, .ownSemLo, .ownSemHi, .ownRmem, .ownDmem, .ownHot,
    .ownTray0, .ownTray1, .ownIrq0, .ownIrq1, .ownIrq2, .ownIrq3, .ownIrq4, .ownIrq5, .ownStat, .domPorten,
    .domRst, .domStat, .qosStat, .domQos, .domViol, .domInfl]
  | 0x2 => [.intEn, .intPend, .intCfg, .intTop, .intPri]
  | 0x3 => [.clkCfg, .clkStat, .clkMoncfg, .clkFmeas, .pwrStat, .rstCause, .pwrCmd, .pwrWakecfg, .pwrWktmr,
    .pwrWakesrc, .hwdtCfg, .hwdtSvc, .hwdtStat, .dwdtStat, .bootTime]
  | 0x4 => [.spiLast, .spiStat, .spiErrcnt, .spiCtl, .spiSesscmd, .spiSessstat, .spiChalHi, .spiChalLo, .spiRespHi,
    .spiRespLo]
  | 0x5 => [.netCfg, .netEtype, .netMacHi, .netMacLo, .netMcastHi, .netMcastLo, .netPlca, .netPlca2, .netStat,
    .netCnt0, .netCnt1, .netCnt2, .netCtl, .netKeysel, .netEpoch, .netEvcfg, .netHostHi, .netHostLo,
    .netTimecfg, .netTepoch, .netTfloorHi, .netTfloorLo, .netTstat, .netTofs, .netTrate, .netTraycfg,
    .netTrayStat]
  | 0x6 => [.rackCfg, .rackStat, .rackPush, .rackRet, .rackPop, .rackPopw1, .rackPopw2, .rackPopw3, .rackPart,
    .semCfg, .semStat, .semTake, .semGive, .waitTmo, .dlkCnt, .dlkCap, .rackGstat]
  | 0x7 => [.memCfg, .memEccstat, .memUecap, .memCecap, .memSweep, .memFahead, .memLardstat, .memBank, .imgCmd,
    .imgSrc, .imgDst, .imgStat, .imgAseq, .imgBseq, .imgAlen, .imgBlen, .imgEcc]
  | 0x8 => [.peSlice, .peSliceno, .peCtl, .peStat, .peExc, .peExcpc, .peExcaddr, .peCmd, .peOvrcnt, .peCtxStat,
    .peCtxWork]
  | 0x9 => [.dispCfg, .dispStart, .dispSwtrig, .dispTmHi, .dispTmLo, .dispStat]
  | 0xA => [.pwmCtl, .pwmPer, .pwmCa, .pwmCb, .pwmDt, .pwmBlk, .pwmTrg, .pwmSync, .pwmTripcfg, .pwmProof, .pwmStat,
    .pwmCnt, .pwmTon, .pwmTper, .pwmEvcnt, .pwmProofstat]
  | 0xB => [.strCtl, .strIref, .strCmp, .strLimit, .strLoop, .strDmax, .strDmin, .strFfv, .strDet, .strDim,
    .strStat, .strMeas, .strOut, .strVmon, .strEvcnt]
  | 0xC => [.bypCfg, .bypUnused, .bypDet, .bypState, .bypPhase, .bypStat, .bypAutobyp, .bypShortpx, .bypEb]
  | 0xD => [.gridCtl, .gridFrate, .gridPhase, .gridImax, .gridColi, .gridDet, .gridStat, .gridSyncslip, .gridFcnt,
    .gridRowoff, .gridColoff, .gridPxcap, .gridEvcnt]
  | 0xE => [.adcCtl, .adcCmd, .adcStat, .adcCalofs, .adcCalgain, .adcRegctl, .adcRegstat, .adcInjctl, .adcInjstat,
    .adcInjsw, .adcInj, .adcIres, .adcTbl, .adcRes, .adcShrcfg, .adcShrstat, .adcShrflag, .adcRef,
    .adcRefmeas, .adcTrigcfg, .adcCorr, .adcCorrRsv]
  | 0xF => [.tlmCfg, .tlmStat, .tlmOtsel, .tlmOtHi, .tlmOtLo, .tlmCnt, .tlmGrpCfg, .tlmGrpCal, .tlmCrv, .tlmPixA,
    .tlmPixB]
  | 0x10 => [.fltStat, .fltReact, .fltGstat, .fltCnt, .fltDctl, .fltCap, .hearthCmd, .hearthCfg, .hearthSel,
    .hearthStat, .hearthRamp]
  | 0x11 => [.lcStat, .lcCmd, .lcChalHi, .lcChalLo, .lcRespHi, .lcRespLo, .keyCmd, .keyAttr, .keyData, .keyTagHi,
    .keyTagLo, .keySlot, .keyStat, .secStat]
  | 0x12 => [.u2dStat, .u2dHalt, .u2dStep, .u2dCtxsel, .u2dCtxpc, .u2dCtxflg, .dbgFrz, .u2dCtxv, .u2dBp, .u2dTrcfg,
    .u2dTrpop, .u2dTrw1, .u2dTrstat]
  | _ => []

/-- Address of register `i` of the array (`i = n2 * first index + second index`). -/
def RegId.addr (r : RegId) (i : Nat) : Nat :=
  r.place.base + r.place.s1 * (i / r.place.n2) + r.place.s2 * (i % r.place.n2)

/-- The index at which address `a` is a register of the array at `p`, if it is one. -/
def Place.index (p : Place) (a : Nat) : Option Nat :=
  if a < p.base then none
  else
    let d := a - p.base
    let i := if p.n1 ≤ 1 then 0 else d / p.s1
    let e := d - p.s1 * i
    let j := if p.n2 ≤ 1 then 0 else e / p.s2
    if i < p.n1 && j < p.n2 && e == p.s2 * j then some (i * p.n2 + j) else none

/-- The first array of the list that holds address `a`, with the index. -/
def findIn (a : Nat) : List RegId → Option (RegId × Nat)
  | [] => none
  | r :: t =>
    match r.place.index a with
    | some i => some (r, i)
    | none => findIn a t

/-- The register at byte offset `a` of the register blocks (06 R181, R182); `none` where no register is. -/
def findReg (a : Nat) : Option (RegId × Nat) := findIn a (blockRegs (a / 0x1000))

/-- The reset word of the fields of a list. -/
def fieldsReset : List Field → Nat
  | [] => 0
  | f :: t => f.rst * 2 ^ f.lo + fieldsReset t

end Sys2Proof.Machine
end

