-- ==== Sys2Proof/Machine/RegFields.lean ====
section
/-!
DEFINITION. Names for the fields of the register table that the meanings read and write: `F.<register>_<FIELD>`, each the
place of that field in the table.
-/

namespace Sys2Proof.Machine

/-- The place of a field: its register array, lowest bit and width. -/
structure Fld where
  r : RegId
  lo : Nat
  w : Nat
  deriving DecidableEq, Repr

namespace F

def devVer_ROMVER : Fld := ⟨.devVer, 8, 16⟩
def bakeCtl_HOLD : Fld := ⟨.bakeCtl, 0, 1⟩
def lockCtl_OWN_LOCK : Fld := ⟨.lockCtl, 0, 1⟩
def lockCtl_LIMIT_LOCK : Fld := ⟨.lockCtl, 1, 1⟩
def lockCtl_HEARTH_LOCK : Fld := ⟨.lockCtl, 2, 1⟩
def lockCtl_CLK_LOCK : Fld := ⟨.lockCtl, 3, 1⟩
def regStat_RSVW : Fld := ⟨.regStat, 0, 1⟩
def regStat_LOCKV : Fld := ⟨.regStat, 1, 1⟩
def regStat_WRCOLL : Fld := ⟨.regStat, 2, 1⟩
def regStat_BUSERR : Fld := ⟨.regStat, 3, 1⟩
def regStat_CAPOVF : Fld := ⟨.regStat, 4, 1⟩
def regCap_VALID : Fld := ⟨.regCap, 31, 1⟩
def regTmr_ADDR : Fld := ⟨.regTmr, 0, 24⟩
def regTmr_TMRFAIL : Fld := ⟨.regTmr, 30, 1⟩
def regTmr_TMRFIX : Fld := ⟨.regTmr, 31, 1⟩
def regTmrCnt_COUNT : Fld := ⟨.regTmrCnt, 0, 16⟩
def regPar_ADDR : Fld := ⟨.regPar, 0, 24⟩
def regPar_DOM : Fld := ⟨.regPar, 24, 2⟩
def regPar_OVF : Fld := ⟨.regPar, 30, 1⟩
def regPar_CFGPAR : Fld := ⟨.regPar, 31, 1⟩
def pinStrap_HSELRAW : Fld := ⟨.pinStrap, 0, 8⟩
def pinStrap_HSELCODE : Fld := ⟨.pinStrap, 8, 3⟩
def pinStrap_HSELVALID : Fld := ⟨.pinStrap, 11, 1⟩
def pinStrap_HENRST : Fld := ⟨.pinStrap, 12, 1⟩
def pinStrap_TESTHI : Fld := ⟨.pinStrap, 13, 1⟩
def gpioCfg_FUNC : Fld := ⟨.gpioCfg, 0, 3⟩
def gpioCfg_PULL : Fld := ⟨.gpioCfg, 4, 2⟩
def gpioCfg_OD : Fld := ⟨.gpioCfg, 6, 1⟩
def gpioCfg_INV : Fld := ⟨.gpioCfg, 7, 1⟩
def gpioCfg_OUT : Fld := ⟨.gpioCfg, 8, 1⟩
def gpioCfg_EDGE : Fld := ⟨.gpioCfg, 9, 2⟩
def padCfg_FSYNCOUT : Fld := ⟨.padCfg, 1, 1⟩
def ownStat_PEPEND : Fld := ⟨.ownStat, 0, 4⟩
def ownStat_SEMPEND : Fld := ⟨.ownStat, 4, 1⟩
def domPorten_SPI : Fld := ⟨.domPorten, 0, 4⟩
def domPorten_NET : Fld := ⟨.domPorten, 4, 4⟩
def domStat_RSTBUSY : Fld := ⟨.domStat, 0, 4⟩
def domQos_RACKW : Fld := ⟨.domQos, 0, 4⟩
def domQos_ENGSHARE : Fld := ⟨.domQos, 8, 4⟩
def domQos_QUOTA : Fld := ⟨.domQos, 12, 6⟩
def domQos_KEEPLIT : Fld := ⟨.domQos, 24, 1⟩
def domViol_OVF : Fld := ⟨.domViol, 30, 1⟩
def domViol_VALID : Fld := ⟨.domViol, 31, 1⟩
def domInfl_QUOTAHIT : Fld := ⟨.domInfl, 16, 1⟩
def intCfg_ROUTE : Fld := ⟨.intCfg, 0, 2⟩
def intCfg_THRESH : Fld := ⟨.intCfg, 4, 4⟩
def intCfg_EVGAP : Fld := ⟨.intCfg, 8, 8⟩
def clkCfg_REFSEL : Fld := ⟨.clkCfg, 0, 1⟩
def clkCfg_XTALEN : Fld := ⟨.clkCfg, 1, 1⟩
def clkStat_REFACT : Fld := ⟨.clkStat, 0, 1⟩
def clkStat_XTALOK : Fld := ⟨.clkStat, 1, 1⟩
def clkStat_PLLLOCK : Fld := ⟨.clkStat, 2, 1⟩
def clkStat_SLEWING : Fld := ⟨.clkStat, 3, 1⟩
def clkStat_AONBK : Fld := ⟨.clkStat, 4, 1⟩
def clkStat_XTALFAIL : Fld := ⟨.clkStat, 8, 1⟩
def clkStat_PLLFAIL : Fld := ⟨.clkStat, 9, 1⟩
def clkStat_PWMSTOP : Fld := ⟨.clkStat, 10, 1⟩
def clkStat_LFRCFAIL : Fld := ⟨.clkStat, 11, 1⟩
def clkFmeas_COUNT : Fld := ⟨.clkFmeas, 0, 20⟩
def pwrStat_BOOTDONE : Fld := ⟨.pwrStat, 0, 1⟩
def pwrStat_NOIMG : Fld := ⟨.pwrStat, 1, 1⟩
def pwrStat_VBATLOW : Fld := ⟨.pwrStat, 2, 1⟩
def pwrStat_VBATHI : Fld := ⟨.pwrStat, 3, 1⟩
def pwrStat_VCC5OK : Fld := ⟨.pwrStat, 4, 1⟩
def pwrStat_AVDDOK : Fld := ⟨.pwrStat, 5, 1⟩
def pwrStat_VREFOK : Fld := ⟨.pwrStat, 6, 1⟩
def pwrStat_REFUSE : Fld := ⟨.pwrStat, 8, 3⟩
def pwrStat_VBATLOWF : Fld := ⟨.pwrStat, 16, 1⟩
def pwrStat_VBATHIF : Fld := ⟨.pwrStat, 17, 1⟩
def pwrStat_VCC5F : Fld := ⟨.pwrStat, 18, 1⟩
def pwrStat_AVDDF : Fld := ⟨.pwrStat, 19, 1⟩
def pwrStat_VDDIOF : Fld := ⟨.pwrStat, 20, 1⟩
def pwrWakecfg_PINEN : Fld := ⟨.pwrWakecfg, 0, 1⟩
def pwrWakecfg_TMREN : Fld := ⟨.pwrWakecfg, 1, 1⟩
def pwrWakecfg_CSNEN : Fld := ⟨.pwrWakecfg, 2, 1⟩
def pwrWktmr_COUNT : Fld := ⟨.pwrWktmr, 0, 24⟩
def hwdtCfg_TIMEOUT : Fld := ⟨.hwdtCfg, 0, 10⟩
def hwdtCfg_EN : Fld := ⟨.hwdtCfg, 16, 1⟩
def hwdtStat_EXPIRED : Fld := ⟨.hwdtStat, 16, 1⟩
def hwdtStat_BADSVC : Fld := ⟨.hwdtStat, 17, 1⟩
def dwdtStat_COUNT : Fld := ⟨.dwdtStat, 0, 8⟩
def bootTime_USEC : Fld := ⟨.bootTime, 0, 16⟩
def spiStat_LONG : Fld := ⟨.spiStat, 7, 1⟩
def spiStat_SHORTGAP : Fld := ⟨.spiStat, 8, 1⟩
def spiErrcnt_CMDCRC : Fld := ⟨.spiErrcnt, 0, 8⟩
def spiErrcnt_DATACRC : Fld := ⟨.spiErrcnt, 8, 8⟩
def spiErrcnt_LEN : Fld := ⟨.spiErrcnt, 16, 8⟩
def spiErrcnt_ABANDON : Fld := ⟨.spiErrcnt, 24, 8⟩
def spiSessstat_SESS : Fld := ⟨.spiSessstat, 0, 1⟩
def spiSessstat_CHAL : Fld := ⟨.spiSessstat, 1, 1⟩
def spiSessstat_RESULT : Fld := ⟨.spiSessstat, 2, 3⟩
def spiSessstat_FAILCNT : Fld := ⟨.spiSessstat, 8, 4⟩
def spiSessstat_LOCKOUT : Fld := ⟨.spiSessstat, 12, 1⟩
def spiSessstat_KSEL : Fld := ⟨.spiSessstat, 16, 2⟩
def netCfg_PHYEN : Fld := ⟨.netCfg, 0, 1⟩
def netCfg_MCEN : Fld := ⟨.netCfg, 1, 1⟩
def netEtype_ETYPE : Fld := ⟨.netEtype, 0, 16⟩
def netStat_PHYON : Fld := ⟨.netStat, 0, 1⟩
def netStat_PLCAOK : Fld := ⟨.netStat, 1, 1⟩
def netStat_COORD : Fld := ⟨.netStat, 2, 1⟩
def netStat_TLOCK : Fld := ⟨.netStat, 3, 1⟩
def netStat_RXOVF : Fld := ⟨.netStat, 8, 1⟩
def netStat_PLCACHG : Fld := ⟨.netStat, 9, 1⟩
def netStat_TXDROP : Fld := ⟨.netStat, 10, 1⟩
def netStat_AUTHFAIL : Fld := ⟨.netStat, 11, 1⟩
def netStat_REPLAY : Fld := ⟨.netStat, 12, 1⟩
def netStat_EPOCHNAK : Fld := ⟨.netStat, 13, 1⟩
def netStat_TCHG : Fld := ⟨.netStat, 14, 1⟩
def netStat_EVLOST : Fld := ⟨.netStat, 15, 1⟩
def netCnt0_RXOK : Fld := ⟨.netCnt0, 0, 16⟩
def netCnt0_RXDROP : Fld := ⟨.netCnt0, 16, 16⟩
def netCnt1_AUTHFAIL : Fld := ⟨.netCnt1, 0, 16⟩
def netCnt1_REPLAY : Fld := ⟨.netCnt1, 16, 16⟩
def netCnt2_TXOK : Fld := ⟨.netCnt2, 0, 16⟩
def netCnt2_TXRETRY : Fld := ⟨.netCnt2, 16, 16⟩
def netEvcfg_RETRY : Fld := ⟨.netEvcfg, 8, 4⟩
def netTimecfg_ROLE : Fld := ⟨.netTimecfg, 0, 2⟩
def netTimecfg_TDOM : Fld := ⟨.netTimecfg, 2, 2⟩
def netTimecfg_ALIGN : Fld := ⟨.netTimecfg, 4, 1⟩
def netTimecfg_TINT : Fld := ⟨.netTimecfg, 8, 8⟩
def netTimecfg_PDLY : Fld := ⟨.netTimecfg, 24, 8⟩
def netTstat_STATE : Fld := ⟨.netTstat, 0, 2⟩
def netTrate_RATE : Fld := ⟨.netTrate, 0, 24⟩
def netTraycfg_MAXLEAD : Fld := ⟨.netTraycfg, 0, 16⟩
def netTrayStat_PEND : Fld := ⟨.netTrayStat, 0, 3⟩
def netTrayStat_LIVEV : Fld := ⟨.netTrayStat, 3, 1⟩
def netTrayStat_LIVE : Fld := ⟨.netTrayStat, 4, 4⟩
def netTrayStat_SKIP : Fld := ⟨.netTrayStat, 8, 8⟩
def netTrayStat_LATE : Fld := ⟨.netTrayStat, 16, 1⟩
def rackCfg_EN : Fld := ⟨.rackCfg, 0, 1⟩
def rackCfg_FULLPOL : Fld := ⟨.rackCfg, 1, 1⟩
def rackCfg_PROD : Fld := ⟨.rackCfg, 8, 5⟩
def rackCfg_CONS : Fld := ⟨.rackCfg, 16, 5⟩
def rackCfg_WM : Fld := ⟨.rackCfg, 22, 10⟩
def rackStat_OVF : Fld := ⟨.rackStat, 16, 1⟩
def rackStat_PUSHFULL : Fld := ⟨.rackStat, 17, 1⟩
def rackStat_PARTIAL : Fld := ⟨.rackStat, 18, 1⟩
def rackStat_ECCERR : Fld := ⟨.rackStat, 19, 1⟩
def rackStat_DONE : Fld := ⟨.rackStat, 20, 1⟩
def rackStat_ABORT : Fld := ⟨.rackStat, 21, 1⟩
def rackRet_LAST : Fld := ⟨.rackRet, 0, 4⟩
def rackRet_TAG : Fld := ⟨.rackRet, 8, 8⟩
def rackRet_ERRIDX : Fld := ⟨.rackRet, 16, 6⟩
def rackRet_RETCNT : Fld := ⟨.rackRet, 24, 8⟩
def rackPart_BASE : Fld := ⟨.rackPart, 0, 9⟩
def rackPart_SIZE : Fld := ⟨.rackPart, 16, 10⟩
def semCfg_MODE : Fld := ⟨.semCfg, 0, 1⟩
def semCfg_MAX : Fld := ⟨.semCfg, 16, 16⟩
def semStat_COUNT : Fld := ⟨.semStat, 0, 16⟩
def semStat_HELD : Fld := ⟨.semStat, 16, 1⟩
def semStat_HOLDER : Fld := ⟨.semStat, 17, 5⟩
def semStat_HDOM : Fld := ⟨.semStat, 22, 2⟩
def semStat_OVF : Fld := ⟨.semStat, 30, 1⟩
def semStat_BADGIVE : Fld := ⟨.semStat, 31, 1⟩
def waitTmo_ENG : Fld := ⟨.waitTmo, 0, 16⟩
def waitTmo_AGT : Fld := ⟨.waitTmo, 16, 16⟩
def dlkCnt_DEADLOCK : Fld := ⟨.dlkCnt, 0, 16⟩
def dlkCnt_TIMEOUT : Fld := ⟨.dlkCnt, 16, 16⟩
def dlkCap_OVF : Fld := ⟨.dlkCap, 30, 1⟩
def dlkCap_VALID : Fld := ⟨.dlkCap, 31, 1⟩
def rackGstat_ECCFIX : Fld := ⟨.rackGstat, 0, 16⟩
def rackGstat_PARTERR : Fld := ⟨.rackGstat, 16, 1⟩
def rackGstat_OVERLAP : Fld := ⟨.rackGstat, 17, 1⟩
def memCfg_SPAREEN : Fld := ⟨.memCfg, 0, 1⟩
def memEccstat_CORR : Fld := ⟨.memEccstat, 0, 16⟩
def memEccstat_CE : Fld := ⟨.memEccstat, 16, 1⟩
def memEccstat_UE : Fld := ⟨.memEccstat, 17, 1⟩
def memEccstat_SPARED : Fld := ⟨.memEccstat, 18, 1⟩
def memEccstat_SPAREFULL : Fld := ⟨.memEccstat, 19, 1⟩
def memUecap_OVF : Fld := ⟨.memUecap, 29, 1⟩
def memUecap_VALID : Fld := ⟨.memUecap, 31, 1⟩
def memSweep_PASSES : Fld := ⟨.memSweep, 0, 16⟩
def memSweep_LASTLEN : Fld := ⟨.memSweep, 16, 16⟩
def memFahead_LATE : Fld := ⟨.memFahead, 8, 8⟩
def memLardstat_WIPING : Fld := ⟨.memLardstat, 0, 1⟩
def memLardstat_WIPED : Fld := ⟨.memLardstat, 1, 1⟩
def memLardstat_CAUSE : Fld := ⟨.memLardstat, 2, 3⟩
def imgSrc_SRC : Fld := ⟨.imgSrc, 0, 24⟩
def imgDst_OFFSET : Fld := ⟨.imgDst, 0, 20⟩
def imgStat_ACTIVE : Fld := ⟨.imgStat, 0, 1⟩
def imgStat_AVALID : Fld := ⟨.imgStat, 1, 1⟩
def imgStat_BVALID : Fld := ⟨.imgStat, 2, 1⟩
def imgStat_BUSY : Fld := ⟨.imgStat, 3, 1⟩
def imgStat_SWAPPEND : Fld := ⟨.imgStat, 4, 1⟩
def imgStat_RESULT : Fld := ⟨.imgStat, 8, 4⟩
def imgStat_DONE : Fld := ⟨.imgStat, 16, 1⟩
def imgStat_ERR : Fld := ⟨.imgStat, 17, 1⟩
def imgStat_CFGSKIP : Fld := ⟨.imgStat, 24, 8⟩
def imgAseq_SEQ : Fld := ⟨.imgAseq, 0, 32⟩
def imgBseq_SEQ : Fld := ⟨.imgBseq, 0, 32⟩
def imgAlen_ILEN : Fld := ⟨.imgAlen, 0, 32⟩
def imgBlen_ILEN : Fld := ⟨.imgBlen, 0, 32⟩
def imgEcc_CORR : Fld := ⟨.imgEcc, 0, 16⟩
def imgEcc_UE : Fld := ⟨.imgEcc, 16, 1⟩
def peSlice_RATE : Fld := ⟨.peSlice, 0, 10⟩
def peSliceno_K : Fld := ⟨.peSliceno, 0, 32⟩
def peCtl_EXCSTOP : Fld := ⟨.peCtl, 0, 1⟩
def peStat_CUR : Fld := ⟨.peStat, 0, 5⟩
def peStat_OVR : Fld := ⟨.peStat, 6, 1⟩
def peStat_CERR : Fld := ⟨.peStat, 7, 1⟩
def peStat_MISS : Fld := ⟨.peStat, 16, 16⟩
def peExc_OVF : Fld := ⟨.peExc, 29, 1⟩
def peExc_VALID : Fld := ⟨.peExc, 31, 1⟩
def peOvrcnt_COUNT : Fld := ⟨.peOvrcnt, 0, 16⟩
def peCtxStat_CONSEC : Fld := ⟨.peCtxStat, 8, 2⟩
def peCtxStat_OFFREJ : Fld := ⟨.peCtxStat, 10, 1⟩
def peCtxStat_SKIP : Fld := ⟨.peCtxStat, 16, 8⟩
def peCtxWork_WORK : Fld := ⟨.peCtxWork, 0, 22⟩
def dispCfg_EN : Fld := ⟨.dispCfg, 0, 1⟩
def dispCfg_MODE : Fld := ⟨.dispCfg, 1, 1⟩
def dispCfg_ENG : Fld := ⟨.dispCfg, 2, 2⟩
def dispCfg_DOM : Fld := ⟨.dispCfg, 4, 2⟩
def dispCfg_PRI : Fld := ⟨.dispCfg, 8, 4⟩
def dispCfg_EVT : Fld := ⟨.dispCfg, 16, 8⟩
def dispCfg_DIV : Fld := ⟨.dispCfg, 24, 8⟩
def dispStart_START : Fld := ⟨.dispStart, 0, 17⟩
def dispStart_ARG : Fld := ⟨.dispStart, 20, 12⟩
def dispStat_DROP : Fld := ⟨.dispStat, 0, 8⟩
def dispStat_COAL : Fld := ⟨.dispStat, 8, 8⟩
def dispStat_BADEVT : Fld := ⟨.dispStat, 16, 1⟩
def dispStat_TMFIRED : Fld := ⟨.dispStat, 17, 1⟩
def pwmCtl_RUN : Fld := ⟨.pwmCtl, 0, 1⟩
def pwmCtl_MODE : Fld := ⟨.pwmCtl, 1, 2⟩
def pwmCtl_UPD : Fld := ⟨.pwmCtl, 3, 1⟩
def pwmCtl_MAIN : Fld := ⟨.pwmCtl, 4, 1⟩
def pwmCtl_SYNCEN : Fld := ⟨.pwmCtl, 5, 1⟩
def pwmCtl_PKEN : Fld := ⟨.pwmCtl, 6, 1⟩
def pwmCtl_CASRC : Fld := ⟨.pwmCtl, 7, 1⟩
def pwmCtl_SYNCIN : Fld := ⟨.pwmCtl, 8, 1⟩
def pwmCtl_TRGEN : Fld := ⟨.pwmCtl, 9, 1⟩
def pwmPer_PER : Fld := ⟨.pwmPer, 0, 21⟩
def pwmCa_CA : Fld := ⟨.pwmCa, 0, 21⟩
def pwmCb_CB : Fld := ⟨.pwmCb, 0, 21⟩
def pwmDt_DTR : Fld := ⟨.pwmDt, 0, 8⟩
def pwmDt_DTF : Fld := ⟨.pwmDt, 8, 8⟩
def pwmBlk_LEN : Fld := ⟨.pwmBlk, 0, 8⟩
def pwmBlk_ILIM : Fld := ⟨.pwmBlk, 8, 1⟩
def pwmTrg_DIV : Fld := ⟨.pwmTrg, 18, 4⟩
def pwmSync_PHASE : Fld := ⟨.pwmSync, 0, 21⟩
def pwmTripcfg_EXTEN : Fld := ⟨.pwmTripcfg, 0, 1⟩
def pwmTripcfg_EXTLAT : Fld := ⟨.pwmTripcfg, 4, 1⟩
def pwmTripcfg_ILIMLAT : Fld := ⟨.pwmTripcfg, 5, 1⟩
def pwmStat_DRIVE : Fld := ⟨.pwmStat, 0, 1⟩
def pwmStat_LINE : Fld := ⟨.pwmStat, 1, 1⟩
def pwmStat_READY : Fld := ⟨.pwmStat, 2, 1⟩
def pwmStat_COARSE : Fld := ⟨.pwmStat, 3, 1⟩
def pwmStat_FROZEN : Fld := ⟨.pwmStat, 4, 1⟩
def pwmStat_TRIPACT : Fld := ⟨.pwmStat, 5, 1⟩
def pwmStat_TRIPSRC : Fld := ⟨.pwmStat, 6, 3⟩
def pwmStat_TRIP : Fld := ⟨.pwmStat, 16, 1⟩
def pwmStat_PROOFF : Fld := ⟨.pwmStat, 17, 1⟩
def pwmStat_SYNCMISS : Fld := ⟨.pwmStat, 18, 1⟩
def pwmStat_TRGMISS : Fld := ⟨.pwmStat, 19, 1⟩
def pwmStat_CFGIGN : Fld := ⟨.pwmStat, 20, 1⟩
def pwmTon_TON : Fld := ⟨.pwmTon, 0, 21⟩
def pwmTper_TPER : Fld := ⟨.pwmTper, 0, 21⟩
def pwmEvcnt_TRIPS : Fld := ⟨.pwmEvcnt, 0, 8⟩
def pwmEvcnt_SWAPS : Fld := ⟨.pwmEvcnt, 8, 8⟩
def pwmEvcnt_SYNCMISS : Fld := ⟨.pwmEvcnt, 16, 8⟩
def pwmEvcnt_TRGMISS : Fld := ⟨.pwmEvcnt, 24, 8⟩
def pwmProofstat_SPAN0 : Fld := ⟨.pwmProofstat, 0, 6⟩
def pwmProofstat_SPAN1 : Fld := ⟨.pwmProofstat, 8, 6⟩
def pwmProofstat_FAIL0 : Fld := ⟨.pwmProofstat, 16, 1⟩
def pwmProofstat_FAIL1 : Fld := ⟨.pwmProofstat, 17, 1⟩
def strCtl_EN : Fld := ⟨.strCtl, 0, 1⟩
def strCtl_TOPO : Fld := ⟨.strCtl, 1, 2⟩
def strCtl_FFEN : Fld := ⟨.strCtl, 3, 1⟩
def strCtl_SHORTOFF : Fld := ⟨.strCtl, 4, 1⟩
def strCtl_FBAUTO : Fld := ⟨.strCtl, 5, 1⟩
def strIref_IREF : Fld := ⟨.strIref, 0, 12⟩
def strIref_RAMP : Fld := ⟨.strIref, 16, 12⟩
def strCmp_FBREF : Fld := ⟨.strCmp, 22, 10⟩
def strLoop_KP : Fld := ⟨.strLoop, 0, 12⟩
def strLoop_KI : Fld := ⟨.strLoop, 12, 12⟩
def strLoop_SHIFT : Fld := ⟨.strLoop, 24, 5⟩
def strDmax_DMAX : Fld := ⟨.strDmax, 0, 21⟩
def strDmin_DMIN : Fld := ⟨.strDmin, 0, 21⟩
def strFfv_VF : Fld := ⟨.strFfv, 0, 12⟩
def strFfv_VFIX : Fld := ⟨.strFfv, 16, 12⟩
def strDet_SMARG : Fld := ⟨.strDet, 0, 8⟩
def strDet_OPENEN : Fld := ⟨.strDet, 8, 1⟩
def strDim_DEN : Fld := ⟨.strDim, 0, 1⟩
def strDim_DUTY : Fld := ⟨.strDim, 4, 11⟩
def strStat_ACTIVE : Fld := ⟨.strStat, 0, 1⟩
def strStat_RAMPING : Fld := ⟨.strStat, 1, 1⟩
def strStat_FALLBACK : Fld := ⟨.strStat, 2, 1⟩
def strStat_SLEWING : Fld := ⟨.strStat, 3, 1⟩
def strStat_OPENLK : Fld := ⟨.strStat, 4, 1⟩
def strStat_LOOPOVR : Fld := ⟨.strStat, 16, 1⟩
def strStat_ILIMF : Fld := ⟨.strStat, 17, 1⟩
def strStat_OVPF : Fld := ⟨.strStat, 18, 1⟩
def strStat_OPEN : Fld := ⟨.strStat, 19, 1⟩
def strStat_SHORT : Fld := ⟨.strStat, 20, 1⟩
def strStat_FBENT : Fld := ⟨.strStat, 21, 1⟩
def strStat_CFGERR : Fld := ⟨.strStat, 22, 1⟩
def strMeas_ILED : Fld := ⟨.strMeas, 0, 12⟩
def strMeas_IEFF : Fld := ⟨.strMeas, 16, 12⟩
def strOut_U : Fld := ⟨.strOut, 0, 21⟩
def strOut_LIT : Fld := ⟨.strOut, 24, 5⟩
def strVmon_VIN : Fld := ⟨.strVmon, 0, 10⟩
def strVmon_VSTR : Fld := ⟨.strVmon, 16, 12⟩
def strEvcnt_OVRCNT : Fld := ⟨.strEvcnt, 0, 8⟩
def strEvcnt_CONSEC : Fld := ⟨.strEvcnt, 8, 4⟩
def strEvcnt_FBCNT : Fld := ⟨.strEvcnt, 16, 8⟩
def bypCfg_FREQ : Fld := ⟨.bypCfg, 0, 12⟩
def bypCfg_PSYNC : Fld := ⟨.bypCfg, 12, 1⟩
def bypUnused_MASK : Fld := ⟨.bypUnused, 0, 16⟩
def bypDet_AUTOEN : Fld := ⟨.bypDet, 16, 1⟩
def bypDet_SHORTEN : Fld := ⟨.bypDet, 17, 1⟩
def bypState_SW : Fld := ⟨.bypState, 0, 16⟩
def bypState_LIT : Fld := ⟨.bypState, 16, 5⟩
def bypStat_LIVE : Fld := ⟨.bypStat, 0, 1⟩
def bypStat_DRIVEN : Fld := ⟨.bypStat, 1, 1⟩
def bypStat_OPEN : Fld := ⟨.bypStat, 16, 1⟩
def bypStat_SHORT : Fld := ⟨.bypStat, 17, 1⟩
def bypStat_DEFER : Fld := ⟨.bypStat, 18, 1⟩
def bypAutobyp_MASK : Fld := ⟨.bypAutobyp, 0, 16⟩
def bypShortpx_MASK : Fld := ⟨.bypShortpx, 0, 16⟩
def bypEb_DEFCNT : Fld := ⟨.bypEb, 0, 16⟩
def bypEb_MAXDEF : Fld := ⟨.bypEb, 16, 16⟩
def gridCtl_EN : Fld := ⟨.gridCtl, 0, 1⟩
def gridCtl_SRC : Fld := ⟨.gridCtl, 1, 2⟩
def gridCtl_SLIP : Fld := ⟨.gridCtl, 3, 1⟩
def gridFrate_FR : Fld := ⟨.gridFrate, 0, 12⟩
def gridPhase_TDIS : Fld := ⟨.gridPhase, 0, 8⟩
def gridPhase_TPRE : Fld := ⟨.gridPhase, 8, 8⟩
def gridPhase_TBLK : Fld := ⟨.gridPhase, 16, 8⟩
def gridImax_ROWMAX : Fld := ⟨.gridImax, 0, 8⟩
def gridImax_COLMAX : Fld := ⟨.gridImax, 8, 8⟩
def gridDet_HRSHORT : Fld := ⟨.gridDet, 0, 5⟩
def gridDet_DETEN : Fld := ⟨.gridDet, 8, 1⟩
def gridStat_RUN : Fld := ⟨.gridStat, 0, 1⟩
def gridStat_LOCK : Fld := ⟨.gridStat, 1, 1⟩
def gridStat_LOL : Fld := ⟨.gridStat, 2, 1⟩
def gridStat_ROWN : Fld := ⟨.gridStat, 4, 4⟩
def gridStat_FRAME : Fld := ⟨.gridStat, 16, 1⟩
def gridStat_SLIP : Fld := ⟨.gridStat, 17, 1⟩
def gridStat_LOSTLOCK : Fld := ⟨.gridStat, 18, 1⟩
def gridStat_ROWF : Fld := ⟨.gridStat, 19, 1⟩
def gridStat_COLF : Fld := ⟨.gridStat, 20, 1⟩
def gridStat_PXOPEN : Fld := ⟨.gridStat, 21, 1⟩
def gridStat_PXSHORT : Fld := ⟨.gridStat, 22, 1⟩
def gridStat_ROWSCALE : Fld := ⟨.gridStat, 23, 1⟩
def gridStat_CFGERR : Fld := ⟨.gridStat, 24, 1⟩
def gridSyncslip_COUNT : Fld := ⟨.gridSyncslip, 0, 16⟩
def gridSyncslip_CONSEC : Fld := ⟨.gridSyncslip, 16, 3⟩
def gridFcnt_COUNT : Fld := ⟨.gridFcnt, 0, 32⟩
def gridRowoff_ROW : Fld := ⟨.gridRowoff, 0, 16⟩
def gridColoff_COL : Fld := ⟨.gridColoff, 0, 24⟩
def gridPxcap_OVF : Fld := ⟨.gridPxcap, 29, 1⟩
def gridPxcap_VALID : Fld := ⟨.gridPxcap, 31, 1⟩
def gridEvcnt_ROWSCALE : Fld := ⟨.gridEvcnt, 0, 16⟩
def gridEvcnt_PXFLT : Fld := ⟨.gridEvcnt, 16, 16⟩
def adcCtl_PD : Fld := ⟨.adcCtl, 0, 1⟩
def adcCtl_INJPRE : Fld := ⟨.adcCtl, 1, 1⟩
def adcStat_STATE : Fld := ⟨.adcStat, 0, 2⟩
def adcStat_AWAKE : Fld := ⟨.adcStat, 2, 1⟩
def adcStat_HOST : Fld := ⟨.adcStat, 3, 1⟩
def adcStat_CALDONE : Fld := ⟨.adcStat, 16, 1⟩
def adcStat_CALERR : Fld := ⟨.adcStat, 17, 1⟩
def adcStat_CALABORT : Fld := ⟨.adcStat, 18, 1⟩
def adcStat_FOVER : Fld := ⟨.adcStat, 19, 1⟩
def adcStat_RESTOK : Fld := ⟨.adcStat, 20, 1⟩
def adcStat_RESTFAIL : Fld := ⟨.adcStat, 21, 1⟩
def adcStat_CMDREF : Fld := ⟨.adcStat, 22, 1⟩
def adcCalofs_CALOFS : Fld := ⟨.adcCalofs, 0, 12⟩
def adcCalgain_CALGAIN : Fld := ⟨.adcCalgain, 0, 16⟩
def adcRegctl_EN : Fld := ⟨.adcRegctl, 0, 1⟩
def adcRegctl_LAST : Fld := ⟨.adcRegctl, 1, 6⟩
def adcRegctl_WRAPF : Fld := ⟨.adcRegctl, 7, 1⟩
def adcRegstat_POS : Fld := ⟨.adcRegstat, 0, 6⟩
def adcRegstat_LOOPS : Fld := ⟨.adcRegstat, 8, 8⟩
def adcRegstat_WRAP : Fld := ⟨.adcRegstat, 16, 1⟩
def adcRegstat_MBOVR : Fld := ⟨.adcRegstat, 17, 1⟩
def adcRegstat_STRREF : Fld := ⟨.adcRegstat, 18, 1⟩
def adcRegstat_FOREIGN : Fld := ⟨.adcRegstat, 19, 1⟩
def adcInjctl_EN : Fld := ⟨.adcInjctl, 0, 1⟩
def adcInjctl_DONEIE : Fld := ⟨.adcInjctl, 8, 8⟩
def adcInjstat_DONE : Fld := ⟨.adcInjstat, 0, 8⟩
def adcInjstat_OVRCNT : Fld := ⟨.adcInjstat, 8, 8⟩
def adcInjstat_INJOVR : Fld := ⟨.adcInjstat, 16, 1⟩
def adcInjstat_MBOVR : Fld := ⟨.adcInjstat, 17, 1⟩
def adcInjstat_STRREF : Fld := ⟨.adcInjstat, 18, 1⟩
def adcInjstat_FOREIGN : Fld := ⟨.adcInjstat, 19, 1⟩
def adcInjstat_CALWAIT : Fld := ⟨.adcInjstat, 20, 1⟩
def adcInj_SRC : Fld := ⟨.adcInj, 0, 6⟩
def adcInj_TRIG : Fld := ⟨.adcInj, 8, 5⟩
def adcInj_RACK : Fld := ⟨.adcInj, 24, 3⟩
def adcInj_SEN : Fld := ⟨.adcInj, 27, 1⟩
def adcTbl_SRC : Fld := ⟨.adcTbl, 0, 6⟩
def adcTbl_REP : Fld := ⟨.adcTbl, 8, 4⟩
def adcTbl_DLY : Fld := ⟨.adcTbl, 12, 8⟩
def adcTbl_RACK : Fld := ⟨.adcTbl, 20, 3⟩
def adcTbl_SEN : Fld := ⟨.adcTbl, 23, 1⟩
def adcShrcfg_SRC : Fld := ⟨.adcShrcfg, 0, 6⟩
def adcShrcfg_INT : Fld := ⟨.adcShrcfg, 8, 8⟩
def adcShrcfg_THR : Fld := ⟨.adcShrcfg, 16, 8⟩
def adcShrcfg_PERS : Fld := ⟨.adcShrcfg, 24, 4⟩
def adcShrcfg_FOEN : Fld := ⟨.adcShrcfg, 28, 1⟩
def adcShrstat_A : Fld := ⟨.adcShrstat, 0, 12⟩
def adcShrstat_B : Fld := ⟨.adcShrstat, 12, 12⟩
def adcShrstat_MISCNT : Fld := ⟨.adcShrstat, 24, 4⟩
def adcShrflag_SKIPCNT : Fld := ⟨.adcShrflag, 0, 8⟩
def adcShrflag_PMIS : Fld := ⟨.adcShrflag, 16, 1⟩
def adcShrflag_REFA : Fld := ⟨.adcShrflag, 17, 1⟩
def adcShrflag_REFB : Fld := ⟨.adcShrflag, 18, 1⟩
def adcShrflag_SKIP : Fld := ⟨.adcShrflag, 19, 1⟩
def adcRef_REFTOL : Fld := ⟨.adcRef, 16, 8⟩
def adcRefmeas_ADCA : Fld := ⟨.adcRefmeas, 0, 12⟩
def adcRefmeas_ADCB : Fld := ⟨.adcRefmeas, 16, 12⟩
def adcTrigcfg_EDGE : Fld := ⟨.adcTrigcfg, 0, 2⟩
def adcTrigcfg_EDGEF : Fld := ⟨.adcTrigcfg, 16, 1⟩
def tlmCfg_EN : Fld := ⟨.tlmCfg, 0, 1⟩
def tlmCfg_AGEMAX : Fld := ⟨.tlmCfg, 8, 8⟩
def tlmCfg_RROW : Fld := ⟨.tlmCfg, 16, 10⟩
def tlmStat_ENG : Fld := ⟨.tlmStat, 0, 7⟩
def tlmStat_ENGCHG : Fld := ⟨.tlmStat, 16, 1⟩
def tlmStat_RECF : Fld := ⟨.tlmStat, 17, 1⟩
def tlmStat_VFRANGE : Fld := ⟨.tlmStat, 18, 1⟩
def tlmStat_HOT : Fld := ⟨.tlmStat, 19, 1⟩
def tlmStat_RACKREF : Fld := ⟨.tlmStat, 20, 1⟩
def tlmStat_STALE : Fld := ⟨.tlmStat, 21, 1⟩
def tlmStat_CRVERR : Fld := ⟨.tlmStat, 22, 1⟩
def tlmCnt_DISC : Fld := ⟨.tlmCnt, 0, 16⟩
def tlmCnt_DROP : Fld := ⟨.tlmCnt, 16, 16⟩
def tlmGrpCfg_MODE : Fld := ⟨.tlmGrpCfg, 0, 2⟩
def tlmGrpCfg_CURVE : Fld := ⟨.tlmGrpCfg, 2, 2⟩
def tlmGrpCfg_TAU : Fld := ⟨.tlmGrpCfg, 4, 3⟩
def tlmGrpCfg_REC : Fld := ⟨.tlmGrpCfg, 7, 1⟩
def tlmGrpCfg_FSTEP : Fld := ⟨.tlmGrpCfg, 8, 8⟩
def tlmGrpCfg_RACK : Fld := ⟨.tlmGrpCfg, 16, 2⟩
def tlmGrpCfg_STRINT : Fld := ⟨.tlmGrpCfg, 24, 8⟩
def tlmGrpCal_ILSB : Fld := ⟨.tlmGrpCal, 0, 12⟩
def tlmGrpCal_ICAL : Fld := ⟨.tlmGrpCal, 12, 12⟩
def tlmGrpCal_TCAL : Fld := ⟨.tlmGrpCal, 24, 8⟩
def tlmCrv_T : Fld := ⟨.tlmCrv, 0, 16⟩
def tlmCrv_F : Fld := ⟨.tlmCrv, 16, 13⟩
def tlmPixA_VM : Fld := ⟨.tlmPixA, 0, 12⟩
def tlmPixA_EST : Fld := ⟨.tlmPixA, 12, 1⟩
def tlmPixA_STALE : Fld := ⟨.tlmPixA, 13, 1⟩
def tlmPixA_TF : Fld := ⟨.tlmPixA, 16, 16⟩
def tlmPixB_F : Fld := ⟨.tlmPixB, 0, 13⟩
def tlmPixB_FTGT : Fld := ⟨.tlmPixB, 16, 13⟩
def fltGstat_RECF0 : Fld := ⟨.fltGstat, 20, 1⟩
def fltGstat_RECF1 : Fld := ⟨.fltGstat, 21, 1⟩
def fltGstat_RELREF : Fld := ⟨.fltGstat, 22, 1⟩
def fltCnt_F0 : Fld := ⟨.fltCnt, 0, 8⟩
def fltCnt_F1 : Fld := ⟨.fltCnt, 8, 8⟩
def fltCnt_F2 : Fld := ⟨.fltCnt, 16, 8⟩
def fltCnt_F3 : Fld := ⟨.fltCnt, 24, 8⟩
def fltCap_OVF : Fld := ⟨.fltCap, 29, 1⟩
def fltCap_VALID : Fld := ⟨.fltCap, 31, 1⟩
def hearthCfg_RAMP : Fld := ⟨.hearthCfg, 0, 8⟩
def hearthSel_PF3 : Fld := ⟨.hearthSel, 0, 3⟩
def hearthSel_PWDT : Fld := ⟨.hearthSel, 4, 3⟩
def hearthSel_PHEN : Fld := ⟨.hearthSel, 8, 3⟩
def hearthStat_STATE : Fld := ⟨.hearthStat, 0, 2⟩
def hearthStat_SRC : Fld := ⟨.hearthStat, 8, 2⟩
def hearthStat_PRESET : Fld := ⟨.hearthStat, 12, 3⟩
def hearthStat_REFUSE : Fld := ⟨.hearthStat, 16, 3⟩
def hearthStat_ENTERED : Fld := ⟨.hearthStat, 24, 1⟩
def hearthStat_EXITED : Fld := ⟨.hearthStat, 25, 1⟩
def hearthStat_RAMPDONE : Fld := ⟨.hearthStat, 26, 1⟩
def hearthRamp_K : Fld := ⟨.hearthRamp, 0, 16⟩
def hearthRamp_N : Fld := ⟨.hearthRamp, 16, 16⟩
def lcStat_STATE : Fld := ⟨.lcStat, 0, 3⟩
def lcStat_BUSY : Fld := ⟨.lcStat, 3, 1⟩
def lcStat_CHAL : Fld := ⟨.lcStat, 4, 1⟩
def lcStat_LOCKOUT : Fld := ⟨.lcStat, 5, 1⟩
def lcStat_RESULT : Fld := ⟨.lcStat, 8, 4⟩
def lcStat_DONE : Fld := ⟨.lcStat, 16, 1⟩
def lcStat_ERR : Fld := ⟨.lcStat, 17, 1⟩
def keyAttr_USE : Fld := ⟨.keyAttr, 0, 5⟩
def keyAttr_VER : Fld := ⟨.keyAttr, 16, 16⟩
def keyStat_BUSY : Fld := ⟨.keyStat, 0, 1⟩
def keyStat_RESULT : Fld := ⟨.keyStat, 4, 4⟩
def keyStat_DONE : Fld := ⟨.keyStat, 16, 1⟩
def keyStat_ERR : Fld := ⟨.keyStat, 17, 1⟩
def secStat_TAMPCNT : Fld := ⟨.secStat, 0, 8⟩
def secStat_RNGFAIL : Fld := ⟨.secStat, 8, 8⟩
def secStat_KEYSOFF : Fld := ⟨.secStat, 16, 1⟩
def secStat_CLK : Fld := ⟨.secStat, 20, 1⟩
def secStat_VDD : Fld := ⟨.secStat, 21, 1⟩
def secStat_U2D : Fld := ⟨.secStat, 22, 1⟩
def secStat_LARD : Fld := ⟨.secStat, 23, 1⟩
def secStat_LCV : Fld := ⟨.secStat, 24, 1⟩
def secStat_RECERR : Fld := ⟨.secStat, 25, 1⟩
def u2dStat_ATT : Fld := ⟨.u2dStat, 0, 1⟩
def u2dStat_BPHIT : Fld := ⟨.u2dStat, 6, 2⟩
def u2dStat_ATTF : Fld := ⟨.u2dStat, 16, 1⟩
def u2dStat_HALTF : Fld := ⟨.u2dStat, 17, 1⟩
def u2dStat_STEPREF : Fld := ⟨.u2dStat, 18, 1⟩
def u2dStat_FRZDRV : Fld := ⟨.u2dStat, 19, 1⟩
def u2dStat_CRCERR : Fld := ⟨.u2dStat, 20, 1⟩
def u2dHalt_HALT : Fld := ⟨.u2dHalt, 0, 4⟩
def u2dCtxsel_CTX : Fld := ⟨.u2dCtxsel, 0, 4⟩
def dbgFrz_FRZ : Fld := ⟨.dbgFrz, 0, 11⟩
def u2dBp_PC : Fld := ⟨.u2dBp, 0, 17⟩
def u2dBp_MASK : Fld := ⟨.u2dBp, 24, 4⟩
def u2dBp_EN : Fld := ⟨.u2dBp, 31, 1⟩
def u2dTrcfg_EN : Fld := ⟨.u2dTrcfg, 0, 1⟩
def u2dTrcfg_STOP : Fld := ⟨.u2dTrcfg, 1, 1⟩
def u2dTrcfg_DISP : Fld := ⟨.u2dTrcfg, 2, 1⟩
def u2dTrcfg_FLT : Fld := ⟨.u2dTrcfg, 3, 1⟩
def u2dTrcfg_HRTH : Fld := ⟨.u2dTrcfg, 4, 1⟩
def u2dTrcfg_HALT : Fld := ⟨.u2dTrcfg, 5, 1⟩
def u2dTrstat_LOST : Fld := ⟨.u2dTrstat, 8, 8⟩

end F

end Sys2Proof.Machine
end

