-- ==== Sys2Proof/Syntax.lean ====
section
/-!
DEFINITION. The commands of the X648: one constructor per row of spec/opcode_table.json, in the order of its rows, with the
operands that the rule of the row gives it. Port, domain and address operands are those of 06 R185; engine operands name
the engine that reaches the instruction (12 R463).
-/

namespace Sys2Proof

/-- A value register of a recipe context, v0-v15 (12 R462). -/
abbrev Reg := Fin 16

/-- Errors that a memory word holds: its byte address, and a mask over the 39 bit positions of 10 R789. -/
abbrev Flip := Addr × BitVec 39

/-- An SPI frame (07 R238, R243): the whole bytes on SDI, the SCK edges beyond the last whole byte, whether the frame
starts before the outcome of the frame before it is final (07 R248), whether the X648 discards it (07 R255, code 14), and whether
that is because VDDIO falls during it (07 R264). -/
structure SpiFrame where
  sdi : List Byte
  odd : BitVec 3 := 0
  quick : Bool := false
  cut : Bool := false
  unpowered : Bool := false
  deriving DecidableEq, Repr

/-- The commands. -/
inductive Instr where
  /-- POWER_ON_RESET (03 R74). -/
  | powerOnReset
  /-- BROWN_OUT (03 R67). -/
  | brownOut
  /-- VBAT_BELOW_VRET (03 R64). -/
  | vbatBelowVret
  /-- RESETN_ASSERT (03 R75). -/
  | resetnAssert
  /-- RESETN_RELEASE (03 R71). -/
  | resetnRelease
  /-- DEVICE_WATCHDOG_RESET (03 R76). -/
  | deviceWatchdogReset
  /-- STARTUP_OVERDUE (03 R76). -/
  | startupOverdue
  /-- DWDT_HEARTBEAT (03 R76). -/
  | dwdtHeartbeat
  /-- HSEL_MEASUREMENT_DONE (02 R43: `raw` is HSELRAW). -/
  | hselMeasurementDone (raw : Byte)
  /-- FUSE_LOAD_DONE (03 R68). -/
  | fuseLoadDone
  /-- PLL_LOCK (03 R68). -/
  | pllLock
  /-- SRAM_INIT_DONE (10 R385). -/
  | sramInitDone
  /-- IMAGE_VERIFICATION_DONE (03 R69: `flips` are errors that the banks' words hold as they are read). -/
  | imageVerificationDone (flips : List Flip)
  /-- IMAGE_LOAD_DONE (10 R396). -/
  | imageLoadDone
  /-- RELEASE (03 R70: the level of TEST, and the whole microseconds since tick 0). -/
  | release (test : Bool) (usec : Word := 0)
  /-- VCC5_IN_REGULATION (03 R68). -/
  | vcc5InRegulation
  /-- VBAT_LOW_CHANGE (03 R91). -/
  | vbatLowChange (low : Bool)
  /-- VBAT_HIGH_CHANGE (03 R91). -/
  | vbatHighChange (high : Bool)
  /-- VCC5_UV_CHANGE (03 R67). -/
  | vcc5UvChange (ok : Bool)
  /-- AVDD_CHANGE (03 R91). -/
  | avddChange (ok : Bool)
  /-- VDDIO_LOSS (02 R49). -/
  | vddioLoss
  /-- VDDIO_GOOD (03 R91). -/
  | vddioGood
  /-- HEN_REQUEST (02 R48). -/
  | henRequest (low : Bool)
  /-- GPIO_EDGE (02 R52). -/
  | gpioEdge (n : Fin 6) (rising : Bool)
  /-- HOST_WATCHDOG_EXPIRY (03 R77). -/
  | hostWatchdogExpiry
  /-- HWDT_SVC_WRITE (03 R77). -/
  | hwdtSvcWrite (p : Port) (d : Dom) (w : Word)
  /-- HWDT_CFG_WRITE (03 R78). -/
  | hwdtCfgWrite (p : Port) (d : Dom) (w : Word)
  /-- DEEP_STANDBY (03 R82). -/
  | deepStandby (p : Port) (d : Dom)
  /-- RETENTION_STANDBY (03 R82). -/
  | retentionStandby (p : Port) (d : Dom)
  /-- NETWORK_WAKE_STANDBY (03 R82). -/
  | networkWakeStandby (p : Port) (d : Dom)
  /-- STANDBY_ENTRY (03 R83). -/
  | standbyEntry
  /-- STANDBY_ENTRY_TIMEOUT (03 R83). -/
  | standbyEntryTimeout
  /-- WAKE_PIN (03 R85: WAKE is recognised high, or is low again). -/
  | wakePin (high : Bool := true)
  /-- WAKE_TIMER_EXPIRY (03 R85). -/
  | wakeTimerExpiry
  /-- CSN_WAKE (03 R85). -/
  | csnWake
  /-- ENERGY_DETECT (03 R85: activity on the segment is recognised, or has ended). -/
  | energyDetect (on : Bool := true)
  /-- WAKE_COMPLETE (03 R86: the LFRC periods of the standby). -/
  | wakeComplete (periods : Word)
  /-- XTAL_QUALIFIED (04 R107). -/
  | xtalQualified
  /-- XTAL_QUALIFY_TIMEOUT (04 R107). -/
  | xtalQualifyTimeout
  /-- REFERENCE_SLEW_DONE (04 R108). -/
  | referenceSlewDone
  /-- CRYSTAL_MONITOR_FAIL (04 R110). -/
  | crystalMonitorFail
  /-- PLL_UNLOCK (04 R110). -/
  | pllUnlock
  /-- FPWM_STOP (04 R110). -/
  | fpwmStop
  /-- PLL_RELOCK (04 R116). -/
  | pllRelock
  /-- FREQUENCY_WINDOW_END (04 R110). -/
  | frequencyWindowEnd (count : BitVec 20)
  /-- CLOCK_GLITCH (04 R110). -/
  | clockGlitch
  /-- LFRC_FAIL (04 R110). -/
  | lfrcFail
  /-- POSTED_WRITE_EFFECT (04 R121). -/
  | postedWriteEffect (p : Port)
  /-- REGISTER_WRITE (06 R185). -/
  | registerWrite (p : Port) (d : Dom) (a : Addr) (w : Word)
  /-- SET_ALIAS_WRITE (06 R192: `a` is the register's address). -/
  | setAliasWrite (p : Port) (d : Dom) (a : Addr) (w : Word)
  /-- CLEAR_ALIAS_WRITE (06 R192). -/
  | clearAliasWrite (p : Port) (d : Dom) (a : Addr) (w : Word)
  /-- TOGGLE_ALIAS_WRITE (06 R192). -/
  | toggleAliasWrite (p : Port) (d : Dom) (a : Addr) (w : Word)
  /-- BIT_ALIAS_WRITE (06 R195). -/
  | bitAliasWrite (p : Port) (d : Dom) (a : Addr) (bit : Fin 32) (v : Bool)
  /-- RC_READ (06 R219). -/
  | rcRead (p : Port) (d : Dom) (a : Addr)
  /-- WIDE_LO_WRITE (06 R222). -/
  | wideLoWrite (p : Port) (d : Dom) (a : Addr) (w : Word)
  /-- BAKE_HOLD_WRITE (06 R201: BAKEx_CTL). -/
  | bakeHoldWrite (p : Port) (d : Dom) (x : Dom) (hold : Bool)
  /-- LOCK_SET (06 R214). -/
  | lockSet (p : Port) (d : Dom) (bits : BitVec 4)
  /-- SNAP_REQ (06 R220). -/
  | snapReq (p : Port) (d : Dom) (sel : BitVec 4)
  /-- PARITY_CHECK (06 R207: mismatches found in the active value and in the staged copy). -/
  | parityCheck (a : Addr) (bad badStaged : Bool)
  /-- TMR_VOTE (06 R211: the three copies of the register at `a`). -/
  | tmrVote (a : Addr) (c0 c1 c2 : Word)
  /-- DOMAIN_RESET (05 R157). -/
  | domainReset (p : Port) (d : Dom) (rst : BitVec 4)
  /-- DOMAIN_RESET_COMPLETE (05 R160). -/
  | domainResetComplete (x : Dom)
  /-- INFLIGHT_SLOT_GRANT (05 R154). -/
  | inflightSlotGrant (agent : Fin 19)
  /-- SLICE_BOUNDARY (11 R433). -/
  | sliceBoundary
  /-- LATCH_POINT (15 R568). -/
  | latchPoint
  /-- SPI_STATUS (07 R241). -/
  | spiStatus (f : SpiFrame)
  /-- SPI_WRITE (07 R250). -/
  | spiWrite (f : SpiFrame)
  /-- SPI_WRITEF (07 R241). -/
  | spiWritef (f : SpiFrame)
  /-- SPI_READ (07 R252: WAIT bytes before each start byte, at least one before the first). -/
  | spiRead (f : SpiFrame) (waits : List (Fin 49))
  /-- SESSION_OPEN (07 R257). -/
  | sessionOpen (p : Port) (d : Dom) (ksel : Fin 4)
  /-- SESSION_CHALLENGE_READY (07 R257). -/
  | sessionChallengeReady
  /-- SESSION_RESPONSE (07 R257). -/
  | sessionResponse (p : Port) (d : Dom) (w : Word)
  /-- SESSION_CLOSE (07 R260). -/
  | sessionClose (p : Port) (d : Dom)
  /-- SESSION_LOCKOUT_END (07 R259). -/
  | sessionLockoutEnd
  /-- SPI_COUNTER_CLEAR (07 R268). -/
  | spiCounterClear (p : Port) (d : Dom)
  /-- PHY_READY (08 R274). -/
  | phyReady
  /-- BEACON_RECEIVE (08 R301). -/
  | beaconReceive
  /-- BEACON_TRANSMIT (08 R275). -/
  | beaconTransmit
  /-- PLCA_BEACON_LOSS (08 R275). -/
  | plcaBeaconLoss
  /-- TRANSMIT_OPPORTUNITY (08 R276). -/
  | transmitOpportunity (collided : Bool)
  /-- EGRESS_ACK_TIMEOUT (08 R276). -/
  | egressAckTimeout (x : Dom)
  /-- FRAME_RECEIVE (08 R278: destination address to FCS; it stays in the receive buffer for now). -/
  | frameReceive (frame : List Byte) (held : Bool)
  /-- REGRD (08 R291: words that are executed now, 0 for all that remain). -/
  | regrd (k : BitVec 7)
  /-- REGWR (08 R294: as for regrd). -/
  | regwr (k : BitVec 7)
  /-- TRAY (08 R297). -/
  | tray
  /-- TIME (08 R303). -/
  | time
  /-- ACK (08 R296). -/
  | ack
  /-- EVENT_SEND (08 R296). -/
  | eventSend (x : Dom)
  /-- EVENT_RETRY (08 R296). -/
  | eventRetry (x : Dom)
  /-- EVENT_RENEW (08 R296). -/
  | eventRenew (x : Dom)
  /-- TIME_TRANSMIT (08 R302: the frame meets a collision (08 R276)). -/
  | timeTransmit (collided : Bool := false)
  /-- TIME_HOLDOVER (08 R304). -/
  | timeHoldover
  /-- NET_TFLOOR_WRITE (08 R290). -/
  | netTfloorWrite (p : Port) (d : Dom) (w : Word)
  /-- NET_COUNTER_CLEAR (08 R316). -/
  | netCounterClear (p : Port) (d : Dom)
  /-- RACK_PUSH (09 R333). -/
  | rackPush (p : Port) (d : Dom) (n : Fin 32) (w : Word)
  /-- RACK_POP (09 R336: the bits that have flipped in a word of the head descriptor in rack RAM (09 R330)). -/
  | rackPop (p : Port) (d : Dom) (n : Fin 32) (word : Fin 4 := 0) (flip : BitVec 39 := 0)
  /-- RACK_ENABLE (09 R328). -/
  | rackEnable (p : Port) (d : Dom) (n : Fin 32) (w : Word)
  /-- RACK_PART_WRITE (09 R328). -/
  | rackPartWrite (p : Port) (d : Dom) (n : Fin 32) (w : Word)
  /-- SEM_TAKE (09 R345). -/
  | semTake (p : Port) (d : Dom) (n : Fin 32)
  /-- SEM_GIVE (09 R344). -/
  | semGive (p : Port) (d : Dom) (n : Fin 32)
  /-- SEM_CONFIG_WRITE (09 R344). -/
  | semConfigWrite (p : Port) (d : Dom) (n : Fin 32) (w : Word)
  /-- COPY_EXECUTE (09 R341: words moved now, 0 all). -/
  | copyExecute (k : Fin 65)
  /-- WAIT_TIMEOUT (09 R347). -/
  | waitTimeout (agent : Fin 19)
  /-- DEADLOCK_SCAN (09 R350). -/
  | deadlockScan
  /-- FETCH_AHEAD_FILL_DONE (10 R372: the offer of context `c`). -/
  | fetchAheadFillDone (c : Fin 16)
  /-- ECC_WRITE_BACK (10 R375). -/
  | eccWriteBack (a : Addr)
  /-- CRUMB_SWEEP_READ (10 R377: `flip` is the errors the word has gathered since its last read). -/
  | crumbSweepRead (b : Fin 11) (flip : BitVec 39)
  /-- ROW_SPARE_COMPLETE (10 R382). -/
  | rowSpareComplete (b : Fin 11)
  /-- LARDER_WIPE_DONE (10 R388). -/
  | larderWipeDone
  /-- PROGRAM (10 R400). -/
  | program (p : Port) (d : Dom) (bank : Bool) (count : BitVec 7)
  /-- PROGRAM_DONE (10 R400). -/
  | programDone
  /-- VERIFY (10 R399). -/
  | verify (p : Port) (d : Dom) (bank : Bool)
  /-- VERIFY_DONE (10 R400: as for imageVerificationDone). -/
  | verifyDone (flips : List Flip)
  /-- SWAP (10 R402). -/
  | swap (p : Port) (d : Dom) (bank : Bool)
  /-- INVALIDATE (10 R399). -/
  | invalidate (p : Port) (d : Dom) (bank : Bool)
  /-- CANCEL (10 R399). -/
  | cancel (p : Port) (d : Dom)
  /-- ICACHE_FILL (11 R422: a parity error made the line be filled (11 R424)). -/
  | icacheFill (e : Fin 4) (parity : Bool)
  /-- ICACHE_INVALIDATE (11 R423). -/
  | icacheInvalidate (p : Port) (d : Dom) (e : Fin 4) (excstop : Bool)
  /-- QUANTUM_END (11 R428). -/
  | quantumEnd (e : Fin 4)
  /-- DISPATCH_ISSUE (11 R443). -/
  | dispatchIssue
  /-- RECIPE_START (11 R420). -/
  | recipeStart (c : Fin 16)
  /-- SOFTWARE_TRIGGER (11 R441). -/
  | softwareTrigger (p : Port) (d : Dom) (w : Word)
  /-- TIME_MATCH (11 R442). -/
  | timeMatch (x : Dom)
  /-- TIME_MATCH_ARM (11 R442). -/
  | timeMatchArm (p : Port) (d : Dom) (x : Dom) (w : Word)
  /-- KILL (11 R445). -/
  | kill (p : Port) (d : Dom) (e : Fin 4) (x : Dom)
  /-- ENDSLICE (11 R445). -/
  | endslice (p : Port) (d : Dom) (e : Fin 4) (x : Dom)
  /-- RESUME (11 R445). -/
  | resume (p : Port) (d : Dom) (e : Fin 4) (x : Dom)
  /-- FLUSH (11 R445). -/
  | flush (p : Port) (d : Dom) (e : Fin 4) (x : Dom)
  /-- ADD (12 R471). -/
  | add (e : Fin 4) (rd ra rb : Reg)
  /-- SUB (12 R471). -/
  | sub (e : Fin 4) (rd ra rb : Reg)
  /-- AND (12 R470). -/
  | and (e : Fin 4) (rd ra rb : Reg)
  /-- OR (12 R470). -/
  | or (e : Fin 4) (rd ra rb : Reg)
  /-- XOR (12 R470). -/
  | xor (e : Fin 4) (rd ra rb : Reg)
  /-- SHL (12 R472). -/
  | shl (e : Fin 4) (rd ra rb : Reg)
  /-- SHR (12 R472). -/
  | shr (e : Fin 4) (rd ra rb : Reg)
  /-- SAR (12 R472). -/
  | sar (e : Fin 4) (rd ra rb : Reg)
  /-- MUL (12 R473). -/
  | mul (e : Fin 4) (rd ra rb : Reg)
  /-- MULQ (12 R473). -/
  | mulq (e : Fin 4) (rd ra rb : Reg)
  /-- MIN (12 R470). -/
  | min (e : Fin 4) (rd ra rb : Reg)
  /-- MAX (12 R470). -/
  | max (e : Fin 4) (rd ra rb : Reg)
  /-- ADDS (12 R473). -/
  | adds (e : Fin 4) (rd ra rb : Reg)
  /-- SUBS (12 R473). -/
  | subs (e : Fin 4) (rd ra rb : Reg)
  /-- CMP (12 R471). -/
  | cmp (e : Fin 4) (ra rb : Reg)
  /-- ADDI (12 R471). -/
  | addi (e : Fin 4) (rd ra : Reg) (imm : BitVec 16)
  /-- ANDI (12 R470). -/
  | andi (e : Fin 4) (rd ra : Reg) (imm : BitVec 16)
  /-- ORI (12 R470). -/
  | ori (e : Fin 4) (rd ra : Reg) (imm : BitVec 16)
  /-- XORI (12 R470). -/
  | xori (e : Fin 4) (rd ra : Reg) (imm : BitVec 16)
  /-- SHLI (12 R472). -/
  | shli (e : Fin 4) (rd ra : Reg) (imm : BitVec 5)
  /-- SHRI (12 R472). -/
  | shri (e : Fin 4) (rd ra : Reg) (imm : BitVec 5)
  /-- SARI (12 R472). -/
  | sari (e : Fin 4) (rd ra : Reg) (imm : BitVec 5)
  /-- MOVI (12 R470). -/
  | movi (e : Fin 4) (rd : Reg) (imm : BitVec 16)
  /-- MOVHI (12 R470). -/
  | movhi (e : Fin 4) (rd : Reg) (imm : BitVec 16)
  /-- CMPI (12 R471). -/
  | cmpi (e : Fin 4) (ra : Reg) (imm : BitVec 16)
  /-- LDW (12 R477). -/
  | ldw (e : Fin 4) (rd ra : Reg) (imm : BitVec 16)
  /-- LDH (12 R477). -/
  | ldh (e : Fin 4) (rd ra : Reg) (imm : BitVec 16)
  /-- LDB (12 R477). -/
  | ldb (e : Fin 4) (rd ra : Reg) (imm : BitVec 16)
  /-- STW (12 R477). -/
  | stw (e : Fin 4) (rd ra : Reg) (imm : BitVec 16)
  /-- STH (12 R477). -/
  | sth (e : Fin 4) (rd ra : Reg) (imm : BitVec 16)
  /-- STB (12 R477). -/
  | stb (e : Fin 4) (rd ra : Reg) (imm : BitVec 16)
  /-- QUOTA_STALL_TIMEOUT (12 R478). -/
  | quotaStallTimeout (c : Fin 16)
  /-- B (12 R470). -/
  | b (e : Fin 4) (cond : BitVec 4) (ofs : BitVec 20)
  /-- CALL (12 R470). -/
  | call (e : Fin 4) (ofs : BitVec 20)
  /-- JR (12 R470). -/
  | jr (e : Fin 4) (ra : Reg)
  /-- CALLR (12 R470). -/
  | callr (e : Fin 4) (ra : Reg)
  /-- LOOP (12 R474). -/
  | loop (e : Fin 4) (rd : Reg) (imm : BitVec 16)
  /-- PXR (12 R484). -/
  | pxr (e : Fin 4) (rd ra : Reg)
  /-- PXW (12 R484). -/
  | pxw (e : Fin 4) (rd ra : Reg)
  /-- FADE (12 R484). -/
  | fade (e : Fin 4) (rd ra rb : Reg)
  /-- BLEND (12 R484). -/
  | blend (e : Fin 4) (rd ra rb : Reg)
  /-- LUT (12 R484). -/
  | lut (e : Fin 4) (rd ra : Reg)
  /-- PUSH (12 R489). -/
  | push (e : Fin 4) (rd : Reg) (idx : Fin 32) (w : Bool) (tmo : BitVec 14)
  /-- POP (12 R490). -/
  | pop (e : Fin 4) (rd : Reg) (idx : Fin 32) (w : Bool) (tmo : BitVec 14)
  /-- TAKE (12 R491). -/
  | take (e : Fin 4) (idx : Fin 32) (w : Bool) (tmo : BitVec 14)
  /-- GIVE (12 R491). -/
  | give (e : Fin 4) (idx : Fin 32)
  /-- WAITEV (12 R492). -/
  | waitev (e : Fin 4) (rd : Reg) (kind : BitVec 2) (sel : BitVec 7) (tmo : BitVec 11)
  /-- WAITEV_TIMEOUT (12 R492). -/
  | waitevTimeout (c : Fin 16)
  /-- SLICEEND (12 R493). -/
  | sliceend (e : Fin 4) (ra : Reg) (rsel : Bool) (t : BitVec 8)
  /-- END (12 R494). -/
  | endRecipe (e : Fin 4)
  /-- TRAP (12 R494). -/
  | trap (e : Fin 4)
  /-- NOP (12 R470). -/
  | nop (e : Fin 4)
  /-- RDS (12 R495). -/
  | rds (e : Fin 4) (rd : Reg) (sel : BitVec 4)
  /-- FENCE (12 R494). -/
  | fence (e : Fin 4)
  /-- PWM_PERIOD_START (13 R504: `len` is the length of the period that ends, in fine steps). -/
  | pwmPeriodStart (n : Fin 6) (len : BitVec 21)
  /-- PWM_MID_POINT (13 R505). -/
  | pwmMidPoint (n : Fin 6)
  /-- PWM_COMPARE (13 R502). -/
  | pwmCompare (n : Fin 6) (rise : Bool)
  /-- DEAD_TIME_END (13 R509). -/
  | deadTimeEnd (n : Fin 6) (main : Bool)
  /-- CMP_CHANGE (13 R503: `c` is the coarse count). -/
  | cmpChange (n : Fin 6) (asserted : Bool) (c : BitVec 16)
  /-- BLANKING_CLOSE (13 R511). -/
  | blankingClose (n : Fin 6) (c : BitVec 16)
  /-- TRIPN_TRIP (13 R513: the position of each generator). -/
  | tripnTrip (low : Bool) (pos : Vector (BitVec 21) 6)
  /-- CURRENT_LIMIT_TRIP (14 R539). -/
  | currentLimitTrip (n : Fin 6) (asserted : Bool) (pos : BitVec 21)
  /-- OVP_TRIP (14 R539). -/
  | ovpTrip (n : Fin 6) (asserted : Bool) (pos : BitVec 21)
  /-- TRG_EVENT (13 R516). -/
  | trgEvent (n : Fin 6)
  /-- SYNC_PULSE (13 R517). -/
  | syncPulse (n : Fin 6) (len : BitVec 21)
  /-- PROOF_CYCLE_DONE (13 R519). -/
  | proofCycleDone (n : Fin 6) (line mono : Bool) (span : BitVec 6)
  /-- COARSE_ENTRY (13 R521). -/
  | coarseEntry (n : Fin 6)
  /-- SUPPLY_MONITOR_SAMPLE (14 R537). -/
  | supplyMonitorSample (vbatMv : BitVec 16)
  /-- LOOP_UPDATE (14 R541). -/
  | loopUpdate (i : Fin 6)
  /-- DIM_PERIOD_EDGE (14 R547). -/
  | dimPeriodEdge (i : Fin 6)
  /-- PIXEL_COUNTER_WRAP (15 R573). -/
  | pixelCounterWrap (i : Fin 6)
  /-- BYPASS_EDGE (15 R574). -/
  | bypassEdge (i : Fin 6)
  /-- PIXEL_OPEN_DETECT (15 R576). -/
  | pixelOpenDetect (i : Fin 6) (k : Fin 16)
  /-- PIXEL_SHORT_SAMPLE (15 R577). -/
  | pixelShortSample (i : Fin 6) (k : Fin 16) (low : Bool)
  /-- PIXEL_EVENT (17 R657). -/
  | pixelEvent (i : Fin 6)
  /-- SCAN_FRAME_START (15 R579). -/
  | scanFrameStart
  /-- SCAN_SLOT_START (15 R580). -/
  | scanSlotStart
  /-- SCAN_PHASE_END (15 R580). -/
  | scanPhaseEnd
  /-- COLUMN_SINK_OFF (15 R581). -/
  | columnSinkOff (c : Fin 24)
  /-- HEADROOM_SAMPLE (15 R589). -/
  | headroomSample (c : Fin 24) (mv : BitVec 16)
  /-- ROW_OVERCURRENT (15 R589). -/
  | rowOvercurrent
  /-- FSYNC_EDGE (15 R585; 02 R59: a rising edge, or a falling one). -/
  | fsyncEdge (rising : Bool := true)
  /-- FSYNC_TIMEOUT (15 R584). -/
  | fsyncTimeout
  /-- FSYNC_OUTPUT_PULSE_END (15 R588). -/
  | fsyncOutputPulseEnd
  /-- TRIGIN_EDGE (16 R612). -/
  | triginEdge (rising : Bool)
  /-- INJECTED_REQUEST (16 R611). -/
  | injectedRequest (x : Fin 2) (j : Fin 8)
  /-- ADC_SOFTWARE_TRIGGER (16 R645). -/
  | adcSoftwareTrigger (p : Port) (d : Dom) (x : Fin 2) (w : Word)
  /-- CONVERSION_START (16 R617). -/
  | conversionStart (x : Fin 2)
  /-- CONVERSION_END (16 R619). -/
  | conversionEnd (x : Fin 2) (raw : BitVec 12)
  /-- REGULAR_DELAY_END (16 R613). -/
  | regularDelayEnd (x : Fin 2)
  /-- ADC_POWER_DOWN (16 R618). -/
  | adcPowerDown (x : Fin 2)
  /-- ADC_WAKE_UP (16 R618). -/
  | adcWakeUp (x : Fin 2)
  /-- CAL (16 R625). -/
  | cal (p : Port) (d : Dom) (x : Fin 2) (park : Bool)
  /-- ADC_CALIBRATION_DONE (16 R625). -/
  | adcCalibrationDone (x : Fin 2) (ofs : BitVec 16) (gain : BitVec 17)
  /-- RESTORE (16 R633). -/
  | restore (p : Port) (d : Dom) (x : Fin 2)
  /-- FAIL (16 R633). -/
  | fail (p : Port) (d : Dom) (x : Fin 2)
  /-- SHARED_CONVERSION_DUE (16 R628). -/
  | sharedConversionDue
  /-- SHARED_CONVERSION_SKIP (16 R628). -/
  | sharedConversionSkip
  /-- ENERGY_ACCUMULATE (17 R668). -/
  | energyAccumulate
  /-- TLM_COUNTER_LOAD (17 R669). -/
  | tlmCounterLoad (p : Port) (d : Dom) (w : Word)
  /-- DIE_HOT (18 R683). -/
  | dieHot (hot : Bool)
  /-- THERMAL_SHUTDOWN (18 R684). -/
  | thermalShutdown
  /-- THERMAL_SHUTDOWN_END (18 R684). -/
  | thermalShutdownEnd
  /-- FAULT_CLEAR (18 R686). -/
  | faultClear (p : Port) (d : Dom) (k : Fin 4) (w : Word)
  /-- DOMAIN_RELEASE (18 R690). -/
  | domainRelease (p : Port) (d : Dom) (rel : BitVec 4)
  /-- ENTER (18 R692). -/
  | enter (p : Port) (d : Dom) (preset : Fin 8)
  /-- EXIT (18 R702). -/
  | exit (p : Port) (d : Dom)
  /-- LOAD (19 R723). -/
  | load (p : Port) (d : Dom) (slot : Fin 4) (unwrap : Bool) (wsel : Fin 4)
  /-- REVOKE (19 R726). -/
  | revoke (p : Port) (d : Dom) (slot : Fin 4)
  /-- KEY_COMMAND_DONE (19 R725). -/
  | keyCommandDone
  /-- LC_CHANGE_REQUEST (19 R729). -/
  | lcChangeRequest (p : Port) (d : Dom) (target : BitVec 3) (asel : Fin 4)
  /-- LC_CHALLENGE_READY (19 R729). -/
  | lcChallengeReady
  /-- LC_RESPONSE (19 R729). -/
  | lcResponse (p : Port) (d : Dom) (w : Word)
  /-- LC_CHANGE_DONE (19 R730). -/
  | lcChangeDone
  /-- LC_LOCKOUT_END (19 R729). -/
  | lcLockoutEnd
  /-- VDD_GLITCH (19 R734). -/
  | vddGlitch
  /-- ATTACH (20 R753: the ADDR, DATA and CRC of the request). -/
  | attach (a : Addr) (w : Word) (crc : Byte)
  /-- DETACH (20 R754). -/
  | detach (a : Addr) (w : Word) (crc : Byte)
  /-- U2D_READ (20 R752). -/
  | u2dRead (a : Addr) (w : Word) (crc : Byte)
  /-- U2D_WRITE (20 R752). -/
  | u2dWrite (a : Addr) (w : Word) (crc : Byte)
  /-- U2D_STATUS (20 R750). -/
  | u2dStatus (a : Addr) (w : Word) (crc : Byte)
  /-- LINE_RESET (20 R749). -/
  | lineReset
  /-- ENGINE_HALT (20 R755). -/
  | engineHalt (mask : BitVec 4)
  /-- ENGINE_STEP (20 R756). -/
  | engineStep (c : Fin 16)
  /-- BREAKPOINT_HIT (20 R758). -/
  | breakpointHit (e : Fin 4)
  /-- TRACE_POP (20 R761). -/
  | tracePop
  /-- LFRC_STABLE (03 R68). -/
  | lfrcStable
  /-- VDD11_AVDD_IN_REGULATION (03 R68). -/
  | vdd11AvddInRegulation
  /-- HFRC_STABLE (03 R68). -/
  | hfrcStable
  /-- VREF_SETTLED (03 R68). -/
  | vrefSettled
  /-- BOOTSTRAP_LOCKOUT (02 R39). -/
  | bootstrapLockout (n : Fin 6) (low : Bool)
  /-- GPIO_SLICE_PULSE_END (02 R51). -/
  | gpioSlicePulseEnd
  /-- WAITEV_TIME_REACHED (12 R492). -/
  | waitevTimeReached (c : Fin 16)
  /-- SHADOW_LOAD_DONE (10 R402). -/
  | shadowLoadDone
  /-- ILLEGAL_INSTRUCTION (12 R467). -/
  | illegalInstruction (e : Fin 4)
  /-- PROOF_INTERVAL_ELAPSED (13 R520). -/
  | proofIntervalElapsed (n : Fin 6)
  deriving DecidableEq, Repr

end Sys2Proof
end

