-- ==== Sys2Proof/Machine/State.lean ====
section
/-!
DEFINITION. The state of the X648: the queue of waiting commands, device time, memory, the register file and every
piece of state the chapters of the spec give their blocks; the faults and refusals of the model; the state after reset.
-/

namespace Sys2Proof.Machine

/-- Reasons a command stops with a fault. The spec gives the X648 no condition that stops it, so none is raised. -/
inductive Fault where
  /-- Never raised: the X648 runs on after every fault of the spec, which are records of the fault manager. Safe. -/
  | none
  deriving DecidableEq, Repr

/-- Reasons a command is refused. -/
inductive Refusal where
  /-- Raised by the dispatch arm of a command that has no meaning yet. Safe: nothing is claimed of it. -/
  | notModelled (mnemonic : String)
  deriving DecidableEq, Repr

/-! ### Registers -/

/-- A staged copy of one field that differs from nothing yet baked (06 R198): the register's address, the field's place
and bake class, the value, the port and the charged domain of the last write; `blk` for an update that a block made to its
own staged copy (06 R203); the writes of this bake interval, as port code, bits carried and value (05 R162); of class K, the port whose
burst or packet bakes it at its end, and whether that one carried it (00 R14; 06 R201). -/
structure Staged where
  addr : Nat
  lo : Nat
  w : Nat
  cls : Nat
  val : Nat
  port : Port
  dom : Nat
  blk : Bool
  writes : List (Nat × Nat × Nat)
  await : Option (Port × Bool)
  deriving DecidableEq, Repr

/-- A register write of one port: the register, the bits it keeps, the bits it then inverts, the bits it carries and the value it
gave them (06 R193). -/
structure CycAcc where
  port : Nat
  addr : Nat
  keep : Nat
  flip : Nat
  mask : Nat
  val : Nat
  deriving DecidableEq, Repr

/-- The register writes of the present fSYS cycle (05 R161): its tick, the ports that have written, their writes by port, the words they
found, and LOCK_CTL as the cycle began (06 R214). -/
structure Cyc where
  tick : Nat := 0
  seen : List Nat := []
  accs : List CycAcc := []
  base : List (Nat × Nat) := []
  locks : Nat := 0
  deriving DecidableEq, Repr

/-- A posted write waiting in a port's buffer (04 R120): its port, domain (4 = none, U2D), address and data. -/
structure Posted where
  port : Port
  dom : Nat
  addr : Nat
  data : Word
  deriving DecidableEq, Repr

/-- The snapshot bank of a port and domain (06 R220). -/
structure Snap where
  bank : Nat
  sel : Nat
  valid : Bool
  hi : Word
  lo : Word
  deriving DecidableEq, Repr

/-- The outcome of the last access of a port, as the port reports it (06 R186). -/
structure Access where
  code : Nat := 0
  data : Word := 0
  deriving DecidableEq, Repr

/-! ### Power, clocks, pins (02, 03, 04) -/

/-- The standby states (03 R84). -/
inductive Standby where
  | deep | retention | network
  deriving DecidableEq, Repr

/-- What the power and reset logic is doing. -/
inductive Mode where
  | off                  -- VBAT below VBOR: nothing runs
  | resetLow             -- a recognised RESETN low, or the 100 us the X648 drives RESETN low
  | startup              -- the start-up sequence (03 R68)
  | run                  -- from release on (03 R70)
  | standby (k : Standby)
  | waking (k : Standby) -- the wake delay (03 R86)
  deriving DecidableEq, Repr

/-- Power, reset and start-up state. -/
structure Pwr where
  mode : Mode := .startup
  /-- The start-up sequence runs on the warm path (03 R71). -/
  warm : Bool := false
  -- steps of the start-up sequence that have come about (03 R68)
  lfrc : Bool := false
  hsel : Bool := false
  rails : Bool := false
  hfrc : Bool := false
  fuses : Bool := false
  pll : Bool := false
  sram : Bool := false
  vref : Bool := false
  verified : Bool := false
  loaded : Bool := false
  /-- The self-calibrations of ADCA and ADCB that have ended in this start-up sequence. -/
  calA : Bool := false
  calB : Bool := false
  /-- VCC5OK has been 1 since release (03 R91). -/
  vcc5Seen : Bool := false
  /-- A standby entry in step 1 of 03 R83, and the state asked for. -/
  entry : Option Standby := none
  /-- Host watchdog: counting, timeout in ms of this count, fSYS tick at its start (03 R77). -/
  hwRun : Bool := false
  hwMs : Nat := 0
  hwStart : Nat := 0
  /-- Host-watchdog ticks already counted when its count was held in standby (03 R88). -/
  hwHeld : Nat := 0
  /-- Device watchdog: fSYS tick of the last heartbeat or of release (03 R76). -/
  dwStart : Nat := 0
  /-- fSYS tick of the last valid service: it wins over an expiry in its LFRC period (03 R92). -/
  hwSvc : Option Nat := none
  /-- Wake sources latched for PWR_WAKESRC while the wake delay runs (bit order of 03 R98). -/
  wake : Nat := 0
  /-- PWR_STAT at the entry into standby, whose levels hold again after the wake (03 R63, R86). -/
  levels : Nat := 0
  /-- Flags of PWR_STAT, by their bits, that wait until fSYS runs again (03 R83, R91; 04 R113). -/
  flags : Nat := 0
  /-- The LFRC has failed in the present standby: only the WAKE pin ends it (04 R129). -/
  lfrcDead : Bool := false
  deriving DecidableEq, Repr

/-- Clock state (04). -/
structure Clk where
  /-- fSYS runs: the PLL is in lock (04 R116). -/
  fsys : Bool := false
  /-- Hearth and clock-stop release: gates Hi-Z, rows and sinks off until the slice boundary after relock (04 R116). -/
  release : Bool := false
  /-- The release ends at the next slice boundary: the PLL has relocked. -/
  relocked : Bool := false
  /-- The crystal is being qualified (04 R107). -/
  qual : Bool := false
  /-- Faults latched in the always-on domain while fSYS is stopped, in the order detected, with their channels (04 R113, R116;
  18 R691). -/
  latched : List (Nat × Nat) := []
  deriving DecidableEq, Repr

/-- What the X648 sees and drives at its pins (02 R29, R36). -/
structure Pins where
  hen : Bool := true
  tripn : Bool := true
  trigin : Bool := false
  fsync : Bool := false
  wake : Bool := false
  /-- CSN is low outside a frame command (03 R85), and there is activity on the segment. -/
  csnLow : Bool := false
  energy : Bool := false
  gpio : Nat := 0
  test : Bool := false
  vddio : Bool := false
  /-- The X648 drives RESETN low (03 R68, R76). -/
  resetnLow : Bool := true
  /-- INTA and INTB are in their routed state (03 R70). -/
  intRouted : Bool := false
  /-- The VCC5 regulator is enabled. -/
  vcc5On : Bool := false
  /-- The HSEL pull-up is connected (02 R43). -/
  hselPull : Bool := false
  /-- A GPIO with FUNC = SLICE asserts (02 R51). -/
  slicePulse : Bool := false
  /-- The FSYNC output pulse is high (15 R588). -/
  fsyncOut : Bool := false
  /-- A factory test was entered (02 R50). -/
  factory : Bool := false
  deriving DecidableEq, Repr

/-! ### Faults and hearth (18) -/

/-- Fault-manager state beside its registers. -/
structure Flt where
  /-- Reactions in progress: fault number and a mask of reactions (bit k for REACT k), until the bit is cleared (18 R686). -/
  react : List (Nat × Nat) := []
  /-- Channels each fault with REACT 1 contains: fault number and a mask, bit s for STRs, bit 6 for the grid (18 R688). -/
  chans : List (Nat × Nat) := []
  /-- Level conditions that hold now, by fault number (18 R683, latch L). -/
  level : List Nat := []
  /-- The group that the last TJHOT (83) and VFRANGE (84) were raised for (18 R683). -/
  grp : List (Nat × Nat) := []
  /-- Channels that restart at the next slice boundary (18 R688). -/
  restart : Nat := 0
  /-- Contained domains (18 R689), and domains whose outputs are held dark at the end of a ramp. -/
  dcont : Nat := 0
  dark : Nat := 0
  /-- Domains whose release ramp starts at the next slice boundary (18 R690). -/
  release : Nat := 0
  /-- The die is hot (18 R683, FLT15); thermal shutdown holds (18 R684). -/
  hot : Bool := false
  thermal : Bool := false
  deriving DecidableEq, Repr

/-- A ramp of the outputs of one domain: to dark, or from the values shown to those that its trays and registers give
(18 R689, R690; 05 R159), with the start value of each quantity (see `Hearth`). -/
structure DomRamp where
  toDark : Bool
  k : Nat
  n : Nat
  v0 : List (Nat × Nat)
  deriving DecidableEq, Repr

/-- Hearth-mode state beside its registers (18 R692-R702). Ramped quantities have the keys: pixel word places 16 s + k for
Ps.k and 96 + 24 r + c for Gr.c, strings 480 + s, columns 486 + c; an unlisted quantity is 0. -/
structure Hearth where
  /-- Causes that became active since hearth mode was last off: bit 0 F3, 1 WDT, 2 HEN, 3 CMD. -/
  since : Nat := 0
  /-- The CMD cause, and the preset index of the last ENTER write. -/
  cmd : Bool := false
  cmdPreset : Nat := 0
  /-- Hearth entry is due at the next slice boundary. -/
  due : Bool := false
  /-- An accepted EXIT takes effect at the next slice boundary. -/
  exitDue : Bool := false
  /-- A fresh entry ramp is due at the next slice boundary (18 R704, 04 R116). -/
  again : Bool := false
  /-- A host-watchdog expiry that came while hearth mode was on takes no part in the preset choice (03 R92). -/
  wdtLate : Bool := false
  /-- Start and target values of each quantity, and the values shown now. -/
  v0 : List (Nat × Nat) := []
  v1 : List (Nat × Nat) := []
  shown : List (Nat × Nat) := []
  /-- Strings that hearth mode supplies, and the topology of each; the stacks that were driven as it was entered. -/
  strs : Nat := 0
  fed : Nat := 0
  topo : List (Nat × Nat) := []
  deriving DecidableEq, Repr

/-! ### Power PWM generators (13) and string channels (14) -/

/-- A delay line (13 R519-R521). -/
structure Line where
  ready : Bool := false
  /-- Consecutive passes since the line was taken out of service. -/
  passes : Nat := 0
  /-- In a proof cycle. -/
  proving : Bool := false
  deriving DecidableEq, Repr

/-- State of one generator beside its registers. -/
structure Pwm where
  run : Bool := false
  /-- RUN has baked to 1 and the first SYNC is awaited (13 R518). -/
  waitSync : Bool := false
  /-- The main-switch signal M, and its edges in this period; the on-time before this period of an interval that began
  earlier; the position of the rising edge in this period. -/
  m : Bool := false
  rose : Bool := false
  fell : Bool := false
  onAcc : Nat := 0
  riseAt : Nat := 0
  /-- Levels of the main and the synchronous switch, and their delayed rising edges that are pending (13 R509). -/
  mainHi : Bool := false
  syncHi : Bool := false
  mainPend : Bool := false
  syncPend : Bool := false
  /-- Coarse count last reported, and the period count for TRG (13 R516). -/
  cnt : Nat := 0
  pcount : Nat := 0
  midDone : Bool := false
  /-- The period and the SYNC and TRG settings in force since the period start (13 R505). -/
  per0 : Nat := 0
  phase0 : Nat := 0
  trgOn : Bool := false
  syncSent : Bool := false
  trgSent : Bool := false
  /-- Comparator levels: CMP, current limit, OVP (14 R538, R539); blanking open (13 R511). -/
  cmp : Bool := false
  ilim : Bool := false
  ovp : Bool := false
  blank : Bool := false
  /-- Latched trip sources whose TRIP has not been cleared since (13 R514): 1 TRIPN, 2 current limit, 4 OVP. -/
  latched : Nat := 0
  /-- Current-limit trips: one in this period, periods in a row with one (14 R550). -/
  ilimNow : Bool := false
  ilimRow : Nat := 0
  /-- The bootstrap lockout holds (02 R39). -/
  bstLow : Bool := false
  l0 : Line := {}
  l1 : Line := {}
  /-- The INT interval since the last swap has passed (13 R520). -/
  intDone : Bool := false
  /-- An output of a used sample of this period has reached the staged copy; the sample is excused by 14 R540. -/
  updDone : Bool := false
  excused : Bool := false
  /-- The last trip of this period: fSYS tick and position (13 R528; 14 R552). -/
  tripAt : Option (Nat × Nat) := none
  /-- A trip has ended the on-interval in progress (13 R515, R534). -/
  tonDone : Bool := false
  deriving DecidableEq, Repr

/-- State of one string channel beside its registers. -/
structure Str where
  /-- EN is active and its TOPO check passed (14 R535). -/
  enOk : Bool := false
  /-- A used sample waits for its computation (14 R540, R543); its period has ended, so that its duty comes late (04 R127). -/
  sample : Option Nat := none
  sampleOld : Bool := false
  /-- Integrator (16 fraction bits), last error, feed-forward and the lit count it was formed with (14 R541, R545). -/
  upi : Int := 0
  eprev : Int := 0
  uff : Nat := 0
  nff : Nat := 16
  /-- Samples or results in a row of the open and short conditions (14 R550). -/
  openRow : Nat := 0
  shortRow : Nat := 0
  /-- Mode handover: the seed, and the updates slewed so far; `judge` before the first output (14 R549). -/
  judge : Bool := false
  slewK : Nat := 0
  slewS : Nat := 0
  slewEdge : Bool := false
  /-- Fallback: entered on loop overrun; periods in a row that would have been good (14 R551). -/
  fbOver : Bool := false
  fbGood : Nat := 0
  /-- String dimming in an on part (14 R547); this period has an off part; it is the first after one that had. -/
  dimOn : Bool := true
  dimOff : Bool := false
  dimFirst : Bool := false
  /-- The lit count changed in this period (14 R540); a count has been delivered (15 R575). -/
  litChg : Bool := false
  litSeen : Bool := false
  /-- A lockout has ended; the enable may become active at the next slice boundary (14 R550). -/
  unlock : Bool := false
  /-- |e| of the last used sample. -/
  eAbs : Nat := 0
  deriving DecidableEq, Repr

/-! ### Pixels and the scan grid (15) -/

/-- A placed or requested switch edge of a stack: fSYS tick, pixel, opening. -/
structure Edge where
  t : Nat
  k : Nat
  opening : Bool
  deriving DecidableEq, Repr

/-- State of one bypass stack beside its registers. -/
structure Byp where
  /-- Mask of the open switches. -/
  sw : Nat := 0xFFFF
  /-- Values latched at the last latch point, and whether they wait for the first wrap: effective duties, pixel period,
  starts (15 R568, R573). -/
  wait : Bool := false
  latD : List Nat := []
  latPer : Nat := 0
  latPh : List Nat := []
  /-- Values in use. -/
  useD : List Nat := []
  per : Nat := 0
  usePh : List Nat := []
  /-- fSYS tick at which the counter was last 0. -/
  c0 : Nat := 0
  /-- Placed edges in order, the last two placed times, the deferral of each pixel's opening, closings of intervals that
  run across the next wrap (15 R573, R574). -/
  edges : List Edge := []
  p1 : Option Nat := none
  p2 : Option Nat := none
  /-- Placed times of the last two edges reached, the later first. -/
  x1 : Option Nat := none
  x2 : Option Nat := none
  carry : List (Nat × Nat) := []
  late : List Edge := []
  /-- Low samples in a row of each pixel (15 R577). -/
  low : List (Nat × Nat) := []
  deriving DecidableEq, Repr

/-- The live tray of an output group: its tray number and the recorded first pixel word (15 R565; 11 R434). -/
structure Live where
  tray : Nat
  base : Nat
  /-- The fill that a tray SRAM tray is shown from: the tick and context of its offer (10 R372). -/
  fill : Nat := 0
  deriving DecidableEq, Repr

/-- Scan-grid state beside its registers. -/
structure Grid where
  /-- EN is active and the first edge or frame time is awaited (15 R584). -/
  starting : Bool := false
  /-- Start of the present frame and its end, in fSYS ticks (15 R579). -/
  start : Nat := 0
  stop : Nat := 0
  /-- Free-running: tick and number of frames of the rate in use, that rate, and that the frame before ran free (15 R584). -/
  t0 : Nat := 0
  m : Nat := 0
  fr : Nat := 0
  free : Bool := false
  /-- Rows and columns out of service when the frame began (15 R589). -/
  rowOut : Nat := 0
  colOut : Nat := 0
  /-- Phase of the slot: 0 discharge, 1 precharge, 2 drive, 3 blank. -/
  phase : Nat := 3
  /-- Scaled codes of the columns lit in this slot, the sinks that are on, the row that is on. -/
  codes : List (Nat × Nat) := []
  sinks : Nat := 0
  rowOn : Bool := false
  /-- A RESYNC slip: slot 0 starts at the next slot boundary, its frame ending at this tick (15 R586). -/
  resync : Option Nat := none
  /-- End of the frame after the present one, set by an early edge or a FINISH slip. -/
  next : Option Nat := none
  /-- Tick of the last edge, and good ones in a row while lock is lost (15 R587). -/
  last : Option Nat := none
  good : Nat := 0
  /-- Duties and column codes of the frame in use by pixel place, and new duties waiting for the frame boundary (15 R583). -/
  use : List (Nat × Nat) := []
  cols : List Nat := []
  lat : Option (List (Nat × Nat)) := none
  /-- Headroom samples of this frame: pixel, and 0 normal, 1 low, 2 high (15 R589). -/
  samples : List (Nat × Nat) := []
  /-- Frames in a row: samples of one kind by pixel (8 x kind + count), row over-current, rows all low, columns all low,
  columns all high. -/
  cells : List (Nat × Nat) := []
  late : List (Nat × Nat) := []
  overNow : Nat := 0
  rowLow : List (Nat × Nat) := []
  colLow : List (Nat × Nat) := []
  colHigh : List (Nat × Nat) := []
  deriving DecidableEq, Repr

/-- Pixel-path state shared by the groups. -/
structure Px where
  /-- Live tray of each group, stacks 0-5 and the grid 6 (15 R570; 11 R435). -/
  live : List (Nat × Live) := []
  /-- Effective duty each pixel has by the last latch point. -/
  d : List (Nat × Nat) := []
  /-- The value each pixel last used, for mode 0b11: the duty before derating times 2, plus 1 when it is derated. -/
  prev : List (Nat × Nat) := []
  /-- The pixel words the pixel path has of each group: those that the fill of its tray copied, or that the last fetch run read
  (11 R435; 10 R371). -/
  buf : List (Nat × List Nat) := []
  deriving DecidableEq, Repr

/-! ### ADC (16) -/

/-- A trigger or request of an injected segment: its table set, first entry, trigger code, what the trigger referred to (the
period count of a generator, or a pixel) and device time of the trigger. -/
structure AdcReq where
  tab : Nat
  j : Nat
  trig : Nat
  mark : Nat
  t : Nat
  deriving DecidableEq, Repr

/-- What a conversion is for. -/
inductive ConvKind where
  | reg | inj | shared | ref
  deriving DecidableEq, Repr

/-- A conversion in progress: its purpose, table set and entry, the trigger of its segment, source, sample start, the
correction factors at its start, and the stream settings of its entry. -/
structure Conv where
  kind : ConvKind
  tab : Nat
  j : Nat
  trig : Nat
  mark : Nat
  src : Nat
  /-- Device time of the sample start, and of the trigger event of an injected entry. -/
  t : Nat
  tev : Nat := 0
  calofs : Nat
  calgain : Nat
  corr : Nat
  rack : Nat
  sen : Bool
  /-- The conversion is the last of its segment. -/
  last : Bool
  deriving DecidableEq, Repr

/-- A table set: its regular table in progress and its injected triggers. -/
structure AdcTab where
  /-- Triggers whose delay is being counted. -/
  pend : List AdcReq := []
  /-- The regular table: running, repeats done of the entry in progress, its request ready, its delay running, the entry is
  the table's first of a run. -/
  run : Bool := false
  rep : Nat := 0
  ready : Bool := false
  delay : Bool := false
  /-- Runs of each segment, by first entry. -/
  runs : List (Nat × Nat) := []
  /-- Served by the partner. -/
  hosted : Bool := false
  deriving DecidableEq, Repr

/-- A converter. -/
structure AdcCv where
  conv : Option Conv := none
  /-- The rest of the injected segment in progress: its request, with the next entry. -/
  seg : Option AdcReq := none
  /-- Injected segment requests in the order of 16 R617. -/
  reqs : List AdcReq := []
  /-- A calibration is wanted or runs; it has started. -/
  cal : Bool := false
  calRun : Bool := false
  /-- Holding for a shared conversion (16 R628). -/
  hold : Bool := false
  /-- Reference-check conversions left, their sum, how many they are. -/
  refLeft : Nat := 0
  refSum : Nat := 0
  refN : Nat := 0
  /-- The table set whose regular table was served last (16 R631). -/
  alt : Nat := 0
  /-- A move of table sets waits for a conversion boundary. -/
  move : Bool := false
  deriving DecidableEq, Repr

/-- State that both converters share. -/
structure Shr where
  due : Bool := false
  a : Option Nat := none
  b : Option Nat := none
  /-- Reference checks in progress: 1 after a mismatch, 2 of a host alone, 3 a RESTORE; results so far. -/
  mode : Nat := 0
  fails : Nat := 0
  /-- The next FAILED table sets to return after a passed RESTORE. -/
  back : Bool := false
  deriving DecidableEq, Repr

/-! ### Telemetry (17) -/

/-- Telemetry state beside its registers. -/
structure Tlm where
  /-- Selected pixel of each group, and pixel periods or frames since with no event (17 R657, R658). -/
  sel : List (Nat × Nat) := []
  idle : List (Nat × Nat) := []
  event : List (Nat × Bool) := []
  /-- Coefficient words by pixel (17 R661). -/
  coef : List (Nat × Nat) := []
  /-- AGE of each pixel with EST = 1; pixels that have raised HOT and not fallen below T6 since (17 R663, R667). -/
  age : List (Nat × Nat) := []
  hot : List Nat := []
  /-- Latest S30 result and its fSYS tick (17 R659). -/
  vs : Option (Nat × Nat) := none
  /-- Sum of the scaled sink currents of the slot of each selected scan pixel, and its own, at its event, in 0.25 mA. -/
  irow : Nat := 0
  icol : Nat := 0
  /-- Lifetime counters with their fraction: on-times in fSYS ticks (0-485), energies in 10^-12 J (486-492) (17 R668). -/
  cnt : List (Nat × Nat) := []
  /-- fSYS tick to which the on-times have been counted. -/
  upTo : Nat := 0
  /-- Slice boundaries since each group's last string record. -/
  strN : List (Nat × Nat) := []
  /-- Selector of each port and domain (17 R669): 16 x port + domain. -/
  otsel : List (Nat × Nat) := []
  deriving DecidableEq, Repr

/-! ### Racks, semaphores, waits (09) -/

/-- A descriptor of four words (09 R331). `body` holds the bytes of a NETIN or FRAME descriptor, whose format is internal;
`errs` holds the error masks of its words in rack RAM, by word (09 R330; 10 R789). -/
structure Desc where
  w0 : Nat
  w1 : Nat := 0
  w2 : Nat := 0
  w3 : Nat := 0
  body : List Nat := []
  errs : List (Nat × Nat) := []
  deriving DecidableEq, Repr

/-- What an agent waits for (09 R347): a semaphore; a free slot of a rack for a descriptor; a descriptor of a rack, for
registers from `rd`; an in-flight slot. -/
inductive WaitFor where
  | take (n : Nat)
  | push (n : Nat) (d : Desc)
  | pop (n rd : Nat)
  | slot
  deriving DecidableEq, Repr

/-- A wait: agent code, domain, start in fSYS ticks, timeout in microseconds. -/
structure Wait where
  agent : Nat
  dom : Nat
  what : WaitFor
  start : Nat
  tmo : Nat
  deriving DecidableEq, Repr

/-- A credit arbiter (09 R342; 11 R428): credit of each domain, last domain served, last rack served in each domain. -/
structure Arb where
  credit : List (Nat × Int) := []
  lastDom : Nat := 3
  lastRack : List (Nat × Nat) := []
  deriving DecidableEq, Repr

/-- A COPY in execution by the SPI burst engine (09 R341): rack, descriptor, next word, and whether its guard semaphore is
taken. -/
structure CopyJob where
  rack : Nat
  d : Desc
  i : Nat
  guard : Bool
  deriving DecidableEq, Repr

/-- Racks and semaphores beside their registers. -/
structure Rack where
  /-- Descriptors of each rack, oldest first. -/
  q : List (Nat × List Desc) := []
  /-- Words pushed so far by a port and domain, and the words of the last pop, keyed by 128 x port + 32 x domain + rack. -/
  part : List (Nat × List Nat) := []
  hold : List (Nat × Desc) := []
  waits : List Wait := []
  arb17 : Arb := {}
  arb18 : Arb := {}
  arb19 : Arb := {}
  copy : Option CopyJob := none
  /-- In-flight slots granted to agents 17 and 18 and not yet used: agent, domain (05 R154). -/
  given : List (Nat × Nat) := []
  deriving DecidableEq, Repr

/-! ### Engines and dispatcher (11, 12) -/

/-- A firing or a dispatch: trigger entry, priority, event code, event data, fSYS tick. -/
structure Fired where
  entry : Nat
  pri : Nat
  evt : Nat
  data : Word
  tick : Nat
  deriving DecidableEq, Repr

/-- States of a context (11 R419); HALTED is shown while its engine is halted. -/
inductive CtxSt where
  | idle | runnable | waiting | suspended | held
  deriving DecidableEq, Repr

/-- A tray offered for the next boundary: tray code, recorded groups and their first pixel words, tick of its SLICEEND; for a tray
SRAM tray, its fetch-ahead fill is complete, and the pixel words it copied (11 R434, R437; 10 R372). -/
structure Offer where
  tray : Nat
  groups : Nat
  bases : List Nat
  tick : Nat
  filled : Bool := false
  words : List Nat := []
  deriving DecidableEq, Repr

/-- A WAITEV in progress (12 R492): kind, selection, value of rd, start in fSYS ticks, timeout in microseconds. -/
structure EvWait where
  kind : Nat
  sel : Nat
  val : Word
  start : Nat
  tmo : Nat
  deriving DecidableEq, Repr

/-- A recipe context (11 R419, 12 R462). -/
structure Ctx where
  v : Vector Word 16 := Vector.replicate 16 0
  pc : Nat := 0
  z : Bool := false
  n : Bool := false
  c : Bool := false
  o : Bool := false
  wst : Nat := 0
  thi : Word := 0
  st : CtxSt := .idle
  sb : Bool := false
  /-- Trigger entry of the recipe that runs. -/
  entry : Nat := 0
  /-- The dispatch that starts 3 ticks after its issue (11 R443), and the queued ones (11 R444). -/
  next : Option Fired := none
  queue : List Fired := []
  /-- ENDSLICE is pending (11 R445). -/
  endslice : Bool := false
  offer : Option Offer := none
  ev : Option EvWait := none
  /-- The word of the present instruction while it stalls for an in-flight slot; the slot has been granted (12 R478). -/
  stall : Option Word := none
  slot : Bool := false
  /-- Cycles granted since the last release or start, the tick of the present grant, and the tick of the last SLICEEND. -/
  work : Nat := 0
  grant : Nat := 0
  ended : Nat := 0
  deriving DecidableEq, Repr

/-- A cached line: its number, and its eight words as they were read, none for an uncorrectable one (11 R422). -/
structure Line8 where
  line : Nat
  words : List (Option Nat)
  deriving DecidableEq, Repr

/-- A pattern engine beside its registers (11 R422, R428). -/
structure Eng where
  /-- The pooled-engine arbiter. -/
  arb : Arb := {}
  /-- Cached lines of each set, most recent first, and the line a miss waits for. -/
  cache : List (Nat × List Line8) := []
  fill : Option Nat := none
  /-- The quantum has ended while an instruction stalls (11 R428). -/
  due : Bool := false
  deriving DecidableEq, Repr

/-- The dispatcher beside its registers (11 R439-R444). -/
structure Disp where
  fired : List Fired := []
  /-- Occurrences counted for DIV by entry. -/
  count : List (Nat × Nat) := []
  /-- Armed time matches by domain. -/
  armed : List (Nat × Nat) := []
  deriving DecidableEq, Repr

/-! ### SPI port (07) -/

/-- SPI state beside its registers: frames counted, the status word of the last transaction, the bytes driven on SDO in the last
frame, and a transfer that a CSN wake discarded, for the next frame to report. -/
structure Spi where
  seq : Nat := 0
  status : Word := 0
  sdo : List Byte := []
  wakeDiscard : Bool := false
  /-- A frame has been counted since the last device reset (07 R247). -/
  counted : Bool := false
  /-- A frame that a fall of VDDIO discarded, to be counted when the next frame is received (07 R264): its domain, OP, words
  submitted, and first failure. -/
  owed : Option (Nat × Nat × Nat × Nat × Nat) := none
  deriving DecidableEq, Repr

/-! ### Network port (08) -/

/-- A response kept for repetition (08 R288): RCTR, SEQ and TAG of its message, and the ZSP bytes of the response. -/
structure Kept where
  rctr : Nat
  seq : Nat
  tag : Nat
  resp : List Nat
  deriving DecidableEq, Repr

/-- The unacknowledged EVENT of a domain (08 R296): its SEQ, its frame, repeats made. -/
structure EvOut where
  seq : Nat
  frame : List Nat
  reps : Nat
  deriving DecidableEq, Repr

/-- An entry of a pending-tray queue (08 R298): hot tray, presentation time, groups recorded and their first pixel words, and
whether a boundary at or after its PTIME has passed since it was committed. -/
structure PTray where
  hot : Nat
  ptime : Nat
  groups : Nat
  bases : List Nat
  deriving DecidableEq, Repr

/-- A REGRD or REGWR in execution (08 R285, R294): its domain and frame, the next word, data read, first failure. -/
structure NetJob where
  dom : Nat
  body : List Nat
  i : Nat
  data : List Nat
  code : Nat
  widx : Nat
  /-- Words completed (08 R291). -/
  done : Nat
  /-- The word to come holds an in-flight slot (08 R285). -/
  slot : Bool
  deriving DecidableEq, Repr

/-- Network state beside its registers. -/
structure Net where
  /-- NET_PLCA in force since PHYON became 1 (08 R274). -/
  plca : Nat := 0
  /-- H, the window below it (bit i marks H - i), and the transmit counter of each domain; HT (08 R287-R290). -/
  h : List (Nat × Nat) := []
  win : List (Nat × Nat) := []
  tx : List (Nat × Nat) := []
  ht : Nat := 0
  kept : List (Nat × List Kept) := []
  /-- fSYS tick of the last code-14 NAK of each domain (08 R286). -/
  nak : List (Nat × Nat) := []
  /-- Repeats of the frame that heads each egress rack after collisions (08 R276). -/
  tries : List (Nat × Nat) := []
  /-- The EVENT outstanding, the sources last carried that still assert, the tick of the last EVENT of each domain, and
  the domains that have abandoned one (08 R296). -/
  evOut : List (Nat × EvOut) := []
  evSet : List (Nat × List Nat) := []
  evTick : List (Nat × Nat) := []
  evLost : Nat := 0
  /-- Pending trays, in the order committed. -/
  trays : List (Nat × List PTray) := []
  /-- Device time and fSYS tick of the BEACON of the present PLCA cycle; a TIME message of the cycle has been used (08 R301). -/
  beacon : Option (Nat × Nat) := none
  cycleUsed : Bool := false
  /-- Servo (08 R303): good results in a row, fSYS tick of the BEACON of the last used message, ticks to slew, ticks since the last
  one slewed, fraction of a tick gathered by the rate in 2^-32. -/
  good : Nat := 0
  lastUsed : Option Nat := none
  slew : Int := 0
  slewAt : Nat := 0
  /-- Ticks between two slewed ones. -/
  slewGap : Nat := 2000
  frac : Int := 0
  job : Option NetJob := none
  /-- The receive buffer: frames taken in and not yet processed, each with whether it came to NET_MAC (08 R279). -/
  rx : List (List Nat × Bool) := []
  /-- Collisions of the present TIME message of a master (08 R276). -/
  timeTries : Nat := 0
  /-- The frames, without padding and FCS, that the last transmission sent. -/
  sent : List (List Nat) := []
  deriving DecidableEq, Repr

/-! ### Memory and image store (10) -/

/-- Bytes of the four sections that are shadow tables (10 R396). -/
structure Tabs where
  hearth : List Nat := []
  calib : List Nat := []
  derate : List Nat := []
  vfcoef : List Nat := []
  deriving DecidableEq, Repr

/-- An image-store command in execution (10 R399): operation, bank, words and offset of a PROGRAM, the key of a tag check as taken
at its start (19 R720), the verification of a SWAP has ended. -/
structure ImgJob where
  op : Nat
  bank : Nat
  dst : Nat
  words : List Nat
  key : List (Nat × Nat)
  loading : Bool
  deriving DecidableEq, Repr

/-- Image-store state beside its registers: the active bank (10 R395), the command, the shadow tables, and the bank and tables of
a pending swap. -/
structure Img where
  active : Option Nat := none
  target : Nat := 0
  job : Option ImgJob := none
  tabs : Tabs := {}
  next : Tabs := {}
  deriving DecidableEq, Repr

/-- Row sparing of one bank (10 R381-R384): four history entries of row, hits (0: clear) and pass of the last hit; spare rows used; the row being
copied and its words copied; SPAREFULL has been raised. -/
structure Bank where
  hist : List (Nat × Nat × Nat) := List.replicate 4 (0, 0, 0)
  used : Nat := 0
  copying : Option (Nat × Nat) := none
  full : Bool := false
  lastRow : Nat := 0
  deriving DecidableEq, Repr

/-- Memory-controller state beside its registers (10 R375-R388): sweep pointer and pass number of each bank, banks that have
ended a pass since the last pass of the device, the tick that pass began, words waiting for a write-back, cause of the wipe
in progress. -/
structure MemC where
  ptr : List (Nat × Nat) := []
  pass : List (Nat × Nat) := []
  done : Nat := 0
  began : Nat := 0
  wb : List Nat := []
  wipe : Nat := 0
  deriving DecidableEq, Repr

/-! ### Security (19) -/

/-- A key slot: key, state, USE, VER (19 R716). -/
structure Slot where
  key : Nat := 0
  st : Nat := 0
  use : Nat := 0
  ver : Nat := 0
  deriving DecidableEq, Repr

/-- A stored slot record: its check word is correct, and what it holds (19 R719). -/
structure Rec where
  ok : Bool := true
  slot : Slot := {}
  deriving DecidableEq, Repr

/-- Non-volatile contents of the part apart from the image store: fuses and security store (19 R716). -/
structure Nv where
  uid : Nat := 0
  grade : Nat := 1
  step : Nat := 1
  refcode : Nat := 1968
  fusecol : List (Nat × Nat) := []
  lc0 : Nat := 0
  lc1 : Nat := 0
  lc2 : Nat := 0
  tamp : Nat := 0
  /-- Banks of the image store whose header a device reset in a write has spoilt, bit k for bank k (03 R92). -/
  torn : Nat := 0
  /-- The first and the second record of each slot. -/
  rec1 : Vector Rec 4 := Vector.replicate 4 {}
  rec2 : Vector Rec 4 := Vector.replicate 4 {}
  deriving DecidableEq, Repr

/-- A key command in execution (19 R723-R726). -/
structure KeyJob where
  op : Nat
  slot : Nat
  new : Slot
  deriving DecidableEq, Repr

/-- Security state beside its registers: the slots, the key command, the challenge requests of SPI and life cycle, the life-cycle
change whose challenge is open and the one that runs, U2D refused after a tamper. -/
structure Sec where
  slots : Vector Slot 4 := Vector.replicate 4 {}
  job : Option KeyJob := none
  spiReq : Option Nat := none
  lcReq : Option (Nat × Nat) := none
  lcOpen : Option (Nat × Nat) := none
  lcJob : Option Nat := none
  u2dOff : Bool := false
  deriving DecidableEq, Repr

/-! ### Debug port (20) and the slice timer (11 R430) -/

/-- Debug state beside its registers: trace entries as word 0 and word 1, entries lost since the last stored, the context whose step
waits, the response on DIO (STATUS and DATA), engines that stopped at a breakpoint. -/
structure Dbg where
  trace : List (Nat × Nat) := []
  traceOvf : Bool := false
  step : Option Nat := none
  resp : Option (Nat × Nat) := none
  deriving DecidableEq, Repr

/-- The slice timer: device time of T0 and boundaries since release, rate in use, slice index and device time of the last
boundary (11 R430; 08 R306). -/
structure Slice where
  t0 : Nat := 0
  j : Nat := 0
  rate : Nat := 300
  k : Nat := 0
  last : Nat := 0
  /-- fSYS tick of the last boundary; where a re-alignment begins at the next one, the device time at which that would fall without
  adjustment (08 R306). -/
  tick : Nat := 0
  aim : Option Nat := none
  deriving DecidableEq, Repr

/-! ### The state -/

/-- The X648. `pending`, `free` and `tick` are the model's own: the queue of waiting commands, the counter of the free source
(log 2), fSYS ticks since reset. -/
structure State where
  pending : List Instr
  free : Nat
  /-- Device time (08 R303), and fSYS ticks since reset. -/
  time : Nat
  tick : Nat
  /-- SRAM, larder and image store by byte address, and the error mask of each word that holds errors (10 R366, R374). -/
  mem : List Host.Cell
  ecc : List (Nat × Nat)
  /-- Registers by address, and the words that image load gave their img fields (10 R398). -/
  regs : List (Nat × Word)
  img : List (Nat × Nat)
  staged : List Staged
  cyc : Cyc
  posted : List Posted
  /-- _HI holding registers by port and address, with the domain that wrote them in bits 33 and 32 (06 R222, R225), snapshot banks (06 R220), addresses of the registers with a parity
  mismatch in the active value, and of those with one in the staged copy plus 2^24 (06 R209), the last access of each port. -/
  holdHi : List (Nat × Nat)
  snaps : List Snap
  parityBad : List Nat
  acc : List (Nat × Access)
  pwr : Pwr
  clk : Clk
  pins : Pins
  flt : Flt
  domRamps : List (Nat × DomRamp)
  /-- Domains in reset: bit 0 is KEEPLIT at the start, bit 1 that the outputs are ready for its end (05 R158, R160). -/
  domRst : List (Nat × Nat)
  hearth : Hearth
  disp : Disp
  pwm : Vector Pwm 6
  str : Vector Str 6
  byp : Vector Byp 6
  px : Px
  grid : Grid
  adcTab : Vector AdcTab 2
  adcCv : Vector AdcCv 2
  shr : Shr
  tlm : Tlm
  rack : Rack
  ctx : Vector Ctx 16
  eng : Vector Eng 4
  spi : Spi
  net : Net
  store : Img
  spare : Vector Bank 11
  memc : MemC
  nv : Nv
  sec : Sec
  dbg : Dbg
  slice : Slice
  deriving DecidableEq, Repr

/-- The X648 right after a power-on reset (03 R68, R74): the start-up sequence is at tick 0 of its power-on path, memory lists
nothing and no command waits. Every register and record holds its reset value; RST_CAUSE holds POR (03 R81), NET_EPOCH a random
non-zero value (08 R286) and SEC_STAT.RNGFAIL the blocks discarded before it (19 R733), both free (log 2). -/
def State.reset : State where
  pending := []
  free := 2
  time := 0
  tick := 0
  mem := []
  ecc := []
  regs := [
    (0x3104, 1),
    (0x5038, BitVec.ofNat 32 (1 + (Config.freeBits 0).toNat % (2 ^ 32 - 1))),
    (0x11060, BitVec.ofNat 32 ((Config.freeBits 1).toNat % 256 * 2 ^ 8))]
  img := []
  staged := []
  cyc := {}
  posted := []
  holdHi := []
  snaps := []
  parityBad := []
  acc := []
  pwr := {}
  clk := {}
  pins := {}
  flt := {}
  domRamps := []
  domRst := []
  hearth := {}
  disp := {}
  pwm := Vector.replicate 6 {}
  str := Vector.replicate 6 {}
  byp := Vector.replicate 6 {}
  px := {}
  grid := {}
  adcTab := Vector.replicate 2 {}
  adcCv := Vector.replicate 2 {}
  shr := {}
  tlm := {}
  rack := {}
  ctx := Vector.replicate 16 {}
  eng := Vector.replicate 4 {}
  spi := {}
  net := {}
  store := {}
  spare := Vector.replicate 11 {}
  memc := {}
  nv := {}
  sec := {}
  dbg := {}
  slice := {}

end Sys2Proof.Machine
end

