-- ==== Sys2Proof/Machine/Ops.lean ====
section
/-!
DEFINITION. The shared operations: sparse tables, the register file and its fields, ownership, interrupt sources,
free values.
-/

namespace Sys2Proof.Machine

/-! ### Sparse tables -/

/-- The value a table lists for `k`. -/
def kvGet {α : Type} : List (Nat × α) → Nat → Option α
  | [], _ => none
  | (k, v) :: t, j => if k = j then some v else kvGet t j

/-- The value a table lists for `k`, or `d`. -/
def kvD {α : Type} (l : List (Nat × α)) (k : Nat) (d : α) : α := (kvGet l k).getD d

/-- The table with `v` for `k`, keys kept rising. -/
def kvSet {α : Type} : List (Nat × α) → Nat → α → List (Nat × α)
  | [], j, x => [(j, x)]
  | (k, v) :: t, j, x =>
    if j < k then (j, x) :: (k, v) :: t else if j = k then (j, x) :: t else (k, v) :: kvSet t j x

/-- The table without `k`. -/
def kvDel {α : Type} (l : List (Nat × α)) (k : Nat) : List (Nat × α) := l.filter (fun p => p.1 != k)

/-- Entry `i` of a fixed array. -/
def vget {α : Type} {n : Nat} (v : Vector α n) (i : Fin n) : α := v.get i

/-- The array with entry `i` replaced. -/
def vset {α : Type} {n : Nat} (v : Vector α n) (i : Fin n) (x : α) : Vector α n := v.set i.val x i.isLt

/-- All domains. -/
def doms : List Dom := [0, 1, 2, 3]

/-- All string channels. -/
def strs : List (Fin 6) := [0, 1, 2, 3, 4, 5]

/-- All engines, and all recipe contexts. -/
def engs : List (Fin 4) := [0, 1, 2, 3]
def ctxs : List (Fin 16) := [0, 1, 2, 3, 4, 5, 6, 7, 8, 9, 10, 11, 12, 13, 14, 15]

/-- Apply `f` for each entry of a list in order. -/
def each {α σ : Type} (l : List α) (f : α → σ → σ) (s : σ) : σ := l.foldl (fun s a => f a s) s

/-- Apply `f` when `b` holds. -/
def whenS {σ : Type} (b : Bool) (f : σ → σ) (s : σ) : σ := if b then f s else s

/-- Bit `i` of `n`. -/
def bitN (n i : Nat) : Bool := n / 2 ^ i % 2 == 1

/-- The `w` bits of `n` from bit `lo`. -/
def bitsN (n lo w : Nat) : Nat := n / 2 ^ lo % 2 ^ w

/-- `n` with its `w` bits from bit `lo` replaced by `v`. -/
def putN (n lo w v : Nat) : Nat := n - bitsN n lo w * 2 ^ lo + v % 2 ^ w * 2 ^ lo

/-! ### The register file -/

/-- Fault class by fault number (18 R683), and whether the source is fixed or reserved. -/
def fltClass (n : Nat) : Nat :=
  if n == 0 || n == 6 || n == 11 || n == 17 || n == 18 || n == 19 || n == 21 || n == 22 || n == 81 then 3
  else if 85 ≤ n && n ≤ 87 then 3
  else if n == 24 || (32 ≤ n && n ≤ 61) || (74 ≤ n && n ≤ 76) || n == 79 || n == 80 then 1
  else if 88 ≤ n && n ≤ 103 then 2
  else if (108 ≤ n && n ≤ 114) || (115 ≤ n && n ≤ 121) then 1
  else 0

/-- Sources whose reaction is fixed at 3 (18 R683). -/
def fltFixed (n : Nat) : Bool :=
  n == 0 || n == 11 || n == 17 || n == 18 || n == 19 || n == 21 || n == 22 || n == 81 || (85 ≤ n && n ≤ 87)

/-- Reserved fault numbers (18 R683). -/
def fltRsv (n : Nat) : Bool := n == 23 || (104 ≤ n && n ≤ 107) || 122 ≤ n

/-- Sources of latch class L (18 R683). -/
def fltLevel (n : Nat) : Bool := (2 ≤ n && n ≤ 6) || n == 15 || n == 21

/-- Reset word of FLT_REACTk from field `i` on: each field its class number, reserved fields 0 (18 R706). -/
def reactReset (k : Nat) : Nat → Nat
  | 0 => 0
  | i + 1 => let n := 16 * k + i; (if fltRsv n then 0 else fltClass n) * 4 ^ i + reactReset k i

/-- The fields of register `i` of an array as the spec gives them one by one: reserved and fixed fault sources (18 R683, R706),
the reserved source IRQ23 (05 R145), the bindings of fixed racks (09 R326), the flags of FLT_GSTAT by domain and channel, the trigger of entry 0 (16 R615). -/
def effFields (r : RegId) (i : Nat) : List Field :=
  match r with
  | .fltReact => r.fields.filterMap (fun f =>
      let n := 16 * i + f.lo / 2
      if fltRsv n then none else some (if fltFixed n then { f with acc := .ro } else f))
  | .fltStat => r.fields.filter (fun f => !fltRsv (32 * i + f.lo))
  | .intEn | .intPend => r.fields.filter (fun f => !(i % 3 == 0 && f.lo == 23))
  | .intPri => r.fields.filter (fun f => !(i == 2 && f.lo == 28))
  | .rackCfg =>
    if (12 ≤ i && i < 16) || 28 ≤ i then r.fields
    else r.fields.map (fun f => if f.lo = 8 || f.lo = 16 then { f with acc := .ro } else f)
  | .adcInj => if i % 8 = 0 then r.fields.map (fun f => if f.lo = 8 then { f with ok := .trig0 } else f) else r.fields
  | .fltGstat => flr "CONT" 0 1 7 .ro 0 .i ++ flr "DCONT" 8 1 4 .ro 0 .i ++ r.fields.filter (fun f => 16 ≤ f.lo)
  | _ => r.fields

/-- One more than the highest bit of a field that is not reserved. -/
def topBit (l : List Field) : Nat := l.foldl (fun m f => max m (f.lo + f.w)) 0

/-- The reset word of register `i` of an array, with the defaults of its img fields (00 R13). -/
def RegId.reset (r : RegId) (i : Nat) : Nat :=
  match r with
  | .intEn => match i with
    | 2 => 0x01001100
    | 5 => 0x2200
    | 8 => 0x4400
    | 11 => 0x8800
    | _ => 0
  | .rackPart => 16 * i + 16 * 2 ^ 16
  | .tlmCrv => 1280 * (i % 8) + 4096 * 2 ^ 16
  | .fltReact => reactReset i 16
  | _ => fieldsReset r.fields

/-- Register `i` of an array: the word held, or its reset word where none was written. -/
def State.rd (s : State) (r : RegId) (i : Nat := 0) : Word :=
  kvD s.regs (r.addr i) (BitVec.ofNat 32 (kvD s.img (r.addr i) (r.reset i)))

/-- The state with register `i` of an array holding `w`. -/
def State.wr (s : State) (r : RegId) (i : Nat) (w : Word) : State :=
  { s with regs := kvSet s.regs (r.addr i) w }

/-- The value of a field. -/
def State.g (s : State) (f : Fld) (i : Nat := 0) : Nat := bitsN (s.rd f.r i).toNat f.lo f.w

/-- Whether a one-bit field is 1. -/
def State.b (s : State) (f : Fld) (i : Nat := 0) : Bool := s.g f i == 1

/-- The state with a field holding `v`. -/
def State.p (s : State) (f : Fld) (i v : Nat) : State :=
  s.wr f.r i (BitVec.ofNat 32 (putN (s.rd f.r i).toNat f.lo f.w v))

/-- The state with a one-bit field set or cleared. -/
def State.pb (s : State) (f : Fld) (i : Nat) (v : Bool) : State := s.p f i (if v then 1 else 0)

/-- A counter field plus one, held at its greatest value. -/
def State.incSat (s : State) (f : Fld) (i : Nat := 0) : State := s.p f i (satN (2 ^ f.w - 1) (s.g f i + 1))

/-- A counter field plus one, modulo its width. -/
def State.incMod (s : State) (f : Fld) (i : Nat := 0) : State := s.p f i (s.g f i + 1)

/-- Bit `n` of register `i`. -/
def State.rbit (s : State) (r : RegId) (i n : Nat) : Bool := bitN (s.rd r i).toNat n

/-- The state with bits of register `i` set. -/
def State.setBits (s : State) (r : RegId) (i m : Nat) : State := s.wr r i (s.rd r i ||| BitVec.ofNat 32 m)

/-- The state with bits of register `i` cleared. -/
def State.clrBits (s : State) (r : RegId) (i m : Nat) : State := s.wr r i (s.rd r i &&& ~~~ BitVec.ofNat 32 m)

/-- The value the next bake makes active in a field: its staged copy (06 R197, R198). -/
def stagedVal : List Staged → Nat → Nat → Option Nat
  | [], _, _ => none
  | e :: t, a, lo => if e.addr = a && e.lo = lo then some e.val else stagedVal t a lo

/-- The staged copy of a field; its active value where nothing is staged. -/
def State.gStaged (s : State) (f : Fld) (i : Nat := 0) : Nat :=
  (stagedVal s.staged (f.r.addr i) f.lo).getD (s.g f i)

/-- A fresh free value of `w` bits (assumption log 2): the source advances. -/
def State.fresh (s : State) (w : Nat) : BitVec w × State :=
  ((Config.freeBits s.free).setWidth w, { s with free := s.free + 1 })

/-! ### Ownership (05 R137-R141) -/

/-- The 2-bit owner in field `j` of an ownership register. -/
def State.own2 (s : State) (r : RegId) (j : Nat) : Nat := bitsN (s.rd r).toNat (2 * j) 2

/-- Owner of a string channel (OWN_STR). -/
def State.ownStr (s : State) (i : Nat) : Nat := s.own2 .ownStr i

/-- Owner of the scan grid. -/
def State.ownGrid (s : State) : Nat := s.own2 .ownStr 6

/-- Owner of an output group: stacks 0-5, the grid 6. -/
def State.ownGroup (s : State) (g : Nat) : Nat := s.own2 .ownStr g

/-- Owner of an engine. -/
def State.ownPe (s : State) (n : Nat) : Nat := s.own2 .ownPe n

/-- Pool mask of an engine (05 R152). -/
def State.peMask (s : State) (n : Nat) : Nat := bitsN (s.rd .ownPe).toNat (8 + 4 * n) 4

/-- Owner of an ADC table: ADCA regular, ADCA injected, ADCB regular, ADCB injected. -/
def State.ownAdc (s : State) (k : Nat) : Nat := s.own2 .ownAdc k

/-- Owner of a rack; racks 0-11 are fixed (05 R138). -/
def State.ownRack (s : State) (n : Nat) : Nat :=
  if n < 12 then n % 4 else if n < 16 then s.own2 .ownRackLo n else s.own2 .ownRackHi (n - 16)

/-- Owner of a semaphore. -/
def State.ownSem (s : State) (n : Nat) : Nat := if n < 16 then s.own2 .ownSemLo n else s.own2 .ownSemHi (n - 16)

/-- Owner of a tray group of four trays. -/
def State.ownTray (s : State) (g : Nat) : Nat := if g < 16 then s.own2 .ownTray0 g else s.own2 .ownTray1 (g - 16)

/-- Owner of a hot tray. -/
def State.ownHot (s : State) (h : Nat) : Nat := s.own2 .ownHot h

/-- Owner of an interrupt source (05 R145); the reserved source IRQ23 has none. -/
def State.irqOwner (s : State) (n : Nat) : Option Nat :=
  if n < 18 then some (s.ownStr (n % 6))
  else if n < 21 then some s.ownGrid
  else if n < 23 then some (s.own2 .ownIrq1 (n - 16))
  else if n = 23 then none
  else if n < 32 then some (s.ownPe (n % 4))
  else if n < 64 then some (s.ownRack (n - 32))
  else if n < 68 then some (s.ownAdc (n - 64))
  else if n < 72 then some (s.own2 .ownIrq4 (n - 64))
  else if n < 80 then some (n % 4)
  else if n < 88 then some (s.own2 .ownIrq5 (n - 80))
  else if n = 89 || n = 90 || n = 92 then some (s.own2 .ownIrq5 (n - 80))
  else if n < 96 then some 0
  else none

/-- Whether domain `d` has a context on engine `e` (11 R419). -/
def State.hasCtx (s : State) (e d : Nat) : Bool :=
  if s.peMask e = 0 then s.ownPe e == d else bitN (s.peMask e) d

/-! ### Dispatcher firings (11 R438-R441) -/

/-- Count an inert or foreign event (11 R438, R439). -/
def State.badEvt (s : State) (d : Nat) : State := s.pb F.dispStat_BADEVT d true

/-- Entry `i` meets its event, whose source owner is `src` (`none`: any domain), with data `data`: it fires, or not yet
under its divider, or sets BADEVT. -/
def State.fireEntry (s : State) (i evt : Nat) (src : Option Nat) (data : Word) : State :=
  let e := s.g F.dispCfg_ENG i
  let d := s.g F.dispCfg_DOM i
  let div := s.g F.dispCfg_DIV i
  if s.g F.dispCfg_EN i = 0 || s.g F.dispCfg_EVT i ≠ evt then s
  else if !s.hasCtx e d then s.badEvt d
  else if src.any (· ≠ d) then s.badEvt d
  else
    let go := if evt = 1 then s.slice.k % (div + 1) == 0 else (kvD s.disp.count i 0 + 1) % (div + 1) == 0
    let disp := { s.disp with count := kvSet s.disp.count i ((kvD s.disp.count i 0 + 1) % (div + 1)) }
    if go then { s with disp := { disp with
      fired := disp.fired ++ [{ entry := i, pri := s.g F.dispCfg_PRI i, evt := evt, data := data, tick := s.tick }] } }
    else { s with disp := disp }

/-- The indexes 0 to n - 1. -/
def upto (n : Nat) : List Nat := List.range n

/-- An event reaches the dispatcher: every enabled entry with that event code meets it (11 R439). -/
def State.fireEvent (s : State) (evt : Nat) (src : Option Nat) (data : Word) : State :=
  each (upto 32) (fun i s => s.fireEntry i evt src data) s

/-! ### Recipe contexts (11 R419) -/

/-- Context `c`, and the state with it changed. -/
def State.cx (s : State) (c : Fin 16) : Ctx := vget s.ctx c
def State.modCx (s : State) (c : Fin 16) (f : Ctx → Ctx) : State := { s with ctx := vset s.ctx c (f (s.cx c)) }

/-- The next program counter (12 R463). -/
def pcNext (pc : Nat) : Nat := (pc + 4) % 0x20000

/-- Register `i` of a context takes `w`; a number above 15 names none. -/
def Ctx.setV (x : Ctx) (i : Nat) (w : Word) : Ctx :=
  if h : i < 16 then { x with v := x.v.set i w h } else x

/-- Several registers. -/
def Ctx.setVs (x : Ctx) (l : List (Nat × Word)) : Ctx := l.foldl (fun x p => x.setV p.1 p.2) x

/-- A waiting instruction completes with a wait status, writing registers (12 R487; 09 R348). -/
def Ctx.waitDone (x : Ctx) (wst : Nat) (regs : List (Nat × Word)) : Ctx :=
  { (x.setVs regs) with wst := wst, z := wst == 1, pc := pcNext x.pc, st := .runnable, ev := none }

/-- A WAITEV event becomes present: the contexts of domain `d` (any domain for `none`) that wait for it complete (12 R492). -/
def State.evWake (s : State) (kind sel : Nat) (d : Option Nat) : State :=
  each ctxs (fun c s =>
    match (s.cx c).ev with
    | some e =>
      if e.kind = kind && e.sel = sel && (s.cx c).st = .waiting && d.all (· == c.val % 4) then
        s.modCx c (fun x => x.waitDone 1 [])
      else s
    | none => s) s

/-! ### Interrupt sources (05 R145-R149) -/

/-- Interrupt source `n` becomes pending in its owner's set; a source that was not pending is also an event of the
dispatcher (05 R146, 11 R439). -/
def State.pendIrq (s : State) (n : Nat) : State :=
  match s.irqOwner n with
  | none => s
  | some d =>
    if s.rbit .intPend (3 * d + n / 32) (n % 32) then s
    else ((s.setBits .intPend (3 * d + n / 32) (2 ^ (n % 32))).fireEvent (0x80 + n) (some d) (BitVec.ofNat 32 n)).evWake
      0 n (some d)

/-- Priority of a source (05 R147). -/
def State.irqPri (s : State) (n : Nat) : Nat := bitsN (s.rd .intPri (n / 8)).toNat (4 * (n % 8)) 4

/-- Whether source `n` is asserting for its owner `d` (05 R147). -/
def State.asserting (s : State) (d n : Nat) : Bool :=
  s.irqOwner n == some d && s.rbit .intPend (3 * d + n / 32) (n % 32) && s.rbit .intEn (3 * d + n / 32) (n % 32)
    && s.g F.intCfg_THRESH d ≤ s.irqPri n

/-- The presented source of a list: highest priority, lowest number (05 R147). -/
def topOf (s : State) (d : Nat) : List Nat → Option (Nat × Nat)
  | [] => none
  | n :: t =>
    let rest := topOf s d t
    if s.asserting d n then
      match rest with
      | some (m, p) => if s.irqPri n < p then some (m, p) else some (n, s.irqPri n)
      | none => some (n, s.irqPri n)
    else rest

/-- INTd_TOP (05 R147). -/
def State.intTopWord (s : State) (d : Nat) : Word :=
  match topOf s d (upto 96) with
  | some (n, p) => BitVec.ofNat 32 (n + p * 2 ^ 8 + 2 ^ 31)
  | none => 0

/-- The X648 is in retention or network-wake standby or in deep standby, or in the wake delay (03 R83-R86). -/
def State.asleep (s : State) : Bool :=
  match s.pwr.mode with
  | .standby _ | .waking _ => true
  | _ => false

/-- A device reset or the start-up sequence is in progress (02 R35, R36). -/
def State.inReset (s : State) : Bool := s.pwr.mode == .resetLow || s.pwr.mode == .startup

/-- Whether an interrupt pin is driven low: route 1 for INTA, 2 for INTB (05 R149). INTA is low through every device reset and the
start-up sequence (02 R36; log 88); without VDDIO both are Hi-Z (02 R49). The domains that are in no reset drive it (05 R163). -/
def State.intPinLow (s : State) (route : Nat) : Bool :=
  s.pins.vddio && ((route == 1 && s.inReset) || s.pins.intRouted &&
    doms.any (fun d => !bitN (s.g F.domStat_RSTBUSY) d.val && s.g F.intCfg_ROUTE d.val == route && (topOf s d.val (upto 96)).isSome))

/-- Set a flag bit and make its source pending. -/
def State.flagIrq (s : State) (f : Fld) (i irq : Nat) : State := (s.pb f i true).pendIrq irq

/-! ### Captures (05 R177, 06 R231, R232) -/

/-- Record a violation of domain `d` (05 R177): the first is kept, OVF marks a further one; IRQ(72 + d). -/
def State.violate (s : State) (d port addr cause : Nat) : State :=
  let s1 :=
    if s.b F.domViol_VALID d then s.pb F.domViol_OVF d true
    else s.wr .domViol d (BitVec.ofNat 32 (addr % 2 ^ 24 + port % 8 * 2 ^ 24 + cause * 2 ^ 27 + 2 ^ 31))
  s1.pendIrq (72 + d)

/-- Record an event of the register model for domain `d` (06 R231, R232): its REGd_STAT flag, the capture with its KIND,
CAPOVF where the capture is unread; IRQ(72 + d). -/
def State.regEvent (s : State) (d : Nat) (flag : Fld) (port addr kind : Nat) : State :=
  let s1 := s.pb flag d true
  let s2 :=
    if s1.b F.regCap_VALID d then s1.pb F.regStat_CAPOVF d true
    else s1.wr .regCap d (BitVec.ofNat 32 (addr % 2 ^ 24 + port % 16 * 2 ^ 24 + kind * 2 ^ 28 + 2 ^ 31))
  s2.pendIrq (72 + d)

/-- RSVW (06 R191), LOCKV (06 R215), WRCOLL (06 R218), BUSERR (06 R188). -/
def State.rsvw (s : State) (d port addr : Nat) : State := s.regEvent d F.regStat_RSVW port addr 4
def State.lockv (s : State) (d port addr : Nat) : State := s.regEvent d F.regStat_LOCKV port addr 3
def State.wrcoll (s : State) (d port addr : Nat) : State := s.regEvent d F.regStat_WRCOLL port addr 5
def State.buserr (s : State) (d port addr code : Nat) : State := s.regEvent d F.regStat_BUSERR port addr code

end Sys2Proof.Machine
end

