-- ==== Sys2Proof/Machine/Bake.lean ====
section
/-!
DEFINITION. Staged copies and bakes (06 R197-R203), and the fSYS, string and generator records by index.
-/

namespace Sys2Proof.Machine

/-- The domain a register belongs to for HOLD and for releases of its owner (05 R136-R141, 06 R201): the owner of its
resource, D0 for a privileged register. -/
def State.regDom (s : State) (r : RegId) (i : Nat) : Nat :=
  let j := i / r.place.n2
  match r.rule.own with
  | .dom => j
  | .str => s.ownStr j
  | .grid => s.ownGrid
  | .pe => s.ownPe j
  | .rack => s.ownRack j
  | .sem => s.ownSem j
  | .adcReg => s.ownAdc (2 * j)
  | .adcInj => s.ownAdc (2 * j + 1)
  | .grp => s.ownGroup j
  | .pix => 0
  | .disp => s.ownPe (bitsN (s.rd .dispCfg j).toNat 2 2)
  | _ => 0

/-- Bake-class codes of a staged copy. -/
def Bake.code : Bake → Nat
  | .s => 0
  | .p => 1
  | .f => 2
  | .k => 3
  | .i => 4

/-- Whether the owner of a staged copy holds its bakes (06 R201); an update made by a block is not held. -/
def State.heldBake (s : State) (e : Staged) : Bool :=
  !e.blk &&
    match findReg e.addr with
    | some (r, i) => s.b F.bakeCtl_HOLD (s.regDom r i)
    | none => false

/-- The field of register `addr` from bit `lo` takes `v`. -/
def State.putAt (s : State) (addr lo w v : Nat) : State :=
  match findReg addr with
  | some (r, i) => s.wr r i (BitVec.ofNat 32 (putN (s.rd r i).toNat lo w v))
  | none => s

/-- The staged copy of the register at `a` has a parity mismatch (06 R206, R208): `parityBad` lists its address plus 2^24. -/
def State.stagedBad (s : State) (a : Nat) : Bool := s.parityBad.contains (a + 2 ^ 24)

/-- Bake the staged copies that `sel` picks and no HOLD keeps: each value becomes active, and its copy is spent (06 R197). The
staged copy of a register with a parity mismatch is not baked and returns to the active value (06 R208); a bake recomputes the parity of
the active value (06 R206). -/
def State.bake (s : State) (sel : Staged → Bool) : State :=
  let now := s.staged.filter (fun e => sel e && !s.heldBake e)
  let bad (e : Staged) : Bool := s.stagedBad e.addr && now.any (fun x => x.addr == e.addr)
  let rest := s.staged.filter (fun e => !(sel e && !s.heldBake e) && !bad e)
  let fresh (a : Nat) : Bool := now.any (fun x => x.addr == a) && !s.stagedBad a
  each now (fun e s => if s.stagedBad e.addr then s else s.putAt e.addr e.lo e.w e.val)
    { s with staged := rest, parityBad := s.parityBad.filter (fun a => !fresh a) }

/-- Staged copies that `sel` picks are discarded (06 R204, R205). -/
def State.unstage (s : State) (sel : Staged → Bool) : State := { s with staged := s.staged.filter (fun e => !sel e) }

/-- The K-class values that the burst or packet of port `p` now in progress carried are discarded (06 R200). -/
def State.dropK (s : State) (p : Port) : State := s.unstage (fun e => e.cls == 3 && e.await == some (p, true))

/-- Replace or add a staged copy. -/
def stagePut (e : Staged) (l : List Staged) : List Staged :=
  l.filter (fun x => !(x.addr = e.addr && x.lo = e.lo)) ++ [e]

/-- A block writes its own staged copy of a field of class P (06 R203). -/
def State.stageBlk (s : State) (f : Fld) (i v : Nat) : State :=
  { s with
    staged := stagePut ⟨f.r.addr i, f.lo, f.w, 1, v % 2 ^ f.w, .spi, 0, true, [], none⟩ s.staged
    parityBad := s.parityBad.filter (· != f.r.addr i + 2 ^ 24) }

/-- A staged copy is a class P field of generator or string `n` (13 R504). -/
def pOf (n : Nat) (e : Staged) : Bool :=
  e.cls == 1 && ((0xA000 + 0x200 * n ≤ e.addr && e.addr < 0xA200 + 0x200 * n)
    || (0xB000 + 0x100 * n ≤ e.addr && e.addr < 0xB100 + 0x100 * n))

/-- A staged copy is PPWMn_CTL.MODE, which bakes at period boundaries only (13 R508). -/
def isMode (n : Nat) (e : Staged) : Bool := e.cls == 1 && e.addr == 0xA000 + 0x200 * n && e.lo == 1

/-! ### Records by index -/

/-- Generator, string and stack `i`. -/
def State.pw (s : State) (i : Fin 6) : Pwm := vget s.pwm i
def State.st (s : State) (i : Fin 6) : Str := vget s.str i
def State.by (s : State) (i : Fin 6) : Byp := vget s.byp i

/-- The state with generator, string or stack `i` changed. -/
def State.modPw (s : State) (i : Fin 6) (f : Pwm → Pwm) : State := { s with pwm := vset s.pwm i (f (s.pw i)) }
def State.modSt (s : State) (i : Fin 6) (f : Str → Str) : State := { s with str := vset s.str i (f (s.st i)) }
def State.modBy (s : State) (i : Fin 6) (f : Byp → Byp) : State := { s with byp := vset s.byp i (f (s.by i)) }

end Sys2Proof.Machine
end

