-- ==== Sys2Proof/Machine/Outputs.lean ====
section
/-!
DEFINITION. What stands between the registers and the output pins: containment (18 R688, R689), effective enables (14 R548),
gate lockouts (02 R39), driven stacks (15 R570), the grid's stop (15 R580), on-times (17 R668), the causes of hearth mode (18 R692) and the
trace buffer (20 R761).
-/

namespace Sys2Proof.Machine

/-! ### Trace (20 R761) -/

/-- Whether TRCFG selects an entry type: dispatch, fault, hearth, halt. -/
def State.traceSel (s : State) (ty : Nat) : Bool :=
  if ty ≤ 4 then s.b F.u2dTrcfg_DISP else if ty = 5 then s.b F.u2dTrcfg_FLT
  else if ty = 6 then s.b F.u2dTrcfg_HRTH else s.b F.u2dTrcfg_HALT

/-- Record an event in the trace buffer of 64 entries (20 R761). -/
def State.trace (s : State) (ty a b c : Nat) : State :=
  if s.b F.u2dStat_ATT && s.b F.u2dTrcfg_EN && s.traceSel ty then
    let e (ovf : Bool) : Nat × Nat :=
      (ty + a % 256 * 2 ^ 8 + b % 256 * 2 ^ 16 + c % 32 * 2 ^ 24 + (if ovf then 2 ^ 30 else 0), s.time % 2 ^ 32)
    if s.dbg.trace.length < 64 then
      { s with dbg := { s.dbg with trace := s.dbg.trace ++ [e s.dbg.traceOvf], traceOvf := false } }
    else if s.b F.u2dTrcfg_STOP then
      ({ s with dbg := { s.dbg with traceOvf := true } }).incSat F.u2dTrstat_LOST
    else
      ({ s with dbg := { s.dbg with trace := s.dbg.trace.drop 1 ++ [e true], traceOvf := false } }).incSat F.u2dTrstat_LOST
  else s

/-! ### Fault bits, charges, reactions (18 R681-R686) -/

/-- Whether the bit of fault `n` is set. -/
def State.fltBit (s : State) (n : Nat) : Bool := s.rbit .fltStat (n / 32) (n % 32)

/-- The channel a fault number names, as a mask: bit s for STRs, bit 6 for the grid. -/
def fltChan (n : Nat) : Nat :=
  if 25 ≤ n && n ≤ 30 then 2 ^ (n - 25)
  else if 32 ≤ n && n ≤ 73 then 2 ^ ((n - 32) % 6)
  else if 74 ≤ n && n ≤ 77 then 64
  else if 108 ≤ n && n ≤ 114 then 2 ^ (n - 108)
  else if 115 ≤ n && n ≤ 121 then 2 ^ (n - 115)
  else 0

/-- The domain a fault is charged to (18 R682, R683). -/
def State.charged (s : State) (n : Nat) : Nat :=
  if n = 83 || n = 84 then s.ownGroup (kvD s.flt.grp n 0)
  else if 88 ≤ n && n ≤ 103 then n % 4
  else if 25 ≤ n && n ≤ 30 then s.ownStr (n - 25)
  else if 32 ≤ n && n ≤ 73 then s.ownStr ((n - 32) % 6)
  else if 74 ≤ n && n ≤ 77 then s.ownGrid
  else if 108 ≤ n && n ≤ 114 then s.ownGroup (n - 108)
  else if 115 ≤ n && n ≤ 121 then s.ownGroup (n - 115)
  else 0

/-- REACT of a source: 3 where it is fixed, 0 where REACT 1 meets a source with no channel (18 R685). -/
def State.fltReactOf (s : State) (n : Nat) : Nat :=
  let r := if fltFixed n then 3 else bitsN (s.rd .fltReact (n / 16)).toNat (2 * (n % 16)) 2
  if r = 1 && fltChan n = 0 && n ≠ 24 then 0 else r

/-- The contained channels (18 R688). -/
def State.contained (s : State) : Nat := s.flt.chans.foldl (fun m p => m ||| p.2) 0

/-- Channels kept inactive: contained, or waiting for the slice boundary after a containment (18 R688). -/
def State.chanOff (s : State) (c : Nat) : Bool := bitN (s.contained ||| s.flt.restart) c

/-- The outputs of a domain are held dark (18 R689). -/
def State.domDark (s : State) (d : Nat) : Bool := bitN s.flt.dark d

/-! ### Hearth causes (18 R692) -/

/-- Hearth mode is on, its ramps included. -/
def State.hearthOn (s : State) : Bool := s.g F.hearthStat_STATE != 0

/-- The X648 is past release and in no standby state. -/
def State.running (s : State) : Bool := s.pwr.mode == .run

/-- The active causes: bit 0 F3, 1 WDT, 2 HEN, 3 CMD. -/
def State.causes (s : State) : Nat :=
  (if s.flt.react.any (fun p => bitN p.2 3) then 1 else 0) + (if s.b F.hwdtStat_EXPIRED then 2 else 0)
    + (if s.running && !s.pins.hen then 4 else 0) + (if s.hearth.cmd then 8 else 0)

/-- A cause may have become active: hearth entry is due at the next slice boundary (18 R693, R704). -/
def State.hearthCause (s : State) : State :=
  let c := s.causes
  let st := s.g F.hearthStat_STATE
  { s with hearth := { s.hearth with
    since := s.hearth.since ||| c
    due := s.hearth.due || ((st = 0 || st = 3) && c != 0) } }

/-! ### On-times (17 R668) -/

/-- Change the telemetry state. -/
def State.modTlm (s : State) (f : Tlm → Tlm) : State := { s with tlm := f s.tlm }

/-- Add to a counter. -/
def addCnt (l : List (Nat × Nat)) (k n : Nat) : List (Nat × Nat) := if n = 0 then l else kvSet l k (kvD l k 0 + n)

/-- On-times of a stack's pixels and its string over `dt` ticks. -/
def State.countStack (s : State) (dt : Nat) (i : Fin 6) (l : List (Nat × Nat)) : List (Nat × Nat) :=
  let l1 := if s.b F.strStat_ACTIVE i then addCnt l (480 + i) dt else l
  if s.b F.bypStat_DRIVEN i then
    (upto 16).foldl (fun l k =>
      if bitN (s.by i).sw k && !bitN (s.g F.bypUnused_MASK i) k && !bitN (s.g F.bypAutobyp_MASK i) k then
        addCnt l (16 * i.val + k) dt else l) l1
  else l1

/-- On-times of the lit sinks, and the scan-grid energy (17 R668). -/
def State.countGrid (s : State) (dt : Nat) (l : List (Nat × Nat)) : List (Nat × Nat) :=
  let on := s.grid.codes.filter (fun p => bitN s.grid.sinks p.1)
  let j := s.g F.gridStat_ROWN
  let vs := (s.tlm.vs.map (·.1)).getD 0
  addCnt (on.foldl (fun l p => addCnt l (96 + 24 * j + p.1) dt) l) 492 (dt * (on.map (·.2)).sum * 16 * vs)

/-- Count on-times up to the present tick; a change of what is lit calls this first. -/
def State.countOn (s : State) : State :=
  let dt := s.tick - s.tlm.upTo
  if dt = 0 then s
  else
    let l := strs.foldl (fun l i => s.countStack dt i l) s.tlm.cnt
    s.modTlm (fun t => { t with cnt := s.countGrid dt l, upTo := s.tick })

/-! ### Enables, lockouts and drives -/

/-- Gate lockouts and the holds that act at once: VCC5, the bootstrap of string `i`, a clock-stop release, thermal shutdown
(02 R39, 04 R115, 18 R684). -/
def State.gateLock (s : State) (i : Fin 6) : Bool :=
  !s.b F.pwrStat_VCC5OK || (s.pw i).bstLow || s.clk.release || s.flt.thermal

/-- The effective enable by domain control, dimming apart (14 R548). -/
def State.strWanted (s : State) (i : Fin 6) : Bool :=
  (s.st i).enOk && !s.b F.strStat_OPENLK i && !(s.st i).unlock && !s.domDark (s.ownStr i)

/-- The effective enable of string `i` (14 R548, 18 R688, R694). -/
def State.strActive (s : State) (i : Fin 6) : Bool :=
  !s.chanOff i && (if s.hearthOn then bitN s.hearth.strs i && !s.b F.strStat_OPENLK i && !(s.st i).unlock
    else s.strWanted i && (s.st i).dimOn)

/-- The lit count the loop unit of string `i` has (15 R575). -/
def State.litOf (s : State) (i : Fin 6) : Nat :=
  if (s.st i).litSeen then s.g F.strOut_LIT i
  else 16 - ((upto 16).filter (fun k => bitN (s.g F.bypUnused_MASK i) k)).length

/-- The soft start (14 R542). -/
def State.softStart (s : State) (i : Fin 6) : State :=
  let dmin := s.g F.strDmin_DMIN i
  let s1 := (s.p F.strMeas_IEFF i 0).p F.strOut_U i dmin
  (s1.modSt i (fun x => { x with
    upi := ((dmin : Int) - x.uff) * 65536, eprev := 0, judge := false, slewK := 0, slewEdge := false, sample := none, openRow := 0
    shortRow := 0 })).pb F.strStat_SLEWING i false

/-- Follow the effective enable of string `i`: `dim` marks a change by string dimming (14 R542, R547, R551). -/
def State.refreshStr (s0 : State) (dim : Bool) (i : Fin 6) : State :=
  let s := s0.countOn
  let a := s.strActive i
  let was := s.b F.strStat_ACTIVE i
  let s1 := s.pb F.strStat_ACTIVE i a
  if a && !was && !dim then s1.softStart i
  else if !a && was && !dim && (s1.st i).fbOver && !s1.hearthOn then
    ((s1.modSt i (fun x => { x with fbOver := false, fbGood := 0 })).pb F.strStat_FALLBACK i false).p F.strEvcnt_CONSEC i 0
  else s1

/-- Gate drivers go Hi-Z at once under a lockout (02 R39, 13 R522). -/
def State.refreshGate (s : State) (i : Fin 6) : State :=
  if s.gateLock i then s.pb F.pwmStat_DRIVE i false else s

/-- Whether stack `i` is driven: a tray is live for it or hearth mode supplies it (15 R570), and neither containment nor a
lockout opens its switches (18 R688; 02 R39, that of its own bootstrap: log 57). Hearth mode without a preset drives none that it found open:
the others go dark by its ramp, and from its end every switch is open, as Before configuration (02 R47, 18 R695); in its
exit ramp a stack is driven for its live tray. -/
def State.stackDriven (s : State) (i : Fin 6) : Bool :=
  let live := (kvGet s.px.live i).isSome
  !s.chanOff i && s.b F.pwrStat_VCC5OK && !(s.pw i).bstLow && s.running &&
    (if !s.hearthOn then live
     else if s.g F.hearthStat_SRC != 0 then true
     else match s.g F.hearthStat_STATE with
       | 1 => bitN s.hearth.fed i
       | 3 => live
       | _ => false)

/-- Lit count of a switch mask: open and neither unused nor auto-bypassed (15 R575). -/
def State.litCount (s : State) (i : Fin 6) (sw : Nat) : Nat :=
  ((upto 16).filter (fun k => bitN sw k && !bitN (s.g F.bypUnused_MASK i) k && !bitN (s.g F.bypAutobyp_MASK i) k)).length

/-- The switches of stack `i` take a new state; a driven stack delivers its lit count (15 R575, 14 R540). -/
def State.setSw (s0 : State) (i : Fin 6) (sw : Nat) : State :=
  let s := s0.countOn
  let s1 := (s.modBy i (fun b => { b with sw := sw })).p F.bypState_SW i sw
  if s.b F.bypStat_DRIVEN i then
    let n := s1.litCount i sw
    let s2 := (s1.p F.bypState_LIT i n).p F.strOut_LIT i n
    s2.modSt i (fun x => { x with litSeen := true, litChg := x.litChg || n != s.litOf i })
  else s1

/-- Follow whether stack `i` is driven: a stack that is not has every switch open; one that begins to be has no duty in
use yet, so that its switches are closed (15 R570; log 21). -/
def State.refreshStack (s : State) (i : Fin 6) : State :=
  let d := s.stackDriven i
  let was := s.b F.bypStat_DRIVEN i
  let s1 := (s.pb F.bypStat_DRIVEN i d).pb F.bypStat_LIVE i (kvGet s.px.live i).isSome
  if d && !was then (s1.modBy i (fun b => { b with useD := [], edges := [], late := [], carry := [] })).setSw i 0
  else if !d && (was || (s1.by i).sw != 0xFFFF) then
    (s1.modBy i (fun b => { b with useD := [], edges := [], late := [], carry := [] })).setSw i 0xFFFF
  else s1

/-- The grid's effective enable (15 R579, 18 R688, R689, R700). -/
def State.gridActive (s : State) : Bool :=
  !s.chanOff 6 && s.running &&
    (if s.hearthOn then
      s.hearth.shown.any (fun p => 96 ≤ p.1 && p.1 < 480 && 0 < p.2) && s.hearth.shown.any (fun p => 486 ≤ p.1 && 0 < p.2)
     else s.b F.gridCtl_EN && !s.domDark s.ownGrid)

/-- The slot in progress goes to blank: row and sinks off (15 R580). -/
def State.gridBlank (s0 : State) : State :=
  let s := s0.countOn
  { s with grid := { s.grid with phase := 3, sinks := 0, rowOn := false } }

/-- The grid stops (15 R580, R591): the slot goes to blank, RUN ends; GRID_FCNT keeps its value. -/
def State.gridStop (s : State) : State :=
  let s1 := (s.pb F.gridStat_RUN 0 false).gridBlank
  { s1 with grid := { s1.grid with starting := false, resync := none, next := none } }

/-- Follow the grid's enable when it ends. -/
def State.refreshGrid (s : State) : State :=
  if s.gridActive then s else if s.b F.gridStat_RUN || s.grid.starting then s.gridStop else s

/-- Follow every enable and lockout that acts at once. -/
def State.outputs (s : State) : State :=
  let s1 := each strs (fun i s => ((s.refreshStr false i).refreshGate i).refreshStack i) s
  let s2 := s1.refreshGrid
  if s2.clk.release || s2.flt.thermal || !s2.b F.pwrStat_VCC5OK then
    { s2 with grid := { s2.grid with sinks := 0, rowOn := false } }
  else s2

/-- A quantity under the ramp of its domain, if there is one (05 R159; 18 R689, R690): `own` is what its trays and registers
give; held dark after a ramp to dark. -/
def State.domRamp (s : State) (d key own : Nat) : Nat :=
  match kvGet s.domRamps d with
  | none => if s.domDark d then 0 else own
  | some r =>
    let v0 : Int := (kvD r.v0 key 0 : Nat)
    let v1 : Int := if r.toDark then 0 else own
    (v0 + Int.tdiv ((v1 - v0) * r.k) r.n).toNat

/-- The ramp to dark of domain `d` under containment is due at the next slice boundary (18 R689). -/
def State.containDomain (s : State) (d : Nat) : State :=
  if bitN s.flt.dcont d then s else { s with flt := { s.flt with dcont := s.flt.dcont ||| 2 ^ d } }

end Sys2Proof.Machine
end

