-- ==== Sys2Proof/Machine/AdcBase.lean ====
section
/-!
DEFINITION. Triggers of the injected entries of the ADC (16 R611, R612), and what a debug freeze holds (20 R759).
-/

namespace Sys2Proof.Machine

/-- Whether a freeze is active on the peripheral of DBG_FRZ bit `k` (20 R759). -/
def State.frozen (s : State) (k : Nat) : Bool := s.g F.u2dHalt_HALT != 0 && bitN (s.g F.dbgFrz_FRZ) k

/-- Table set `x` and converter `x`. -/
def State.tab (s : State) (x : Fin 2) : AdcTab := vget s.adcTab x
def State.cv (s : State) (x : Fin 2) : AdcCv := vget s.adcCv x
def State.modTab (s : State) (x : Fin 2) (f : AdcTab → AdcTab) : State := { s with adcTab := vset s.adcTab x (f (s.tab x)) }
def State.modCv (s : State) (x : Fin 2) (f : AdcCv → AdcCv) : State := { s with adcCv := vset s.adcCv x (f (s.cv x)) }

/-- The converter that serves table set `x`: its partner while ADCx is FAILED or parked for calibration (16 R627, R630). -/
def State.serves (s : State) (x : Fin 2) : Fin 2 :=
  if (s.tab x).hosted then 1 - x else x

/-- Entry `j` of table set `x` is triggered: its DELAY is counted from here on (16 R611); a frozen converter drops the trigger
(20 R759). -/
def State.adcTrigEntry (s : State) (x : Fin 2) (j trig mark : Nat) : State :=
  if s.frozen (6 + (s.serves x).val) then s
  else s.modTab x (fun t => { t with pend := t.pend ++ [{ tab := x.val, j := j, trig := trig, mark := mark, t := s.time }] })

/-- A trigger event reaches every injected entry of both table sets that names it (16 R611). `mark` keeps what the trigger
referred to: the carrier period, or the pixel selected. -/
def State.adcTrigger (s : State) (code mark : Nat) : State :=
  each [(0 : Fin 2), 1] (fun x s =>
    if s.b F.adcInjctl_EN x then
      each (upto 8) (fun j s => if s.g F.adcInj_TRIG (8 * x.val + j) = code then s.adcTrigEntry x j code mark else s) s
    else s) s

end Sys2Proof.Machine
end

