-- ==== Sys2Proof/Machine/Faults.lean ====
section
/-!
DEFINITION. The fault manager: raising a fault with its capture, count, notification and reaction (18 R681-R691),
containment of channels and domains, and the causes of hearth mode (18 R692, R693).
-/

namespace Sys2Proof.Machine

/-- A fault waits for fSYS in the always-on domain, once (18 R691). -/
def State.latchFault (s : State) (n chans : Nat) : State :=
  if s.clk.latched.any (·.1 == n) then s else { s with clk := { s.clk with latched := s.clk.latched ++ [(n, chans)] } }

/-- The capture of a fault with its class and REACT for its domain (18 R691): the first is kept, OVF marks a further one. -/
def State.fltCapture (s : State) (n d react : Nat) : State :=
  if s.b F.fltCap_VALID d then s.pb F.fltCap_OVF d true
  else s.wr .fltCap d (BitVec.ofNat 32 (n + fltClass n * 2 ^ 8 + react * 2 ^ 10 + 2 ^ 31))

/-- The counter of a fault class (18 R691). -/
def State.fltCount (s : State) (cls : Nat) : State :=
  match cls with
  | 0 => s.incSat F.fltCnt_F0
  | 1 => s.incSat F.fltCnt_F1
  | 2 => s.incSat F.fltCnt_F2
  | _ => s.incSat F.fltCnt_F3

/-- The notification of a fault class, to the domain `d` it is charged to (18 R691). -/
def State.fltNotify (s : State) (cls d : Nat) : State :=
  match cls with
  | 0 => s.flagIrq F.fltGstat_RECF0 0 86
  | 1 => s.flagIrq F.fltGstat_RECF1 0 86
  | 2 => (s.setBits .fltGstat 0 (2 ^ (16 + d))).pendIrq (76 + d)
  | _ => s.flagIrq F.hearthStat_ENTERED 0 87

/-- A reaction begins: contain the channels `chans`, contain the domain `d`, hearth mode (18 R685, R686). -/
def State.fltReact (s : State) (n react chans d : Nat) : State :=
  let s1 := { s with flt := { s.flt with
    react := kvSet s.flt.react n (kvD s.flt.react n 0 ||| 2 ^ react)
    chans := if react = 1 then kvSet s.flt.chans n (kvD s.flt.chans n 0 ||| chans) else s.flt.chans } }
  match react with
  | 1 => s1.outputs
  | 2 => s1.containDomain d
  | 3 => s1.hearthCause
  | _ => s1

/-- Raise a fault on channels `chans` (a mask, used by the sources that name a channel by their event). The steps are those
of 18 R691, then the reaction of 18 R685, R686. While fSYS is stopped the fault waits until it runs again. -/
def State.raiseOn (s : State) (n chans : Nat) : State :=
  if fltRsv n then s
  else if !s.clk.fsys then s.latchFault n chans
  else
    let s1 := ((((s.setBits .fltStat (n / 32) (2 ^ (n % 32))).fltCapture n (s.charged n) (s.fltReactOf n)).fltCount (fltClass n)).trace
      5 n (fltClass n + 4 * s.fltReactOf n) 0).fltNotify (fltClass n) (s.charged n)
    if s.fltBit n && fltLevel n then s1 else s1.fltReact n (s.fltReactOf n) chans (s.charged n)

/-- Raise a fault whose channel is the one its number names. -/
def State.raise (s : State) (n : Nat) : State := s.raiseOn n (fltChan n)

/-- The condition of a level source begins: its bit is set (18 R683, latch L). -/
def State.levelOn (s : State) (n : Nat) : State :=
  if s.flt.level.contains n then s
  else { s with flt := { s.flt with level := n :: s.flt.level } }.raise n

/-- A fault bit goes to 0: its reactions end; the channels it contained restart at the next slice boundary (18 R686, R688). -/
def State.endFault (s : State) (n : Nat) : State :=
  let before := s.contained
  let s1 := { s.clrBits .fltStat (n / 32) (2 ^ (n % 32)) with
    flt := { s.flt with react := kvDel s.flt.react n, chans := kvDel s.flt.chans n } }
  { s1 with flt := { s1.flt with restart := s1.flt.restart ||| (before &&& (127 ^^^ s1.contained)) } }.hearthCause

/-- The condition of a level source ends: its bit, set while the condition holds, is cleared (18 R683; log 12). -/
def State.levelOff (s : State) (n : Nat) : State :=
  if s.flt.level.contains n then
    ({ s with flt := { s.flt with level := s.flt.level.filter (· != n) } }.endFault n)
  else s

/-- A W1C clear of one fault bit: the bit of a level source whose condition holds is set again, its reaction continuing
(18 R683, R686, R704). -/
def State.clearFault (s : State) (n : Nat) : State :=
  if !s.fltBit n then s
  else if s.flt.level.contains n then s
  else s.endFault n

end Sys2Proof.Machine
end

