-- ==== Sys2Proof/Machine/Loop.lean ====
section
/-!
DEFINITION. The loop unit of a string channel (14 R540-R551): feed-forward, output, handover, overruns, peak fallback, and the
string detections.
-/

namespace Sys2Proof.Machine

/-- STRs runs in peak fallback (14 R551). -/
def State.fb (s : State) (i : Fin 6) : Bool := s.b F.strStat_FALLBACK i

/-- A P-class update of a block to CA: staged, and baked at once while the generator does not run (06 R200, 13 R522). -/
def State.stageCa (s : State) (i : Fin 6) (v : Nat) : State :=
  let s1 := s.stageBlk F.pwmCa_CA i v
  if (s.pw i).run then s1 else s1.bake (fun e => e.addr == 0xA008 + 0x200 * i.val)

/-- The staged CA for an output `u` (14 R541). -/
def State.caOf (s : State) (i : Fin 6) (u : Nat) : Nat :=
  if s.g F.pwmCtl_MODE i = 0 then min (s.g F.pwmCb_CB i + u) 0x1FFFFF else u

/-- UFF for lit count `n` (14 R545), in whole fine steps; a quotient by a zero voltage is free (log 22). -/
def State.uffOf (s : State) (i : Fin 6) (n : Nat) : Nat × State :=
  let dmax := s.g F.strDmax_DMAX i
  let per := s.g F.pwmPer_PER i
  let vl2 := 2 * (20 * s.g F.strFfv_VFIX i + n * s.g F.strFfv_VF i)
  let vin2 := 125 * s.g F.strVmon_VIN i
  if !s.b F.strCtl_FFEN i || s.g F.pwmCtl_MODE i ≠ 0 || (s.st i).slewEdge then (0, s)
  else
    let q (num den : Nat) : Nat × State :=
      if den = 0 then
        let r := s.fresh 21
        (min r.1.toNat dmax, r.2)
      else (min (num * per / den) dmax, s)
    match s.g F.strCtl_TOPO i with
    | 0 => q vl2 vin2
    | 1 => if vl2 ≤ vin2 then (0, s) else q (vl2 - vin2) vl2
    | _ => q vl2 (vin2 + vl2)

/-- The topology in force: the preset's for a string that hearth mode supplies (18 R694). -/
def State.topo (s : State) (i : Fin 6) : Nat :=
  if s.hearthOn && bitN s.hearth.strs i then kvD s.hearth.topo i 0 else s.g F.strCtl_TOPO i

/-- The generator settings in force: MODE, CA, CB, PKEN, with the overrides of peak fallback (14 R551). -/
def State.eMode (s : State) (i : Fin 6) : Nat := if s.fb i then 0 else s.g F.pwmCtl_MODE i
def State.eCa (s : State) (i : Fin 6) : Nat := if s.fb i then s.g F.strDmax_DMAX i else s.g F.pwmCa_CA i
def State.eCb (s : State) (i : Fin 6) : Nat := if s.fb i then 0 else s.g F.pwmCb_CB i
def State.ePk (s : State) (i : Fin 6) : Bool := s.fb i || s.b F.pwmCtl_PKEN i

/-- The clamp of UPI between DMIN - UFF and DMAX - UFF (14 R541). -/
def State.clampUpi (s : State) (i : Fin 6) (uff : Nat) (upi : Int) : Int :=
  clampI (((s.g F.strDmin_DMIN i : Int) - uff) * 65536) (((s.g F.strDmax_DMAX i : Int) - uff) * 65536) upi

/-- Feed-forward at a P point: a change of the lit count takes effect in UFF, u steps with it and is clamped, UPI kept or
clamped with it (14 R545, R552). -/
def State.ffPoint (s : State) (i : Fin 6) : State :=
  let n := s.litOf i
  if (s.st i).nff = n || !s.b F.strCtl_FFEN i || s.g F.pwmCtl_MODE i ≠ 0 then s.modSt i (fun x => { x with nff := n })
  else
    let r := s.uffOf i n
    let s1 := r.2
    let upi := s1.clampUpi i r.1 (s1.st i).upi
    let u := ((r.1 : Int) + upi / 65536).toNat
    let s2 := (s1.modSt i (fun x => { x with nff := n, uff := r.1, upi := upi })).p F.strOut_U i u
    if s2.b F.pwmCtl_CASRC i && !s2.fb i then s2.stageCa i (s2.caOf i u) else s2

/-- The loop unit of a string whose enable became active since `old` starts: u = DMIN goes to the staged CA, and UPI is DMIN - UFF with the
present feed-forward (14 R542; log 79). -/
def State.startDuty (s old : State) (i : Fin 6) : State :=
  if !s.b F.strStat_ACTIVE i || old.b F.strStat_ACTIVE i then s
  else
    let dmin := s.g F.strDmin_DMIN i
    let r := s.uffOf i (s.st i).nff
    let s1 := r.2.modSt i (fun x => { x with uff := r.1, upi := ((dmin : Int) - r.1) * 65536 })
    if s1.b F.pwmCtl_CASRC i && !s1.fb i then s1.stageCa i (s1.caOf i dmin) else s1

/-- Enter peak fallback on overrun (14 R550, R551). -/
def State.enterFallback (s : State) (i : Fin 6) : State :=
  if s.fb i then s
  else
    let s1 := (s.modSt i (fun x => { x with fbOver := true, fbGood := 0 })).pb F.strStat_FALLBACK i true
    (s1.flagIrq F.strStat_FBENT i i).incSat F.strEvcnt_FBCNT i

/-- Seed the loop so that its first output is `seed`, and judge that output against the seed (14 R549). -/
def State.handover (s : State) (i : Fin 6) (seed : Nat) (edge : Bool) : State :=
  let s1 := s.modSt i (fun x => { x with judge := true, slewK := 0, slewS := seed, slewEdge := edge })
  let r := s1.uffOf i (s1.st i).nff
  (r.2.modSt i (fun x => { x with uff := r.1, upi := ((seed : Int) - r.1) * 65536, eprev := 0 })).pb F.strStat_SLEWING i false

/-- Peak fallback ends: consecutive overruns return to 0 and the loop resumes from TON (14 R551). -/
def State.endFallback (s : State) (i : Fin 6) : State :=
  let s1 := ((s.pb F.strStat_FALLBACK i false).p F.strEvcnt_CONSEC i 0).modSt i (fun x => { x with fbOver := false, fbGood := 0 })
  s1.handover i (s1.g F.pwmTon_TON i) false

/-- The loop overrun of a period in which an update was due (14 R544, R550), or a period of overrun fallback judged good or
not (14 R551). `due`: TRG should have been emitted; `sampled`: a used sample reached the staged copy in time. -/
def State.judgeLoop (s : State) (i : Fin 6) (due sampled excused : Bool) : State :=
  if !due then s
  else if s.fb i then
    if (s.st i).fbOver && !s.hearthOn then
      if sampled then
        if (s.st i).fbGood + 1 = 16 then s.endFallback i else s.modSt i (fun x => { x with fbGood := x.fbGood + 1 })
      else if excused then s
      else s.modSt i (fun x => { x with fbGood := 0 })
    else s
  else if !s.b F.pwmCtl_CASRC i || excused then s
  else if sampled then s.p F.strEvcnt_CONSEC i 0
  else
    let c := satN 8 (s.g F.strEvcnt_CONSEC i + 1)
    let s1 := ((s.flagIrq F.strStat_LOOPOVR i i).incSat F.strEvcnt_OVRCNT i).p F.strEvcnt_CONSEC i c
    if c = 8 && s.g F.strEvcnt_CONSEC i = 7 then
      let s2 := s1.raise (56 + i.val)
      if s2.b F.strCtl_FBAUTO i then s2.enterFallback i else s2
    else s1

/-- The open-string lockout (14 R550). -/
def State.openString (s : State) (i : Fin 6) : State :=
  ((((s.pb F.strStat_OPENLK i true).flagIrq F.strStat_OPEN i i).raise (44 + i.val)).refreshStr false i).modSt i
    (fun x => { x with openRow := 0 })

/-- The owner clears STRs_STAT.OPEN by writing 1 to it, whether or not the bit stood (log 80): a lockout ends, and the enable may become
active at the next slice boundary (14 R550). -/
def State.openCleared (s : State) (i : Fin 6) : State :=
  if s.b F.strStat_OPENLK i then (s.pb F.strStat_OPENLK i false).modSt i (fun x => { x with unlock := true }) else s

/-- The present period gives no used sample (14 R540): its lit count has changed, it has an off part of string dimming or is the
first after one, or its outputs are not driven. -/
def State.sampleVoid (s : State) (i : Fin 6) : Bool :=
  (s.st i).litChg || !(s.st i).dimOn || (s.st i).dimOff || (s.st i).dimFirst || !s.b F.pwmStat_DRIVE i

/-- An ISNS result of STRs: ILED; `used` when a TRG event of the present period started it (14 R540). -/
def State.isnsResult (s : State) (i : Fin 6) (code : Nat) (used : Bool) : State :=
  let s1 := s.p F.strMeas_ILED i code
  if !used then s1
  else if s.sampleVoid i then s1.modPw i (fun p => { p with excused := true })
  else s1.modSt i (fun x => { x with sample := some code, sampleOld := false })

/-- The reference that IEFF moves toward: IREF, scaled by a release ramp of the owner, and IEFF itself while a ramp to dark
sets it (14 R542, 18 R689, R690). -/
def State.irefNow (s : State) (i : Fin 6) : Nat :=
  let iref := s.g F.strIref_IREF i
  match kvGet s.domRamps (s.ownStr i) with
  | some r => if r.toDark then s.g F.strMeas_IEFF i else iref * r.k / r.n
  | none => iref

/-- IEFF after one used sample (14 R542). -/
def ieffStep (ieff iref ramp : Nat) : Nat :=
  if ieff < iref then min iref (ieff + ramp) else max iref (ieff - ramp)

/-- The output applied at the `k`-th slewed update (14 R549). -/
def slewOut (seed u k : Nat) : Nat := ((seed : Int) + Int.tdiv (((u : Int) - seed) * k) 8).toNat

/-- LOOP_UPDATE (14 R541, R542, R549): the loop unit computes its output from the used sample that waits and stages it. The
output of a sample of a period that has ended is late (04 R127): it takes effect at the next P point. A sample that the lit count or
the drive has since voided is not used (14 R540). Nothing happens while fSYS is stopped or the generator frozen (13 R525). -/
def execLoopUpdate (i : Fin 6) (s : State) : Host.Outcome State Fault Refusal :=
  match (s.st i).sample with
  | none => .next s
  | some meas =>
    let old := (s.st i).sampleOld
    let s0 := (s.modSt i (fun x => { x with sample := none })).modPw i (fun p => { p with updDone := p.updDone || !old })
    if !s.running || !s.clk.fsys || s.b F.pwmStat_FROZEN i then .next s
    else if !old && s.sampleVoid i then
      .next ((s.modSt i (fun x => { x with sample := none })).modPw i (fun p => { p with excused := true }))
    else if s0.fb i then .next s0
    else
      let mode := s0.g F.pwmCtl_MODE i
      let iref := s0.irefNow i
      let ieff := ieffStep (s0.g F.strMeas_IEFF i) iref (s0.g F.strIref_RAMP i)
      let e : Int := if mode = 2 then (meas : Int) - ieff else (ieff : Int) - meas
      let x := s0.st i
      let d : Int := s0.g F.strLoop_KP i * (e - x.eprev) + s0.g F.strLoop_KI i * e
      let r := s0.uffOf i x.nff
      let s1 := r.2
      let upi := s1.clampUpi i r.1 (x.upi + d * (2 : Int) ^ (16 - s1.g F.strLoop_SHIFT i))
      let u := ((r.1 : Int) + upi / 65536).toNat
      let slew := if x.judge then decide (x.slewS < 8 * (u - x.slewS + (x.slewS - u))) else decide (0 < x.slewK && x.slewK < 8)
      let k := if slew then x.slewK + 1 else 0
      let out := if slew then slewOut x.slewS u k else u
      let dmax := s1.g F.strDmax_DMAX i
      let openNow := s1.b F.strDet_OPENEN i && decide (u = dmax) && decide (8 * meas < ieff) && decide (256 ≤ ieff)
      let s2 := s1.modSt i (fun x => { x with
        upi := upi, eprev := e, uff := r.1, judge := false, slewK := if k = 8 then 0 else k
        slewEdge := x.slewEdge && slew && k ≠ 8, eAbs := e.natAbs, openRow := if openNow then x.openRow + 1 else 0 })
      let s3 := ((s2.p F.strMeas_IEFF i ieff).p F.strOut_U i out).pb F.strStat_SLEWING i slew
      let s4 := if s3.b F.pwmCtl_CASRC i then s3.stageCa i (s3.caOf i out) else s3
      .next (if openNow && x.openRow + 1 = 64 then s4.openString i else s4)

/-- A corrected VO result of STRs, one code for 16 mV (16 R610): VSTR in 20 mV, rounded down (log 24), and short detection
while the string is active (14 R550; log 23). Voltages are taken in half millivolts. -/
def State.voResult (s : State) (i : Fin 6) (code : Nat) : State :=
  let vbat2 := s.g F.strVmon_VIN i * 125
  let vstr2 := if s.topo i = 2 then 32 * code - vbat2 else 32 * code
  let s1 := s.p F.strVmon_VSTR i (satN 4095 (vstr2 / 40))
  let smarg := s.g F.strDet_SMARG i
  let x := s.st i
  let vl2 := 2 * (20 * s.g F.strFfv_VFIX i + s.litOf i * s.g F.strFfv_VF i)
  if smarg = 0 || !s.b F.strStat_ACTIVE i || s.g F.strMeas_IEFF i < 16 * x.eAbs || vl2 ≤ vstr2 + 200 * smarg then
    s1.modSt i (fun x => { x with shortRow := 0 })
  else if x.shortRow + 1 = 64 then
    let s2 := ((s1.modSt i (fun x => { x with shortRow := 0 })).flagIrq F.strStat_SHORT i i).raise (50 + i.val)
    if s2.b F.strCtl_SHORTOFF i then (s2.pb F.strStat_OPENLK i true).refreshStr false i else s2
  else s1.modSt i (fun x => { x with shortRow := x.shortRow + 1 })

/-- SUPPLY_MONITOR_SAMPLE (14 R537): VIN of every loop unit takes VBAT / 62.5 mV, rounded half up and clamped; the monitor runs while
VDD11 is in regulation. -/
def execSupplyMonitorSample (vbatMv : BitVec 16) (s : State) : Host.Outcome State Fault Refusal :=
  match s.pwr.mode, s.pwr.rails with
  | .off, _ | .standby _, _ | _, false => .next s
  | _, _ =>
    let vin := satN 1023 ((4 * vbatMv.toNat + 125) / 250)
    .next (each strs (fun i s => s.p F.strVmon_VIN i vin) s)

/-- DIM_PERIOD_EDGE (14 R547): the end of the on part, or the start of a dimming period; the effective enable follows. -/
def execDimPeriodEdge (i : Fin 6) (s : State) : Host.Outcome State Fault Refusal :=
  if !s.b F.strDim_DEN i || !s.running || !s.clk.fsys then .next s
  else
    let duty := s.g F.strDim_DUTY i
    let on := if (s.st i).dimOn then decide (1024 ≤ duty) else decide (0 < duty)
    .next ((s.modSt i (fun x => { x with dimOn := on, dimOff := x.dimOff || !on })).refreshStr true i)

end Sys2Proof.Machine
end

