-- ==== Sys2Proof/Machine/Crypto.lean ====
section
/-!
DEFINITION. Checks and ciphers that the spec names by their parameters: CRC-8 (07 R246), CRC-32 (10 R392), AES-128
(FIPS 197) and its CMAC (NIST SP 800-38B), on lists of byte values; the body of FIPS 197 and SP 800-38B is taken as
published (log 3).
-/

namespace Sys2Proof.Machine

/-! ### Bytes -/

/-- The `w` bytes of a number, most significant byte first. -/
def beBytes : Nat → Nat → List Nat
  | 0, _ => []
  | w + 1, n => (n / 256 ^ w % 256) :: beBytes w n

/-- The number that bytes spell, most significant byte first. -/
def beNat (l : List Nat) : Nat := l.foldl (fun n b => 256 * n + b) 0

/-- The number that bytes spell, least significant byte first. -/
def leNat : List Nat → Nat
  | [] => 0
  | b :: t => b + 256 * leNat t

/-- Bytes `i` to `i + n - 1` of a list. -/
def sub8 (l : List Nat) (i n : Nat) : List Nat := (l.drop i).take n

/-- Byte `i` of a list. -/
def nth8 (l : List Nat) (i : Nat) : Nat := l.getD i 0

/-! ### CRC-8 and CRC-32 -/

/-- `k` shifts of the CRC-8 register (07 R246). -/
def crc8Shift : Nat → Nat → Nat
  | 0, c => c
  | k + 1, c => crc8Shift k (if 128 ≤ c then (2 * c % 256) ^^^ 0x1D else 2 * c)

/-- The CRC-8 of bytes (07 R246). -/
def crc8 (l : List Nat) : Nat := (l.foldl (fun c b => crc8Shift 8 (c ^^^ b)) 0xFF) ^^^ 0xFF

/-- `k` shifts of the reflected CRC-32 register (10 R392). -/
def crc32Shift : Nat → Nat → Nat
  | 0, c => c
  | k + 1, c => crc32Shift k (if c % 2 = 1 then c / 2 ^^^ 0xEDB88320 else c / 2)

/-- The CRC-32 of bytes (10 R392). -/
def crc32 (l : List Nat) : Nat := (l.foldl (fun c b => crc32Shift 8 (c ^^^ b)) 0xFFFFFFFF) ^^^ 0xFFFFFFFF

/-! ### AES-128 -/

/-- Multiplication by x in the field of AES. -/
def gfX (a : Nat) : Nat := if a < 128 then 2 * a else (2 * a) ^^^ 0x11B

/-- Multiplication in the field of AES, `k` bits of the second factor. -/
def gfMulAux : Nat → Nat → Nat → Nat
  | 0, _, _ => 0
  | k + 1, a, b => (if b % 2 = 1 then a else 0) ^^^ gfMulAux k (gfX a) (b / 2)
def gfMul (a b : Nat) : Nat := gfMulAux 8 a b

/-- The substitution table of FIPS 197, a row of sixteen bytes per high nibble, and the inverse one. -/
def sboxRows : List Nat := [
  0x637c777bf26b6fc53001672bfed7ab76, 0xca82c97dfa5947f0add4a2af9ca472c0,
  0xb7fd9326363ff7cc34a5e5f171d83115, 0x04c723c31896059a071280e2eb27b275,
  0x09832c1a1b6e5aa0523bd6b329e32f84, 0x53d100ed20fcb15b6acbbe394a4c58cf,
  0xd0efaafb434d338545f9027f503c9fa8, 0x51a3408f929d38f5bcb6da2110fff3d2,
  0xcd0c13ec5f974417c4a77e3d645d1973, 0x60814fdc222a908846eeb814de5e0bdb,
  0xe0323a0a4906245cc2d3ac629195e479, 0xe7c8376d8dd54ea96c56f4ea657aae08,
  0xba78252e1ca6b4c6e8dd741f4bbd8b8a, 0x703eb5664803f60e613557b986c11d9e,
  0xe1f8981169d98e949b1e87e9ce5528df, 0x8ca1890dbfe6426841992d0fb054bb16]
def invSboxRows : List Nat := [
  0x52096ad53036a538bf40a39e81f3d7fb, 0x7ce339829b2fff87348e4344c4dee9cb,
  0x547b9432a6c2233dee4c950b42fac34e, 0x082ea16628d924b2765ba2496d8bd125,
  0x72f8f66486689816d4a45ccc5d65b692, 0x6c704850fdedb9da5e154657a78d9d84,
  0x90d8ab008cbcd30af7e45805b8b34506, 0xd02c1e8fca3f0f02c1afbd0301138a6b,
  0x3a9111414f67dcea97f2cfcef0b4e673, 0x96ac7422e7ad3585e2f937e81c75df6e,
  0x47f11a711d29c5896fb7620eaa18be1b, 0xfc563e4bc6d279209adbc0fe78cd5af4,
  0x1fdda8338807c731b11210592780ec5f, 0x60517fa919b54a0d2de57a9f93c99cef,
  0xa0e03b4dae2af5b0c8ebbb3c83539961, 0x172b047eba77d626e169146355210c7d]

/-- The byte of a table in row x / 16, column x % 16. -/
def sboxAt (l : List Nat) (x : Nat) : Nat := l.getD (x / 16) 0 / 2 ^ (8 * (15 - x % 16)) % 256
def aesSub (x : Nat) : Nat := sboxAt sboxRows x
def aesInvSub (x : Nat) : Nat := sboxAt invSboxRows x

/-- Bytewise exclusive or. -/
def xor8 (a b : List Nat) : List Nat := List.zipWith (· ^^^ ·) a b

/-- The next round key, from the present one and the round constant. -/
def nextKey (k : List Nat) (rc : Nat) : List Nat :=
  let t := [aesSub (nth8 k 13) ^^^ rc, aesSub (nth8 k 14), aesSub (nth8 k 15), aesSub (nth8 k 12)]
  let w0 := xor8 (sub8 k 0 4) t
  let w1 := xor8 (sub8 k 4 4) w0
  let w2 := xor8 (sub8 k 8 4) w1
  let w3 := xor8 (sub8 k 12 4) w2
  w0 ++ w1 ++ w2 ++ w3

/-- The round keys from `k` on, `n` further ones. -/
def roundKeys : Nat → List Nat → Nat → List (List Nat)
  | 0, k, _ => [k]
  | n + 1, k, rc => k :: roundKeys n (nextKey k rc) (gfX rc)

/-- The row shift and its inverse. -/
def shiftRows (b : List Nat) : List Nat :=
  (List.range 16).map (fun i => nth8 b (i % 4 + 4 * ((i / 4 + i % 4) % 4)))
def invShiftRows (b : List Nat) : List Nat :=
  (List.range 16).map (fun i => nth8 b (i % 4 + 4 * ((i / 4 + 4 - i % 4) % 4)))

/-- A column mix with the first row of its matrix. -/
def mixWith (m : List Nat) (b : List Nat) : List Nat :=
  (List.range 16).map (fun i =>
    let c := 4 * (i / 4)
    gfMul (nth8 b c) (nth8 m ((4 - i % 4) % 4)) ^^^ gfMul (nth8 b (c + 1)) (nth8 m ((5 - i % 4) % 4))
      ^^^ gfMul (nth8 b (c + 2)) (nth8 m ((6 - i % 4) % 4)) ^^^ gfMul (nth8 b (c + 3)) (nth8 m ((7 - i % 4) % 4)))

/-- The rounds of encryption after the first key addition. -/
def aesRounds : List (List Nat) → List Nat → List Nat
  | [], b => b
  | [k], b => xor8 (shiftRows (b.map aesSub)) k
  | k :: t, b => aesRounds t (xor8 (mixWith [2, 3, 1, 1] (shiftRows (b.map aesSub))) k)

/-- AES-128 encryption of a block of 16 bytes under a key of 16 bytes. -/
def aesEnc (key blk : List Nat) : List Nat :=
  match roundKeys 10 key 1 with
  | [] => blk
  | k :: t => aesRounds t (xor8 blk k)

/-- The rounds of decryption, keys in reverse order, after the first key addition. -/
def aesInvRounds : List (List Nat) → List Nat → List Nat
  | [], b => b
  | [k], b => xor8 ((invShiftRows b).map aesInvSub) k
  | k :: t, b => aesInvRounds t (mixWith [14, 11, 13, 9] (xor8 ((invShiftRows b).map aesInvSub) k))

/-- AES-128 decryption of a block. -/
def aesDec (key blk : List Nat) : List Nat :=
  match (roundKeys 10 key 1).reverse with
  | [] => blk
  | k :: t => aesInvRounds t (xor8 blk k)

/-! ### CMAC -/

/-- Doubling in the field of CMAC. -/
def cmacDbl (n : Nat) : Nat := if n < 2 ^ 127 then 2 * n else (2 * n % 2 ^ 128) ^^^ 0x87

/-- The chain over the blocks of a message, the last of them masked by a subkey. -/
def cmacBlocks (key : List Nat) (k1 k2 : Nat) : Nat → List Nat → List Nat → List Nat
  | 0, x, _ => x
  | n + 1, x, m =>
    if m.length ≤ 16 then
      let last := if m.length = 16 then xor8 m (beBytes 16 k1)
        else xor8 (m ++ [0x80] ++ List.replicate (15 - m.length) 0) (beBytes 16 k2)
      aesEnc key (xor8 x last)
    else cmacBlocks key k1 k2 n (aesEnc key (xor8 x (m.take 16))) (m.drop 16)

/-- AES-128 CMAC of a message under a 128-bit key. -/
def cmac (key : Nat) (m : List Nat) : Nat :=
  let kb := beBytes 16 key
  let k1 := cmacDbl (beNat (aesEnc kb (List.replicate 16 0)))
  beNat (cmacBlocks kb k1 (cmacDbl k1) (m.length / 16 + 1) (List.replicate 16 0) m)

/-- The leftmost 64 bits of a CMAC. -/
def cmac64 (key : Nat) (m : List Nat) : Nat := cmac key m / 2 ^ 64

end Sys2Proof.Machine
end

