-- ==== Sys2Proof/Machine/Tamper.lean ====
section
/-!
DEFINITION. Key slots and their uses (19 R716-R720), the end of a D0 session (07 R260), larder wipes (10 R388) and the reaction
to a tamper event (19 R731, R735).
-/

namespace Sys2Proof.Machine

/-- Change the security state. -/
def State.modSec (s : State) (f : Sec → Sec) : State := { s with sec := f s.sec }

/-- Key slot `i`, and the state with it replaced; KEY_SLOTi shows it (19 R743). -/
def State.slot (s : State) (i : Fin 4) : Slot := vget s.sec.slots i
def State.setSlot (s : State) (i : Fin 4) (x : Slot) : State :=
  (s.modSec (fun c => { c with slots := vset c.slots i x })).wr .keySlot i
    (BitVec.ofNat 32 (x.st + x.use % 32 * 2 ^ 4 + x.ver % 2 ^ 16 * 2 ^ 16))

/-- The life-cycle state: 0 MANUFACTURE, 1 FIELD_OPEN, 2 FIELD_LOCKED, 3 RETURN, 4 SCRAP (19 R738). -/
def State.lcState (s : State) : Nat := s.g F.lcStat_STATE

/-- A slot is usable for a use: 0 SPI, 1 ZSP, 2 IMG, 3 WRAP, 4 LC (19 R717, R718). -/
def State.usable (s : State) (i : Fin 4) (use : Nat) : Bool :=
  (s.slot i).st == 1 && bitN (s.slot i).use use && s.lcState != 4 && !s.b F.secStat_KEYSOFF

/-- DEV_UID_HI then DEV_UID_LO, most significant byte first. -/
def State.uidBytes (s : State) : List Nat := beBytes 8 s.nv.uid

/-- The D0 session ends: the session registers return to their Reset values, FAILCNT and LOCKOUT apart (07 lead of the
registers, R260). -/
def State.sessionEnd (s : State) : State :=
  let keep := s.g F.spiSessstat_FAILCNT * 2 ^ 8 + s.g F.spiSessstat_LOCKOUT * 2 ^ 12
  (((s.wr .spiSessstat 0 (BitVec.ofNat 32 keep)).wr .spiChalHi 0 0).wr .spiChalLo 0 0).modSec
    (fun c => { c with spiReq := none })

/-- The key registers return to 0 (19 R725). -/
def State.keyRegsClear (s : State) : State :=
  ((each [0, 1, 2, 3] (fun i s => s.wr .keyData i 0) s).wr .keyTagHi 0 0).wr .keyTagLo 0 0

/-- The key-dependent registers return to their Reset values (19 R731). -/
def State.keyDependent (s : State) : State :=
  let s1 := s.sessionEnd.keyRegsClear.wr .keyAttr 0 0
  let s2 := ((s1.wr .lcChalHi 0 0).wr .lcChalLo 0 0).pb F.lcStat_CHAL 0 false
  { s2.modSec (fun c => { c with lcReq := none, lcOpen := none }) with net := { s2.net with kept := [] } }

/-- A larder wipe is requested with a cause (10 R388): it starts, or the one in progress starts again. -/
def State.wipeLarder (s : State) (cause : Nat) : State :=
  { s.pb F.memLardstat_WIPING 0 true with memc := { s.memc with wipe := cause } }

/-- A key command ends (19 R722, R725). -/
def State.keyEnd (s : State) (result : Nat) : State :=
  let s1 := ((s.pb F.keyStat_BUSY 0 false).p F.keyStat_RESULT 0 result).pb F.keyStat_ERR 0 (result != 1 || s.b F.keyStat_ERR)
  ((s1.modSec (fun c => { c with job := none })).keyRegsClear).flagIrq F.keyStat_DONE 0 94

/-- A life-cycle command ends (19 R730, R738). -/
def State.lcEnd (s : State) (result : Nat) : State :=
  let s1 := ((s.pb F.lcStat_BUSY 0 false).p F.lcStat_RESULT 0 result).pb F.lcStat_ERR 0 (result != 1 || s.b F.lcStat_ERR)
  (s1.modSec (fun c => { c with lcJob := none })).flagIrq F.lcStat_DONE 0 94

/-- The cause bit of SEC_STAT of a tamper fault (19 R745). -/
def tamperFlag (n : Nat) : Fld :=
  if n = 19 then F.secStat_CLK else if n = 22 then F.secStat_VDD else if n = 85 then F.secStat_U2D
  else if n = 86 then F.secStat_LARD else F.secStat_LCV

/-- A tamper event with fault `n` (19 R735, R737). -/
def State.tamper (s : State) (n : Nat) : State :=
  let s1 := s.wipeLarder (if n = 86 then 3 else 1)
  let s2 := if s1.sec.job.isSome then s1.keyEnd 7 else s1
  let s3 := if s2.sec.lcJob.isSome then s2.lcEnd 2 else s2
  let s4 := s3.keyDependent.pb F.secStat_KEYSOFF 0 true
  let s5 := s4.modSec (fun c => { c with u2dOff := c.u2dOff || n == 85 })
  let t := satN 255 (s5.nv.tamp + 1)
  let s6 := { s5 with nv := { s5.nv with tamp := t } }.p F.secStat_TAMPCNT 0 t
  (s6.flagIrq (tamperFlag n) 0 94).raise n

end Sys2Proof.Machine
end

