-- ==== Sys2Proof/Machine/Memory.lean ====
section
/-!
DEFINITION. Memory (10): the canonical list of bytes, its regions and owners, the SEC-DED code of R789, reads and writes of
words with their reactions, the crumb sweep, row sparing, fetch-ahead fills and larder wipes; the meanings of the
commands FETCH_AHEAD_FILL_DONE to LARDER_WIPE_DONE.
-/

namespace Sys2Proof.Machine

/-! ### The list of bytes -/

/-- The canonical form of a memory: addresses strictly rising from `lo`, no byte equal to 0, which is what an unlisted address
reads as (10 R385; log 4). -/
def Memory.wfFrom : Nat → List Host.Cell → Bool
  | _, [] => true
  | lo, (a, b) :: t => decide (lo ≤ a) && b != 0 && Memory.wfFrom (a + 1) t

/-- The canonical form. -/
def Memory.wf (m : List Host.Cell) : Bool := Memory.wfFrom 0 m

/-- The byte at an address. -/
def memGet : List Host.Cell → Nat → Byte
  | [], _ => 0
  | (k, v) :: t, a => if k = a then v else memGet t a

/-- The memory with one byte written. -/
def memSet : List Host.Cell → Nat → Byte → List Host.Cell
  | [], a, b => if b = 0 then [] else [(a, b)]
  | (k, v) :: t, a, b =>
    if a < k then (if b = 0 then (k, v) :: t else (a, b) :: (k, v) :: t)
    else if a = k then (if b = 0 then t else (k, b) :: t)
    else (k, v) :: memSet t a b

/-- The word at a byte address, least significant byte first (00 R6). -/
def memWord (m : List Host.Cell) (a : Nat) : Nat :=
  (memGet m a).toNat + (memGet m (a + 1)).toNat * 2 ^ 8 + (memGet m (a + 2)).toNat * 2 ^ 16
    + (memGet m (a + 3)).toNat * 2 ^ 24

/-- The memory with a word written. -/
def memSetWord (m : List Host.Cell) (a w : Nat) : List Host.Cell :=
  memSet (memSet (memSet (memSet m a (BitVec.ofNat 8 w)) (a + 1) (BitVec.ofNat 8 (w / 2 ^ 8)))
    (a + 2) (BitVec.ofNat 8 (w / 2 ^ 16))) (a + 3) (BitVec.ofNat 8 (w / 2 ^ 24))

/-- The memory with the addresses `lo` to `hi - 1` zero. -/
def memZero (m : List Host.Cell) (lo hi : Nat) : List Host.Cell := m.filter (fun c => c.1 < lo || hi ≤ c.1)

/-- The image store alone (10 R385). -/
def mramOnly (m : List Host.Cell) : List Host.Cell := m.filter (fun c => 0xC00000 ≤ c.1)

/-! ### Regions and owners (06 R181; 10 R366, R369) -/

/-- The memory windows. -/
inductive Region where
  | recipe | tray | data | hot | larder | image
  deriving DecidableEq, Repr

/-- The window that holds an address. -/
def regionOf (a : Nat) : Option Region :=
  if 0x800000 ≤ a && a < 0x820000 then some .recipe
  else if 0x820000 ≤ a && a < 0x838000 then some .tray
  else if 0x840000 ≤ a && a < 0x850000 then some .data
  else if 0xA00000 ≤ a && a < 0xA04000 then some .hot
  else if 0xB00000 ≤ a && a < 0xB01000 then some .larder
  else if 0xC00000 ≤ a && a < 0xE00000 then some .image
  else none

/-- Owner of the unit that holds an address; the larder belongs to D0, the image store to no domain. -/
def State.memOwner (s : State) (a : Nat) : Nat :=
  match regionOf a with
  | some .recipe => s.own2 .ownRmem ((a - 0x800000) / 0x2000)
  | some .tray => s.ownTray ((a - 0x820000) / 0x1000)
  | some .data => s.own2 .ownDmem ((a - 0x840000) / 0x2000)
  | some .hot => s.ownHot ((a - 0xA00000) / 0x400)
  | _ => 0

/-- Base address of a tray code (12 R479). -/
def trayBase (t : Nat) : Nat := if t < 0x80 then 0x820000 + 0x400 * t else 0xA00000 + 0x400 * (t - 0x80)

/-- A tray code names a tray: 0x00-0x5F or 0x80-0x8F. -/
def trayOk (t : Nat) : Bool := t < 0x60 || (0x80 ≤ t && t < 0x90)

/-- Owner of a tray by its code. -/
def State.trayOwner (s : State) (t : Nat) : Nat := if t < 0x80 then s.ownTray (t / 4) else s.ownHot (t - 0x80)

/-! ### The SEC-DED code (10 R789). An error mask has bit p for position p, 1-38, and bit 0 for C6. -/

/-- The position of data bit `n`. -/
def dataPos (n : Nat) : Nat :=
  if n = 0 then 3 else if n < 4 then n + 4 else if n < 11 then n + 5 else if n < 26 then n + 6 else n + 7

/-- The syndrome of an error mask: positions of its bits in SYND[5:0], their parity in SYND[6]. -/
def synd (e : Nat) : Nat :=
  let l := (List.range 39).filter (fun p => bitN e p)
  l.foldl (fun x p => x ^^^ p) 0 + l.length % 2 * 64

/-- The data bits that an error mask flips. -/
def dataFlip (e : Nat) : Nat :=
  (List.range 32).foldl (fun d n => if bitN e (dataPos n) then d + 2 ^ n else d) 0

/-- A syndrome that is corrected. -/
def syndFix (y : Nat) : Bool := 64 ≤ y && y % 64 ≤ 38

/-! ### Reads and writes -/

/-- Change the memory-controller state. -/
def State.modMemc (s : State) (f : MemC → MemC) : State := { s with memc := f s.memc }

/-- A single-bit error was corrected on a read of SRAM (10 R375). -/
def State.eccFixed (s : State) (a y : Nat) : State :=
  let s1 := (s.incSat F.memEccstat_CORR).wr .memCecap 0 (BitVec.ofNat 32 (a + y * 2 ^ 24))
  (s1.flagIrq F.memEccstat_CE 0 92).modMemc (fun m => { m with wb := if m.wb.contains a then m.wb else m.wb ++ [a] })

/-- An uncorrectable SRAM word was read: its capture (10 R376, R407). -/
def State.ueCapture (s : State) (req a : Nat) : State :=
  let s1 := s.pb F.memEccstat_UE 0 true
  if s1.b F.memUecap_VALID then s1.pb F.memUecap_OVF 0 true
  else s1.wr .memUecap 0 (BitVec.ofNat 32 (a + req * 2 ^ 24 + 2 ^ 31))

/-- The fault of an uncorrectable SRAM word: the tamper reaction in the larder, else SRAMUE for the owner of the unit; pixel
fetch and fetch-ahead fill raise their own (10 R376). -/
def State.ueFault (s : State) (req a : Nat) : State :=
  if regionOf a == some .larder then s.tamper 86
  else if req = 9 || req = 10 then s
  else s.raise (92 + s.memOwner a)

/-- Read the word at an aligned address of a window for a requester of 10 R407: its data, whether it is uncorrectable, and the
reactions (10 R374-R376, R389). -/
def State.readMem (s : State) (req a : Nat) : Nat × Bool × State :=
  let e := kvD s.ecc a 0
  let w := memWord s.mem a
  let y := synd e
  if y = 0 then (w ^^^ dataFlip e, false, s)
  else if syndFix y then
    let d := w ^^^ dataFlip (e ^^^ 2 ^ (y % 64))
    (d, false, if 0xC00000 ≤ a then s.incSat F.imgEcc_CORR else s.eccFixed a y)
  else if 0xC00000 ≤ a then (0, true, (s.pb F.imgEcc_UE 0 true).raise 9)
  else (0, true, (s.ueCapture req a).ueFault req a)

/-- The instruction caches drop the line of a recipe SRAM address (11 R423). -/
def State.dropLine (s : State) (a : Nat) : State :=
  let line := (a - 0x800000) / 32
  { s with eng := s.eng.map (fun e => { e with cache := kvSet e.cache (line % 128) ((kvD e.cache (line % 128) []).filter (·.line != line)) }) }

/-- Write a word: fresh check bits, a write-back of the word cancelled, cached copies dropped (10 R374, R375; 11 R423). -/
def State.writeMem (s : State) (a w : Nat) : State :=
  let s1 := { s with mem := memSetWord s.mem a w, ecc := kvDel s.ecc a }
  let s2 := s1.modMemc (fun m => { m with wb := m.wb.filter (· != a) })
  if regionOf a == some .recipe then s2.dropLine a else s2

/-- Write `w` bits of a word at bit `lo` by read, merge and write (10 R368): not made, with `true`, where the word is
uncorrectable. -/
def State.mergeMem (s : State) (req a lo w v : Nat) : Bool × State :=
  let r := s.readMem req a
  if r.2.1 then (true, r.2.2) else (false, r.2.2.writeMem a (putN r.1 lo w v))

/-! ### ECC_WRITE_BACK, crumb sweep, row sparing -/

/-- The word at `a` is rewritten as its code corrects it. -/
def State.scrub (s : State) (a : Nat) : State :=
  let e := kvD s.ecc a 0
  let y := synd e
  if e = 0 || !syndFix y then s
  else { s with mem := memSetWord s.mem a (memWord s.mem a ^^^ dataFlip (e ^^^ 2 ^ (y % 64))), ecc := kvDel s.ecc a }

/-- ECC_WRITE_BACK (10 R375): the corrected word at `a` is written back unless a write has cancelled it. -/
def execEccWriteBack (a : Addr) (s : State) : Host.Outcome State Fault Refusal :=
  .next (if s.memc.wb.contains a.toNat then
    (s.scrub a.toNat).modMemc (fun m => { m with wb := m.wb.filter (· != a.toNat) }) else s)

/-- Base address and number of words of a bank (10 R366). -/
def bankBase (b : Nat) : Nat :=
  if b < 4 then 0x800000 + 0x8000 * b else if b < 7 then 0x820000 + 0x8000 * (b - 4)
  else if b < 9 then 0x840000 + 0x8000 * (b - 7) else if b = 9 then 0xA00000 else 0xB00000
def bankWords (b : Nat) : Nat := if b < 9 then 8192 else if b = 9 then 4096 else 1024

/-- The spare-row state of a bank, and the state with it changed. -/
def State.bank (s : State) (b : Fin 11) : Bank := vget s.spare b
def State.modBank (s : State) (b : Fin 11) (f : Bank → Bank) : State := { s with spare := vset s.spare b (f (s.bank b)) }

/-- The history after a corrected word in row `r` in pass `p`, counted from 1, and the hits of the row's entry where they changed
(10 R381); a clear entry has no hits and the pass 0. -/
def histHit (l : List (Nat × Nat × Nat)) (r p : Nat) : List (Nat × Nat × Nat) × Nat :=
  match l.find? (fun x => x.1 == r && x.2.1 != 0) with
  | some x =>
    if x.2.2 < p then (l.map (fun y => if y.1 == r && y.2.1 != 0 then (r, y.2.1 + 1, p) else y), x.2.1 + 1) else (l, 0)
  | none =>
    let old := l.foldl (fun m x => min m x.2.2) p
    (l.set (l.findIdx (fun x => x.2.2 == old)) (r, 1, p), 1)

/-- Row `r` of bank `b` is to be spared (10 R382, R383). -/
def State.spareRow (s : State) (b : Fin 11) (r : Nat) : State :=
  let k := s.bank b
  if !s.b F.memCfg_SPAREEN || k.copying.isSome then s
  else if k.used < 8 then s.modBank b (fun k => { k with copying := some (r, 0) })
  else
    let s1 := s.flagIrq F.memEccstat_SPAREFULL 0 92
    if k.full then s1 else (s1.modBank b (fun k => { k with full := true })).raise 14

/-- A word of bank `b` was corrected by the sweep (10 R381). -/
def State.sweepHit (s : State) (b : Fin 11) (word : Nat) : State :=
  let h := histHit (s.bank b).hist (word / 32) (kvD s.memc.pass b 0 + 1)
  let s1 := s.modBank b (fun k => { k with hist := h.1 })
  if h.2 = 3 then s1.spareRow b (word / 32) else s1

/-- The sweep of bank `b` moves on from a word; passes of the bank and of the device end (10 R377, R409). -/
def State.sweepNext (s : State) (b : Fin 11) (word : Nat) : State :=
  if word + 1 < bankWords b then s.modMemc (fun m => { m with ptr := kvSet m.ptr b (word + 1) })
  else
    let s1 := s.modMemc (fun m => { m with ptr := kvSet m.ptr b 0, pass := kvSet m.pass b (kvD m.pass b 0 + 1)
                                           done := m.done ||| 2 ^ b.val })
    if s1.memc.done = 2 ^ 11 - 1 then
      let len := (s1.tick - s1.memc.began) / 16000
      ((s1.incMod F.memSweep_PASSES).p F.memSweep_LASTLEN 0 (satN 65535 len)).modMemc
        (fun m => { m with done := 0, began := s1.tick })
    else s1

/-- CRUMB_SWEEP_READ (10 R377): the next word of bank `b`, which has gathered the errors `flip`, is read, corrected and
counted. The sweep runs from the end of SRAM initialisation. -/
def execCrumbSweepRead (b : Fin 11) (flip : BitVec 39) (s : State) : Host.Outcome State Fault Refusal :=
  if !s.pwr.sram || !s.clk.fsys then .next s
  else
    let word := kvD s.memc.ptr b 0
    let a := bankBase b + 4 * word
    let e := kvD s.ecc a 0 ^^^ flip.toNat
    let s1 := { s with ecc := if e = 0 then kvDel s.ecc a else kvSet s.ecc a e }
    let r := s1.readMem 11 a
    let s2 := if syndFix (synd e) then r.2.2.sweepHit b word else r.2.2
    .next (s2.sweepNext b word)

/-- The sweep copies a word to the spare row, corrected: what it finds is counted and reported as of any read (10 R375, R376). -/
def State.spareWord (s : State) (a : Nat) : State :=
  ((s.readMem 11 a).2.2.scrub a).modMemc (fun m => { m with wb := m.wb.filter (· != a) })

/-- ROW_SPARE_COMPLETE (10 R382): the spare row replaces the row, its words corrected; SPARED, FLT13. A row whose history has
waited for the copy is next. The copy is one act (log 89), and none ends in standby: one that standby meets is made again after wake (10 R404). -/
def execRowSpareComplete (b : Fin 11) (s : State) : Host.Outcome State Fault Refusal :=
  match if s.clk.fsys then (s.bank b).copying else none with
  | none => .next s
  | some (r, _) =>
    let s1 := each (upto 32) (fun i s => s.spareWord (bankBase b + 128 * r + 4 * i)) s
    let s2 := s1.modBank b (fun k => { k with
      copying := none, used := k.used + 1, lastRow := r, hist := k.hist.map (fun x => if x.1 == r then (0, 0, 0) else x) })
    let s3 := (s2.flagIrq F.memEccstat_SPARED 0 92).raise 13
    .next (match (s3.bank b).hist.find? (fun x => 3 ≤ x.2.1) with
      | some x => s3.spareRow b x.1
      | none => s3)

/-! ### Fetch-ahead and larder -/

/-- Slots of the fetch-ahead buffer that live trays hold: one for each fill that is shown (10 R372). -/
def State.liveSlots (s : State) : Nat :=
  ((s.px.live.filter (fun p => p.2.tray < 0x60)).map (fun p => (p.2.tray, p.2.fill))).eraseDups.length

/-- Insert an offer by its tick, then by its context. -/
def insOffer (x : Fin 16 × Offer) : List (Fin 16 × Offer) → List (Fin 16 × Offer)
  | [] => [x]
  | y :: t => if y.2.tick ≤ x.2.tick then y :: insOffer x t else x :: y :: t

/-- The offers of tray SRAM trays, in the order in which they were made. -/
def State.offers (s : State) : List (Fin 16 × Offer) :=
  ctxs.foldl (fun l c => match (s.cx c).offer with
    | some o => if o.tray < 0x60 then insOffer (c, o) l else l
    | none => l) []

/-- MEM_FAHEAD.USED: the slots in use, at most 14. -/
def State.slotsUsed (s : State) : Nat := min 14 (s.liveSlots + s.offers.length)

/-- The fill of the offer of context `c` is the one that runs in its bank: the offers hold the free slots in their order, and the fills of
one bank run one at a time (10 R372, R373). -/
def State.fills (s : State) (c : Fin 16) (o : Offer) : Bool :=
  (((s.offers.take (14 - s.liveSlots)).filter (fun q =>
    !q.2.filled && trayBase q.2.tray / 0x8000 == trayBase o.tray / 0x8000)).head?).any (·.1 == c)

/-- The groups whose pixels a tray word covers: pixel words `2 j` and `2 j + 1` (11 R434; 15 R565). -/
def coverGroups (groups : Nat) (bases : List Nat) (j : Nat) : List Nat :=
  (upto 7).filter (fun g =>
    let base := bases.getD g 0
    let n := if g = 6 then 384 else 16
    bitN groups g && base ≤ 2 * j + 1 && 2 * j < base + n)

/-- Read the 8 header words of a tray and its 480 pixel words for the pixel path (requester 9 or 10; 10 R371, R372): a pixel data word
that is uncorrectable gives mode 11 to both its pixel words, and raises PIXUE for each channel it covers (10 R376). -/
def State.fetchTray (s0 : State) (req tray groups : Nat) (bases : List Nat) : List Nat × State :=
  let s := each (upto 8) (fun j s => (s.readMem req (trayBase tray + 4 * j)).2.2) s0
  (upto 240).foldl (fun p j =>
    let r := p.2.readMem req (trayBase tray + 0x20 + 4 * j)
    if r.2.1 then (p.1 ++ [0xC000, 0xC000], each (coverGroups groups bases j) (fun g s => s.raise (108 + g)) r.2.2)
    else (p.1 ++ [r.1 % 65536, r.1 / 65536], r.2.2)) ([], s)

/-- FETCH_AHEAD_FILL_DONE (10 R372): the fill of the tray SRAM tray that context `c` offers completes, where it is the one that runs. -/
def execFetchAheadFillDone (c : Fin 16) (s : State) : Host.Outcome State Fault Refusal :=
  match (s.cx c).offer with
  | some o =>
    if o.tray < 0x60 && s.clk.fsys && s.fills c o then
      let r := s.fetchTray 10 o.tray o.groups o.bases
      .next (r.2.modCx c (fun x => { x with offer := some { o with filled := true, words := r.1 } }))
    else .next s
  | none => .next s

/-- LARDER_WIPE_DONE (10 R388): every larder word is 0; WIPED and the cause of the last request. -/
def execLarderWipeDone (s : State) : Host.Outcome State Fault Refusal :=
  .next (if s.memc.wipe = 0 then s
    else
      let s1 := { s with mem := memZero s.mem 0xB00000 0xB01000
                         ecc := s.ecc.filter (fun p => p.1 < 0xB00000 || 0xB01000 ≤ p.1)
                         memc := { s.memc with wipe := 0 } }
      ((s1.pb F.memLardstat_WIPING 0 false).pb F.memLardstat_WIPED 0 true).p F.memLardstat_CAUSE 0 s.memc.wipe)

end Sys2Proof.Machine
end

