-- ==== Sys2Proof/Machine/Racks.lean ====
section
/-!
DEFINITION. In-flight slots (05 R153-R156); racks, semaphores, waits and the deadlock detector (09): pushes, pops, takes, gives, waiters, aborts; the meanings of
the commands WAIT_TIMEOUT and DEADLOCK_SCAN.
-/

namespace Sys2Proof.Machine

/-- Change the rack state. -/
def State.modRack (s : State) (f : Rack → Rack) : State := { s with rack := f s.rack }

/-- The descriptors of rack `n`. -/
def State.rq (s : State) (n : Nat) : List Desc := kvD s.rack.q n []

/-- The state with the descriptors of rack `n` replaced. -/
def State.setRq (s : State) (n : Nat) (l : List Desc) : State :=
  s.modRack (fun r => { r with q := if l.isEmpty then kvDel r.q n else kvSet r.q n l })

/-- Rack `n` is enabled; its size; it has a free slot. -/
def State.rackEn (s : State) (n : Nat) : Bool := s.b F.rackCfg_EN n
def State.rackFull (s : State) (n : Nat) : Bool := s.g F.rackPart_SIZE n ≤ (s.rq n).length

/-- Bindings of rack `n` (09 R326). -/
def State.prod (s : State) (n : Nat) : Nat :=
  if n < 4 then 0 else if n < 12 then 21 else if n < 16 then s.g F.rackCfg_PROD n else if n < 24 then 22
  else if n < 28 then 23 else s.g F.rackCfg_PROD n
def State.cons (s : State) (n : Nat) : Nat :=
  if n < 4 then 18 else if n < 8 then 17 else if n < 12 then 19 else if n < 16 then s.g F.rackCfg_CONS n
  else if n < 28 then 0 else s.g F.rackCfg_CONS n

/-- A flag of RACKn_STAT is set, with IRQ(32 + n). -/
def State.rackFlag (s : State) (f : Fld) (n : Nat) : State := s.flagIrq f n (32 + n)

/-! ### Waits (09 R346, R347, R790) -/

/-- Insert a wait by its start, then by agent code. -/
def insWait (w : Wait) : List Wait → List Wait
  | [] => [w]
  | x :: t => if x.start < w.start || (x.start == w.start && x.agent ≤ w.agent) then x :: insWait w t else w :: x :: t

/-- An agent begins to wait. -/
def State.addWait (s : State) (w : Wait) : State := s.modRack (fun r => { r with waits := insWait w r.waits })

/-- The oldest wait of an agent, and the one that keeps it from going on: a DMA agent waits in each domain for a slot, and serves the
others meanwhile (09 R342, R347). -/
def State.waitOf (s : State) (agent : Nat) : Option Wait := s.rack.waits.find? (·.agent == agent)
def State.blockOf (s : State) (agent : Nat) : Option Wait := s.rack.waits.find? (fun w => w.agent == agent && w.what != .slot)

/-- The state without one wait, and without those of an agent. -/
def State.leaveWait (s : State) (w : Wait) : State := s.modRack (fun r => { r with waits := r.waits.erase w })
def State.dropWait (s : State) (agent : Nat) : State :=
  s.modRack (fun r => { r with waits := r.waits.filter (·.agent != agent) })

/-- The context of an agent code 1-16. -/
def ctxOfAgent (a : Nat) : Fin 16 := Fin.ofNat 16 (a - 1)

/-- A wait has been granted: a context's instruction completes with DONE and registers; the engine or DMA agent goes on at its next
command. -/
def State.granted (s : State) (w : Wait) (regs : List (Nat × Word)) : State :=
  let s1 := s.leaveWait w
  if 1 ≤ w.agent && w.agent ≤ 16 then s1.modCx (ctxOfAgent w.agent) (fun x => x.waitDone 1 regs) else s1

/-! ### In-flight slots (05 R153-R156; log 67) -/

/-- DOMd_INFL.USE: posted writes of ports other than SPI and U2D; a COPY in execution; a word of a network message in execution;
slots granted and not yet used. -/
def State.inflight (s : State) (d : Nat) : Nat :=
  (s.posted.filter (fun q => q.dom == d && q.port != .spi && q.port != .u2d)).length
    + (match s.rack.copy with | some j => if s.ownRack j.rack = d then 1 else 0 | none => 0)
    + (match s.net.job with | some j => if j.dom = d && j.slot then 1 else 0 | none => 0)
    + ((upto 4).filter (fun e => (vget s.ctx (Fin.ofNat 16 (4 * e + d))).slot)).length
    + (s.rack.given.filter (·.2 == d)).length

/-- Domain `d` has no slot of the pool. -/
def State.noSlot (s : State) (d : Nat) : Bool :=
  s.g F.domQos_QUOTA d ≤ s.inflight d || 60 ≤ ((upto 4).map s.inflight).sum

/-- The first waiter that a slot is free for: the pool serves first come (05 R156). -/
def State.slotHead (s : State) : Option Wait := s.rack.waits.find? (fun w => w.what == .slot && !s.noSlot w.dom)

/-- A waiter gets its slot. -/
def State.giveSlot (s : State) (w : Wait) : State :=
  let s1 := s.leaveWait w
  if 1 ≤ w.agent && w.agent ≤ 16 then s1.modCx (ctxOfAgent w.agent) (fun x => { x with slot := true })
  else s1.modRack (fun r => { r with given := r.given ++ [(w.agent, w.dom)] })

/-- Every waiter that a slot is free for gets it. -/
def State.giveSlots (s : State) : State :=
  each s.rack.waits (fun _ s => match s.slotHead with | some w => s.giveSlot w | none => s) s

/-- A new transaction of domain `d` finds no slot behind those that wait already. -/
def State.slotShort (s : State) (d : Nat) : Bool := if s.slotHead.isNone then s.noSlot d else s.giveSlots.noSlot d

/-- A transaction of domain `d` waits for a slot: QUOTAHIT, IRQ(72 + d) (05 R154). -/
def State.quotaHit (s : State) (d : Nat) : State := s.flagIrq F.domInfl_QUOTAHIT d (72 + d)

/-- A DMA agent has a slot for domain `d`; it takes it. -/
def State.hasSlot (s : State) (agent d : Nat) : Bool := s.rack.given.contains (agent, d) || !s.slotShort d
def State.useSlot (s : State) (agent d : Nat) : State := s.modRack (fun r => { r with given := r.given.erase (agent, d) })

/-- A DMA agent waits for a slot of domain `d`, or no longer does (05 R154; 09 R347). -/
def State.slotWait (s : State) (agent d : Nat) (need : Bool) : State :=
  let mine (w : Wait) : Bool := w.agent == agent && w.dom == d && w.what == .slot
  if !need then s.modRack (fun r => { r with waits := r.waits.filter (fun w => !mine w) })
  else if s.rack.waits.any mine then s
  else (s.addWait { agent := agent, dom := d, what := .slot, start := s.tick, tmo := s.g F.waitTmo_AGT }).quotaHit d

/-! ### Semaphores (09 R344-R346) -/

/-- A take of semaphore `n` by an agent for a domain: granted or not (09 R344). -/
def State.semTake (s : State) (n agent dom : Nat) : Bool × State :=
  if s.b F.semCfg_MODE n then
    if 0 < s.g F.semStat_COUNT n then (true, s.p F.semStat_COUNT n (s.g F.semStat_COUNT n - 1)) else (false, s)
  else if !s.b F.semStat_HELD n then
    (true, ((s.pb F.semStat_HELD n true).p F.semStat_HOLDER n agent).p F.semStat_HDOM n dom)
  else (s.g F.semStat_HOLDER n == agent && s.g F.semStat_HDOM n == dom, s)

/-- The waiters of semaphore `n`. -/
def State.semWaiters (s : State) (n : Nat) : List Wait := s.rack.waits.filter (fun w => w.what == .take n)

/-- Grant the head waiter of semaphore `n` where the take is granted (09 R346). -/
def State.semServe (s : State) (n : Nat) : State :=
  match s.semWaiters n with
  | [] => s
  | w :: _ =>
    let r := s.semTake n w.agent w.dom
    if r.1 then r.2.granted w [] else s

/-- Free a LOCK semaphore. -/
def State.semFree (s : State) (n : Nat) : State :=
  (((s.pb F.semStat_HELD n false).p F.semStat_HOLDER n 0).p F.semStat_HDOM n 0).semServe n

/-- A give of semaphore `n` (09 R344): whether it took effect. -/
def State.semGive (s : State) (n agent dom : Nat) : Bool × State :=
  if s.b F.semCfg_MODE n then
    if s.g F.semStat_COUNT n < s.g F.semCfg_MAX n then
      (true, (s.p F.semStat_COUNT n (s.g F.semStat_COUNT n + 1)).semServe n)
    else (false, s.pb F.semStat_OVF n true)
  else if s.b F.semStat_HELD n && s.g F.semStat_HOLDER n == agent && s.g F.semStat_HDOM n == dom then (true, s.semFree n)
  else (false, s.pb F.semStat_BADGIVE n true)

/-- Every LOCK semaphore an agent holds is freed, with its waiters granted (11 R421). -/
def State.semFreeAll (s : State) (agent : Nat) : State :=
  each (upto 32) (fun n s =>
    if !s.b F.semCfg_MODE n && s.b F.semStat_HELD n && s.g F.semStat_HOLDER n == agent then s.semFree n else s) s

/-! ### Racks (09 R333-R343, R790) -/

/-- Word 0 of a descriptor as RACKn_POP returns it. -/
def popWord (d : Desc) (valid : Bool) : Nat := d.w0 % 2 ^ 30 + (if valid then 2 ^ 31 else 2 ^ 30)

/-- Key of a port, domain and rack. -/
def prKey (port dom n : Nat) : Nat := 128 * port + 32 * dom + n

/-- The words of a pop go to the holding registers of a port and domain (09 R336). -/
def State.holdPop (s : State) (port dom n : Nat) (d : Desc) : State :=
  s.modRack (fun r => { r with hold := kvSet r.hold (prKey port dom n) d })

/-- The words of a descriptor as they are read: the corrected ones, whether one is uncorrectable, how many were corrected (09 R330; 10
R789). -/
def Desc.read (d : Desc) : Desc × Bool × Nat :=
  let e (k : Nat) : Nat := kvD d.errs k 0
  let fix (k w : Nat) : Nat :=
    w ^^^ dataFlip (if syndFix (synd (e k)) then e k ^^^ 2 ^ (synd (e k) % 64) else e k)
  ({ d with w0 := fix 0 d.w0, w1 := fix 1 d.w1, w2 := fix 2 d.w2, w3 := fix 3 d.w3, errs := [] },
    (upto 4).any (fun k => synd (e k) != 0 && !syndFix (synd (e k))), ((upto 4).filter (fun k => syndFix (synd (e k)))).length)

/-- A descriptor at the head of rack `n` is popped or taken: uncorrectable ones before it are discarded, corrected words counted (09
R330). -/
def State.rackClean (s : State) (n : Nat) : Nat → State
  | 0 => s
  | k + 1 =>
    match s.rq n with
    | [] => s
    | d :: rest =>
      if d.errs.isEmpty then s
      else
        let r := d.read
        let s1 := each (upto r.2.2) (fun _ s => s.incSat F.rackGstat_ECCFIX) s
        if r.2.1 then (((s1.setRq n rest).rackFlag F.rackStat_ECCERR n).raise (100 + s.ownRack n)).rackClean n k
        else s1.setRq n (r.1 :: rest)

/-- Bits of word `k` of the head descriptor of rack `n` flip in rack RAM (09 R330; log 50). -/
def State.rackFlip (s : State) (n k flip : Nat) : State :=
  match s.rq n with
  | d :: rest => if flip = 0 then s else s.setRq n ({ d with errs := kvSet d.errs k (kvD d.errs k 0 ^^^ flip) } :: rest)
  | [] => s

/-- A context's registers after a pop (12 R490). -/
def popRegs (rd : Nat) (d : Desc) : List (Nat × Word) :=
  [(rd, BitVec.ofNat 32 (popWord d true)), (rd + 1, BitVec.ofNat 32 d.w1), (rd + 2, BitVec.ofNat 32 d.w2),
   (rd + 3, BitVec.ofNat 32 d.w3)]

/-- A waiter that pops rack `n`, and one that pushes into it. -/
def State.popWaiter (s : State) (n : Nat) : Option Wait :=
  s.rack.waits.find? (fun w => match w.what with | .pop m _ => m == n | _ => false)
def State.pushWaiter (s : State) (n : Nat) : Option Wait :=
  s.rack.waits.find? (fun w => match w.what with | .push m _ => m == n | _ => false)

/-- A descriptor becomes the newest entry of rack `n`; its watermark interrupt and WAITEV follow (09 R343, 12 R492). -/
def State.rackAppend (s : State) (n : Nat) (d : Desc) : State :=
  let s1 := s.setRq n (s.rq n ++ [d])
  let wm := s1.g F.rackCfg_WM n
  let s2 := if wm ≠ 0 && wm ≤ (s1.rq n).length then s1.pendIrq (32 + n) else s1
  s2.evWake 1 n (some (s2.ownRack n))

/-- Serve the waiters of an enabled rack `n`: its head pop waiter takes the oldest descriptor, a freed slot goes to the head
push waiter (09 R790). `k` bounds the services. -/
def State.rackServe (s : State) (n : Nat) : Nat → State
  | 0 => s
  | k + 1 =>
    if !s.rackEn n then s
    else
      let s0 := if (s.popWaiter n).isSome then s.rackClean n ((s.rq n).length + 1) else s
      match s0.rq n, s0.popWaiter n with
      | d :: rest, some w =>
        let rd := match w.what with | .pop _ r => r | _ => 0
        ((s0.setRq n rest).holdPop (2 + (w.agent - 1) / 4) w.dom n d |>.granted w (popRegs rd d)).rackServe n k
      | _, _ =>
        match s0.pushWaiter n with
        | some w =>
          if s0.rackFull n then s0
          else
            match w.what with
            | .push _ d => ((s0.rackAppend n d).granted w []).rackServe n k
            | _ => s0
        | none => s0

/-- A commit into rack `n`, which has room. -/
def State.rackCommit (s : State) (n : Nat) (d : Desc) : State := (s.rackAppend n d).rackServe n 64

/-- The oldest descriptor leaves rack `n` for a reader; a freed slot goes to a waiter. -/
def State.rackTake (s : State) (n : Nat) : Option Desc × State :=
  let s0 := s.rackClean n ((s.rq n).length + 1)
  match s0.rq n with
  | [] => (none, s0)
  | d :: rest => (some d, (s0.setRq n rest).rackServe n 64)

/-- A descriptor that a port or an engine may push (09 R332). -/
def descOk (d : Desc) : Bool :=
  d.w0 % 16 ≤ 1 && d.w0 / 2 ^ 24 % 64 == 0 &&
    (d.w0 % 16 == 0 || (1 ≤ d.w3 % 128 && d.w3 % 128 ≤ 64 && d.w3 / 128 % 2 == 0 && d.w3 / 1024 == 0))

/-- The committed form of a pushed descriptor: STATUS 0 and DOM of the push (09 R331). -/
def descCommit (d : Desc) (dom : Nat) : Desc :=
  { d with w0 := putN (putN (d.w0 % 2 ^ 30) 4 4 0) 22 2 dom }

/-- Four words as a descriptor. -/
def descOf (l : List Nat) : Desc := { w0 := l.getD 0 0, w1 := l.getD 1 0, w2 := l.getD 2 0, w3 := l.getD 3 0 }

/-- A word pushed through RACKn_PUSH by a port and domain; the fourth commits (09 R332-R335). U2D's events go to REG0 (06 R189). -/
def State.pushWord (s : State) (port dom n : Nat) (w : Nat) (addr : Nat) : State :=
  let k := prKey port dom n
  let l := kvD s.rack.part k [] ++ [w]
  if l.length < 4 then s.modRack (fun r => { r with part := kvSet r.part k l })
  else
    let s1 := s.modRack (fun r => { r with part := kvDel r.part k })
    let d := descOf l
    if !descOk d then s1.rsvw (if port = 8 then 0 else dom) port addr
    else if !s1.rackEn n || s1.rackFull n then s1.rackFlag F.rackStat_PUSHFULL n
    else s1.rackCommit n (descCommit d dom)

/-- Partial descriptors that `sel` picks are discarded (09 R333). -/
def State.dropParts (s : State) (sel : Nat → Bool) : State :=
  let hit := s.rack.part.filter (fun p => sel p.1)
  let s1 := s.modRack (fun r => { r with part := r.part.filter (fun p => !sel p.1) })
  each hit (fun p s => s.rackFlag F.rackStat_PARTIAL (p.1 % 32)) s1

/-- The SPI burst or ZSP packet of a port ends (09 R333). -/
def State.endPart (s : State) (port : Nat) : State := s.dropParts (fun k => k / 128 == port)

/-- A read of RACKn_POP that removes (09 R336). -/
def State.popRead (s : State) (port dom n : Nat) : Nat × State :=
  let r := if s.rackEn n then s.rackTake n else (none, s)
  match r.1 with
  | some d => (popWord d true, r.2.holdPop port dom n d)
  | none => (popWord ((kvGet r.2.rack.hold (prKey port dom n)).getD { w0 := 0 }) false, r.2)

/-- A read of RACKn_POP by D0 of a rack that it does not own: nothing is removed (09 R336); what the read corrects is counted (09
R330). -/
def State.popPeek (s : State) (port dom n : Nat) : Nat × State :=
  match if s.rackEn n then (s.rq n).head? else none with
  | some d =>
    let r := d.read
    (popWord r.1 true, (each (upto r.2.2) (fun _ s => s.incSat F.rackGstat_ECCFIX) s).holdPop port dom n r.1)
  | none => (popWord ((kvGet s.rack.hold (prKey port dom n)).getD { w0 := 0 }) false, s)

/-- Rack `n` takes a stream's descriptor: it is enabled, and not full or dropping its oldest (09 R335). -/
def State.streamTakes (s : State) (n : Nat) : Bool := s.rackEn n && (!s.rackFull n || s.b F.rackCfg_FULLPOL n)

/-- A stream push by ADC or telemetry (09 R329, R335). -/
def State.streamPush (s : State) (n : Nat) (d : Desc) : State :=
  if !s.rackEn n then s.rackFlag F.rackStat_OVF n
  else if s.rackFull n then
    let s1 := s.rackFlag F.rackStat_OVF n
    if s1.b F.rackCfg_FULLPOL n then (s1.setRq n ((s1.rq n).drop 1)).rackCommit n d else s1
  else s.rackCommit n d

/-- A retirement (09 R340). -/
def State.retire (s : State) (n : Nat) (d : Desc) (status erridx : Nat) : State :=
  let s1 := (((s.p F.rackRet_LAST n status).p F.rackRet_TAG n (d.w0 / 256)).p F.rackRet_ERRIDX n
    (if status = 5 then erridx else s.g F.rackRet_ERRIDX n)).incMod F.rackRet_RETCNT n
  s1.rackFlag (if status = 1 then F.rackStat_DONE else F.rackStat_ABORT) n

/-! ### Aborts (09 R348) and the detector (09 R349, R350) -/

/-- RTYPE and INDEX of a wait in DLK_CAP (09 R364). -/
def WaitFor.cap : WaitFor → Nat × Nat
  | .pop n _ => (0, n)
  | .push n _ => (1, n)
  | .take n => (2, n)
  | .slot => (3, 0)

/-- A TIMEOUT (3) or DEADLOCK (4) abort is counted, captured, and makes IRQ80 pending (09 R348). -/
def State.dlkRecord (s : State) (w : Wait) (status : Nat) : State :=
  let s1 := s.incSat (if status = 4 then F.dlkCnt_DEADLOCK else F.dlkCnt_TIMEOUT)
  let c := w.what.cap
  let s2 := if s1.b F.dlkCap_VALID then s1.pb F.dlkCap_OVF 0 true
    else s1.wr .dlkCap 0 (BitVec.ofNat 32 (w.agent + w.dom * 2 ^ 5 + c.1 * 2 ^ 8 + c.2 * 2 ^ 10
      + (if status = 4 then 1 else 2) * 2 ^ 16 + 2 ^ 31))
  s2.pendIrq 80

/-- The SPI burst engine's descriptor retires with a status; a guard taken is given back (09 R348). -/
def State.copyEnd (s : State) (status erridx : Nat) : State :=
  match s.rack.copy with
  | none => s
  | some j =>
    let s1 := s.modRack (fun r => { r with copy := none })
    let s2 := if j.guard then (s1.semGive (j.d.w0 / 2 ^ 16 % 32) 18 (s1.ownRack j.rack)).2 else s1
    s2.retire j.rack j.d status erridx

/-- The network DMA's answer or EVENT is not sent (09 R348): an answer is not kept, so that a repeated request is a replay. -/
def State.netAbort (s : State) (what : WaitFor) : State :=
  let s1 := s.flagIrq F.netStat_TXDROP 0 83
  match what with
  | .push n d => { s1 with net := { s1.net with
      kept := s1.net.kept.map (fun p => (p.1, if p.1 = n - 8 then p.2.filter (fun k => k.resp != d.body) else p.2)) } }
  | _ => s1

/-! ### Racks of the SPI burst engine (09 R342) -/

/-- Rack `n` has a COPY at its head for the SPI burst engine; a MSG there never starts (log 43). -/
def State.copyHead (s : State) (n : Nat) : Bool :=
  s.rackEn n && s.cons n == 18 && (match s.rq n with | d :: _ => d.w0 % 16 == 1 | [] => false)

/-- Racks of domain `d` with a COPY at their head. -/
def State.copyRacks (s : State) (d : Nat) : List Nat := (upto 32).filter (fun n => s.copyHead n && s.ownRack n == d)

/-- The first rack of a rising list after the last one served. -/
def nextAfter (last : Nat) (l : List Nat) : Option Nat :=
  match l.find? (last < ·) with
  | some n => some n
  | none => l.head?

/-- The descriptor at the head of rack `n`, which an agent could not start, is retired with a status. -/
def State.retireHead (s : State) (n status : Nat) : State :=
  let r := s.rackTake n
  match r.1 with
  | some d => r.2.retire n d status 0
  | none => r.2

/-- A wait of a DMA agent for an in-flight slot is aborted: the COPY or message that needed it ends with the status, and no answer is
sent (09 R348; log 71). A domain reset empties the rack itself. -/
def State.slotAbort (s : State) (w : Wait) (status : Nat) : State :=
  if status = 2 then s
  else if w.agent = 18 then
    match nextAfter (kvD s.rack.arb18.lastRack w.dom 31) (s.copyRacks w.dom) with
    | some n => s.retireHead n status
    | none => s
  else
    let s1 := s.flagIrq F.netStat_TXDROP 0 83
    match s1.net.job with
    | some j =>
      if j.dom = w.dom && !j.slot then
        (({ s1.dropK .net with net := { s1.net with job := none } }).endPart 1).retire (4 + w.dom) { w0 := 2 + w.dom * 2 ^ 22 } status 0
      else s1.retireHead (4 + w.dom) status
    | none => s1.retireHead (4 + w.dom) status

/-- What an abort of a wait does to its agent (09 R348). A stalled load or pixel instruction completes without access
(12 R478). -/
def State.abortWait (s : State) (w : Wait) (status : Nat) : State :=
  let s1 := s.leaveWait w
  if 1 ≤ w.agent && w.agent ≤ 16 then
    match w.what with
    | .slot => s1
    | _ => s1.modCx (ctxOfAgent w.agent) (fun x => x.waitDone status [])
  else if w.what == .slot then s1.slotAbort w status
  else if w.agent = 18 then s1.copyEnd status 0
  else s1.netAbort w.what

/-- WAIT_TIMEOUT (09 R347, R348): the wait of an agent reaches its timeout. -/
def execWaitTimeout (agent : Fin 19) (s : State) : Host.Outcome State Fault Refusal :=
  match s.waitOf agent.val with
  | some w => if w.what == .slot && agent.val ≤ 16 then .next s else .next ((s.dlkRecord w 3).abortWait w 3)
  | none => .next s

/-- The edge of a waiting node (09 R349); 0 where it closes no cycle. -/
def State.waitEdge (s : State) (agent : Nat) : Nat :=
  match s.blockOf agent with
  | none => 0
  | some w =>
    match w.what with
    | .take n => if s.b F.semCfg_MODE n || !s.b F.semStat_HELD n then 0 else s.g F.semStat_HOLDER n
    | .push n _ => s.cons n
    | .pop n _ => s.prod n
    | .slot => 0

/-- The nodes met by following edges from `a`, `k` of them. -/
def State.waitPath (s : State) (a : Nat) : Nat → List Nat
  | 0 => []
  | k + 1 => let b := s.waitEdge a; if b = 0 || 18 < b then [] else b :: s.waitPath b k

/-- The cycle through `a`, if there is one. -/
def State.cycleOf (s : State) (a : Nat) : List Nat :=
  let p := s.waitPath a 19
  if p.contains a then a :: p.takeWhile (· != a) else []

/-- The waiter of a cycle whose wait began last; of equal starts the higher agent code (09 R350). -/
def State.youngest (s : State) (l : List Nat) : Option Wait :=
  (l.filterMap s.blockOf).foldl (fun b w =>
    match b with
    | none => some w
    | some x => if x.start < w.start || (x.start == w.start && x.agent < w.agent) then some w else some x) none

/-- DEADLOCK_SCAN (09 R350): in each cycle of the graph the youngest wait is aborted with DEADLOCK. -/
def execDeadlockScan (s : State) : Host.Outcome State Fault Refusal :=
  if !s.running || !s.clk.fsys then .next s
  else
    let hit := s.rack.waits.filter (fun w => s.youngest (s.cycleOf w.agent) == some w)
    .next (each hit (fun w s => (s.dlkRecord w 4).abortWait w 4) s)

end Sys2Proof.Machine
end

