-- ==== Sys2Proof/Machine/Tlm.lean ====
section
/-!
DEFINITION. Telemetry and thermal derating (17): selection, junction estimates, derating factors, lifetime counters, records;
the meanings of the commands ENERGY_ACCUMULATE and TLM_COUNTER_LOAD's load.
-/

namespace Sys2Proof.Machine

/-- The group of pixel `p` (17 R656). -/
def groupOf (p : Nat) : Nat := if p < 96 then p / 16 else 6

/-! ### Lifetime counters (17 R668, R669) -/

/-- Internal units of one count: 160 ticks are 1 us; 1 mJ is 4e10 units of a string's product, 6.4e11 of the grid's. -/
def cntUnit (k : Nat) : Nat := if k < 486 then 160 else if k < 492 then 40000000000 else 640000000000

/-- The value of counter `k` (17 R668). -/
def State.counter (s : State) (k : Nat) : Nat := kvD s.countOn.tlm.cnt k 0 / cntUnit k % 2 ^ 48

/-- Load counter `k` (17 R669). -/
def State.loadCounter (s : State) (k v : Nat) : State :=
  s.countOn.modTlm (fun t => { t with cnt := kvSet t.cnt k (v * cntUnit k) })

/-- ENERGY_ACCUMULATE (17 R668): every 10 us each active string adds VSTR x ILED x ILSB x 10 us. -/
def execEnergyAccumulate (s : State) : Host.Outcome State Fault Refusal :=
  .next (if !s.clk.fsys || !s.running then s
    else
      let add (l : List (Nat × Nat)) (i : Fin 6) : List (Nat × Nat) :=
        if s.b F.strStat_ACTIVE i then
          addCnt l (486 + i) (s.g F.strVmon_VSTR i * s.g F.strMeas_ILED i * s.g F.tlmGrpCal_ILSB i)
        else l
      s.modTlm (fun t => { t with cnt := strs.foldl add t.cnt }))

/-! ### Selection (17 R657, R658) -/

/-- Coefficient fields of pixel `p` (17 R661). -/
def State.coef (s : State) (p : Nat) : Nat := kvD s.tlm.coef p 0
def coefVf0 (c : Nat) : Nat := c % 4096
def coefTc (c : Nat) : Nat := c / 2 ^ 12 % 256
def coefRd (c : Nat) : Nat := c / 2 ^ 20 % 256

/-- Whether pixel `p` is eligible for selection. -/
def State.eligible (s : State) (p : Nat) : Bool :=
  coefTc (s.coef p) != 0 &&
    if h : p / 16 < 6 then
      let i : Fin 6 := ⟨p / 16, h⟩
      s.b F.bypStat_DRIVEN i && s.b F.strStat_ACTIVE i && !bitN (s.g F.bypUnused_MASK i) (p % 16)
        && !bitN (s.g F.bypAutobyp_MASK i) (p % 16)
    else !bitN (s.g F.gridRowoff_ROW) ((p - 96) / 24) && !bitN (s.g F.gridColoff_COL) ((p - 96) % 24)

/-- The next eligible pixel of group `g` after `p`, wrapping around. -/
def State.nextPixel (s : State) (g : Nat) (p : Option Nat) : Option Nat :=
  let l := (s.tlm.coef.map (·.1)).filter (fun q => groupOf q == g && q < 480 && s.eligible q)
  match p with
  | some p => (l.find? (fun q => p < q)).orElse (fun _ => l.head?)
  | none => l.head?

/-- The selection of group `g` advances. -/
def State.tlmAdvance (s : State) (g : Nat) : State :=
  let n := s.nextPixel g (kvGet s.tlm.sel g)
  s.modTlm (fun t => { t with
    sel := match n with | some q => kvSet t.sel g q | none => kvDel t.sel g
    idle := kvDel t.idle g, event := kvDel t.event g })

/-- A result for pixel `p` has been used or discarded: the selection goes on, unless it has advanced already (17 R657, R672). -/
def State.tlmDone (s : State) (g p : Nat) : State := if kvGet s.tlm.sel g == some p then s.tlmAdvance g else s

/-- A pixel period or a frame of group `g` ends: four without an event advance the selection. -/
def State.tlmStep (s : State) (g : Nat) : State :=
  match kvGet s.tlm.sel g with
  | none => s.tlmAdvance g
  | some p =>
    if !s.eligible p then s.tlmAdvance g
    else if kvD s.tlm.event g false then s.modTlm (fun t => { t with idle := kvDel t.idle g, event := kvDel t.event g })
    else if 3 ≤ kvD s.tlm.idle g 0 then s.tlmAdvance g
    else s.modTlm (fun t => { t with idle := kvSet t.idle g (kvD t.idle g 0 + 1) })

def State.tlmPeriod (s : State) (i : Fin 6) : State := s.tlmStep i
def State.tlmFrame (s : State) : State := s.tlmStep 6

/-- The selected pixel of group `g` had its event in this period. -/
def State.tlmEvent (s : State) (g : Nat) : State := s.modTlm (fun t => { t with event := kvSet t.event g true })

/-! ### Curves and factors (17 R664-R667) -/

/-- Temperature (1/64 degree, signed) and factor of point `i` of curve `c`. -/
def State.crvT (s : State) (c i : Nat) : Int := sext 16 (s.g F.tlmCrv_T (8 * c + i))
def State.crvF (s : State) (c i : Nat) : Nat := s.g F.tlmCrv_F (8 * c + i)

/-- The curve value between point `i` and the next ones, for a temperature of at least that of point `i`. -/
def State.crvFrom (s : State) (c : Nat) (t : Int) (i : Nat) : Nat → Nat
  | 0 => s.crvF c 7
  | k + 1 =>
    if t < s.crvT c (i + 1) then
      let span := s.crvT c (i + 1) - s.crvT c i
      ((s.crvF c i : Int) + (((s.crvF c (i + 1) : Int) - s.crvF c i) * (t - s.crvT c i) + span / 2) / span).toNat
    else s.crvFrom c t (i + 1) k

/-- The factor of curve `c` at temperature `t` (17 R664). -/
def State.curve (s : State) (c : Nat) (t : Int) : Nat :=
  if t ≤ s.crvT c 0 then s.crvF c 0 else if s.crvT c 7 ≤ t then s.crvF c 7 else s.crvFrom c t 0 7

/-- Points of curve `c` are strictly ascending. -/
def State.crvOk (s : State) (c : Nat) : Bool := (upto 7).all (fun i => s.crvT c i < s.crvT c (i + 1))

/-- Filtered temperature of pixel `p`. -/
def State.tf64 (s : State) (p : Nat) : Int := sext 16 (s.g F.tlmPixA_TF p)

/-- The pixels of group `g` with EST = 1. -/
def State.estimated (s : State) (g : Nat) : List Nat := (s.tlm.age.map (·.1)).filter (fun p => groupOf p == g)

/-- FTGT of the estimated pixels of group `g` (17 R665). -/
def State.retarget (s : State) (g : Nat) : State :=
  let l := s.estimated g
  let c := s.g F.tlmGrpCfg_CURVE g
  match s.g F.tlmGrpCfg_MODE g with
  | 0 => each l (fun p s => s.p F.tlmPixB_FTGT p 4096) s
  | 1 => each l (fun p s => if s.b F.tlmPixA_STALE p then s else s.p F.tlmPixB_FTGT p (s.curve c (s.tf64 p))) s
  | _ =>
    let low := (l.map (fun p => s.curve c (s.tf64 p))).foldl min 4096
    each l (fun p s => s.p F.tlmPixB_FTGT p low) s

/-- One step of an applied factor toward its target. -/
def stepTo (f t step : Nat) : Nat := if f < t then min t (f + step) else max t (f - step)

/-- The factors of group `g` step at a latch point, and its engaged state follows (17 R665, R667). -/
def State.stepFactors (s : State) (g : Nat) : State :=
  if !s.b F.tlmCfg_EN then s
  else
    let s1 := s.retarget g
    let step := s1.g F.tlmGrpCfg_FSTEP g
    let s2 := each (s1.estimated g) (fun p s =>
      s.p F.tlmPixB_F p (stepTo (s.g F.tlmPixB_F p) (s.g F.tlmPixB_FTGT p) step)) s1
    let eng := (s2.estimated g).any (fun p => s2.g F.tlmPixB_F p < 4096)
    if bitN (s2.g F.tlmStat_ENG) g == eng then s2
    else (s2.p F.tlmStat_ENG 0 (putN (s2.g F.tlmStat_ENG) g 1 (if eng then 1 else 0))).flagIrq F.tlmStat_ENGCHG 0 71

/-- The derated duty of `d` at pixel `p` (17 R665). -/
def State.derate (s : State) (p d : Nat) : Nat := min 16383 ((d * s.g F.tlmPixB_F p + 2048) / 4096)

/-! ### Records (17 R670) -/

/-- Push a record of group `g`. -/
def State.tlmRecord (s : State) (g tag w1 w2 w3 : Nat) : State :=
  let n := 24 + s.g F.tlmGrpCfg_RACK g
  let d := s.ownGroup g
  if !s.b F.tlmCfg_EN then s
  else if s.ownRack n ≠ d then (s.flagIrq F.tlmStat_RACKREF 0 70).incSat F.tlmCnt_DROP
  else
    let s1 := s.streamPush n { w0 := 5 + 16 + tag * 2 ^ 8 + d * 2 ^ 22, w1 := w1, w2 := w2, w3 := w3 % 2 ^ 32 }
    if s.streamTakes n then s1.flagIrq F.tlmStat_RECF 0 70 else s1

/-- The mean LED forward voltage in 5 mV, rounded down; 0 when no LED is lit (17 R660). -/
def State.vfavg (s : State) (i : Fin 6) : Nat :=
  let n := s.litOf i
  if n = 0 then 0 else 20 * (s.g F.strVmon_VSTR i - s.g F.strFfv_VFIX i) / n / 5

/-- The string records of a slice boundary. -/
def State.stringRecords (s : State) : State :=
  each strs (fun i s =>
    let iv := s.g F.tlmGrpCfg_STRINT i
    if iv = 0 then s.modTlm (fun t => { t with strN := kvDel t.strN i })
    else if kvD s.tlm.strN i 0 + 1 < iv then s.modTlm (fun t => { t with strN := kvSet t.strN i (kvD t.strN i 0 + 1) })
    else
      (s.modTlm (fun t => { t with strN := kvDel t.strN i })).tlmRecord i 2
        (i.val + s.g F.strMeas_ILED i * 2 ^ 4 + s.litOf i * 2 ^ 16) (s.g F.strVmon_VSTR i + s.vfavg i % 4096 * 2 ^ 16) s.time) s

/-! ### Estimates (17 R659, R662, R663) -/

/-- 64 x the junction temperature, rounded half up, from the exact quotient num / (800 000 x TC) added to TCAL. -/
def tj64 (tcal : Int) (num : Int) (tc : Nat) : Int :=
  64 * tcal + (2 * 2560 * num + 800000 * tc) / (2 * 800000 * tc)

/-- A pixel's filtered temperature takes a used sample; HOT follows (17 R663, R667). -/
def State.useSample (s : State) (p : Nat) (tj : Int) : State :=
  let g := groupOf p
  let tf : Int := if s.b F.tlmPixA_EST p then
      s.tf64 p + (tj - s.tf64 p) / (2 : Int) ^ s.g F.tlmGrpCfg_TAU g
    else tj
  let s1 := ((s.p F.tlmPixA_TF p (wrap 16 tf)).pb F.tlmPixA_EST p true).pb F.tlmPixA_STALE p false
  let s2 := (s1.modTlm (fun t => { t with age := kvSet t.age p 0 })).retarget g
  let c := s2.g F.tlmGrpCfg_CURVE g
  if s2.crvT c 7 ≤ tf then
    if s2.g F.tlmGrpCfg_MODE g = 0 || s2.tlm.hot.contains p then s2
    else
      let s3 := { s2 with flt := { s2.flt with grp := kvSet s2.flt.grp 83 g } }
      ((s3.modTlm (fun t => { t with hot := p :: t.hot })).flagIrq F.tlmStat_HOT 0 71).raise 83
  else if tf < s2.crvT c 6 then s2.modTlm (fun t => { t with hot := t.hot.filter (· != p) })
  else s2

/-- A result for pixel `p`, selected when its trigger occurred at device time `t` (17 R659, R662): used or discarded under R662; the selection
advances. Without an S30 result of the last 10 ms a scan sample is discarded. -/
def State.pixelSample (s : State) (p result t : Nat) : State :=
  let g := groupOf p
  let co := s.coef p
  let tc := coefTc co
  let cal : Int := sext 8 (s.g F.tlmGrpCal_TCAL g)
  let icalX : Int := 8000 * s.g F.tlmGrpCal_ICAL g
  let grid := g = 6
  let fresh := match s.tlm.vs with | some v => decide (s.tick ≤ v.2 + 1600000) | none => false
  if !s.b F.tlmCfg_EN || tc = 0 then s
  else if grid && !fresh then s
  else
    -- 800 000 x Vm in mV, and 8000 x I in mA
    let vs : Int := 16 * ((s.tlm.vs.map (·.1)).getD 0 : Nat)
    let vmX : Int := if grid then
        800000 * vs - 200 * (s.g F.tlmCfg_RROW * s.tlm.irow : Nat) - 2000000 * result
      else 4000000 * result
    let iX : Int := if grid then 2000 * s.tlm.icol else (s.g F.strMeas_ILED g * s.g F.tlmGrpCal_ILSB g : Nat)
    let vcX : Int := vmX - coefRd co * (iX - icalX)
    let tj := tj64 cal (4000000 * (coefVf0 co : Int) - vcX) tc
    let vm5 := (vmX / 4000000).toNat
    let s1 := (s.p F.tlmPixA_VM p (satN 4095 vm5)).tlmDone g p
    if tj < -3840 || 12800 < tj then
      let s2 := { s1 with flt := { s1.flt with grp := kvSet s1.flt.grp 84 g } }
      ((s2.pb F.tlmStat_VFRANGE 0 true).incSat F.tlmCnt_DISC).raise 84
    else
      let s2 := s1.useSample p tj
      if s2.b F.tlmGrpCfg_REC g then
        s2.tlmRecord g 1 (p + vm5 % 4096 * 2 ^ 9) (wrap 16 tj + s2.g F.tlmPixB_F p * 2 ^ 16) t
      else s2

/-- AGE counts at a slice boundary; pixels become stale (17 R663). -/
def State.agePixels (s : State) : State :=
  each s.tlm.age (fun e s =>
    let a := satN 255 (e.2 + 1)
    let s1 := s.modTlm (fun t => { t with age := kvSet t.age e.1 a })
    if s1.g F.tlmCfg_AGEMAX ≤ a && !s1.b F.tlmPixA_STALE e.1 then
      (s1.pb F.tlmPixA_STALE e.1 true).pb F.tlmStat_STALE 0 true
    else s1) s

end Sys2Proof.Machine
end

