-- ==== Sys2Proof/Machine/Adc.lean ====
section
/-!
DEFINITION. The dual ADC (16): tables and segments, conversions and their order, correction and delivery, calibration, the shared
conversion, reference checks and failover; the meanings of the commands TRIGIN_EDGE to SHARED_CONVERSION_SKIP.
-/

namespace Sys2Proof.Machine

/-- Converter states (16 R639). -/
def State.adcSt (s : State) (x : Fin 2) : Nat := s.g F.adcStat_STATE x

/-- A converter that may convert: fSYS runs and it is not frozen (20 R759). -/
def State.adcRuns (s : State) (x : Fin 2) : Bool := s.clk.fsys && !s.frozen (6 + x.val)

/-- Flags of the table sets, with their interrupts (16 R635). -/
def State.regFlag (s : State) (f : Fld) (x : Fin 2) : State := s.flagIrq f x (64 + 2 * x)
def State.injFlag (s : State) (f : Fld) (x : Fin 2) : State := s.flagIrq f x (65 + 2 * x)

/-! ### Correction (16 R619) -/

/-- The corrected result of a raw code. -/
def adcCorrect (raw calofs calgain corr : Nat) : Nat :=
  let x : Int := 8 * raw - sext 12 calofs
  let u : Int := x * calgain
  let w : Int := u - sext 12 (corr % 4096) * 2 ^ 18
  let v : Int := w * ((corr / 2 ^ 16 : Nat) : Int)
  (clampI 0 4095 ((v + 2 ^ 32) / 2 ^ 33)).toNat

/-- The resource a source is bound to, as its owner (16 R610). -/
def State.srcOwner (s : State) (src : Nat) : Option Nat :=
  if src < 18 then some (s.ownStr (src % 6)) else if src = 18 then some s.ownGrid else none

/-! ### Segments and requests (16 R611-R616) -/

/-- Whether entry `j + 1` of table set `x` continues the segment of entry `j`. -/
def State.chained (s : State) (x j : Nat) : Bool := j < 7 && s.g F.adcInj_TRIG (8 * x + j + 1) == 0

/-- First entry of the segment that entry `j` belongs to. -/
def State.segFirst (s : State) (tab : Nat) : Nat → Nat
  | 0 => 0
  | j + 1 => if s.g F.adcInj_TRIG (8 * tab + j + 1) = 0 then s.segFirst tab j else j + 1

/-- A trigger's DELAY ends: the segment becomes a request, or the trigger is dropped (16 R611, R616); a request during a
calibration waits or aborts it (16 R626). -/
def State.injRequest (s : State) (x : Fin 2) (r : AdcReq) : State :=
  let h := s.serves x
  let c := s.cv h
  let same (q : AdcReq) : Bool := q.tab == r.tab && s.segFirst r.tab q.j == s.segFirst r.tab r.j
  let busy := c.reqs.any same || c.seg.any same
  if busy then (s.injFlag F.adcInjstat_INJOVR x).incSat F.adcInjstat_OVRCNT x
  else
    let own (q : AdcReq) : Bool := q.tab == h.val
    let s1 := s.modCv h (fun c => { c with
      reqs := if own r then c.reqs.filter own ++ [r] ++ c.reqs.filter (fun q => !own q) else c.reqs ++ [r] })
    if s1.adcSt h = 1 && c.calRun then
      if s1.b F.adcCtl_INJPRE h then
        (s1.modCv h (fun c => { c with calRun := false })).flagIrq F.adcStat_CALABORT h 69
      else s1.injFlag F.adcInjstat_CALWAIT x
    else s1

/-- INJECTED_REQUEST (16 R611, R616): the DELAY of the oldest trigger of entry `j` of table set `x` ends. -/
def execInjectedRequest (x : Fin 2) (j : Fin 8) (s : State) : Host.Outcome State Fault Refusal :=
  match (s.tab x).pend.find? (fun r => r.j == j.val) with
  | none => .next s
  | some r =>
    if !s.adcRuns (s.serves x) then .next s
    else .next ((s.modTab x (fun t => { t with pend := t.pend.erase r })).injRequest x r)

/-- TRIGIN_EDGE (16 R612): a filtered edge of TRIGIN; one that EDGE selects sets EDGEF and triggers entries with TRIG 7. -/
def execTriginEdge (rising : Bool) (s : State) : Host.Outcome State Fault Refusal :=
  if !s.pins.vddio then .next s
  else
    let s1 := { s with pins := { s.pins with trigin := rising } }
    if s1.running && s1.clk.fsys && bitN (s1.g F.adcTrigcfg_EDGE) (if rising then 0 else 1) then
      .next ((s1.flagIrq F.adcTrigcfg_EDGEF 0 22).adcTrigger 7 0)
    else .next s1

/-! ### Starting conversions (16 R617) -/

/-- A conversion of source `src` starts on converter `x`. -/
def State.startConv (s : State) (x : Fin 2) (c : Conv) : State :=
  (s.modCv x (fun v => { v with
    conv := some { c with t := s.time, calofs := s.g F.adcCalofs_CALOFS x, calgain := s.g F.adcCalgain_CALGAIN x } })).pb
    F.adcStat_AWAKE x true

/-- An injected entry `j` of request `r` starts; the rest of its segment follows it. A hold for the shared conversion ends, and is taken again
afterwards (16 R628). -/
def State.startInj (s : State) (x : Fin 2) (r : AdcReq) : State :=
  let i := 8 * r.tab + r.j
  let more := s.chained r.tab r.j
  let src := s.g F.adcInj_SRC i
  let s1 := s.modCv x (fun v => { v with seg := if more then some { r with j := r.j + 1 } else none, hold := false })
  s1.startConv x {
    kind := .inj, tab := r.tab, j := r.j, trig := r.trig, mark := r.mark, src := src, t := 0, calofs := 0, calgain := 0
    corr := (s.rd .adcCorr src).toNat, rack := s.g F.adcInj_RACK i, sen := s.b F.adcInj_SEN i, last := !more, tev := r.t }

/-- The table set whose regular table converter `x` serves next, if one has a request ready (16 R613, R631). -/
def State.regNext (s : State) (x : Fin 2) : Option (Fin 2) :=
  let ready (t : Fin 2) : Bool := s.serves t == x && (s.tab t).run && (s.tab t).ready
  let a : Fin 2 := if (s.cv x).alt = x.val then 1 - x else x
  let b : Fin 2 := 1 - a
  -- an entry with repeats left goes on before the other table
  if ready b && 0 < (s.tab b).rep then some b
  else if ready a then some a else if ready b then some b else none

/-- The regular entry of table set `t` starts on converter `x`. -/
def State.startReg (s : State) (x t : Fin 2) : State :=
  let i := 64 * t.val + s.g F.adcRegstat_POS t
  let src := s.g F.adcTbl_SRC i
  let s1 := (s.modCv x (fun v => { v with alt := t.val })).modTab t (fun b => { b with ready := false })
  s1.startConv x {
    kind := .reg, tab := t.val, j := s.g F.adcRegstat_POS t, trig := 0, mark := 0, src := src, t := 0, calofs := 0, calgain := 0
    corr := (s.rd .adcCorr src).toNat, rack := s.g F.adcTbl_RACK i, sen := s.b F.adcTbl_SEN i, last := true }

/-- A shared or reference conversion, of neither table. -/
def shrConv (kind : ConvKind) (src corr : Nat) : Conv :=
  { kind := kind, tab := 0, j := 0, trig := 0, mark := 0, src := src, t := 0, calofs := 0, calgain := 0, corr := corr
    rack := 0, sen := false, last := true }

/-- GAIN 1 and OFS 0: results corrected with CALOFS and CALGAIN only (16 R629). -/
def corrNone : Nat := 0x8000 * 2 ^ 16

/-- A table set moves between converters: its requests, the rest of a segment first, keep their order (16 R630). -/
def State.moveTabs (s : State) (x : Fin 2) (away : Bool) : State :=
  let y : Fin 2 := 1 - x
  let src := if away then x else y
  let dst := if away then y else x
  let mine (q : AdcReq) : Bool := q.tab == x.val
  let go := (s.cv src).seg.toList.filter mine ++ (s.cv src).reqs.filter mine
  let s1 := s.modCv src (fun c => { c with
    reqs := c.reqs.filter (fun q => !mine q), seg := if c.seg.any mine then none else c.seg, move := false })
  let s2 := s1.modCv dst (fun c => { c with reqs := c.reqs ++ go, move := false })
  (s2.modTab x (fun t => { t with hosted := away })).pb F.adcStat_HOST y away

/-- Moves of table sets that waited for a conversion boundary of converter `x` take effect (16 R627, R630, R633). -/
def State.applyMoves (s : State) (x : Fin 2) : State :=
  let y : Fin 2 := 1 - x
  let idle (c : Fin 2) : Bool := (s.cv c).conv.isNone && (s.cv c).seg.isNone
  if !(s.cv x).move && !(s.cv y).move then s
  else
    -- the set that is to move: of the converter that is FAILED, or that parks or returns
    let z : Fin 2 := if (s.cv x).move then x else y
    let st := s.adcSt z
    if st = 3 && !s.shr.back then if idle (1 - z) && (s.cv z).conv.isNone then s.moveTabs z true else s
    else if st = 3 then
      if idle (1 - z) then
        { ((s.moveTabs z false).p F.adcStat_STATE z 0).flagIrq F.adcStat_RESTOK z 68 with shr := { s.shr with back := false } }
      else s
    else if st = 2 then
      if idle x && idle y then
        if (s.tab z).hosted then (s.moveTabs z false).p F.adcStat_STATE z 0 else s.moveTabs z true
      else s
    else s

/-- Converter `x`, at a boundary or idle, starts the first ready request of the order (16 R617); a FAILED one converts only for RESTORE
(16 R630, R633). -/
def State.convBegin (s : State) (x : Fin 2) : Host.Outcome State Fault Refusal :=
  let c := s.cv x
  if !s.adcRuns x || c.conv.isSome || !s.b F.adcStat_AWAKE x then .next s
  else if s.adcSt x = 3 then .next (if 0 < c.refLeft then s.startConv x (shrConv .ref 36 corrNone) else s)
  else
    match c.seg with
    | some r => .next (s.startInj x r)
    | none =>
      let st := s.adcSt x
      if st = 1 && c.calRun then .next s
      else
        match c.reqs with
        | r :: rest => .next ((s.modCv x (fun v => { v with reqs := rest })).startInj x r)
        | [] =>
          if st = 1 || st = 2 then .next (if c.cal && !c.calRun then s.modCv x (fun v => { v with calRun := true }) else s)
          else if 0 < c.refLeft then .next (s.startConv x (shrConv .ref 36 corrNone))
          else if s.shr.due then
            let y : Fin 2 := 1 - x
            let src := s.g F.adcShrcfg_SRC
            let sh := shrConv .shared src (s.rd .adcCorr src).toNat
            if (s.cv y).hold then
              let s1 := { ((s.modCv x (fun v => { v with hold := false })).modCv y (fun v => { v with hold := false })) with
                shr := { s.shr with due := false, a := none, b := none } }
              .next ((s1.startConv x sh).startConv y sh)
            else .next (s.modCv x (fun v => { v with hold := true }))
          else
            match s.regNext x with
            | some t => .next (s.startReg x t)
            | none => .next s

/-- CONVERSION_START (16 R617). -/
def execConversionStart (x : Fin 2) (s : State) : Host.Outcome State Fault Refusal := s.convBegin x

/-! ### Ending conversions (16 R613, R621-R624) -/

/-- A mailbox takes a result (16 R623, R648). -/
def State.mailbox (s : State) (r : RegId) (i value src seq : Nat) (conv : Fin 2) (fo : Bool) : State :=
  s.wr r i (BitVec.ofNat 32 (value + src * 2 ^ 12 + conv.val * 2 ^ 18 + (if fo then 2 ^ 19 else 0) + seq % 256 * 2 ^ 20 + 2 ^ 31))

/-- The entry in progress of table set `t` ends with its delay: the next entry becomes a request (16 R613), entry 0 where POS is above
LAST (16 R614). -/
def State.regStep (s : State) (t : Fin 2) : State :=
  let pos := s.g F.adcRegstat_POS t
  let last := s.g F.adcRegctl_LAST t
  let s1 := s.p F.adcRegstat_POS t (if last ≤ pos then 0 else pos + 1)
  let s2 := if pos = last then s1.incMod F.adcRegstat_LOOPS t else s1
  let s3 := if pos = last && s2.b F.adcRegctl_WRAPF t then s2.regFlag F.adcRegstat_WRAP t else s2
  s3.modTab t (fun b => { b with rep := 0, ready := true, delay := false })

/-- A regular entry's repeat ends: the next repeat, the delay, or the next entry (16 R613, R614). -/
def State.regAdvance (s : State) (t : Fin 2) : State :=
  let pos := s.g F.adcRegstat_POS t
  let i := 64 * t.val + pos
  let b := s.tab t
  if !b.run then s.modTab t (fun b => { b with rep := 0, ready := false, delay := false })
  else if b.rep < s.g F.adcTbl_REP i then
    if s.g F.adcRegctl_LAST t < pos then s.regStep t else s.modTab t (fun b => { b with rep := b.rep + 1, ready := true })
  else if s.g F.adcTbl_DLY i = 0 then s.regStep t
  else s.modTab t (fun b => { b with rep := 0, delay := true })

/-- The results of a table entry reach their destinations (16 R621-R624). -/
def State.deliver (s : State) (x : Fin 2) (c : Conv) (raw value : Nat) : State :=
  let t : Fin 2 := Fin.ofNat 2 c.tab
  let inj := c.kind == .inj
  let owner := s.ownAdc (2 * c.tab + (if inj then 1 else 0))
  let foreign := (s.srcOwner c.src).any (· != owner)
  let fo := (s.tab t).hosted
  let flag (s : State) (fr fi : Fld) : State := if inj then s.injFlag fi t else s.regFlag fr t
  let v := if foreign then 0 else value
  let first := s.segFirst c.tab c.j
  let seq := if inj then kvD (s.tab t).runs first 0 else s.g F.adcRegstat_LOOPS t
  let mb : RegId := if inj then .adcIres else .adcRes
  let mi := if inj then 8 * c.tab + c.j else 64 * c.tab + c.j
  let s1 := if foreign then flag s F.adcRegstat_FOREIGN F.adcInjstat_FOREIGN else s
  let s2 := if bitN (s1.rd mb mi).toNat 31 then flag s1 F.adcRegstat_MBOVR F.adcInjstat_MBOVR else s1
  let s3 := s2.mailbox mb mi v c.src seq x fo
  let s4 := if !c.sen then s3
    else if s3.ownRack (16 + c.rack) ≠ owner then flag s3 F.adcRegstat_STRREF F.adcInjstat_STRREF
    else s3.streamPush (16 + c.rack) {
      w0 := 4 + 16 + (c.j + (if inj then 64 else 0) + c.tab * 128) * 2 ^ 8 + owner * 2 ^ 22
      w1 := v + c.src * 2 ^ 12 + x.val * 2 ^ 18 + (if fo then 2 ^ 19 else 0)
      w2 := c.t % 2 ^ 32, w3 := raw + seq % 256 * 2 ^ 16 }
  let s5 := if h : c.src < 6 then
      let i : Fin 6 := ⟨c.src, h⟩
      s4.isnsResult i value (inj && c.trig == c.src + 1 && c.mark == (s4.pw i).pcount && (s4.pw i).run)
    else if h : c.src - 6 < 6 then
      if c.src < 12 then s4.voResult ⟨c.src - 6, h⟩ value else s4
    else s4
  let s6 := if c.src = 30 then s5.modTlm (fun m => { m with vs := some (value, s5.tick) }) else s5
  let g := if c.src = 18 then 6 else c.src - 12
  if inj && ((12 ≤ c.src && c.src < 18 && c.trig == c.src - 4) || (c.src == 18 && c.trig == 14)) && owner == s6.ownGroup g then
    s6.pixelSample c.mark value c.tev
  else s6

/-! ### Reference checks and failover (16 R628-R632) -/

/-- A reference check of `n` conversions on converter `x`. -/
def State.refStart (s : State) (x : Fin 2) (n : Nat) : State :=
  s.modCv x (fun c => { c with refLeft := n, refSum := 0, refN := n })

/-- The average of a finished check, rounded half up (16 R629). -/
def AdcCv.refAvg (c : AdcCv) : Nat := (2 * c.refSum + c.refN) / (2 * c.refN)

/-- Whether an average lies within REFTOL of REFCODE. -/
def State.refPass (s : State) (avg : Nat) : Bool :=
  let code := s.nv.refcode
  (avg - code) + (code - avg) ≤ s.g F.adcRef_REFTOL

/-- A shared conversion that is due is not made: both converters are no longer NORMAL (16 R628, R632). -/
def State.sharedCancel (s : State) : State :=
  let s1 := (s.modCv 0 (fun c => { c with hold := false })).modCv 1 (fun c => { c with hold := false })
  { s1 with shr := { s1.shr with due := false } }

/-- ADCx fails over to its partner (16 R629, R630). -/
def State.failover (s : State) (x : Fin 2) : State :=
  let s1 := ((s.p F.adcStat_STATE x 3).flagIrq F.adcStat_FOVER x 68).sharedCancel
  let s2 := { s1 with shr := { s1.shr with mode := 0, fails := 0 } }
  (s2.modCv x (fun c => { c with move := true, refLeft := 0 })).applyMoves x

/-- The outcome of a check after a persistent mismatch (16 R629). -/
def State.refOutcome (s : State) (a b : Bool) : State :=
  let fo := s.b F.adcShrcfg_FOEN
  match a, b with
  | true, true => (s.flagIrq F.adcShrflag_PMIS 0 68).raise 78
  | false, true =>
    let s1 := (s.flagIrq F.adcShrflag_REFA 0 68).raiseOn 79 0
    if fo then s1.failover 0 else s1
  | true, false =>
    let s1 := (s.flagIrq F.adcShrflag_REFB 0 68).raiseOn 80 0
    if fo then s1.failover 1 else s1
  | false, false => ((s.flagIrq F.adcShrflag_REFA 0 68).flagIrq F.adcShrflag_REFB 0 68).raise 81

/-- A finished reference check of converter `x` (16 R629, R632), or the 16 conversions of RESTORE (16 R633). -/
def State.refDone (s : State) (x : Fin 2) : State :=
  let avg := (s.cv x).refAvg
  let s1 := s.p (if x = 0 then F.adcRefmeas_ADCA else F.adcRefmeas_ADCB) 0 avg
  if (s.cv x).refN = 16 then
    if s1.refPass avg then
      ({ (s1.modCv x (fun c => { c with move := true })) with shr := { s1.shr with back := true } }).applyMoves x
    else s1.flagIrq F.adcStat_RESTFAIL x 68
  else
  match s1.shr.mode with
  | 1 =>
    if (s1.cv 0).refLeft = 0 && (s1.cv 1).refLeft = 0 then
      ({ s1 with shr := { s1.shr with mode := 0 } }).refOutcome (s1.refPass (s1.cv 0).refAvg) (s1.refPass (s1.cv 1).refAvg)
    else s1
  | 2 =>
    let s2 := { s1 with shr := { s1.shr with mode := 0 } }
    if s2.refPass avg then { s2 with shr := { s2.shr with fails := 0 } }
    else if s2.shr.fails + 1 = s2.g F.adcShrcfg_PERS then { s2 with shr := { s2.shr with fails := 0 } }.raise 81
    else { s2 with shr := { s2.shr with fails := s2.shr.fails + 1 } }
  | _ => s1

/-- Both shared results are there: A, B, MISCNT, and a check when the mismatch persists (16 R628). -/
def State.sharedDone (s : State) (a b : Nat) : State :=
  let s1 := (s.p F.adcShrstat_A 0 a).p F.adcShrstat_B 0 b
  if s1.g F.adcShrcfg_THR < (a - b) + (b - a) then
    let n := s1.g F.adcShrstat_MISCNT + 1
    if s1.g F.adcShrcfg_PERS ≤ n then
      { (((s1.p F.adcShrstat_MISCNT 0 0).refStart 0 4).refStart 1 4) with shr := { s1.shr with mode := 1, a := none, b := none } }
    else { s1.p F.adcShrstat_MISCNT 0 n with shr := { s1.shr with a := none, b := none } }
  else { s1.p F.adcShrstat_MISCNT 0 0 with shr := { s1.shr with a := none, b := none } }

/-- A shared result of converter `x`. -/
def State.sharedResult (s : State) (x : Fin 2) (v : Nat) : State :=
  let s1 := { s with shr := if x = 0 then { s.shr with a := some v } else { s.shr with b := some v } }
  match s1.shr.a, s1.shr.b with
  | some a, some b => s1.sharedDone a b
  | _, _ => s1

/-- CONVERSION_END (16 R609, R619, R621): the conversion of converter `x` ends with a raw code; the corrected result is
delivered. -/
def execConversionEnd (x : Fin 2) (raw : BitVec 12) (s : State) : Host.Outcome State Fault Refusal :=
  match (s.cv x).conv with
  | none => .next s
  | some c =>
    if !s.clk.fsys then .next s
    else
      let v := adcCorrect raw.toNat c.calofs c.calgain c.corr
      let s1 := s.modCv x (fun d => { d with conv := none })
      let s2 := match c.kind with
        | .reg => ((s1.deliver x c raw.toNat v).regAdvance (Fin.ofNat 2 c.tab))
        | .inj =>
          let t : Fin 2 := Fin.ofNat 2 c.tab
          let s3 := s1.deliver x c raw.toNat v
          if c.last then
            let f := s3.segFirst c.tab c.j
            let s4 := (s3.setBits .adcInjstat t (2 ^ c.j)).modTab t (fun b => { b with runs := kvSet b.runs f ((kvD b.runs f 0 + 1) % 256) })
            if bitN (s4.g F.adcInjctl_DONEIE t) c.j then s4.pendIrq (65 + 2 * t.val) else s4
          else s3
        | .shared => s1.sharedResult x v
        | .ref =>
          let s3 := s1.modCv x (fun d => { d with refLeft := d.refLeft - 1, refSum := d.refSum + v })
          if (s3.cv x).refLeft = 0 then s3.refDone x else s3
      .next (s2.applyMoves x)

/-- REGULAR_DELAY_END (16 R613): DLY of table set `x` elapses and the next entry becomes a request. -/
def execRegularDelayEnd (x : Fin 2) (s : State) : Host.Outcome State Fault Refusal :=
  .next (if (s.tab x).delay && s.adcRuns (s.serves x) then s.regStep x else s)

/-- ADC_POWER_DOWN (16 R618): with PD = 1, no conversion for 120 clocks; a converter that holds or calibrates stays awake. -/
def execAdcPowerDown (x : Fin 2) (s : State) : Host.Outcome State Fault Refusal :=
  let c := s.cv x
  .next (if s.b F.adcCtl_PD x && c.conv.isNone && !c.hold && !c.cal && s.clk.fsys then s.pb F.adcStat_AWAKE x false else s)

/-- ADC_WAKE_UP (16 R618): the 60-clock start-up ends; the first ready request starts. -/
def execAdcWakeUp (x : Fin 2) (s : State) : Host.Outcome State Fault Refusal :=
  if s.b F.adcStat_AWAKE x || !s.adcRuns x then .next s else (s.pb F.adcStat_AWAKE x true).convBegin x

/-! ### Calibration and commands (16 R625-R627, R633) -/

/-- A self-calibration of ADCx begins. -/
def State.calStart (s : State) (x : Fin 2) (park : Bool) : State :=
  let s1 := ((s.p F.adcStat_STATE x (if park then 2 else 1)).pb F.adcStat_AWAKE x true).sharedCancel
  let ready := (s1.cv x).conv.isNone && (s1.cv x).seg.isNone && (s1.cv x).reqs.isEmpty
  let s2 := s1.modCv x (fun c => { c with cal := true, calRun := ready || park, move := c.move || park })
  s2.applyMoves x

/-- A write of ADCx_CMD (16 R625, R627, R633, R638). -/
def State.adcCommand (s : State) (x : Fin 2) (cmd : Nat) (park : Bool) (key : Nat) : State :=
  let y : Fin 2 := 1 - x
  let refuse := s.pb F.adcStat_CMDREF x true
  let st := s.adcSt x
  if key ≠ 0xAD then refuse
  else
    match cmd with
    | 0 => s
    | 1 => if st = 1 || st = 2 || (park && s.adcSt y ≠ 0) then refuse else s.calStart x (park && st ≠ 3)
    | 2 => if st ≠ 3 then refuse else s.refStart x 16
    | 3 =>
      if s.adcSt y ≠ 0 || st ≠ 0 then refuse
      else (s.raiseOn (79 + x.val) 0).failover x
    | _ => s

/-- ADC_CALIBRATION_DONE (16 R625; 03 R68): the calibration of ADCx ends with the measured offset (signed, 1/8 code) and gain
(1.15); the factors are written, or CALERR and FLT82. -/
def execAdcCalibrationDone (x : Fin 2) (ofs : BitVec 16) (gain : BitVec 17) (s : State) : Host.Outcome State Fault Refusal :=
  if !(s.cv x).calRun || !s.clk.fsys then .next s
  else
    let o := ofs.toInt
    let ok := decide (-128 ≤ o) && decide (o ≤ 128) && decide (0x7800 ≤ gain.toNat) && decide (gain.toNat ≤ 0x8800)
    let s1 := if ok then (s.p F.adcCalofs_CALOFS x (wrap 12 o)).p F.adcCalgain_CALGAIN x gain.toNat
      else (s.flagIrq F.adcStat_CALERR x 69).raise 82
    let s2 := (s1.flagIrq F.adcStat_CALDONE x 69).modCv x (fun c => { c with cal := false, calRun := false })
    let s3 := { s2 with pwr := if x = 0 then { s2.pwr with calA := true } else { s2.pwr with calB := true } }
    .next (if s3.adcSt x = 2 then (s3.modCv x (fun c => { c with move := true })).applyMoves x
      else s3.p F.adcStat_STATE x (if (s3.tab x).hosted then 3 else 0))

/-- Both start-up calibrations begin together (03 R68, R71). -/
def State.startAdcCal (s : State) : State := (s.calStart 0 false).calStart 1 false

/-- SHARED_CONVERSION_DUE (16 R628, R632): every INT x 10 us a shared conversion falls due; with a FAILED converter the host
checks itself alone. -/
def execSharedConversionDue (s : State) : Host.Outcome State Fault Refusal :=
  if s.g F.adcShrcfg_INT = 0 || !s.clk.fsys || !s.running then .next s
  else if s.adcSt 0 = 0 && s.adcSt 1 = 0 then .next { s with shr := { s.shr with due := true } }
  else
    let host (x : Fin 2) : State := { s.refStart x 4 with shr := { s.shr with mode := 2 } }
    if s.shr.mode ≠ 0 then .next s
    else if s.adcSt 0 = 3 && s.adcSt 1 = 0 then .next (host 1)
    else if s.adcSt 1 = 3 && s.adcSt 0 = 0 then .next (host 0)
    else .next s

/-- SHARED_CONVERSION_SKIP (16 R628): the converters have not held together within 2 us of the due time. -/
def execSharedConversionSkip (s : State) : Host.Outcome State Fault Refusal :=
  if s.shr.due then
    .next (s.sharedCancel.flagIrq F.adcShrflag_SKIP 0 68 |>.incSat F.adcShrflag_SKIPCNT)
  else .next s

/-! ### Bakes of the tables (16 R614) -/

/-- EN and LAST of a regular table after a slice boundary. -/
def State.regBaked (s : State) (x : Fin 2) : State :=
  let t := s.tab x
  if s.b F.adcRegctl_EN x then
    if !t.run then (s.p F.adcRegstat_POS x 0).modTab x (fun t => { t with run := true, rep := 0, ready := true, delay := false })
    else if t.ready && s.g F.adcRegctl_LAST x < s.g F.adcRegstat_POS x then
      (s.p F.adcRegstat_POS x 0).modTab x (fun t => { t with rep := 0 })
    else s
  else if t.run then
    (s.p F.adcRegstat_POS x 0).modTab x (fun t => { t with run := false, rep := 0, ready := false, delay := false })
  else s

/-- EN of an injected table after a slice boundary (16 R615): without it no segment runs, and what waits is dropped (log 84). -/
def State.injBaked (s : State) (x : Fin 2) : State :=
  if s.b F.adcInjctl_EN x then s
  else
    let other (q : AdcReq) : Bool := q.tab != x.val
    each [(0 : Fin 2), 1] (fun y s => s.modCv y (fun c => { c with reqs := c.reqs.filter other, seg := c.seg.filter other }))
      (s.modTab x (fun t => { t with pend := [] }))

end Sys2Proof.Machine
end

