-- ==== Sys2Proof/Machine/Security.lean ====
section
/-!
DEFINITION. Security and life cycle (19) and the D0 SPI session (07 R256-R260): the random source, loading of slots, key
commands, life-cycle changes, session commands; the meanings of the commands SESSION_CHALLENGE_READY,
SESSION_LOCKOUT_END, KEY_COMMAND_DONE, LC_CHALLENGE_READY, LC_LOCKOUT_END and VDD_GLITCH.
-/

namespace Sys2Proof.Machine

/-! ### Random source (19 R733): the block drawn and the number of blocks discarded before it are free values (log 2) -/

/-- A random value from 1 to `2 ^ w - 1`. -/
def State.random (s : State) (w : Nat) : Nat × State :=
  let r := s.fresh 64
  let f := r.2.fresh 8
  (1 + r.1.toNat % (2 ^ w - 1), f.2.p F.secStat_RNGFAIL 0 (satN 255 (f.2.g F.secStat_RNGFAIL + f.1.toNat)))

/-- NET_EPOCH takes a random non-zero value at a device reset (08 R286). -/
def State.newEpoch (s : State) : State :=
  let r := s.random 32
  r.2.wr .netEpoch 0 (BitVec.ofNat 32 r.1)

/-! ### Start-up (19 R719, R732, R736) -/

/-- The bitwise vote of three copies (06 R211). -/
def vote3 (a b c : Nat) : Nat := (a &&& b) ||| (a &&& c) ||| (b &&& c)

/-- Three copies of the life-cycle state: the value used, and whether there is no majority (06 R212; 19 R736). -/
def lcResolve (a b c : Nat) : Nat × Bool :=
  let v := vote3 a b c
  if (a == b || a == c || b == c) && v < 5 then (v, false)
  else
    let l := [a, b, c].filter (· < 5)
    (if l.isEmpty then 4 else l.foldl max 0, true)

/-- The stored copies of the life-cycle state all take a value. -/
def State.setLcStored (s : State) (v : Nat) : State := { s with nv := { s.nv with lc0 := v, lc1 := v, lc2 := v } }

/-- LC_STAT.STATE and TAMPCNT as the security store gives them at start-up; without a majority the reaction of FLT87. -/
def State.lcStartup (s : State) : State :=
  let r := lcResolve s.nv.lc0 s.nv.lc1 s.nv.lc2
  let s1 := (s.p F.lcStat_STATE 0 r.1).p F.secStat_TAMPCNT 0 s.nv.tamp
  if r.2 then (s1.setLcStored r.1).tamper 87 else s1

/-- The slots load from the first correct record of each (19 R719). -/
def State.loadKeySlots (s : State) : State :=
  each engs (fun i s =>
    let a := vget s.nv.rec1 i
    let b := vget s.nv.rec2 i
    if a.ok then s.setSlot i a.slot else if b.ok then s.setSlot i b.slot
    else (s.setSlot i {}).flagIrq F.secStat_RECERR 0 94) s

/-- Both stored records of slot `i` are programmed. -/
def State.storeSlot (s : State) (i : Fin 4) (x : Slot) : State :=
  { s with nv := { s.nv with rec1 := vset s.nv.rec1 i ⟨true, x⟩, rec2 := vset s.nv.rec2 i ⟨true, x⟩ } }

/-! ### Key commands (19 R722-R726) -/

/-- A key command is refused, or ends at once: RESULT, DONE, ERR; a command that runs goes on. -/
def State.keyRefuse (s : State) (result : Nat) : State :=
  let s1 := (s.p F.keyStat_RESULT 0 result).pb F.keyStat_ERR 0 (result != 1 || s.b F.keyStat_ERR)
  s1.keyRegsClear.flagIrq F.keyStat_DONE 0 94

/-- A command runs. -/
def State.keyBusy (s : State) : Bool := s.b F.keyStat_BUSY || s.b F.lcStat_BUSY

/-- The 16 bytes of KEY_DATA0-KEY_DATA3. -/
def State.keyBytes (s : State) : List Nat := [0, 1, 2, 3].flatMap (fun i => beBytes 4 (s.rd .keyData i).toNat)

/-- The message of a wrapped key (19 R724). -/
def State.wrapMsg (s : State) (slot wsel : Nat) : List Nat :=
  [slot, wsel, 0, 0] ++ beBytes 4 (s.rd .keyAttr).toNat ++ s.keyBytes ++ s.uidBytes

/-- LOAD (19 R723-R725). -/
def State.keyLoad (s : State) (slot : Fin 4) (unwrap : Bool) (wsel : Fin 4) : State :=
  let lc := s.lcState
  let w := (s.slot wsel).key
  let tag := (s.rd .keyTagHi).toNat * 2 ^ 32 + (s.rd .keyTagLo).toNat
  if (!unwrap && lc == 2) || lc == 4 then s.keyRefuse 2
  else if s.g F.keyAttr_VER ≤ (s.slot slot).ver then s.keyRefuse 5
  else if unwrap && !s.usable wsel 3 then s.keyRefuse 6
  else if s.b F.secStat_KEYSOFF then s.keyRefuse 7
  else if unwrap && cmac64 w (s.wrapMsg slot wsel) != tag then s.keyRefuse 4
  else
    let k := if unwrap then beNat (aesDec (beBytes 16 w) s.keyBytes) else beNat s.keyBytes
    let new : Slot := { key := k, st := 1, use := s.g F.keyAttr_USE, ver := s.g F.keyAttr_VER }
    (s.pb F.keyStat_BUSY 0 true).modSec (fun c => { c with job := some ⟨1, slot, new⟩ })

/-- REVOKE (19 R726). -/
def State.keyRevoke (s : State) (slot : Fin 4) : State :=
  if s.lcState = 4 then s.keyRefuse 2
  else if (s.slot slot).st = 0 then s.keyRefuse 1
  else (s.pb F.keyStat_BUSY 0 true).modSec (fun c => { c with
    job := some ⟨2, slot, { s.slot slot with key := 0, st := 2 }⟩ })

/-- A write of KEY_CMD takes effect (19 R722). -/
def State.keyCommand (s : State) (w : Nat) : State :=
  let op := bitsN w 0 2
  let slot := Fin.ofNat 4 (bitsN w 4 2)
  if bitsN w 16 8 ≠ 0x4B then s.p F.keyStat_RESULT 0 8
  else if op = 0 then s
  else if s.keyBusy then s.keyRefuse 3
  else if op = 1 then s.keyLoad slot (bitN w 12) (Fin.ofNat 4 (bitsN w 8 2))
  else s.keyRevoke slot

/-- KEY_COMMAND_DONE (19 R725): the records are programmed and the slot changes. -/
def execKeyCommandDone (s : State) : Host.Outcome State Fault Refusal :=
  match s.sec.job with
  | none => .next s
  | some j =>
    let i := Fin.ofNat 4 j.slot
    .next (((s.storeSlot i j.new).setSlot i j.new).keyEnd 1)

/-! ### Life cycle (19 R728-R730) -/

/-- A change: 0 not permitted, 1 without authorisation, 2 with one (19 R728). -/
def lcAuth (src dst : Nat) : Nat :=
  if src = 2 && (dst = 3 || dst = 4) then 2
  else if (src = 0 && dst = 1) || ((src = 0 || src = 1) && dst = 2) || (src = 1 && dst = 3)
    || ((src = 0 || src = 1 || src = 3) && dst = 4) then 1
  else 0

/-- An accepted change starts (19 R730 steps 1 and 2). -/
def State.lcStart (s : State) (target : Nat) : State :=
  ((s.wipeLarder 2).keyDependent.pb F.lcStat_BUSY 0 true).modSec (fun c => { c with lcJob := some target })

/-- A write of LC_CMD takes effect (19 R728, R729). -/
def State.lcCommand (s : State) (w : Nat) : State :=
  let target := bitsN w 0 3
  let asel := bitsN w 4 2
  let a := lcAuth s.lcState target
  if bitsN w 8 8 ≠ 0x6C then s.p F.lcStat_RESULT 0 9
  else if s.keyBusy then ((s.p F.lcStat_RESULT 0 3).pb F.lcStat_ERR 0 true).flagIrq F.lcStat_DONE 0 94
  else if s.b F.lcStat_LOCKOUT then s.lcEnd 8
  else if a = 0 then s.lcEnd 2
  else if target = 2 && !engs.any (fun i => s.usable i 0) then s.lcEnd 7
  else if a = 1 then s.lcStart target
  else if !s.usable (Fin.ofNat 4 asel) 4 then s.lcEnd 6
  else (((s.pb F.lcStat_CHAL 0 false).wr .lcChalHi 0 0).wr .lcChalLo 0 0).modSec (fun c =>
    { c with lcReq := some (target, asel), lcOpen := none })

/-- LC_CHALLENGE_READY (19 R729). -/
def execLcChallengeReady (s : State) : Host.Outcome State Fault Refusal :=
  match s.sec.lcReq with
  | none => .next s
  | some q =>
    let r := s.random 64
    let s1 := (r.2.wr .lcChalHi 0 (BitVec.ofNat 32 (r.1 / 2 ^ 32))).wr .lcChalLo 0 (BitVec.ofNat 32 r.1)
    .next ((s1.pb F.lcStat_CHAL 0 true).modSec (fun c => { c with lcReq := none, lcOpen := some q }))

/-- A write of LC_RESP_LO commits a response (19 R729). -/
def State.lcCommit (s : State) (t : Nat) : State :=
  match s.sec.lcOpen with
  | some (target, asel) =>
    let m := beBytes 4 (s.rd .lcChalHi).toNat ++ beBytes 4 (s.rd .lcChalLo).toNat ++ s.uidBytes ++ [0, 0, 0, target]
    let s1 := (((s.pb F.lcStat_CHAL 0 false).wr .lcChalHi 0 0).wr .lcChalLo 0 0).modSec (fun c => { c with lcOpen := none })
    let i := Fin.ofNat 4 asel
    if s.usable i 4 && cmac64 (s.slot i).key m == t then s1.lcStart target
    else (s1.pb F.lcStat_LOCKOUT 0 true).lcEnd 4
  | none => s.p F.lcStat_RESULT 0 5

/-- LC_LOCKOUT_END (19 R729). -/
def execLcLockoutEnd (s : State) : Host.Outcome State Fault Refusal := .next (s.pb F.lcStat_LOCKOUT 0 false)

/-- VDD_GLITCH (19 R734): FLT22, a tamper event; the detector works from release on. -/
def execVddGlitch (s : State) : Host.Outcome State Fault Refusal := .next (if s.running then s.tamper 22 else s)

/-! ### The D0 SPI session (07 R257-R260) -/

/-- A write of SPI_SESSCMD takes effect. -/
def State.sessCommand (s : State) (w : Nat) : State :=
  let ksel := bitsN w 4 2
  match bitsN w 0 2 with
  | 1 =>
    if s.b F.spiSessstat_LOCKOUT then s.p F.spiSessstat_RESULT 0 5
    else
      let s1 := s.sessionEnd
      if s.usable (Fin.ofNat 4 ksel) 0 then
        (s1.p F.spiSessstat_KSEL 0 ksel).modSec (fun c => { c with spiReq := some ksel })
      else s1.p F.spiSessstat_RESULT 0 3
  | 2 => if s.b F.spiSessstat_SESS then s.sessionEnd else s
  | _ => s

/-- SESSION_CHALLENGE_READY (07 R257 step 1). -/
def execSessionChallengeReady (s : State) : Host.Outcome State Fault Refusal :=
  match s.sec.spiReq with
  | none => .next s
  | some _ =>
    let r := s.random 64
    let s1 := (r.2.wr .spiChalHi 0 (BitVec.ofNat 32 (r.1 / 2 ^ 32))).wr .spiChalLo 0 (BitVec.ofNat 32 r.1)
    .next ((s1.pb F.spiSessstat_CHAL 0 true).modSec (fun c => { c with spiReq := none }))

/-- A write of SPI_RESP_LO commits a response (07 R257 steps 2 to 4, R258, R259). -/
def State.sessCommit (s : State) (t : Nat) : State :=
  if !s.b F.spiSessstat_CHAL then s.p F.spiSessstat_RESULT 0 4
  else
    let m := beBytes 4 (s.rd .spiChalHi).toNat ++ beBytes 4 (s.rd .spiChalLo).toNat ++ s.uidBytes
    let i := Fin.ofNat 4 (s.g F.spiSessstat_KSEL)
    let s1 := ((s.pb F.spiSessstat_CHAL 0 false).wr .spiChalHi 0 0).wr .spiChalLo 0 0
    if s.usable i 0 && cmac64 (s.slot i).key m == t then
      ((s1.pb F.spiSessstat_SESS 0 true).p F.spiSessstat_RESULT 0 1).p F.spiSessstat_FAILCNT 0 0
    else
      (((s1.p F.spiSessstat_RESULT 0 2).incSat F.spiSessstat_FAILCNT).pb F.spiSessstat_LOCKOUT 0 true).pendIrq 94

/-- SESSION_LOCKOUT_END (07 R259). -/
def execSessionLockoutEnd (s : State) : Host.Outcome State Fault Refusal :=
  .next (s.pb F.spiSessstat_LOCKOUT 0 false)

end Sys2Proof.Machine
end

