-- ==== Sys2Proof/Machine/Image.lean ====
section
/-!
DEFINITION. The image store (10 R391-R402): the image format and its checks, boot selection, image load, the image-store commands
and the live swap; the meanings of IMAGE_VERIFICATION_DONE, IMAGE_LOAD_DONE, PROGRAM_DONE, VERIFY_DONE and
SHADOW_LOAD_DONE.
-/

namespace Sys2Proof.Machine

/-- Change the image-store state. -/
def State.modStore (s : State) (f : Img → Img) : State := { s with store := f s.store }

/-- Base address of a bank. -/
def imgBase (b : Nat) : Nat := 0xC00000 + 0x100000 * b

/-- The `n` bytes from an aligned address, whether one of their words is uncorrectable, and the reactions of the reads. -/
def State.rdBytes (s : State) (req a n : Nat) : List Nat × Bool × State :=
  (upto (n / 4)).foldl (fun p i =>
    let r := p.2.2.readMem req (a + 4 * i)
    (p.1 ++ [r.1 % 256, r.1 / 2 ^ 8 % 256, r.1 / 2 ^ 16 % 256, r.1 / 2 ^ 24 % 256], p.2.1 || r.2.1, r.2.2)) ([], false, s)

/-! ### The header (10 R391, R393, R394) -/

/-- A section entry: type, flags, offset, length. -/
structure Sect where
  ty : Nat
  flags : Nat
  ofs : Nat
  len : Nat
  deriving DecidableEq, Repr

/-- The eight section entries of a header. -/
def sections (h : List Nat) : List Sect :=
  (upto 8).map (fun i =>
    let f (o n : Nat) : Nat := leNat (sub8 h (0x18 + 12 * i + o) n)
    ⟨f 0 2, f 2 2, f 4 4, f 8 4⟩)

/-- The maximum LEN of a section type. -/
def sectMax (ty ilen : Nat) : Nat :=
  match ty with
  | 1 => 131072
  | 2 => 2048
  | 3 => 2048
  | 4 => 1024
  | 5 => 512
  | 6 => 2048
  | 7 => ilen - 0x100
  | _ => 0

/-- One entry by itself. -/
def Sect.ok (x : Sect) (ilen : Nat) : Bool :=
  x.flags == 0 &&
    (if x.ty = 0 then x.ofs == 0 && x.len == 0
     else x.ty ≤ 7 && x.ofs % 16 == 0 && 0x100 ≤ x.ofs && x.ofs + x.len ≤ ilen && x.len ≤ sectMax x.ty ilen
       && (x.ty != 2 || x.len % 8 == 0))

/-- Two entries of an image: no type twice, no overlap. -/
def Sect.apart (x y : Sect) : Bool :=
  x.ty == 0 || y.ty == 0 || (x.ty != y.ty && (x.ofs + x.len ≤ y.ofs || y.ofs + y.len ≤ x.ofs))

/-- Every pair of entries is apart. -/
def sectsApart : List Sect → Bool
  | [] => true
  | x :: t => t.all (fun y => x.apart y) && sectsApart t

/-- All bytes are 0. -/
def zero8 (l : List Nat) : Bool := l.all (· == 0)

/-- The header passes its check (10 R394), against the ROM version of the part. -/
def headerOk (h : List Nat) (romver : Nat) : Bool :=
  let ilen := leNat (sub8 h 0xC 4)
  let seq := leNat (sub8 h 8 4)
  leNat (sub8 h 0 4) == 0x584D4731 && leNat (sub8 h 4 2) == 1 && leNat (sub8 h 6 2) == 0x100
    && 1 ≤ seq && seq ≤ 0xFFFFFFFE && ilen % 16 == 0 && 0x100 ≤ ilen && ilen ≤ 0x100000
    && nth8 h 0x10 ≤ 3 && zero8 (sub8 h 0x11 3) && leNat (sub8 h 0x14 2) == 0x648 && leNat (sub8 h 0x16 2) ≤ romver
    && zero8 (sub8 h 0x78 104) && leNat (sub8 h 0xE4 4) == crc32 (sub8 h 0 0xE4) && zero8 (sub8 h 0xE8 8)
    && (sections h).all (·.ok ilen) && sectsApart (sections h)

/-- The keys of the slots usable for image tags, taken at the start of a verification (19 R720). -/
def State.imgKeys (s : State) : List (Nat × Nat) :=
  (engs.filter (fun i => s.usable i 2)).map (fun i => (i.val, (s.slot i).key))

/-- The verification of a bank (10 R394): its RESULT, SEQ and ILEN, and the reactions of its reads. A header that a device reset has
spoilt fails its check (03 R92). -/
def State.verifyBank (s : State) (bank : Nat) (keys : List (Nat × Nat)) : Nat × Nat × Nat × State :=
  let h := s.rdBytes 12 (imgBase bank) 256
  if bitN s.nv.torn bank || !headerOk h.1 (s.g F.devVer_ROMVER) then (5, 0, 0, h.2.2)
  else
    let seq := leNat (sub8 h.1 8 4)
    let ilen := leNat (sub8 h.1 0xC 4)
    let r := s.rdBytes 12 (imgBase bank) ilen
    let l := r.1
    if r.2.1 || crc32 (l.take 0xE0 ++ l.drop 0x100) != leNat (sub8 l 0xE0 4) then (6, seq, ilen, r.2.2)
    else
      match kvGet keys (nth8 l 0x10) with
      | some k =>
        (if cmac k (l.take 0xF0 ++ l.drop 0x100) == beNat (sub8 l 0xF0 16) then 1 else 7, seq, ilen, r.2.2)
      | none => (7, seq, ilen, r.2.2)

/-- The outcome of a verification in IMG_STAT, SEQ and ILEN of the bank (10 R415, R416). -/
def State.noteBank (s : State) (bank : Nat) (r : Nat × Nat × Nat × State) : State :=
  if bank = 0 then
    ((s.pb F.imgStat_AVALID 0 (r.1 == 1)).p F.imgAseq_SEQ 0 r.2.1).p F.imgAlen_ILEN 0 r.2.2.1
  else ((s.pb F.imgStat_BVALID 0 (r.1 == 1)).p F.imgBseq_SEQ 0 r.2.1).p F.imgBlen_ILEN 0 r.2.2.1

/-- The bytes of a section of a bank; none where the image has no such section. -/
def State.sectBytes (s : State) (bank ty : Nat) : Option (List Nat) × State :=
  let h := s.rdBytes 12 (imgBase bank) 256
  match (sections h.1).find? (fun x => x.ty == ty) with
  | some x =>
    let r := h.2.2.rdBytes 12 (imgBase bank + x.ofs) ((x.len + 3) / 4 * 4)
    (some (r.1.take x.len), r.2.2)
  | none => (none, h.2.2)

/-- The shadow tables of a bank (10 R396). -/
def State.readTabs (s : State) (bank : Nat) : Tabs × State :=
  let a := s.sectBytes bank 3
  let b := a.2.sectBytes bank 4
  let c := b.2.sectBytes bank 5
  let d := c.2.sectBytes bank 6
  ({ hearth := a.1.getD [], calib := b.1.getD [], derate := c.1.getD [], vfcoef := d.1.getD [] }, d.2)

/-! ### Tables in registers -/

/-- Word `i` of section bytes, where the section holds all of it. -/
def wordOf (l : List Nat) (i : Nat) : Option Nat :=
  if 4 * i + 4 ≤ l.length then some (leNat (sub8 l (4 * i) 4)) else none

/-- The word that a register takes from a table: each field its bits of `v`, or its bits of the default where they are a
reserved value of it (06 R190). -/
def tabWord (r : RegId) (dflt v : Nat) : Nat :=
  (effFields r 0).foldl (fun w f => if f.ok.ok (bitsN v f.lo f.w) then putN w f.lo f.w (bitsN v f.lo f.w) else w) dflt

/-- The words that the tables give to ADC_CORRs (16 R620), TLM_CRVc_Pi (17 R664) and TLM_GRPg_CAL (17 R661), by address. -/
def tabRegs (t : Tabs) : List (Nat × Nat) :=
  let f (r : RegId) (l : List Nat) (i j : Nat) : Nat × Nat :=
    (r.addr i, match wordOf l j with | some v => tabWord r (r.reset i) v | none => r.reset i)
  (upto 39).map (fun i => f .adcCorr t.calib i i) ++ (upto 32).map (fun i => f .tlmCrv t.derate i i)
    ++ (upto 7).map (fun g => (RegId.tlmGrpCal.addr g, (wordOf t.vfcoef (480 + 2 * g)).getD 0))

/-- The coefficient words of the pixels (17 R661). -/
def tabCoef (t : Tabs) : List (Nat × Nat) :=
  (upto 480).filterMap (fun p => match wordOf t.vfcoef p with | some v => if v = 0 then none else some (p, v) | none => none)

/-! ### CONFIG (10 R398; 09 R791) -/

/-- One CONFIG entry: the words of the img fields, and how many fields and entries were skipped. -/
def cfgEntry (base : List (Nat × Nat)) (a v : Nat) (p : List (Nat × Nat) × Nat) : List (Nat × Nat) × Nat :=
  match if a % 4 = 0 && a < 0x13000 then findReg a else none with
  | some (r, i) =>
    if r.imgMask = 0 then (p.1, p.2 + 1)
    else
      let dflt := kvD base a (r.reset i)
      let l := (effFields r i).filter (fun f => f.acc == .rw && bitN r.imgMask f.lo)
      let bad := (l.filter (fun f => !f.ok.ok (bitsN v f.lo f.w))).length
      let w := l.foldl (fun w f => if f.ok.ok (bitsN v f.lo f.w) then putN w f.lo f.w (bitsN v f.lo f.w) else w) dflt
      (kvSet p.1 a w, p.2 + bad)
  | none => (p.1, p.2 + 1)

/-- CONFIG entries in order. -/
def cfgApply (base : List (Nat × Nat)) (l : List Nat) : Nat → Nat → List (Nat × Nat) × Nat → List (Nat × Nat) × Nat
  | 0, _, p => p
  | n + 1, i, p => cfgApply base l n (i + 1) (cfgEntry base (leNat (sub8 l (8 * i) 4)) (leNat (sub8 l (8 * i + 4) 4)) p)

/-- The partitions of two racks overlap (09 R328). -/
def State.partsMeet (s : State) (n m : Nat) : Bool :=
  s.g F.rackPart_BASE n < s.g F.rackPart_BASE m + s.g F.rackPart_SIZE m
    && s.g F.rackPart_BASE m < s.g F.rackPart_BASE n + s.g F.rackPart_SIZE n

/-- The check of the racks that the image enables, in ascending order (09 R791). -/
def State.rackCheck (s : State) : State :=
  each (upto 32) (fun n s =>
    if !s.b F.rackCfg_EN n then s
    else if 512 < s.g F.rackPart_BASE n + s.g F.rackPart_SIZE n
        || (upto n).any (fun m => s.b F.rackCfg_EN m && s.partsMeet n m) then
      (s.pb F.rackCfg_EN n false).pb F.rackGstat_OVERLAP 0 true
    else s) s

/-! ### Boot -/

/-- The crystal is wanted and not yet qualified: its qualification runs (04 R107). -/
def State.qualStart (s : State) : State := { s with clk := { s.clk with qual := s.b F.clkCfg_XTALEN && !s.b F.clkStat_XTALOK } }

/-- Errors are added to words of the image store. -/
def State.addFlips (s : State) (l : List Flip) : State :=
  each (l.filter (fun f => regionOf f.1.toNat == some .image)) (fun f s =>
    let a := f.1.toNat / 4 * 4
    let e := kvD s.ecc a 0 ^^^ f.2.toNat
    { s with ecc := if e = 0 then kvDel s.ecc a else kvSet s.ecc a e }) s

/-- IMAGE_VERIFICATION_DONE (03 R69; 10 R394, R395): both banks are checked; the valid bank with the higher SEQ is active, A of
equal ones; with none valid NOIMG and FLT8. -/
def execImageVerificationDone (flips : List Flip) (s : State) : Host.Outcome State Fault Refusal :=
  if !(s.pwr.mode == .startup && s.pwr.pll && s.clk.fsys && !s.pwr.verified) then .next s
  else
    let s0 := s.addFlips flips
    let a := s0.verifyBank 0 s0.imgKeys
    let b := a.2.2.2.verifyBank 1 s0.imgKeys
    let s1 := (b.2.2.2.noteBank 0 a).noteBank 1 b
    let s2 := { s1 with pwr := { s1.pwr with verified := true } }
    let act := if a.1 = 1 && (b.1 ≠ 1 || b.2.1 ≤ a.2.1) then some 0 else if b.1 = 1 then some 1 else none
    let s3 := s2.modStore (fun x => { x with active := act })
    .next (match act with
      | some k => s3.p F.imgStat_ACTIVE 0 k
      | none => (s3.pb F.pwrStat_NOIMG 0 true).raise 8)

/-- IMAGE_LOAD_DONE (10 R396, R398): RECIPE is in recipe SRAM, the shadow tables are loaded, CONFIG is applied. -/
def execImageLoadDone (s : State) : Host.Outcome State Fault Refusal :=
  match s.store.active with
  | some bank =>
    if !(s.pwr.mode == .startup && s.pwr.verified && s.pwr.sram && s.clk.fsys && !s.pwr.loaded) then .next s
    else
      let r := s.sectBytes bank 1
      let rec1 := r.1.getD []
      let s1 := { r.2 with
        mem := (upto rec1.length).foldl (fun m i => memSet m (0x800000 + i) (BitVec.ofNat 8 (nth8 rec1 i))) r.2.mem
        ecc := r.2.ecc.filter (fun p => p.1 < 0x800000 || 0x800000 + (rec1.length + 3) / 4 * 4 ≤ p.1) }
      let t := s1.readTabs bank
      let c := t.2.sectBytes bank 2
      let l := c.1.getD []
      let base := (tabRegs t.1).foldl (fun m p => kvSet m p.1 p.2) s.img
      let cfg := cfgApply base l (l.length / 8) 0 (base, 0)
      let s2 := { c.2 with img := cfg.1, tlm := { c.2.tlm with coef := tabCoef t.1 }, pwr := { c.2.pwr with loaded := true } }
      let s3 := s2.modStore (fun x => { x with tabs := t.1 })
      .next ((s3.p F.imgStat_CFGSKIP 0 (satN 255 cfg.2)).rackCheck.qualStart)
  | none => .next s

/-! ### Commands (10 R399-R402) -/

/-- A command ends (10 R399). -/
def State.imgEnd (s : State) (result : Nat) : State :=
  let s1 := ((s.pb F.imgStat_BUSY 0 false).p F.imgStat_RESULT 0 result).pb F.imgStat_ERR 0
    ((result != 1 && result != 9) || s.b F.imgStat_ERR)
  (s1.modStore (fun x => { x with job := none })).flagIrq F.imgStat_DONE 0 91

/-- A command is refused while another runs: that one goes on. -/
def State.imgBusy (s : State) : State :=
  ((s.p F.imgStat_RESULT 0 3).pb F.imgStat_ERR 0 true).flagIrq F.imgStat_DONE 0 91

/-- The VALID bit of a bank is cleared. -/
def State.imgInvalid (s : State) (bank : Nat) : State :=
  s.pb (if bank = 0 then F.imgStat_AVALID else F.imgStat_BVALID) 0 false

/-- A command starts. -/
def State.imgStart (s : State) (j : ImgJob) : State :=
  (s.pb F.imgStat_BUSY 0 true).modStore (fun x => { x with job := some j })

/-- A PROGRAM source word lies in recipe, tray, data or hot-tray SRAM. -/
def srcOk (a : Nat) : Bool :=
  match regionOf a with
  | some .recipe | some .tray | some .data | some .hot => true
  | _ => false

/-- PROGRAM (10 R399, R400): its words are read before anything is programmed. -/
def State.imgProgram (s : State) (bank count : Nat) : State :=
  let src := s.g F.imgSrc_SRC
  let dst := s.g F.imgDst_OFFSET
  if count = 0 || 64 < count || src % 4 ≠ 0 || !(upto count).all (fun i => srcOk (src + 4 * i)) then s.imgEnd 4
  else if dst % 4 ≠ 0 || 256 < dst % 256 + 4 * count then s.imgEnd 4
  else
    let r := (upto count).foldl (fun p i =>
      let x := p.2.2.readMem 12 (src + 4 * i)
      (p.1 ++ [x.1], p.2.1 || x.2.1, x.2.2)) (([] : List Nat), false, s.imgInvalid bank)
    if r.2.1 then r.2.2.imgEnd 10
    else r.2.2.imgStart { op := 1, bank := bank, dst := dst, words := r.1, key := [], loading := false }

/-- A write of IMG_CMD takes effect (10 R399). -/
def State.imgCommand (s : State) (w : Nat) : State :=
  let op := bitsN w 0 3
  let bank := bitsN w 3 1
  let job (op : Nat) : ImgJob := { op := op, bank := bank, dst := 0, words := [], key := s.imgKeys, loading := false }
  if bitsN w 16 8 ≠ 0xA9 then s.p F.imgStat_RESULT 0 11
  else if op = 0 then s
  else if s.b F.imgStat_BUSY then s.imgBusy
  else if (op = 1 || op = 3 || op = 4) && s.store.active == some bank then s.imgEnd 2
  else if (op = 1 || op = 4) && s.b F.imgStat_SWAPPEND && s.store.target = bank then s.imgEnd 3
  else
    match op with
    | 1 => s.imgProgram bank (bitsN w 4 7)
    | 2 => s.imgStart (job 2)
    | 3 => s.imgStart (job 3)
    | 4 => (s.imgInvalid bank).imgStart { job 4 with words := [0] }
    | _ => if s.b F.imgStat_SWAPPEND then (s.pb F.imgStat_SWAPPEND 0 false).imgEnd 9 else s.imgEnd 1

/-- A header that was spoilt is whole again once its words are programmed (log 66). -/
def State.mended (s : State) (j : ImgJob) : State :=
  if j.op = 1 && j.dst < 256 then { s with nv := { s.nv with torn := putN s.nv.torn j.bank 1 0 } } else s

/-- PROGRAM_DONE (10 R400): the words of a PROGRAM, or the MAGIC of an INVALIDATE, are in the bank. -/
def execProgramDone (s : State) : Host.Outcome State Fault Refusal :=
  match s.store.job with
  | some j =>
    if j.op = 1 || j.op = 4 then
      let s1 := each (upto j.words.length) (fun i s => s.writeMem (imgBase j.bank + j.dst + 4 * i) (nth8 j.words i)) s
      .next ((s1.mended j).imgEnd 1)
    else .next s
  | none => .next s

/-- The word that a program operation in progress leaves at `a`, where it programs it. -/
def State.programmed (s : State) (a : Nat) : Option Nat :=
  match s.store.job with
  | some j =>
    let b := imgBase j.bank + j.dst
    if (j.op = 1 || j.op = 4) && b ≤ a && a < b + 4 * j.words.length then some (nth8 j.words ((a - b) / 4)) else none
  | none => none

/-- SEQ of the active bank. -/
def State.activeSeq (s : State) : Option Nat :=
  s.store.active.map (fun b => if b = 0 then s.g F.imgAseq_SEQ else s.g F.imgBseq_SEQ)

/-- VERIFY_DONE (10 R394, R402 step 1): the verification of a VERIFY or of a SWAP ends. -/
def execVerifyDone (flips : List Flip) (s : State) : Host.Outcome State Fault Refusal :=
  match s.store.job with
  | some j =>
    if (j.op = 2 || j.op = 3) && !j.loading then
      let seq0 := s.activeSeq
      let r := (s.addFlips flips).verifyBank j.bank j.key
      let s1 := r.2.2.2.noteBank j.bank r
      if j.op = 2 || r.1 ≠ 1 then .next (s1.imgEnd r.1)
      else if seq0.any (fun q => r.2.1 ≤ q) then .next (s1.imgEnd 8)
      else .next (s1.modStore (fun x => { x with job := some { j with loading := true } }))
    else .next s
  | none => .next s

/-- SHADOW_LOAD_DONE (10 R402 step 2): the second set of shadow tables is loaded; the swap waits for its slice boundary. -/
def execShadowLoadDone (s : State) : Host.Outcome State Fault Refusal :=
  match s.store.job with
  | some j =>
    if j.op = 3 && j.loading then
      let t := s.readTabs j.bank
      let s1 := (t.2.pb F.imgStat_BUSY 0 false).pb F.imgStat_SWAPPEND 0 true
      .next (s1.modStore (fun x => { x with job := none, next := t.1, target := j.bank }))
    else .next s
  | none => .next s

/-- A pending swap completes at a slice boundary (10 R402 step 3); it is held while hearth mode is on (01 R26). -/
def State.swapBoundary (s : State) : State :=
  if !s.b F.imgStat_SWAPPEND || s.hearthOn then s
  else
    let t := s.store.next
    let s1 := (s.p F.imgStat_ACTIVE 0 s.store.target).pb F.imgStat_SWAPPEND 0 false
    let s2 := s1.modStore (fun x => { x with active := some x.target, tabs := t })
    let s3 := each (tabRegs t) (fun p s => { s with regs := kvSet s.regs p.1 (BitVec.ofNat 32 p.2) }) s2
    ({ s3 with tlm := { s3.tlm with coef := tabCoef t } }.p F.imgStat_RESULT 0 1).flagIrq F.imgStat_DONE 0 91

end Sys2Proof.Machine
end

