-- ==== Sys2Proof/Machine/Engine.lean ====
section
/-!
DEFINITION. Pattern engines and dispatcher (11): the credit arbiter (09 R342), grants of an engine, the instruction cache,
exceptions, the end of a recipe, dispatches and context commands; the meanings of ICACHE_FILL, QUANTUM_END, DISPATCH_ISSUE,
RECIPE_START and TIME_MATCH.
-/

namespace Sys2Proof.Machine

/-! ### The credit arbiter (09 R342 step 1) -/

/-- The domain that an arbiter grants among the ready ones, and the arbiter after the grant. -/
def Arb.pick (a : Arb) (ready : List Nat) (weight : Nat → Nat) : Option Nat × Arb :=
  let cr (d : Nat) : Int := if ready.contains d then kvD a.credit d 0 + weight d else 0
  let order := [a.lastDom + 1, a.lastDom + 2, a.lastDom + 3, a.lastDom + 4].map (· % 4)
  let best := order.foldl (fun b d =>
    if !ready.contains d then b
    else match b with
      | none => some d
      | some x => if cr x < cr d then some d else some x) (none : Option Nat)
  let sum : Int := ((ready.map weight).sum : Nat)
  match best with
  | some g => (some g, { a with
      credit := (upto 4).map (fun d => (d, if d = g then cr d - sum else cr d)), lastDom := g })
  | none => (none, { a with credit := [] })

/-! ### Engines and contexts (11 R419) -/

/-- Engine and domain of a context, its agent code, and the context of an engine and domain. -/
def ctxEng (c : Fin 16) : Fin 4 := Fin.ofNat 4 (c.val / 4)
def ctxDom (c : Fin 16) : Nat := c.val % 4
def ctxOf (e d : Nat) : Fin 16 := Fin.ofNat 16 (4 * e + d)

/-- Engine `e`, and the state with it changed. -/
def State.en (s : State) (e : Fin 4) : Eng := vget s.eng e
def State.modEn (s : State) (e : Fin 4) (f : Eng → Eng) : State := { s with eng := vset s.eng e (f (s.en e)) }

/-- Engine `e` is halted through U2D (20 R755). -/
def State.halted (s : State) (e : Fin 4) : Bool := bitN (s.g F.u2dHalt_HALT) e

/-- The context that engine `e` is granted to (PEn_STAT.CUR). -/
def State.cur (s : State) (e : Fin 4) : Option (Fin 16) :=
  let a := s.g F.peStat_CUR e
  if 1 ≤ a && a ≤ 16 then some (Fin.ofNat 16 (a - 1)) else none

/-- Cycles granted to a context since its last release or start (11 R456). -/
def State.workOf (s : State) (c : Fin 16) : Nat :=
  (s.cx c).work + (if s.cur (ctxEng c) = some c then s.tick - (s.cx c).grant else 0)

/-- The grant of engine `e` ends; its cycles are charged. -/
def State.ungrant (s : State) (e : Fin 4) : State :=
  match s.cur e with
  | some c => (s.modCx c (fun x => { x with work := s.workOf c })).p F.peStat_CUR e 0
  | none => s

/-- Domains with a RUNNABLE context on engine `e`. -/
def State.runnable (s : State) (e : Fin 4) : List Nat := (upto 4).filter (fun d => (s.cx (ctxOf e d)).st == .runnable)

/-- Engine `e` picks a context among its RUNNABLE ones (11 R428). -/
def State.grant (s : State) (e : Fin 4) : State :=
  let r := (s.en e).arb.pick (s.runnable e) (fun d => s.g F.domQos_ENGSHARE d)
  let s1 := s.modEn e (fun x => { x with arb := r.2, due := false })
  match r.1 with
  | some d => (s1.modCx (ctxOf e d) (fun x => { x with grant := s.tick })).p F.peStat_CUR e (4 * e.val + d + 1)
  | none => s1

/-- An engine granted to none grants itself where a context is RUNNABLE; one whose context left that set switches at once
(11 R429), one whose quantum ended in an instruction that stalled switches behind it (11 R428). -/
def State.engReady (s : State) (e : Fin 4) : State :=
  match s.cur e with
  | some c => if (s.cx c).st == .runnable && !((s.en e).due && (s.cx c).stall.isNone) then s else (s.ungrant e).grant e
  | none => if (s.runnable e).isEmpty then s else s.grant e

/-- Every engine. -/
def State.engsReady (s : State) : State := each engs (fun e s => s.engReady e) s

/-- QUANTUM_END (11 R428): a pooled engine picks its next context, at once or when the instruction that stalls has completed. -/
def execQuantumEnd (e : Fin 4) (s : State) : Host.Outcome State Fault Refusal :=
  .next (if s.peMask e = 0 || s.halted e then s
    else if (s.cur e).any (fun c => (s.cx c).stall.isSome) then s.modEn e (fun x => { x with due := true })
    else (s.ungrant e).grant e)

/-! ### Starts and ends of recipes (11 R420, R421, R427) -/

/-- The head of the queue of an IDLE context starts 3 ticks later (11 R444), where its domain still has the engine (05 R163). -/
def State.startNext (s : State) (c : Fin 16) : State :=
  let x := s.cx c
  if x.st == .idle && x.next.isNone && s.hasCtx (ctxEng c) (ctxDom c) then
    match x.queue with
    | f :: t => s.modCx c (fun x => { x with next := some f, queue := t })
    | [] => s
  else s

/-- The grant of its engine ends where it is context `c`'s. -/
def State.ungrantOf (s : State) (c : Fin 16) : State :=
  if s.cur (ctxEng c) = some c then s.ungrant (ctxEng c) else s

/-- The recipe of context `c` ends: its wait ends without a status, and the context is IDLE or HELD. `drop` discards its partial
pushes and frees its LOCK semaphores. -/
def State.endCtx (s : State) (c : Fin 16) (drop held : Bool) : State :=
  let e := ctxEng c
  let s1 := (s.ungrantOf c).dropWait (c.val + 1)
  let s2 := s1.modCx c (fun x => { x with
    st := if held then .held else .idle, sb := false, ev := none, stall := none, slot := false, endslice := false })
  let s3 := if drop then
      (s2.dropParts (fun k => k / 128 == 2 + e.val && k / 32 % 4 == ctxDom c)).semFreeAll (c.val + 1)
    else s2
  (s3.startNext c).engReady e

/-- A recipe runs in the context. -/
def Ctx.busy (x : Ctx) : Bool := x.st == .runnable || x.st == .waiting || x.st == .suspended

/-- Take an exception (11 R425, R427, R452): the capture, IRQ(24 + n), the end of the recipe. -/
def State.exception (s : State) (c : Fin 16) (code addr : Nat) : State :=
  let e := ctxEng c
  let s1 :=
    if s.b F.peExc_VALID e then s.pb F.peExc_OVF e true
    else ((s.wr .peExc e (BitVec.ofNat 32 (code + (c.val + 1) * 2 ^ 4 + 2 ^ 31))).wr .peExcpc e
      (BitVec.ofNat 32 (s.cx c).pc)).wr .peExcaddr e (BitVec.ofNat 32 (if 3 ≤ code && code ≤ 6 then addr % 2 ^ 24 else 0))
  (s1.pendIrq (24 + e.val)).endCtx c true (s.b F.peCtl_EXCSTOP e)

/-! ### Dispatches (11 R443, R444) -/

/-- Insert a firing into a queue by priority, behind equal ones. -/
def insFired (f : Fired) : List Fired → List Fired
  | [] => [f]
  | x :: t => if x.pri < f.pri then f :: x :: t else x :: insFired f t

/-- The firing to issue: of the earliest tick, the highest priority, the lowest entry. -/
def bestFired (l : List Fired) : Option Fired :=
  match l with
  | [] => none
  | h :: _ => (l.filter (fun f => f.tick == h.tick)).foldl (fun b f =>
      match b with
      | none => some f
      | some x => if x.pri < f.pri || (x.pri == f.pri && f.entry < x.entry) then some f else some x) none

/-- A dispatch counts in DROP of its domain. -/
def State.dropDispatch (s : State) (d : Nat) : State := s.incSat F.dispStat_DROP d

/-- Issue a dispatch to its context (11 R443, R444, R447; 20 R755). -/
def State.dispatch (s : State) (f : Fired) : State :=
  let e := s.g F.dispCfg_ENG f.entry
  let d := s.g F.dispCfg_DOM f.entry
  let c := ctxOf e d
  let x := s.cx c
  let tr (s : State) (ty : Nat) : State := s.trace ty f.entry f.evt (c.val + 1)
  if !s.hasCtx e d then s.badEvt d
  else if bitN (s.g F.domStat_RSTBUSY) d then tr (s.dropDispatch d) 4
  else if x.st == .idle && x.next.isNone && !s.halted (ctxEng c) then
    tr (s.modCx c (fun x => { x with next := some f })) 1
  else if (x.busy && x.entry == f.entry) || x.next.any (fun g => g.entry == f.entry)
      || x.queue.any (fun g => g.entry == f.entry) then
    tr (s.incSat F.dispStat_COAL d) 3
  else if x.queue.length < 4 then tr (s.modCx c (fun x => { x with queue := insFired f x.queue })) 2
  else tr (s.dropDispatch d) 4

/-- DISPATCH_ISSUE (11 R443): the dispatcher issues one dispatch. -/
def execDispatchIssue (s : State) : Host.Outcome State Fault Refusal :=
  match bestFired s.disp.fired with
  | some f =>
    if s.clk.fsys then .next (({ s with disp := { s.disp with fired := s.disp.fired.erase f } }).dispatch f) else .next s
  | none => .next s

/-- RECIPE_START (11 R420; 12 R462): the dispatch of an IDLE context of a domain that has the engine starts its recipe. -/
def execRecipeStart (c : Fin 16) (s : State) : Host.Outcome State Fault Refusal :=
  match (s.cx c).next with
  | some f =>
    if (s.cx c).st == .idle && !s.halted (ctxEng c) && s.hasCtx (ctxEng c) (ctxDom c) && s.clk.fsys then
      let v := ((Vector.replicate 16 (0 : Word)).set 0 (BitVec.ofNat 32 (s.g F.dispStart_ARG f.entry))).set 1
        (BitVec.ofNat 32 f.evt)
      let s1 := s.modCx c (fun x => { x with
        v := v.set 2 f.data, pc := s.g F.dispStart_START f.entry, z := false, n := false, c := false, o := false
        wst := 0, thi := 0, st := .runnable, sb := s.b F.dispCfg_MODE f.entry, entry := f.entry, next := none, work := 0
        endslice := false, ev := none, stall := none, slot := false })
      .next (s1.engReady (ctxEng c))
    else .next s
  | none => .next s

/-- A software trigger by domain `d` (`none`: U2D) with mask `w` (11 R441): bits that it may not set are recorded as a
non-owner write. -/
def State.swTrigger (s : State) (d : Option Nat) (port addr w : Nat) : State :=
  let may (i : Nat) : Bool := d.all (fun x => x == s.ownPe (s.g F.dispCfg_ENG i) || x == s.g F.dispCfg_DOM i)
  let bad := (upto 32).any (fun i => bitN w i && !may i)
  let s1 := if bad then s.violate (d.getD 0) port addr 1 else s
  each (upto 32) (fun i s =>
    if !bitN w i || !may i then s
    else if s.g F.dispCfg_EVT i = 3 then s.fireEntry i 3 none 0
    else s.badEvt (d.getD 0)) s1

/-- TIME_MATCH (11 R442): device time is at or after the armed value of domain `x`. -/
def execTimeMatch (x : Dom) (s : State) : Host.Outcome State Fault Refusal :=
  match kvGet s.disp.armed x with
  | some t =>
    if s.clk.fsys && t ≤ s.time then
      let s1 := { s with disp := { s.disp with armed := kvDel s.disp.armed x } }.pb F.dispStat_TMFIRED x true
      .next (each (upto 32) (fun i s =>
        if s.g F.dispCfg_DOM i = x.val then s.fireEntry i 4 (some x) (BitVec.ofNat 32 t) else s) s1)
    else .next s
  | none => .next s

/-! ### Context commands (11 R445) -/

/-- The dispatch queue of a context is emptied; each entry counts in DROP. -/
def State.flushQueue (s : State) (c : Fin 16) : State :=
  let s1 := each (s.cx c).queue (fun _ s => s.dropDispatch (ctxDom c)) s
  s1.modCx c (fun x => { x with queue := [] })

/-- The same with the dispatch that was to start next. -/
def State.flushAll (s : State) (c : Fin 16) : State :=
  let s1 := if (s.cx c).next.isSome then s.dropDispatch (ctxDom c) else s
  (s1.flushQueue c).modCx c (fun x => { x with next := none })

/-- A command of PEn_CMD on context `c`. -/
def State.ctxCommand (s : State) (c : Fin 16) (cmd : Nat) : State :=
  match cmd with
  | 1 => if (s.cx c).busy then s.endCtx c true false else s
  | 2 => if (s.cx c).busy then s.modCx c (fun x => { x with endslice := true }) else s
  | 3 => if (s.cx c).st == .held then (s.modCx c (fun x => { x with st := .idle })).startNext c else s
  | 4 => s.flushQueue c
  | _ => s

/-! ### Instruction cache (11 R422-R424) -/

/-- The line of a program counter, its set, and whether engine `e` holds it. -/
def pcLine (pc : Nat) : Nat := pc / 32
def State.cached (s : State) (e : Fin 4) (pc : Nat) : Option Line8 :=
  (kvD (s.en e).cache (pcLine pc % 128) []).find? (·.line == pcLine pc)

/-- A line becomes the most recent of its set; two lines stay. -/
def State.touchLine (s : State) (e : Fin 4) (x : Line8) : State :=
  s.modEn e (fun n => { n with
    cache := kvSet n.cache (x.line % 128) ((x :: (kvD n.cache (x.line % 128) []).filter (·.line != x.line)).take 2) })

/-- The eight words of a line, read through the code of 10 R374. -/
def State.readLine (s : State) (e : Fin 4) (line : Nat) : List (Option Nat) × State :=
  (upto 8).foldl (fun p i =>
    let r := p.2.readMem (2 + e.val) (0x800000 + 32 * line + 4 * i)
    (p.1 ++ [if r.2.1 then none else some r.1], r.2.2)) ([], s)

/-- A line arrives from recipe memory. -/
def State.fillLine (s : State) (e : Fin 4) (line : Nat) : State :=
  let r := s.readLine e line
  (r.2.modEn e (fun x => { x with fill := none })).touchLine e ⟨line, r.1⟩

/-- The line that engine `e` fetches from now, where it holds it. -/
def State.hitLine (s : State) (e : Fin 4) : Option Nat :=
  match s.cur e with
  | some c => (s.cached e (s.cx c).pc).map (·.line)
  | none => none

/-- ICACHE_FILL (11 R422, R424): the line that the engine waits for arrives; or, with `parity`, the line that it holds and fetches from
shows a parity error, is invalidated and filled again. After a parity error CERR is set. -/
def execIcacheFill (e : Fin 4) (parity : Bool) (s : State) : Host.Outcome State Fault Refusal :=
  if !s.clk.fsys then .next s
  else
    let f := fun (line : Nat) => if parity then (s.fillLine e line).pb F.peStat_CERR e true else s.fillLine e line
    .next (match (s.en e).fill, s.hitLine e with
      | some line, _ => f line
      | none, some line => if parity then f line else s
      | none, none => s)

/-- PEn_CTL.INVAL: the whole cache is invalid (11 R423). -/
def State.invalCache (s : State) (e : Fin 4) : State := s.modEn e (fun x => { x with cache := [] })

end Sys2Proof.Machine
end

