-- ==== Sys2Proof/Machine/Pixel.lean ====
section
/-!
DEFINITION. The bypass stacks (15 R570-R578): pixel PWM, the edge budget, open and short LEDs; the meanings of the commands
PIXEL_COUNTER_WRAP to PIXEL_EVENT.
-/

namespace Sys2Proof.Machine

/-- The pixel period of a frequency, round(160 000 000 / FREQ) (15 R572). -/
def pper (freq : Nat) : Nat := if freq = 0 then 0 else (2 * 160000000 + freq) / (2 * freq)

/-- The compare of a duty (15 R572). -/
def cmpOf (d per : Nat) : Nat := d * per / 16383

/-- The start of a phase (15 R572). -/
def startOf (ph per : Nat) : Nat := ph * per / 256

/-- Entry `k` of a list, 0 where there is none. -/
def nthD (l : List Nat) (k : Nat) : Nat := l.getD k 0

/-- A pixel whose switch stays closed while the stack is driven: declared unused or auto-bypassed (15 R570). -/
def State.shut (s : State) (i : Fin 6) (k : Nat) : Bool :=
  bitN (s.g F.bypUnused_MASK i) k || bitN (s.g F.bypAutobyp_MASK i) k

/-- Phase of pixel `k` of stack `i` (15 R596). -/
def State.phaseOf (s : State) (i : Fin 6) (k : Nat) : Nat :=
  bitsN (s.rd .bypPhase (4 * i.val + k / 4)).toNat (8 * (k % 4)) 8

/-- Order of requested edges: time, closings before openings, ascending pixel (15 R574). -/
def Edge.before (a b : Edge) : Bool :=
  a.t < b.t || (a.t == b.t && ((!a.opening && b.opening) || (a.opening == b.opening && a.k < b.k)))

/-- The first edge of a list in that order, and the others. -/
def pickEdge : List Edge → Option (Edge × List Edge)
  | [] => none
  | e :: t =>
    match pickEdge t with
    | none => some (e, [])
    | some (m, rest) => if m.before e then some (m, e :: rest) else some (e, m :: rest)

/-- What the placement of edges carries along (15 R574). -/
structure Placing where
  edges : List Edge
  p1 : Option Nat
  p2 : Option Nat
  carry : List (Nat × Nat)
  late : List Edge
  deferred : Nat
  maxDef : Nat
  deriving DecidableEq, Repr

/-- Defer the closing of pixel `k` by its opening's carry. -/
def deferClose (k c : Nat) (l : List Edge) : List Edge :=
  l.map (fun e => if e.k = k && !e.opening then { e with t := e.t + c } else e)

/-- Place one edge (15 R574). An opening that meets a pending closing of its pixel at or after it cancels with it. -/
def Placing.place (p : Placing) (e : Edge) : Placing × Nat :=
  if e.opening && p.edges.any (fun x => x.k = e.k && !x.opening && e.t ≤ x.t) then
    ({ p with edges := p.edges.filter (fun x => !(x.k = e.k && !x.opening)) }, 0)
  else
    let t1 := max e.t (p.p1.getD 0)
    let t := match p.p2 with
      | some q => max t1 (q + 640)
      | none => t1
    let c := t - e.t
    ({ p with
        edges := p.edges ++ [{ e with t := t }], p1 := some t, p2 := p.p1
        carry := if e.opening then kvSet p.carry e.k c else p.carry
        late := if e.opening then deferClose e.k c p.late else p.late
        deferred := p.deferred + (if c = 0 then 0 else 1), maxDef := max p.maxDef c },
     if e.opening then c else 0)

/-- Place requested edges in their order; the carry of an opening moves its own closing. -/
def placeAll : Nat → List Edge → Placing → Placing
  | 0, _, p => p
  | n + 1, req, p =>
    match pickEdge req with
    | none => p
    | some (e, rest) =>
      let r := p.place e
      placeAll n (if e.opening then deferClose e.k r.2 rest else rest) r.1

/-- Closings of intervals that ran across the wrap, and openings that they reach: both cancel, and the pixel stays lit (15 R574). -/
def cancelLate (late req : List Edge) : List Edge × List Edge :=
  let hit (x o : Edge) : Bool := o.opening && o.k == x.k && o.t ≤ x.t
  (late.filter (fun x => !req.any (hit x)), req.filter (fun o => !late.any (fun x => hit x o)))

/-- Requested edges of pixel `k` from a counter start at tick `t0` (15 R572, R573): those of this period, and the closing of
an interval that runs across the next wrap. `fresh`: the intervals before the start ended there. -/
def pixelReq (shut opened fresh pendClose : Bool) (k d per ph t0 : Nat) : List Edge × List Edge :=
  let c := cmpOf d per
  let f := startOf ph per
  if shut || c = 0 then (if opened && (fresh || !pendClose) then [⟨t0, k, false⟩] else [], [])
  else if per ≤ c then (if opened then [] else [⟨t0, k, true⟩], [])
  else
    let lead : List Edge :=
      if fresh && per < f + c then (if opened then [] else [⟨t0, k, true⟩]) ++ [⟨t0 + (f + c - per), k, false⟩]
      else if opened && !pendClose && f ≠ 0 then [⟨t0, k, false⟩]
      else []
    let opens : List Edge := if opened && !pendClose && f = 0 then [] else [⟨t0 + f, k, true⟩]
    if f + c < per then (lead ++ opens ++ [⟨t0 + f + c, k, false⟩], []) else (lead ++ opens, [⟨t0 + f + c, k, false⟩])

/-- A counter start of stack `i`: a wrap, or a restart at the latch point with PSYNC = 1 (15 R573, R574). A restart drops the edges not
reached yet; the budget counts from those reached. -/
def State.stackPeriod (s : State) (i : Fin 6) (restart : Bool) : State :=
  let b0 := s.by i
  let fresh := restart || b0.useD.isEmpty
  let b := if b0.wait then { b0 with wait := false, useD := b0.latD, per := b0.latPer, usePh := b0.latPh } else b0
  let old := if fresh then [] else b.edges
  let late := if fresh then [] else b.late
  let reqs := (upto 16).map (fun k =>
    let pend := !fresh && (late.any (·.k = k) || old.any (fun e => e.k = k && !e.opening))
    pixelReq (s.shut i k) (bitN b.sw k) fresh pend k (nthD b.useD k) b.per (nthD b.usePh k) s.tick)
  let full (k : Nat) : Bool := !s.shut i k && b.per ≤ cmpOf (nthD b.useD k) b.per
  let r := cancelLate (late.filter (fun e => !full e.k)) (reqs.flatMap (·.1))
  let all := r.1 ++ r.2
  let p := placeAll all.length all
    { edges := old.filter (fun e => e.opening || !full e.k), p1 := if fresh then b.x1 else b.p1
      p2 := if fresh then b.x2 else b.p2, carry := [], late := reqs.flatMap (·.2), deferred := 0, maxDef := 0 }
  let s1 := s.modBy i (fun _ => { b with c0 := s.tick, edges := p.edges, p1 := p.p1, p2 := p.p2, carry := p.carry, late := p.late })
  if p.deferred = 0 then s1
  else ((s1.pb F.bypStat_DEFER i true).p F.bypEb_DEFCNT i (satN 65535 (s1.g F.bypEb_DEFCNT i + p.deferred))).p
    F.bypEb_MAXDEF i (satN 65535 (max (s1.g F.bypEb_MAXDEF i) p.maxDef))

/-- PIXEL_COUNTER_WRAP (15 R572-R574): the counter of stack `i` wraps; values latched since apply, and the period's edges are
scheduled. -/
def execPixelCounterWrap (i : Fin 6) (s : State) : Host.Outcome State Fault Refusal :=
  .next (if s.clk.fsys && s.b F.bypStat_DRIVEN i then (s.stackPeriod i false).tlmPeriod i else s)

/-- New values reach stack `i` at a latch point (15 R568, R573): they wait for the first wrap, or apply with a restart of the
counter when PSYNC = 1. -/
def State.stackLatch (s : State) (i : Fin 6) : State :=
  let s1 := s.modBy i (fun b => { b with
    wait := true, latD := (upto 16).map (fun k => kvD s.px.d (16 * i.val + k) 0)
    latPer := pper (s.g F.bypCfg_FREQ i), latPh := (upto 16).map (fun k => s.phaseOf i k) })
  if s1.b F.bypCfg_PSYNC i && s1.b F.bypStat_DRIVEN i then s1.stackPeriod i true else s1

/-- BYPASS_EDGE (15 R574, R575): the next placed edge of stack `i` is reached; its switch opens or closes, and the new lit
count goes to the loop unit. -/
def execBypassEdge (i : Fin 6) (s : State) : Host.Outcome State Fault Refusal :=
  match (s.by i).edges with
  | [] => .next s
  | e :: rest =>
    let b := s.by i
    if !s.b F.bypStat_DRIVEN i || !s.clk.fsys then .next s
    else
      let s1 := s.modBy i (fun b => { b with edges := rest, x1 := some e.t, x2 := b.x1 })
      .next (s1.countOn.setSw i (putN b.sw e.k 1 (if e.opening && !s1.shut i e.k then 1 else 0)))

/-- Detection runs for pixel `k` (15 R578), in fSYS. -/
def State.detects (s : State) (i : Fin 6) (k : Nat) : Bool :=
  s.clk.fsys && s.b F.strStat_ACTIVE i && s.b F.bypStat_DRIVEN i && !s.shut i k && bitN (s.by i).sw k

/-- PIXEL_OPEN_DETECT (15 R576): an open switch stays above VOPEN for 2 us. -/
def execPixelOpenDetect (i : Fin 6) (k : Fin 16) (s : State) : Host.Outcome State Fault Refusal :=
  if !s.detects i k then .next s
  else
    let s1 := if s.b F.bypDet_AUTOEN i then
        let s2 := s.setBits .bypAutobyp i (2 ^ k.val)
        let s3 := s2.modBy i (fun b => { b with
          edges := b.edges.filter (·.k ≠ k.val), late := b.late.filter (·.k ≠ k.val), low := kvDel b.low k })
        s3.countOn.setSw i (putN (s3.by i).sw k 1 0)
      else s
    .next ((s1.flagIrq F.bypStat_OPEN i (12 + i)).raise (62 + i.val))

/-- PIXEL_SHORT_SAMPLE (15 R577): 8 us after an opening edge the switch voltage is compared with VSHORT; four lows in a row
report a shorted LED. -/
def execPixelShortSample (i : Fin 6) (k : Fin 16) (low : Bool) (s : State) : Host.Outcome State Fault Refusal :=
  let b := s.by i
  if !s.detects i k || !s.b F.bypDet_SHORTEN i || bitN (s.g F.bypShortpx_MASK i) k
      || cmpOf (nthD b.useD k) b.per < 1600 then .next s
  else if !low then .next (s.modBy i (fun b => { b with low := kvDel b.low k }))
  else if kvD b.low k 0 + 1 < 4 then .next (s.modBy i (fun b => { b with low := kvSet b.low k (kvD b.low k 0 + 1) }))
  else
    let s1 := (s.modBy i (fun b => { b with low := kvDel b.low k })).setBits .bypShortpx i (2 ^ k.val)
    .next ((s1.flagIrq F.bypStat_SHORT i (12 + i)).raise (68 + i.val))

/-- PIXEL_EVENT (17 R657; 16 R611): 8 us after the placed opening of the pixel that telemetry selects, whose lit interval lasts
at least 10 us, trigger 8 + s occurs, unless another edge of the stack was placed within the last 4 us. -/
def execPixelEvent (i : Fin 6) (s : State) : Host.Outcome State Fault Refusal :=
  match kvGet s.tlm.sel i with
  | none => .next s
  | some p =>
    let b := s.by i
    if s.detects i (p % 16) && 1600 ≤ cmpOf (nthD b.useD (p % 16)) b.per && b.x1.all (fun t => t + 640 < s.tick) then
      .next ((s.adcTrigger (8 + i) p).tlmEvent i)
    else .next s

end Sys2Proof.Machine
end

