-- ==== Sys2Proof/Machine/Grid.lean ====
section
/-!
DEFINITION. The scan grid (15 R579-R590): frames, slots and phases, frame synchronisation, row, column and pixel faults; the
meanings of the commands SCAN_FRAME_START to FSYNC_OUTPUT_PULSE_END.
-/

namespace Sys2Proof.Machine

/-- Change the grid's state. -/
def State.modGrid (s : State) (f : Grid → Grid) : State := { s with grid := f s.grid }

/-- The nominal frame length of a rate (15 R579). -/
def tfOf (fr : Nat) : Nat := 160000000 / fr

/-- TF of the active rate. -/
def State.tf (s : State) : Nat := tfOf (s.g F.gridFrate_FR)

/-- Ticks of the phases other than drive (15 R580). -/
def State.phaseTicks (s : State) : Nat := 16 * (s.g F.gridPhase_TDIS + s.g F.gridPhase_TPRE + s.g F.gridPhase_TBLK)

/-- The check of a bake of GRID_PHASE and GRID_FRATE (15 R583). -/
def State.phaseOk (s : State) : Bool := s.phaseTicks + 160 ≤ 7 * s.tf / 128

/-- A staged copy of GRID_PHASE or GRID_FRATE. -/
def isRate (e : Staged) : Bool := e.cls == 2 && (e.addr == 0xD004 || e.addr == 0xD008)

/-- The F point: staged values of class F bake; those of GRID_PHASE and GRID_FRATE only when they pass the check (15 R583). -/
def State.bakeF (s : State) : State :=
  let s1 := s.bake (fun e => e.cls == 2 && !isRate e)
  if s1.staged.any isRate then
    let s2 := s1.bake isRate
    if s2.phaseOk then s2
    else { s1 with staged := s1.staged.filter (fun e => !(isRate e && !s1.heldBake e)) }.pb F.gridStat_CFGERR 0 true
  else s1

/-- The source of frame timing in force: free-run while lock is lost, or while FSYNC is an output (15 R587, R588). -/
def State.gridSrc (s : State) : Nat :=
  let src := s.g F.gridCtl_SRC
  if src = 1 && (s.b F.gridStat_LOL || s.b F.padCfg_FSYNCOUT) then 0 else src

/-- Device time of frame `m` with SRC 2 (15 R584). -/
def frameTime (fr m : Nat) : Nat := m * 160000000 / fr

/-- Length of the frame that starts now (15 R584): free-running from T0, on F_m within TF / 8, or TF. -/
def State.frameLen (s : State) : Nat :=
  let fr := s.g F.gridFrate_FR
  let tf := s.tf
  match s.gridSrc with
  | 0 => if s.grid.fr = fr then s.grid.t0 + (s.grid.m + 1) * 160000000 / fr - s.tick else tf
  | 2 =>
    let m := ((s.time + tf / 2) * fr + 160000000 - 1) / 160000000
    let want := frameTime fr m - s.time
    min (max want (tf - tf / 8)) (tf + tf / 8)
  | _ => tf

/-- Codes of the columns for the frame that starts: hearth values, the values of a domain ramp, or the active ones (15 R581,
18 R699, R702). -/
def State.colCode (s : State) (c : Nat) : Nat :=
  let own := min (bitsN (s.rd .gridColi (c / 4)).toNat (8 * (c % 4)) 8) (s.g F.gridImax_COLMAX)
  if s.hearthOn then kvD s.hearth.shown (486 + c) 0 else s.domRamp s.ownGrid (486 + c) own

/-- Slot boundary `j` of the present frame (15 R579). -/
def State.slotAt (s : State) (j : Nat) : Nat := s.grid.start + j * (s.grid.stop - s.grid.start) / 16

/-- Drive length of the present slot in ticks (15 R580, R581). -/
def State.tdrv (s : State) : Nat :=
  let j := s.g F.gridStat_ROWN
  s.slotAt (j + 1) - s.slotAt j - s.phaseTicks

/-- Slot `j` begins with discharge (15 R580). -/
def State.slotBegin (s : State) (j : Nat) : State :=
  (s.p F.gridStat_ROWN 0 j).modGrid (fun g => { g with phase := 0, sinks := 0, rowOn := false, codes := [] })

/-! ### Detections at the end of a frame (15 R589) -/

/-- Samples of row `r`, and of column `c`, in this frame. -/
def rowSamples (l : List (Nat × Nat)) (r : Nat) : List Nat := (l.filter (fun p => p.1 / 24 == r)).map (·.2)
def colSamples (l : List (Nat × Nat)) (c : Nat) : List Nat := (l.filter (fun p => p.1 % 24 == c)).map (·.2)

/-- At least two samples, all of one kind. -/
def allOf (l : List Nat) (kind : Nat) : Bool := 2 ≤ l.length && l.all (· == kind)

/-- Count frames in a row. -/
def countRow (l : List (Nat × Nat)) (k : Nat) (hit : Bool) : List (Nat × Nat) :=
  if hit then kvSet l k (kvD l k 0 + 1) else kvDel l k

/-- Row detections of the frame that ends: rows found open now. -/
def State.endRows (s : State) : List Nat × State :=
  let low := (upto 16).foldl (fun l r => countRow l r (allOf (rowSamples s.grid.samples r) 1)) s.grid.rowLow
  let hit := (upto 16).filter (fun r => kvD low r 0 == 4)
  let s1 := s.modGrid (fun g => { g with rowLow := low.filter (fun p => p.2 < 4) })
  (hit, each hit (fun _ s => (s.flagIrq F.gridStat_ROWF 0 20).raise 74) s1)

/-- Column detections of the frame that ends: columns taken out now. -/
def State.endCols (s : State) : List Nat × State :=
  let low := (upto 24).foldl (fun l c => countRow l c (allOf (colSamples s.grid.samples c) 1)) s.grid.colLow
  let high := (upto 24).foldl (fun l c => countRow l c (allOf (colSamples s.grid.samples c) 2)) s.grid.colHigh
  let hit := (upto 24).filter (fun c => kvD low c 0 == 4 || kvD high c 0 == 4)
  let s1 := s.modGrid (fun g => { g with colLow := low.filter (fun p => p.2 < 4), colHigh := high.filter (fun p => p.2 < 4) })
  (hit, each hit (fun c s => ((s.setBits .gridColoff 0 (2 ^ c)).flagIrq F.gridStat_COLF 0 20).raise 75) s1)

/-- A pixel detection: `open_` for low, otherwise short (15 R589, R608). -/
def State.pixelFault (s : State) (p : Nat) (short : Bool) : State :=
  let s1 := s.flagIrq (if short then F.gridStat_PXSHORT else F.gridStat_PXOPEN) 0 20
  let s2 := if s1.b F.gridPxcap_VALID then s1.pb F.gridPxcap_OVF 0 true
    else s1.wr .gridPxcap 0 (BitVec.ofNat 32 (p / 24 + p % 24 * 16 + (if short then 512 else 0) + 2 ^ 31))
  (s2.incSat F.gridEvcnt_PXFLT).raise 77

/-- One sample of the frame that ends, counted for its pixel. -/
def State.endCell (s : State) (rows cols : List Nat) (p kind : Nat) : State :=
  let old := kvD s.grid.cells p 0
  let n := if old / 8 = kind then old % 8 + 1 else 1
  if kind = 0 then s.modGrid (fun g => { g with cells := kvDel g.cells p })
  else if n < 4 then s.modGrid (fun g => { g with cells := kvSet g.cells p (8 * kind + n) })
  else
    let s1 := s.modGrid (fun g => { g with cells := kvDel g.cells p })
    let covered := cols.contains (p % 24) || (kind == 1 && rows.contains (p / 24))
    if covered then s1 else s1.pixelFault p (kind == 2)

/-- The detections of the frame that ends. -/
def State.endFrame (s : State) : State :=
  let r := s.endRows
  let c := r.2.endCols
  let s1 := each s.grid.samples (fun p s => s.endCell r.1 c.1 p.1 p.2) c.2
  s1.modGrid (fun g => { g with samples := [], late := g.late.filter (fun p => bitN g.overNow p.1), overNow := 0 })

/-! ### Frames -/

/-- The detections of the frame that ends, and the F point (15 R583, R589). -/
def State.framePoint (s : State) : State := (s.countOn.endFrame).bakeF

/-- A frame starts now, ending at `stop` where that is given: latched duties and F-class values apply, FRAME is set, and the
frame event goes to the dispatcher (15 R579, R583, R588). A grid that a fault of the frame before has contained stays off (18
R688). -/
def State.frameBegin (s : State) (stop : Option Nat) (first : Bool) : State :=
  let s0 := s.framePoint
  if !s0.gridActive then s0
  else
    let s1 := s0.modGrid (fun g => { g with use := g.lat.getD g.use, lat := none })
    let s2 := if s1.g F.gridCtl_SRC ≠ 1 then (s1.pb F.gridStat_LOCK 0 false).pb F.gridStat_LOL 0 false
      else if s1.b F.padCfg_FSYNCOUT then s1.pb F.gridStat_CFGERR 0 true else s1
    let fr := s2.g F.gridFrate_FR
    let on := decide (s2.gridSrc = 0)
    let s3 := (if first then s2.p F.gridFcnt_COUNT 0 0 else s2.incMod F.gridFcnt_COUNT).modGrid (fun g =>
      if !first && on && g.free && g.fr = fr then { g with m := g.m + 1 }
      else { g with t0 := s2.tick, m := 0, fr := fr, free := on })
    let s4 := s3.modGrid (fun g => { g with
      rowOut := s3.g F.gridRowoff_ROW, colOut := s3.g F.gridColoff_COL, starting := false, start := s3.tick, stop := stop.getD (s3.tick + s3.frameLen), resync := none, next := none
      cols := (upto 24).map s3.colCode })
    let s5 := ((s4.pb F.gridStat_RUN 0 true).flagIrq F.gridStat_FRAME 0 18).fireEvent 2 (some s4.ownGrid) (s4.rd .gridFcnt)
    let s6 := if s5.b F.padCfg_FSYNCOUT && s5.g F.gridCtl_SRC ≠ 1 then { s5 with pins := { s5.pins with fsyncOut := true } } else s5
    (s6.slotBegin 0).tlmFrame

/-- EN is active after a slice boundary: the grid starts at once free-running, or waits (15 R584); with FSYNC as its output and its
source it runs free (15 R588). -/
def State.gridEnable (s : State) : State :=
  if !s.gridActive || s.b F.gridStat_RUN || (s.grid.starting && s.gridSrc ≠ 0) || s.frozen 8 then s
  else
    let s1 := (s.pb F.gridStat_LOCK 0 false).pb F.gridStat_LOL 0 false
    if s1.gridSrc = 0 then s1.frameBegin none true else s1.modGrid (fun g => { g with starting := true })

/-- SCAN_FRAME_START (15 R579, R583, R584): a frame boundary of a running grid, or the first frame time of a grid that waits
for network time. -/
def execScanFrameStart (s : State) : Host.Outcome State Fault Refusal :=
  if !s.clk.fsys || s.frozen 8 || !s.gridActive then .next s
  else if s.b F.gridStat_RUN then .next (s.frameBegin s.grid.next false)
  else if s.grid.starting && s.g F.gridCtl_SRC = 2 then .next (s.frameBegin none true)
  else .next s

/-- SCAN_SLOT_START (15 R579, R580, R586): the next slot begins, or slot 0 of a new frame after a RESYNC slip. -/
def execScanSlotStart (s : State) : Host.Outcome State Fault Refusal :=
  if !s.clk.fsys || s.frozen 8 || !s.b F.gridStat_RUN then .next s
  else
    match s.grid.resync with
    | some e => .next (s.frameBegin (some e) false)
    | none =>
      let j := s.g F.gridStat_ROWN
      .next (if j < 15 then s.countOn.slotBegin (j + 1) else s)

/-- Rows and columns out of service (15 R589): those set now, and those that a clear returns from the next frame boundary. -/
def State.rowsOut (s : State) : Nat := s.g F.gridRowoff_ROW ||| s.grid.rowOut
def State.colsOut (s : State) : Nat := s.g F.gridColoff_COL ||| s.grid.colOut

/-- On-time of column `c` in the drive phase of the present slot, in ticks (15 R581). -/
def State.colOn (s : State) (c : Nat) : Nat :=
  let p := 96 + 24 * s.g F.gridStat_ROWN + c
  kvD s.grid.use p 0 / 4 * s.tdrv / 4095

/-- The drive phase starts: sinks and row on, with the row sum scaled to ROWMAX (15 R581, R582). -/
def State.driveSlot (s : State) : State :=
  let j := s.g F.gridStat_ROWN
  let rowmax := s.g F.gridImax_ROWMAX
  let lit := (upto 24).filter (fun c => !bitN s.colsOut c && s.colOn c != 0)
  let code (c : Nat) : Nat := min (nthD s.grid.cols c) (s.g F.gridImax_COLMAX)
  let sum := (lit.map code).sum
  let scaled := decide (10 * rowmax < sum)
  let codes := lit.map (fun c => (c, if scaled then code c * 10 * rowmax / sum else code c))
  if bitN s.rowsOut j then s.modGrid (fun g => { g with phase := 3 })
  else
    let s1 := if scaled then (s.pb F.gridStat_ROWSCALE 0 true).incSat F.gridEvcnt_ROWSCALE else s
    let on := !(s1.clk.release || s1.flt.thermal || !s1.b F.pwrStat_VCC5OK)
    s1.modGrid (fun g => { g with
      phase := 2, rowOn := on, codes := codes, sinks := if on then (codes.map (fun p => 2 ^ p.1)).sum else 0 })

/-- SCAN_PHASE_END (15 R580): discharge, precharge, drive, blank; a slot whose drive would be under 1 us goes from discharge to
blank. -/
def execScanPhaseEnd (s : State) : Host.Outcome State Fault Refusal :=
  if !s.clk.fsys || s.frozen 8 || !s.b F.gridStat_RUN then .next s
  else
    match s.grid.phase with
    | 0 => .next (s.modGrid (fun g => { g with phase := if s.tdrv < 160 then 3 else 1 }))
    | 1 => .next s.countOn.driveSlot
    | 2 => .next s.countOn.gridBlank
    | _ => .next s

/-- COLUMN_SINK_OFF (15 R581): the on-time of column `c` ends. -/
def execColumnSinkOff (c : Fin 24) (s : State) : Host.Outcome State Fault Refusal :=
  .next (if s.grid.phase = 2 && bitN s.grid.sinks c then
    s.countOn.modGrid (fun g => { g with sinks := putN g.sinks c 1 0 }) else s)

/-- HEADROOM_SAMPLE (15 R589; 17 R658): 0.5 us before the sink of column `c` turns off its headroom is sampled, in millivolts;
it counts for the grid detections, and it is the scan headroom event of the pixel that telemetry selects. -/
def execHeadroomSample (c : Fin 24) (mv : BitVec 16) (s : State) : Host.Outcome State Fault Refusal :=
  let p := 24 * s.g F.gridStat_ROWN + c.val
  if !(s.grid.phase = 2) || !bitN s.grid.sinks c || s.colOn c < 320 then .next s
  else
    let kind := if mv.toNat < 350 then 1 else if 250 * s.g F.gridDet_HRSHORT < mv.toNat then 2 else 0
    let s1 := if s.b F.gridDet_DETEN then s.modGrid (fun g => { g with samples := g.samples ++ [(p, kind)] }) else s
    if kvGet s1.tlm.sel 6 == some (96 + p) then
      let s2 := { s1 with tlm := { s1.tlm with irow := (s1.grid.codes.map Prod.snd).sum, icol := kvD s1.grid.codes c 0 } }
      .next ((s2.adcTrigger 14 (96 + p)).tlmEvent 6)
    else .next s1

/-- ROW_OVERCURRENT (15 R589), with DETEN = 1 (log 83): the row and its sinks turn off for the slot; after 4 frames in a row the row is
taken out. -/
def execRowOvercurrent (s : State) : Host.Outcome State Fault Refusal :=
  let j := s.g F.gridStat_ROWN
  if !(s.grid.phase = 2) || !s.grid.rowOn || !s.b F.gridDet_DETEN then .next s
  else
    let n := kvD s.grid.late j 0 + 1
    let s1 := (s.countOn.modGrid (fun g => { g with
      rowOn := false, sinks := 0, late := kvSet g.late j (if n = 4 then 0 else n), overNow := putN g.overNow j 1 1 })).flagIrq
        F.gridStat_ROWF 0 20
    .next (if n = 4 then (s1.setBits .gridRowoff 0 (2 ^ j)).raise 74 else s1)

/-! ### Frame synchronisation (15 R584-R588) -/

/-- Loss of lock (15 R587): the grid runs free on TF from its last boundary. -/
def State.lossOfLock (s : State) : State :=
  let s1 := ((s.pb F.gridStat_LOL 0 true).pb F.gridStat_LOCK 0 false).flagIrq F.gridStat_LOSTLOCK 0 19
  (s1.modGrid (fun g => { g with
    stop := g.start + s.tf, next := none, resync := none, good := 0, t0 := g.start, m := 0, fr := s.g F.gridFrate_FR
    free := true })).raise 76

/-- What the grid does with a slip at tick `t` (15 R586). -/
def State.slipAct (s : State) (t : Nat) : State :=
  let tf := s.tf
  if s.b F.gridCtl_SLIP then
    let e := s.grid.stop
    let m := (e + (tf + 1) / 2 - t + tf - 1) / tf
    s.modGrid (fun g => { g with next := some (t + m * tf) })
  else s.countOn.gridBlank.modGrid (fun g => { g with resync := some (t + tf) })

/-- An edge of a locked grid at tick `t`: absorbed within two slots of a boundary, otherwise a slip (15 R585, R586). While a RESYNC slip
waits, the next boundary is the next slot boundary, and the frame that starts there ends at t + TF (15 R591). An absorbed edge shows LOCK
(log 82). -/
def State.fsyncLocked (s : State) (t : Nat) : State :=
  let tf := s.tf
  let e := s.grid.stop
  let dE := (e - t) + (t - e)
  let dS := t - s.grid.start
  if s.grid.resync.isSome then (s.p F.gridSyncslip_CONSEC 0 0).modGrid (fun g => { g with resync := some (t + tf) })
  else if 16 * min dE dS ≤ 2 * tf then
    let s1 := (s.p F.gridSyncslip_CONSEC 0 0).pb F.gridStat_LOCK 0 true
    if dS ≤ dE then s1.modGrid (fun g => { g with stop := t + tf }) else s1.modGrid (fun g => { g with next := some (t + tf) })
  else
    let n := s.g F.gridSyncslip_CONSEC + 1
    let s1 := ((s.incSat F.gridSyncslip_COUNT).p F.gridSyncslip_CONSEC 0 (satN 4 n)).flagIrq F.gridStat_SLIP 0 19
    if 4 ≤ n then s1.lossOfLock else s1.slipAct t

/-- An edge while lock is lost: four good spacings in a row regain it (15 R587). -/
def State.fsyncRelock (s : State) (t : Nat) : State :=
  let tf := s.tf
  let ok := match s.grid.last with
    | some l => decide (8 * ((t - l - tf) + (tf - (t - l))) ≤ tf)
    | none => false
  let n := if ok then s.grid.good + 1 else 0
  if n = 4 then
    (((s.modGrid (fun g => { g with good := 0 })).slipAct t).pb F.gridStat_LOL 0 false).pb F.gridStat_LOCK 0 true
      |>.p F.gridSyncslip_CONSEC 0 0
  else s.modGrid (fun g => { g with good := n })

/-- FSYNC_EDGE (15 R584-R587; 02 R59): FSYNC takes a new level, and a rising edge reaches the grid. -/
def execFsyncEdge (s0 : State) (rising : Bool := true) : Host.Outcome State Fault Refusal :=
  let s := if s0.pins.vddio then { s0 with pins := { s0.pins with fsync := rising } } else s0
  if !rising || !s.pins.vddio || !s.clk.fsys || s.g F.gridCtl_SRC ≠ 1 || s.b F.padCfg_FSYNCOUT || s.frozen 8 then .next s
  else
    let t := s.tick
    let mark (s : State) : State := s.modGrid (fun g => { g with last := some t })
    if s.b F.gridStat_RUN then .next (mark (if s.b F.gridStat_LOL then s.fsyncRelock t else s.fsyncLocked t))
    else if s.grid.starting && s.gridActive then .next (mark ((s.pb F.gridStat_LOCK 0 true).frameBegin none true))
    else .next s

/-- FSYNC_TIMEOUT (15 R584, R587): no edge within 4 x TF of the start, or for 4 frames. -/
def execFsyncTimeout (s : State) : Host.Outcome State Fault Refusal :=
  if !s.clk.fsys || s.g F.gridCtl_SRC ≠ 1 || s.b F.padCfg_FSYNCOUT || s.b F.gridStat_LOL || s.frozen 8 then .next s
  else if s.b F.gridStat_RUN then .next s.lossOfLock
  else if s.grid.starting && s.gridActive then .next ((s.pb F.gridStat_LOL 0 true).frameBegin none true).lossOfLock
  else .next s

/-- FSYNC_OUTPUT_PULSE_END (15 R588). -/
def execFsyncOutputPulseEnd (s : State) : Host.Outcome State Fault Refusal :=
  .next { s with pins := { s.pins with fsyncOut := false } }

end Sys2Proof.Machine
end

