-- ==== Sys2Proof/Machine/Pwm.lean ====
section
/-!
DEFINITION. The power PWM generators (13): the meanings of the commands PWM_PERIOD_START to COARSE_ENTRY,
BOOTSTRAP_LOCKOUT and PROOF_INTERVAL_ELAPSED, and the carrier-period boundary they share.
-/

namespace Sys2Proof.Machine

/-! ### Edges of M and of the switches (13 R509-R511) -/

/-- The main switch rises: blanking opens where LEN is not 0 (13 R511). -/
def State.mainRise (s : State) (n : Fin 6) : State :=
  s.modPw n (fun p => { p with mainHi := true, mainPend := false, blank := s.g F.pwmBlk_LEN n != 0 })

/-- M rises at position `pos`: the synchronous switch falls with it; the main switch rises DTR later (13 R509). -/
def State.mRise (s : State) (n : Fin 6) (pos : Nat) : State :=
  let s1 := s.modPw n (fun p => { p with
    m := true, rose := true, riseAt := pos, onAcc := 0, tonDone := false, cnt := pos / 32, syncHi := false, syncPend := false, mainPend := true })
  if s.g F.pwmDt_DTR n = 0 then s1.mainRise n else s1

/-- M falls at position `pos`: the main switch falls with it, the synchronous switch rises DTF later; TON, unless a trip has ended the
on-interval (13 R509, R510, R534). -/
def State.mFall (s : State) (n : Fin 6) (pos : Nat) : State :=
  let p := s.pw n
  let s1 := if p.tonDone then s else s.p F.pwmTon_TON n (satN 0x1FFFFF (p.onAcc + pos - p.riseAt))
  let sync := s.b F.pwmCtl_SYNCEN n
  let now := s.g F.pwmDt_DTF n = 0
  s1.modPw n (fun p => { p with
    m := false, fell := true, onAcc := 0, riseAt := 0, cnt := pos / 32, mainHi := false, mainPend := false
    syncHi := sync && now, syncPend := sync && !now })

/-! ### Trips (13 R513, R514) -/

/-- A trip of generator `n` by source `src` (0 TRIPN, 1 current limit, 2 OVP): the gates go Hi-Z at once (13 R513, R528). Sources
that trip on one edge, at one fSYS tick and position, make one trip (14 R552; log 81). -/
def State.trip (s : State) (n : Fin 6) (src pos : Nat) (lat : Bool) : State :=
  let p := s.pw n
  let same := p.tripAt == some (s.tick, pos)
  let ton := if p.m && !p.tonDone then s.p F.pwmTon_TON n (satN 0x1FFFFF (p.onAcc + pos - p.riseAt)) else s
  let s1 := ((ton.pb F.pwmStat_DRIVE n false).pb F.pwmStat_TRIPACT n true).p F.pwmStat_TRIPSRC n
    ((if same then s.g F.pwmStat_TRIPSRC n else 0) ||| 2 ^ src)
  let s2 := s1.flagIrq F.pwmStat_TRIP n (6 + n)
  let s3 := if same then s2 else s2.incSat F.pwmEvcnt_TRIPS n
  s3.modPw n (fun p => { p with
    latched := if lat then p.latched ||| 2 ^ src else p.latched, tripAt := some (s.tick, pos), tonDone := p.m })

/-- Whether an enabled trip input of generator `n` is asserted (13 R514). -/
def State.tripIn (s : State) (n : Fin 6) : Bool :=
  (s.b F.pwmTripcfg_EXTEN n && !s.pins.tripn) || (s.pw n).ilim || (s.pw n).ovp

/-- The current limit acts: the trip, STRILIM at each latched trip or at trips in 64 periods in a row (14 R550). -/
def State.ilimTrip (s : State) (n : Fin 6) (pos : Nat) : State :=
  let lat := s.b F.pwmTripcfg_ILIMLAT n
  let first := !(s.pw n).ilimNow
  let row := (s.pw n).ilimRow + 1
  let s1 := (s.trip n 1 pos lat).modPw n (fun p => { p with ilimNow := true })
  if lat then (s1.flagIrq F.strStat_ILIMF n n).raise (32 + n.val)
  else if first then
    if row = 64 then ((s1.modPw n (fun p => { p with ilimRow := 0 })).flagIrq F.strStat_ILIMF n n).raise (32 + n.val)
    else s1.modPw n (fun p => { p with ilimRow := row })
  else s1

/-- The OVP comparator acts (14 R539, R550): a latched trip, STROVP, and open detection on a low current. -/
def State.ovpTrip (s : State) (n : Fin 6) (pos : Nat) : State :=
  let s1 := ((s.trip n 2 pos true).flagIrq F.strStat_OVPF n n).raise (38 + n.val)
  if s1.b F.strDet_OPENEN n && decide (4 * s1.g F.strMeas_ILED n < s1.g F.strMeas_IEFF n) then s1.openString n else s1

/-- Release at a boundary after a period of `len` (13 R514): no enabled trip input asserted, every latched source cleared, and no trip on
that edge, which waits for a later boundary (13 R528). The trips of the period that ended are past. -/
def State.tripRelease (s : State) (n : Fin 6) (len : Nat) : State :=
  let edge := (s.pw n).tripAt.any (fun q => q.2 == len)
  let s1 := s.modPw n (fun p => { p with tripAt := none })
  if s.b F.pwmStat_TRIPACT n && !s.tripIn n && (s.pw n).latched == 0 && !edge then s1.pb F.pwmStat_TRIPACT n false else s1

/-- A W1C clear of PPWMn_STAT.TRIP ends every latch of a past trip (13 R514). -/
def State.tripCleared (s : State) (n : Fin 6) : State := s.modPw n (fun p => { p with latched := 0 })

/-! ### Delay lines (13 R519-R521) -/

/-- The idle line. -/
def State.idleLine (s : State) (n : Fin 6) : Line := if s.b F.pwmStat_LINE n then (s.pw n).l0 else (s.pw n).l1

/-- Change line `k` of a generator. -/
def Pwm.modLine (p : Pwm) (k : Bool) (f : Line → Line) : Pwm :=
  if k then { p with l1 := f p.l1 } else { p with l0 := f p.l0 }

/-- Swap the lines: the idle line places edges from here on and the old line starts its proof cycle (13 R520, R521). -/
def State.swapLines (s : State) (n : Fin 6) : State :=
  let old := s.b F.pwmStat_LINE n
  let s1 := (((s.pb F.pwmStat_LINE n !old).pb F.pwmStat_READY n false).pb F.pwmStat_COARSE n false).incMod F.pwmEvcnt_SWAPS n
  s1.modPw n (fun p => { (p.modLine old (fun l => { l with ready := false, proving := true })) with intDone := false })

/-- Whether a swap is due: the idle line is READY and the interval has passed, which a reference slew takes as 0 and coarse
operation does not wait for (13 R520, R521). -/
def State.swapDue (s : State) (n : Fin 6) : Bool :=
  s.b F.pwmStat_READY n && ((s.pw n).intDone || s.b F.clkStat_SLEWING || s.b F.pwmStat_COARSE n) && !s.b F.pwmStat_FROZEN n

/-- The line that LINE names has passed a proof cycle in coarse operation: it places edges from the boundary on (13 R521). -/
def State.sameLineDue (s : State) (n : Fin 6) : Bool :=
  s.b F.pwmStat_COARSE n && (if s.b F.pwmStat_LINE n then (s.pw n).l1 else (s.pw n).l0).ready && !s.b F.pwmStat_FROZEN n

/-- What is due of the lines at a boundary, or at once while the generator does not run (13 R520, R521). -/
def State.linesDue (s : State) (n : Fin 6) : State :=
  if s.sameLineDue n then s.pb F.pwmStat_COARSE n false else if s.swapDue n then s.swapLines n else s

/-- A swap of a generator that is not running needs no boundary (13 R520). -/
def State.swapIdle (s : State) (n : Fin 6) : State := if (s.pw n).run then s else s.linesDue n

/-- Coarse operation begins (13 R521): STAT.COARSE and FLT(25 + n); the active line is out of use until it passes. -/
def State.coarseEnter (s : State) (n : Fin 6) : State :=
  let k := s.b F.pwmStat_LINE n
  ((s.pb F.pwmStat_COARSE n true).modPw n (fun p => p.modLine k (fun l => { l with ready := false, proving := true }))).raise
    (25 + n.val)

/-- Release (13 R519): a generator whose L0 failed its start-up proof cycle is in coarse operation; L1 starts its first. -/
def State.proofsAtRelease (s : State) : State :=
  each strs (fun n s =>
    let s1 := s.modPw n (fun p => { p with l1 := { p.l1 with proving := true } })
    if s.b F.pwmProofstat_FAIL0 n then s1.coarseEnter n else s1) s

/-! ### The carrier-period boundary (13 R502-R508, R514-R522) -/

/-- A P point of generator `n`: feed-forward, then the staged values that `sel` picks (13 R504, 14 R545). -/
def State.pPoint (s : State) (n : Fin 6) (sel : Staged → Bool) : State :=
  (s.ffPoint n).bake sel

/-- The start of a period: the settings in force for it are taken and M starts under its mode (13 R502, R506, R507). -/
def State.periodBegin (s : State) (n : Fin 6) (len : Nat) : State :=
  let mode := s.eMode n
  let ca := s.eCa n
  let cb := s.eCb n
  let per := s.g F.pwmPer_PER n
  let was := (s.pw n).m
  let s1 := s.modPw n (fun p => { p with
    rose := false, fell := false, midDone := false, cnt := 0, per0 := per, phase0 := s.g F.pwmSync_PHASE n
    trgOn := s.b F.pwmCtl_TRGEN n && p.pcount % (s.g F.pwmTrg_DIV n + 1) == 0
    syncSent := false, trgSent := false, updDone := false, excused := false, ilimNow := false
    ilimRow := if p.ilimNow then p.ilimRow else 0
    onAcc := if p.m then p.onAcc + len - p.riseAt else 0, riseAt := 0 })
  let full := decide (per ≤ ca) && ca != 0
  let up := if mode = 0 then full || (ca != 0 && cb == 0) else ca != 0
  if was then
    if up && full then s1
    else
      -- M falls at the boundary unless it was 1 throughout; a new on-interval rises there (13 R502)
      let s2 := ((s1.modPw n (fun p => { p with riseAt := 0 })).mFall n 0).modPw n (fun p => { p with fell := false })
      if up then s2.mRise n 0 else s2
  else if up then s1.mRise n 0 else s1

/-- The drive state at a boundary (13 R522). -/
def State.driveAt (s : State) (n : Fin 6) : State :=
  let d := (s.pw n).run && s.b F.strStat_ACTIVE n && !s.b F.pwmStat_TRIPACT n && !s.gateLock n
  s.pb F.pwmStat_DRIVE n d

/-- MODE after a bake: a change hands the loop over with a seed measured in the period that ended (14 R549). -/
def State.modeBaked (s : State) (n : Fin 6) (old : Nat) : State :=
  let new := s.g F.pwmCtl_MODE n
  if new = old || s.fb n then s
  else
    let ton := s.g F.pwmTon_TON n
    s.handover n (if new = 2 then s.g F.pwmTper_TPER n - ton else ton) (old == 0 || new == 0)

/-- The boundary that ends a period of length `len` and starts the next. `miss`: the period ended on PER while a SYNC was
awaited (13 R517). -/
def State.pwmBoundary (s : State) (n : Fin 6) (len : Nat) (miss : Bool) : State :=
  let p := s.pw n
  let due := p.trgOn
  let s1 := s.p F.pwmTper_TPER n len
  let s2 := if miss then (s1.flagIrq F.pwmStat_SYNCMISS n (6 + n)).incSat F.pwmEvcnt_SYNCMISS n else s1
  let s3 := if due && !p.trgSent then (s2.flagIrq F.pwmStat_TRGMISS n (6 + n)).incSat F.pwmEvcnt_TRGMISS n else s2
  let void := s.sampleVoid n
  let s4 := (s3.judgeLoop n due p.updDone ((p.excused || void) && !p.updDone)).modSt n (fun x => { x with
    litChg := false, dimFirst := x.dimOff, dimOff := !x.dimOn, sample := if void && !x.sampleOld then none else x.sample
    sampleOld := true })
  if !s4.b F.pwmCtl_RUN n then
    -- the counter stops; pending P-class values bake (13 R522)
    let s5 := (s4.pb F.pwmStat_DRIVE n false).modPw n (fun p => { p with
      run := false, m := false, mainHi := false, syncHi := false, mainPend := false, syncPend := false, blank := false, cnt := 0
      trgOn := false, onAcc := 0, riseAt := 0 })
    let old := s5.g F.pwmCtl_MODE n
    (((s5.pPoint n (pOf n)).modeBaked n old).tripRelease n len).swapIdle n
  else
    let old := s4.g F.pwmCtl_MODE n
    let every := !s4.b F.pwmCtl_UPD n || s4.eMode n != 0
    let s5 := if every then s4.pPoint n (pOf n) else s4.bake (isMode n)
    let s6 := (s5.modeBaked n old).tripRelease n len
    let s8 := ((s6.linesDue n).driveAt n).modPw n (fun p => { p with pcount := p.pcount + 1 })
    s8.periodBegin n len

/-- The generator starts its first period (13 R518, R522): counts, measurements of the period from 0. -/
def State.pwmStart (s : State) (n : Fin 6) : State :=
  let s1 := s.modPw n (fun p => { p with
    run := true, waitSync := false, m := false, mainHi := false, syncHi := false, mainPend := false, syncPend := false
    blank := false, pcount := 0, ilimRow := 0, ilimNow := false, onAcc := 0, riseAt := 0, tripAt := none })
  let old := s1.g F.pwmCtl_MODE n
  let s2 := ((s1.pPoint n (pOf n)).modeBaked n old).tripRelease n 0
  (s2.driveAt n).periodBegin n 0

/-- RUN after a slice boundary: a generator that is to run starts, or waits for its first SYNC (13 R518, R522). -/
def State.runBaked (s : State) (n : Fin 6) : State :=
  if s.b F.pwmCtl_RUN n then
    if (s.pw n).run || (s.pw n).waitSync || s.b F.pwmStat_FROZEN n then s
    else if s.b F.pwmCtl_SYNCIN n && s.eMode n == 0 && n.val != 0 then s.modPw n (fun p => { p with waitSync := true })
    else s.pwmStart n
  else s.modPw n (fun p => { p with waitSync := false })

/-- Running generators start new periods after a relock, their period counts at 0; one that follows SYNC waits for it; their
outputs stay off until the release ends (04 R116). -/
def State.pwmRelock (s : State) : State :=
  each strs (fun n s =>
    if !(s.pw n).run then s
    else
      let sync := s.b F.pwmCtl_SYNCIN n && s.eMode n == 0 && n.val != 0
      let s1 := s.modPw n (fun p => { p with
        m := false, mainHi := false, syncHi := false, mainPend := false, syncPend := false, blank := false, onAcc := 0
        riseAt := 0, pcount := 0, tripAt := none, run := !sync, waitSync := sync, trgOn := false })
      if sync then s1 else s1.periodBegin n 0) s

/-- A generator takes edges: fPWM runs, it counts periods and is not frozen (13 R525). -/
def State.counting (s : State) (n : Fin 6) : Bool := s.clk.fsys && (s.pw n).run && !s.b F.pwmStat_FROZEN n

/-- PWM_PERIOD_START (13 R504-R508, R514, R520, R522): the count reaches the end of a period of length `len`, in EDGE, COT or
COFF by its own PER or off-time; with SYNCIN = 1 in EDGE it is a SYNCMISS. -/
def execPwmPeriodStart (n : Fin 6) (len : BitVec 21) (s : State) : Host.Outcome State Fault Refusal :=
  .next (if s.counting n then s.pwmBoundary n len.toNat (s.b F.pwmCtl_SYNCIN n && s.eMode n == 0) else s)

/-- PWM_MID_POINT (13 R504, R505): with UPD = 1 in EDGE mode the P-class values but MODE bake at the mid point and govern the
rest of the period. -/
def execPwmMidPoint (n : Fin 6) (s : State) : Host.Outcome State Fault Refusal :=
  if s.counting n && s.b F.pwmCtl_UPD n && s.eMode n == 0 && !(s.pw n).midDone then
    let m := (s.pw n).per0 / 64 * 32
    let s1 := (s.pPoint n (fun e => pOf n e && !isMode n e)).modPw n (fun p => { p with midDone := true })
    let per := s1.g F.pwmPer_PER n
    let s2 := if m + 32 < per then s1.modPw n (fun p => { p with per0 := per }) else s1
    .next (if (s2.pw n).m && s2.eCa n ≤ m && s2.eCa n < (s2.pw n).per0 then s2.mFall n m else s2)
  else .next s

/-- PWM_COMPARE (13 R502, R505-R507): the count reaches CB, so that M rises in EDGE, or the end of the on-time: CA in EDGE and
COT, PER - CA in COFF. -/
def execPwmCompare (n : Fin 6) (rise : Bool) (s : State) : Host.Outcome State Fault Refusal :=
  if !s.counting n then .next s
  else
    let p := s.pw n
    let ca := s.eCa n
    let cb := s.eCb n
    let m := p.per0 / 64 * 32
    if rise then
      .next (if s.eMode n == 0 && !p.m && !p.rose && !p.fell && (ca < p.per0 || p.midDone) && cb < ca && cb != 0 && cb < p.per0
          && (!p.midDone || m < cb)
        then s.mRise n cb else s)
    else if s.eMode n == 2 then .next (if p.m && ca != 0 && ca < p.per0 then s.mFall n (p.per0 - ca) else s)
    else .next (if p.m && ca < p.per0 then s.mFall n ca else s)

/-- DEAD_TIME_END (13 R509-R511): DTR or DTF has elapsed, and the delayed edge of the main or the synchronous switch is
placed. -/
def execDeadTimeEnd (n : Fin 6) (main : Bool) (s : State) : Host.Outcome State Fault Refusal :=
  if !s.counting n then .next s
  else if main then .next (if (s.pw n).mainPend then s.mainRise n else s)
  else .next (if (s.pw n).syncPend then s.modPw n (fun p => { p with syncHi := true, syncPend := false }) else s)

/-- What a CMP level sampled at coarse edge `c` does (13 R503, R506, R507); blanking holds the on-time rules of EDGE and COFF
(13 R511). -/
def State.cmpActs (s : State) (n : Fin 6) (c : Nat) : State :=
  let p := s.pw n
  let t := 32 * (c + 2)
  let ca := s.eCa n
  if s.eMode n = 1 then
    if !p.cmp && !p.m && p.fell && ca + s.eCb n ≤ 32 * c && 32 * c < p.per0 then s.pwmBoundary n t false else s
  else if p.blank || !p.cmp || !p.m then s
  else if s.eMode n = 0 then (if s.ePk n && t < p.per0 then s.mFall n t else s)
  else if s.eCb n ≤ 32 * c && ca != 0 && 32 * c + ca < p.per0 then s.mFall n t
  else s

/-- CMP_CHANGE (13 R503, R506, R507): CMP is sampled asserted or deasserted at coarse edge `c` of the period. -/
def execCmpChange (n : Fin 6) (asserted : Bool) (c : BitVec 16) (s : State) : Host.Outcome State Fault Refusal :=
  let s1 := s.modPw n (fun p => { p with cmp := asserted, cnt := if s.counting n then c.toNat else p.cnt })
  .next (if s1.counting n then s1.cmpActs n c.toNat else s1)

/-- BLANKING_CLOSE (13 R511, R512): the window closes at coarse edge `c`, or at the analog limit whatever fPWM does; a blanked
input that is still asserted acts now. -/
def execBlankingClose (n : Fin 6) (c : BitVec 16) (s : State) : Host.Outcome State Fault Refusal :=
  if !(s.pw n).blank then .next s
  else
    let s1 := s.modPw n (fun p => { p with blank := false })
    let s2 := if (s1.pw n).ilim && s1.b F.pwmBlk_ILIM n then s1.ilimTrip n (32 * c.toNat) else s1
    .next (if s2.counting n then s2.cmpActs n c.toNat else s2)

/-- TRIPN_TRIP (13 R513, R527): TRIPN falls and trips every generator with EXTEN = 1, at the positions given, with FLT24 for
each; a rise of TRIPN ends the assertion (log 81). -/
def execTripnTrip (low : Bool) (pos : Vector (BitVec 21) 6) (s : State) : Host.Outcome State Fault Refusal :=
  if !s.pins.vddio then .next s
  else
    let s1 := { s with pins := { s.pins with tripn := !low } }
    if !low || !s.pins.tripn || !s.running then .next s1
    else .next (each strs (fun n s =>
      if s.b F.pwmTripcfg_EXTEN n then
        (s.trip n 0 (vget pos n).toNat (s.b F.pwmTripcfg_EXTLAT n)).raiseOn 24 (2 ^ n.val)
      else s) s1)

/-- CURRENT_LIMIT_TRIP (14 R539, R550; 13 R511): the current-limit comparator changes; asserted outside blanking it trips. -/
def execCurrentLimitTrip (n : Fin 6) (asserted : Bool) (pos : BitVec 21) (s : State) : Host.Outcome State Fault Refusal :=
  let held := (s.pw n).blank && s.b F.pwmBlk_ILIM n
  let was := (s.pw n).ilim
  let s1 := s.modPw n (fun p => { p with ilim := asserted })
  .next (if asserted && !was && !held && s.running then s1.ilimTrip n pos.toNat else s1)

/-- OVP_TRIP (14 R539, R550): the OVP comparator changes; asserted it trips, always latched and never blanked. -/
def execOvpTrip (n : Fin 6) (asserted : Bool) (pos : BitVec 21) (s : State) : Host.Outcome State Fault Refusal :=
  let was := (s.pw n).ovp
  let s1 := s.modPw n (fun p => { p with ovp := asserted })
  .next (if asserted && !was && s.running then s1.ovpTrip n pos.toNat else s1)

/-- TRG_EVENT (13 R516): the anchor and DELAY are reached in a period whose count selects it; the event goes to the ADC. -/
def execTrgEvent (n : Fin 6) (s : State) : Host.Outcome State Fault Refusal :=
  .next (if s.counting n && (s.pw n).trgOn && !(s.pw n).trgSent then
    (s.modPw n (fun p => { p with trgSent := true })).adcTrigger (n.val + 1) (s.pw n).pcount else s)

/-- The generator that generator `n` sends SYNC to (13 R517). -/
def nextGen (n : Fin 6) : Fin 6 := n + 1

/-- SYNC_PULSE (13 R517, R518): generator `n` in EDGE mode reaches PHASE; the next generator starts its first period, or a new
period after `len`, when its SYNCIN is 1. -/
def execSyncPulse (n : Fin 6) (len : BitVec 21) (s : State) : Host.Outcome State Fault Refusal :=
  if s.counting n && s.eMode n == 0 && !(s.pw n).syncSent && (s.pw n).phase0 < (s.pw n).per0 then
    let t := nextGen n
    let s1 := s.modPw n (fun p => { p with syncSent := true })
    if !s1.b F.pwmCtl_SYNCIN t || s1.b F.pwmStat_FROZEN t then .next s1
    else if (s1.pw t).waitSync then .next (if s1.b F.pwmCtl_RUN t then s1.pwmStart t else s1)
    else if (s1.pw t).run && s1.eMode t == 0 then .next (s1.pwmBoundary t len.toNat false)
    else .next s1
  else .next s

/-- PROOF_CYCLE_DONE (13 R519, R521): the proof cycle of line `line` ends with a tap span and a map that is monotonic or not. -/
def execProofCycleDone (n : Fin 6) (line : Bool) (mono : Bool) (span : BitVec 6) (s : State) : Host.Outcome State Fault Refusal :=
  if s.b F.pwmStat_FROZEN n || !s.clk.fsys then .next s
  else
    let pass := mono && decide (33 ≤ span.toNat)
    let failF := if line then F.pwmProofstat_FAIL1 else F.pwmProofstat_FAIL0
    let s1 := s.p (if line then F.pwmProofstat_SPAN1 else F.pwmProofstat_SPAN0) n span.toNat
    let idle := line != s1.b F.pwmStat_LINE n || !s1.running
    if !pass then
      let s2 := ((s1.flagIrq F.pwmStat_PROOFF n (6 + n)).pb failF n true).modPw n
        (fun p => p.modLine line (fun l => { l with ready := false, passes := 0, proving := true }))
      .next (if idle then s2.pb F.pwmStat_READY n false else s2)
    else
      let l := if line then (s1.pw n).l1 else (s1.pw n).l0
      let out := s1.b failF n
      let back := !out || s1.b F.pwmStat_COARSE n || decide (16 ≤ l.passes + 1)
      let s2 := s1.modPw n (fun p => p.modLine line (fun l => { l with
        ready := back, passes := l.passes + 1, proving := !back }))
      if back then
        let s3 := s2.pb failF n false
        .next ((if line != s3.b F.pwmStat_LINE n then s3.pb F.pwmStat_READY n true else s3).swapIdle n)
      else .next s2

/-- COARSE_ENTRY (13 R521): no line has passed for 1024 us; a frozen generator, or one without clock, proves none. -/
def execCoarseEntry (n : Fin 6) (s : State) : Host.Outcome State Fault Refusal :=
  .next (if s.b F.pwmStat_COARSE n || s.b F.pwmStat_FROZEN n || !s.running || !s.clk.fsys then s else s.coarseEnter n)

/-- PROOF_INTERVAL_ELAPSED (13 R520): the interval since the last swap has passed; a generator that is not running swaps to
its READY idle line at once. -/
def execProofIntervalElapsed (n : Fin 6) (s : State) : Host.Outcome State Fault Refusal :=
  .next (if s.b F.pwmStat_FROZEN n then s else (s.modPw n (fun p => { p with intDone := true })).swapIdle n)

/-- BOOTSTRAP_LOCKOUT (02 R39, 13 R522): BSTs - SWs crosses the lockout threshold; below it the gates go Hi-Z at once, above it
they may drive again from the next period boundary. -/
def execBootstrapLockout (n : Fin 6) (low : Bool) (s : State) : Host.Outcome State Fault Refusal :=
  .next ((s.modPw n (fun p => { p with bstLow := low })).refreshGate n |>.refreshStack n)

/-- L0 of every generator runs its start-up proof cycle (13 R519). -/
def State.startProofs (s : State) : State :=
  each strs (fun n s => s.modPw n (fun p => { p with l0 := { p.l0 with proving := true } })) s

end Sys2Proof.Machine
end

