-- ==== Sys2Proof/Machine/Hearth.lean ====
section
/-!
DEFINITION. Hearth mode (18 R692-R702): presets, the choice of a preset, ramps, entry and exit at slice boundaries, ENTER and
EXIT; the ramps of domain outputs (05 R159; 18 R689, R690).
-/

namespace Sys2Proof.Machine

/-! ### Presets (18 R697, R698) -/

/-- A preset: the strings it lights, the topology of each, and its target values by quantity. -/
structure Preset where
  strs : Nat
  topo : List Nat
  vals : List (Nat × Nat)
  deriving DecidableEq, Repr

/-- The targets that are not 0. -/
def nonzero (l : List (Nat × Nat)) : List (Nat × Nat) := l.filter (fun p => p.2 != 0)

/-- Duty of a level of a bypass pixel, and of a level of a scan pixel. -/
def lpDuty (l : Nat) : Nat := l * 16383 / 255
def gridDuty (l : Nat) : Nat := if l = 3 then 16383 else 5461 * l

/-- Level of scan pixel `q` in a preset. -/
def gridLevel (b : List Nat) (q : Nat) : Nat := nth8 b (0x88 + q / 4) / 4 ^ (q % 4) % 4

/-- Halfword at an offset of a preset. -/
def half8 (b : List Nat) (o : Nat) : Nat := leNat (sub8 b o 2)

/-- The 256 bytes of a preset are valid. -/
def presetOk (b : List Nat) : Bool :=
  let f := half8 b 0
  f % 2 == 1 && f < 256 && half8 b 2 == 0
    && (upto 6).all (fun s => half8 b (4 + 2 * s) < 4096 && half8 b (4 + 2 * s) / 1024 != 3)
    && (upto 24).all (fun c => nth8 b (0x70 + c) ≤ 240) && zero8 (sub8 b 0xE8 24)

/-- The preset that 256 bytes hold. -/
def presetOf (b : List Nat) : Preset :=
  let f := half8 b 0
  let grid := bitN f 7
  { strs := bitsN f 1 6
    topo := (upto 6).map (fun s => half8 b (4 + 2 * s) / 1024)
    vals := nonzero ((upto 96).map (fun p => (p, lpDuty (nth8 b (0x10 + p))))
      ++ (if grid then (upto 384).map (fun q => (96 + q, gridDuty (gridLevel b q))) else [])
      ++ (upto 6).map (fun s => (480 + s, if bitN f (s + 1) then half8 b (4 + 2 * s) % 1024 else 0))
      ++ (if grid then (upto 24).map (fun c => (486 + c, nth8 b (0x70 + c))) else [])) }

/-- Preset `i` of the HEARTH section, where it is present and valid (18 R697). -/
def imagePreset (l : List Nat) (i : Nat) : Option Preset :=
  let b := sub8 l (256 * i) 256
  if 256 * (i + 1) ≤ l.length && presetOk b then some (presetOf b) else none

/-- The ROM preset of a code (18 R698). -/
def romPreset (code : Nat) : Preset :=
  let lit := [1, 1, 1, 3, 3, 63, 0, 1].getD code 0
  let topo := [0, 1, 2, 0, 2, 2, 0, 0].getD code 0
  let grid := code = 6 || code = 7
  { strs := lit
    topo := (upto 6).map (fun _ => topo)
    vals := nonzero ((upto 96).map (fun p => (p, if bitN lit (p / 16) then 16383 else 0))
      ++ (if grid then (upto 384).map (fun q => (96 + q, 16383)) else [])
      ++ (upto 6).map (fun s => (480 + s, if bitN lit s then 400 else 0))
      ++ (if grid then (upto 24).map (fun c => (486 + c, 20)) else [])) }

/-- No preset: everything dark (18 R695). -/
def noPreset : Preset := { strs := 0, topo := [], vals := [] }

/-! ### The choice (18 R695, R696) -/

/-- The active causes that take part in the choice: an expiry of the host watchdog in hearth mode changes nothing (03 R92). -/
def State.choiceCauses (s : State) : Nat :=
  let c := s.causes
  if s.hearth.wdtLate then
    (if s.flt.react.any (fun p => p.1 != 0 && bitN p.2 3) then 1 else 0) + c / 4 * 4
  else c

/-- The preset index of the highest cause of a mask; none for no cause. -/
def State.causeIndex (s : State) (c : Nat) : Option Nat :=
  if bitN c 0 then some (s.g F.hearthSel_PF3)
  else if bitN c 1 then some (s.g F.hearthSel_PWDT)
  else if bitN c 2 then some (s.g F.hearthSel_PHEN)
  else if bitN c 3 then some s.hearth.cmdPreset
  else none

/-- The preset of an index: its source, what HEARTH_STAT.PRESET shows, and the preset. -/
def State.presetFor (s : State) (i : Nat) : Nat × Nat × Preset :=
  match imagePreset s.store.tabs.hearth i with
  | some p => (1, i, p)
  | none =>
    if s.b F.pinStrap_HSELVALID then (2, s.g F.pinStrap_HSELCODE, romPreset (s.g F.pinStrap_HSELCODE))
    else (0, 0, noPreset)

/-- The choice at a boundary; none where no cause is active and hearth mode is on. -/
def State.choose (s : State) (entry : Bool) : Option (Nat × Nat × Preset) :=
  match s.causeIndex s.choiceCauses with
  | some i => some (s.presetFor i)
  | none => if entry then (s.causeIndex s.hearth.since).map s.presetFor else none

/-! ### Ramps (18 R699) -/

/-- Steps of a ramp. -/
def State.rampN (s : State) : Nat := max ((s.g F.hearthCfg_RAMP * s.slice.rate + 99) / 100) 64

/-- `v0` moved toward `v1` by k of n steps. -/
def rampVal (v0 v1 k n : Nat) : Nat := ((v0 : Int) + Int.tdiv (((v1 : Int) - v0) * k) n).toNat

/-- The channel of a quantity. -/
def keyChan (k : Nat) : Nat := if k < 96 then k / 16 else if k < 480 then 6 else if k < 486 then k - 480 else 6

/-- Owner of the channel of a quantity. -/
def State.keyOwner (s : State) (k : Nat) : Nat := s.ownGroup (keyChan k)

/-- All quantities. -/
def keys : List Nat := upto 510

/-- The quantities of contained channels are 0 (18 R694). -/
def State.maskOff (s : State) (l : List (Nat × Nat)) : List (Nat × Nat) := l.filter (fun p => !s.chanOff (keyChan p.1))

/-- floor(FBREF x IEFF / IREF), clamped; 0 with IREF = 0. -/
def State.fbNow (s : State) (i : Nat) : Nat :=
  let iref := s.g F.strIref_IREF i
  if iref = 0 then 0 else satN 1023 (s.g F.strCmp_FBREF i * s.g F.strMeas_IEFF i / iref)

/-- A stack or the grid is lit as pixel place `p` needs. -/
def State.pixelOn (s : State) (p : Nat) : Bool :=
  if p < 96 then s.b F.bypStat_DRIVEN (p / 16) else s.b F.gridStat_RUN

/-- The start values of an entry from domain control. -/
def State.startValues (s : State) : List (Nat × Nat) :=
  nonzero (s.px.d.filter (fun p => s.pixelOn p.1)
    ++ (upto 6).map (fun i => (480 + i, if s.b F.strStat_ACTIVE i then s.fbNow i else 0))
    ++ (if s.b F.gridStat_RUN then (upto 24).map (fun c => (486 + c, s.colCode c)) else []))

/-- Values shown at step k of an entry ramp. -/
def State.entryShown (s : State) (k n : Nat) : List (Nat × Nat) :=
  nonzero (keys.map (fun j => (j, rampVal (kvD s.hearth.v0 j 0) (kvD s.hearth.v1 j 0) k n)))

/-- Whether the outputs of a quantity have the domain value 0 at an exit (18 R702; 05 R163). -/
def State.keyDark (s : State) (j : Nat) : Bool :=
  let d := s.keyOwner j
  s.chanOff (keyChan j) || bitN s.flt.dcont d || s.domDark d || (kvGet s.domRst d).any (fun x => x % 2 == 0)

/-- The domain value of a string or a column at an exit. -/
def State.exitTarget (s : State) (j : Nat) : Nat :=
  if s.keyDark j then 0
  else if h : 480 ≤ j ∧ j < 486 then (if s.strWanted ⟨j - 480, by omega⟩ then s.fbNow (j - 480) else 0)
  else if 486 ≤ j then bitsN (s.rd .gridColi ((j - 486) / 4)).toNat (8 * ((j - 486) % 4)) 8
  else 0

/-- Values shown at step k of an exit ramp: strings and columns now, pixels as the last latch point gave them. -/
def State.exitShown (s : State) (k n : Nat) : List (Nat × Nat) :=
  nonzero (s.hearth.shown.filter (fun p => p.1 < 480)
    ++ ((upto 30).map (fun i => (480 + i, rampVal (kvD s.hearth.v0 (480 + i) 0) (s.exitTarget (480 + i)) k n))))

/-- The strings that hearth mode supplies: those shown above 0, and those with a target above 0 (18 R700). -/
def strMask (shown : List (Nat × Nat)) (target : Nat → Nat) : Nat :=
  (upto 6).foldl (fun m i => if kvD shown (480 + i) 0 != 0 || target (480 + i) != 0 then m + 2 ^ i else m) 0

/-- Step k of N shows in HEARTH_RAMP. -/
def State.rampReg (s : State) (k n : Nat) : State := (s.p F.hearthRamp_K 0 k).p F.hearthRamp_N 0 n

/-- Strings that hearth mode supplies run in peak fallback (18 R694; 14 R551). -/
def State.hearthFallback (s : State) : State :=
  each strs (fun i s => if bitN s.hearth.strs i then s.pb F.strStat_FALLBACK i true else s) s

/-- A string whose topology differs from the preset's goes to high impedance and restarts (18 R704). -/
def State.topoRestart (s : State) (i : Fin 6) : State :=
  (s.pb F.pwmStat_DRIVE i false).softStart i

/-- HEARTH_STAT.STATE takes a value; a change is traced with the active causes (20 R761). -/
def State.hearthState (s : State) (st : Nat) : State :=
  let s1 := s.p F.hearthStat_STATE 0 st
  if s.g F.hearthStat_STATE = st then s1 else s1.trace 6 st s1.causes 0

/-- An entry ramp starts (18 R693, R699, R700): `start` gives the start values, `c` the choice. -/
def State.entryRamp (s : State) (start : List (Nat × Nat)) (c : Nat × Nat × Preset) : State :=
  let on := s.hearthOn
  let topoNow (i : Nat) : Nat := if on then kvD s.hearth.topo i 0 else s.g F.strCtl_TOPO i
  let lit (i : Nat) : Bool := bitN c.2.2.strs i
  let topo (i : Nat) : Nat := if lit i then c.2.2.topo.getD i 0 else topoNow i
  let swap : List (Fin 6) := strs.filter (fun i => s.b F.strStat_ACTIVE i && topo i != topoNow i)
  let v0 := s.maskOff (start.filter (fun p => !(480 ≤ p.1 && p.1 < 486 && swap.any (fun i => i.val == p.1 - 480))))
  let n := s.rampN
  let h := { s.hearth with
    v0 := v0, v1 := c.2.2.vals, shown := v0, due := false, exitDue := false, again := false
    topo := (upto 6).map (fun i => (i, topo i))
    fed := ((upto 6).map (fun i => if s.b F.bypStat_DRIVEN i then 2 ^ i else 0)).sum, strs := strMask v0 (fun j => kvD c.2.2.vals j 0) }
  let s1 := ({ s with hearth := h }.hearthState 1).rampReg 0 n
  let s2 := (s1.p F.hearthStat_SRC 0 c.1).p F.hearthStat_PRESET 0 c.2.1
  let s3 := if c.1 = 0 then s2.raise 31 else s2
  (each swap (fun i s => s.topoRestart i) s3).hearthFallback.outputs

/-- A standby command, or an accepted standby entry, is refused with a reason (03 R82). -/
def State.refuse (s : State) (n : Nat) : State := s.p F.pwrStat_REFUSE 0 n

/-- Hearth mode is entered: ENTERED and IRQ87 (18 R693). -/
def State.enterHearth (s : State) (start : List (Nat × Nat)) (c : Nat × Nat × Preset) : State :=
  (s.entryRamp start c).flagIrq F.hearthStat_ENTERED 0 87

/-- Hearth mode is off: domain control takes the outputs back (18 R702). -/
def State.hearthOff (s : State) : State :=
  let s1 := { s.hearthState 0 with hearth := {} }
  let s2 := s1.outputs
  each strs (fun i s =>
    if !s.fb i then s
    else if s.b F.strStat_ACTIVE i then s.endFallback i
    else ((s.pb F.strStat_FALLBACK i false).p F.strEvcnt_CONSEC i 0).modSt i (fun x => { x with fbOver := false, fbGood := 0 })) s2

/-- A step of the ramp in progress (18 R699). A string that domain control enables in an exit ramp is supplied from then on (18 R702). -/
def State.hearthStep (s : State) : State :=
  let st := s.g F.hearthStat_STATE
  let k := s.g F.hearthRamp_K + 1
  let n := s.g F.hearthRamp_N
  if st = 2 || st = 0 then s
  else
    let shown := if st = 3 then s.exitShown k n else s.entryShown k n
    let target (j : Nat) : Nat := if st = 3 then s.exitTarget j else kvD s.hearth.v1 j 0
    let s1 := { s.rampReg k n with hearth := { s.hearth with
      shown := s.maskOff shown, strs := strMask shown target } }.hearthFallback
    if k < n then s1.outputs
    else
      let s2 := s1.flagIrq F.hearthStat_RAMPDONE 0 87
      if st = 1 then (s2.hearthState 2).outputs else s2.hearthOff

/-- An accepted exit takes effect (18 R702). -/
def State.exitStart (s : State) : State :=
  let v0 := s.hearth.shown
  let s1 := { s with hearth := { s.hearth with v0 := v0, exitDue := false, due := false } }
  let s2 := { s1 with hearth := { s1.hearth with strs := strMask v0 s1.exitTarget } }
  (((s2.hearthState 3).rampReg 0 s2.rampN).flagIrq F.hearthStat_EXITED 0 87).hearthFallback.outputs

/-- Hearth mode at tick 0 of a slice boundary (11 R433; 18 R693, R696, R699, R702, R704). `dark`: a clock-stop release ends
here, so that every start value is 0 (04 R116); `fresh`: a containment has ended, so that a fresh ramp starts (18 R704), also in an exit
ramp (log 35). -/
def State.hearthBoundary (s : State) (dark fresh : Bool) : State :=
  let st := s.g F.hearthStat_STATE
  let shown := if dark then [] else s.maskOff s.hearth.shown
  if st = 0 then
    if s.hearth.due then
      match s.choose true with
      | some c => s.enterHearth (if dark then [] else s.startValues) c
      | none => s
    else s
  else if st = 3 then
    if s.hearth.due then
      match s.choose true with
      | some c => s.enterHearth shown c
      | none => s.hearthStep
    else if dark || fresh then { s with hearth := { s.hearth with shown := shown } }.exitStart
    else s.hearthStep
  else if s.hearth.exitDue && s.causes = 0 then
    { s with hearth := { s.hearth with shown := shown } }.exitStart
  else
    let s1 := { s with hearth := { s.hearth with exitDue := false } }
    let now := (s1.g F.hearthStat_SRC, s1.g F.hearthStat_PRESET)
    let kept : Nat × Nat × Preset :=
      (now.1, now.2, { strs := s1.hearth.strs, topo := s1.hearth.topo.map Prod.snd, vals := s1.hearth.v1 })
    match s1.choose false with
    | some c =>
      if (c.1, c.2.1) ≠ now || dark || fresh then s1.entryRamp shown c else s1.hearthStep
    | none => if dark || fresh then s1.entryRamp shown kept else s1.hearthStep

/-- A write of HEARTH_CMD by D0 takes effect (18 R692, R702). -/
def State.hearthCommand (s : State) (w : Nat) : State :=
  let refuse (n : Nat) : State := s.p F.hearthStat_REFUSE 0 n
  if bitsN w 8 8 ≠ 0x4E then refuse 1
  else
    match bitsN w 0 2 with
    | 1 => { s with hearth := { s.hearth with cmd := true, cmdPreset := bitsN w 4 3 } }.hearthCause
    | 2 =>
      let st := s.g F.hearthStat_STATE
      if s.causes % 8 ≠ 0 then refuse 2
      else if st = 1 || st = 3 then refuse 3
      else if st = 0 then refuse 4
      else { s with hearth := { s.hearth with cmd := false, exitDue := true } }
    | _ => s

/-! ### Ramps of a domain's outputs (05 R159, R160; 18 R689, R690) -/

/-- The values that the outputs of domain `d` show now. -/
def State.domShown (s : State) (d : Nat) : List (Nat × Nat) :=
  nonzero (s.px.d.filter (fun p => s.keyOwner p.1 == d)
    ++ ((upto 6).filter (fun i => s.ownStr i == d)).map (fun i => (480 + i, s.g F.strMeas_IEFF i))
    ++ (if s.ownGrid = d then (upto 24).map (fun c => (486 + c, s.colCode c)) else []))

/-- A ramp of domain `d` starts, from the values shown. -/
def State.domRampStart (s : State) (d : Nat) (toDark : Bool) (v0 : List (Nat × Nat)) : State :=
  { s with domRamps := kvSet s.domRamps d { toDark := toDark, k := 0, n := s.rampN, v0 := v0 } }

/-- The outputs of domain `d` are dark from here on; a reset that waited for it may end. -/
def State.setDark (s : State) (d : Nat) : State :=
  { s with
    flt := { s.flt with dark := s.flt.dark ||| 2 ^ d }, domRamps := kvDel s.domRamps d
    domRst := s.domRst.map (fun p => if p.1 = d then (d, p.2 ||| 2) else p) }

/-- IEFF of the strings of domain `d` at a step of its ramp to dark. -/
def State.stepIeff (s : State) (d : Nat) (r : DomRamp) : State :=
  each (upto 6) (fun i s =>
    if s.ownStr i = d then s.p F.strMeas_IEFF i (rampVal (kvD r.v0 (480 + i) 0) 0 r.k r.n) else s) s

/-- Domain `d` at a slice boundary. -/
def State.domBoundary (s : State) (d : Nat) : State :=
  let keep := (kvGet s.domRst d).map (fun x => x % 2 == 1)
  let want := bitN s.flt.dcont d || keep == some false
  let rel := bitN s.flt.release d
  let s0 := { s with
    flt := { s.flt with release := putN s.flt.release d 1 0 }
    domRst := s.domRst.map (fun p => if p.1 = d && p.2 = 1 then (d, 3) else p) }
  if want then
    if s0.domDark d then s0.setDark d
    else if s0.hearthOn then s0.setDark d
    else
      match kvGet s0.domRamps d with
      | some r =>
        if r.toDark then
          let r1 := { r with k := r.k + 1 }
          let s1 := { s0 with domRamps := kvSet s0.domRamps d r1 }.stepIeff d r1
          if r1.k < r1.n then s1 else s1.setDark d
        else s0.domRampStart d true (s0.domShown d)
      | none => s0.domRampStart d true (s0.domShown d)
  else if rel then
    let v0 := if s0.domDark d then [] else s0.domShown d
    let s1 := { s0 with flt := { s0.flt with dark := putN s0.flt.dark d 1 0 } }
    if s1.hearthOn then { s1 with domRamps := kvDel s1.domRamps d } else s1.domRampStart d false v0
  else
    match kvGet s0.domRamps d with
    | some r =>
      if s0.hearthOn || r.n ≤ r.k + 1 then { s0 with domRamps := kvDel s0.domRamps d }
      else { s0 with domRamps := kvSet s0.domRamps d { r with k := r.k + 1 } }
    | none => s0

/-- A write of FLT_DCTL that names domains `rel`, each by itself or by D0 (18 R690). -/
def State.domRelease (s : State) (rel : Nat) : State :=
  each (upto 4) (fun d s =>
    if !bitN rel d || !bitN s.flt.dcont d then s
    else if s.flt.react.any (fun p => bitN p.2 2 && s.charged p.1 == d) then s.pb F.fltGstat_RELREF 0 true
    else { s with flt := { s.flt with dcont := putN s.flt.dcont d 1 0, release := s.flt.release ||| 2 ^ d } }) s

end Sys2Proof.Machine
end

