-- ==== Sys2Proof/Machine/Domain.lean ====
section
/-!
DEFINITION. Domain reset (05 R157-R160): what starts with the write, the reset of a resource, and the end of the reset; the
meaning of DOMAIN_RESET_COMPLETE.
-/

namespace Sys2Proof.Machine

/-! ### Registers back to their reset values -/

/-- Registers at addresses `lo` to `hi - 1` take their reset values. -/
def State.clrRange (s : State) (lo hi : Nat) : State := { s with regs := s.regs.filter (fun p => p.1 < lo || hi ≤ p.1) }

/-- Register `i` of an array takes its reset value. -/
def State.clrReg (s : State) (r : RegId) (i : Nat) : State := { s with regs := kvDel s.regs (r.addr i) }

/-- The domain a staged copy belongs to. -/
def State.stagedDom (s : State) (e : Staged) : Nat :=
  match findReg e.addr with
  | some (r, i) => s.regDom r i
  | none => 0

/-! ### Resources -/

/-- A string with its generator and stack takes its reset state; levels that show hardware stay (05 R158, 13 R514). -/
def State.resetString (s : State) (i : Fin 6) : State :=
  let trip := s.b F.pwmStat_TRIPACT i && s.tripIn i
  let old := s
  let s1 := ((s.clrRange (0xA000 + 0x200 * i.val) (0xA200 + 0x200 * i.val)).clrRange (0xB000 + 0x100 * i.val)
    (0xB100 + 0x100 * i.val)).clrRange (0xC000 + 0x80 * i.val) (0xC080 + 0x80 * i.val)
  let keep (s : State) (f : Fld) : State := s.p f i (old.g f i)
  let s2 := [F.pwmStat_DRIVE, F.pwmStat_LINE, F.pwmStat_READY, F.pwmStat_COARSE, F.pwmStat_FROZEN, F.pwmTon_TON, F.pwmTper_TPER,
    F.pwmProofstat_SPAN0, F.pwmProofstat_SPAN1, F.pwmProofstat_FAIL0, F.pwmProofstat_FAIL1, F.strStat_ACTIVE, F.strMeas_ILED,
    F.strVmon_VIN, F.strVmon_VSTR, F.strOut_LIT, F.bypState_SW, F.bypState_LIT, F.bypStat_DRIVEN, F.bypStat_LIVE].foldl keep s1
  let s3 := (s2.pb F.pwmStat_TRIPACT i trip).modPw i (fun p => { p with latched := 0, ilimRow := 0, waitSync := false })
  let s4 := s3.modSt i (fun x => { litSeen := x.litSeen })
  let s5 := (s4.modBy i (fun b => { b with low := [] })).unstage (fun e => pOf i.val e
    || (0xB000 + 0x100 * i.val ≤ e.addr && e.addr < 0xB100 + 0x100 * i.val)
    || (0xC000 + 0x80 * i.val ≤ e.addr && e.addr < 0xC080 + 0x80 * i.val))
  let s6 := { s5 with px := { s5.px with
    live := kvDel s5.px.live i.val, buf := kvDel s5.px.buf i.val, d := s5.px.d.filter (fun p => p.1 / 16 != i.val || 96 ≤ p.1)
    prev := s5.px.prev.filter (fun p => p.1 / 16 != i.val || 96 ≤ p.1) } }
  (((s6.clrReg .tlmGrpCfg i).clrReg .tlmGrpCal i)).outputs

/-- The grid takes its reset state. -/
def State.resetGrid (s : State) : State :=
  let s1 := ((s.gridStop.clrRange 0xD000 0xE000).unstage (fun e => 0xD000 ≤ e.addr && e.addr < 0xE000)).modGrid (fun _ => {})
  let s2 := { s1 with px := { s1.px with
    live := kvDel s1.px.live 6, buf := kvDel s1.px.buf 6, d := s1.px.d.filter (fun p => p.1 < 96)
    prev := s1.px.prev.filter (fun p => p.1 < 96) } }
  ((s2.clrReg .tlmGrpCfg 6).clrReg .tlmGrpCal 6).outputs

/-- An ADC table stops and takes its reset registers (05 R158; 16 R636): 0 ADCA regular, 1 ADCA injected, 2 and 3 of ADCB. -/
def State.resetAdc (s : State) (k : Fin 4) : State :=
  let x : Fin 2 := Fin.ofNat 2 (k.val / 2)
  let a := 0xE000 + 0x400 * x.val
  let drop (s : State) (lo hi : Nat) : State :=
    (s.clrRange (a + lo) (a + hi)).unstage (fun e => a + lo ≤ e.addr && e.addr < a + hi)
  if k.val % 2 = 0 then
    (drop (drop s 0x14 0x1C) 0x100 0x300).modTab x (fun t => { t with run := false, rep := 0, ready := false, delay := false })
  else
    let s1 := (drop (drop s 0x1C 0x28) 0x40 0x80).modTab x (fun t => { t with pend := [], runs := [] })
    each [(0 : Fin 2), 1] (fun y s => s.modCv y (fun c => { c with
      reqs := c.reqs.filter (·.tab != x.val), seg := if c.seg.any (·.tab == x.val) then none else c.seg })) s1

/-! ### The start (05 R158, R160) -/

/-- Context `c` returns to its reset state; its grant, wait, partial pushes and semaphores end. -/
def State.ctxReset (s : State) (c : Fin 16) : State :=
  let e := ctxEng c
  let s1 := (s.ungrantOf c).dropWait (c.val + 1)
  let s2 := ((s1.dropParts (fun k => k / 128 == 2 + e.val && k / 32 % 4 == ctxDom c)).semFreeAll (c.val + 1))
  (s2.modCx c (fun _ => {})).engReady e

/-- A context that a reset of domain `d` takes: its own on any engine, every one on an engine that it owns (05 R158). -/
def State.ctxOfDom (s : State) (c : Fin 16) (d : Nat) : Bool := ctxDom c == d || s.ownPe (ctxEng c) == d

/-- A rack is emptied, its descriptors retired as ABORTED. -/
def State.emptyRack (s : State) (n : Nat) : State :=
  let l := s.rq n
  (each l (fun d s => s.retire n d 2 0) s).setRq n []

/-- Racks and semaphores of domain `d`, and its waits, end (05 R158; 09 R348). -/
def State.domRacks (s : State) (d : Nat) : State :=
  let s1 := each (s.rack.waits.filter (·.dom == d)) (fun w s => s.abortWait w 2) s
  let s2 := match s1.rack.copy with
    | some j => if s1.ownRack j.rack = d then s1.copyEnd 2 0 else s1
    | none => s1
  let s3 := each (upto 32) (fun n s => if s.ownRack n = d then s.emptyRack n else s) s2
  let s4 := s3.modRack (fun r => { r with
    part := r.part.filter (fun p => p.1 / 32 % 4 != d), hold := r.hold.filter (fun p => p.1 / 32 % 4 != d)
    given := r.given.filter (·.2 != d) })
  each (upto 32) (fun n s => if s.ownSem n = d then (s.clrReg .semCfg n).clrReg .semStat n else s) s4

/-- A domain reset of `d` starts (05 R157-R160; 06 R205; 08 R309): ignored while one runs. -/
def State.domResetStart (s : State) (d : Nat) : State :=
  if bitN (s.g F.domStat_RSTBUSY) d then s
  else
    let keep := s.b F.domQos_KEEPLIT d
    let s1 := { s.p F.domStat_RSTBUSY 0 (s.g F.domStat_RSTBUSY ||| 2 ^ d) with
      domRst := kvSet s.domRst d (if keep then 1 else 0) }
    let s2 := each ctxs (fun c s => if s.ctxOfDom c d then (s.flushAll c).ctxReset c else s) s1
    let s3 := (s2.domRacks d).unstage (fun e => s2.stagedDom e == d && !e.blk)
    let s4 := s3.pb F.bakeCtl_HOLD d false
    let lost := (kvD s4.net.trays d []).length
    let s4 := (s4.p F.netTrayStat_PEND d 0).p F.netTrayStat_SKIP d (satN 255 (s4.g F.netTrayStat_SKIP d + lost))
    let s5 := { s4 with
      net := { s4.net with
        trays := kvDel s4.net.trays d, kept := kvDel s4.net.kept d, evOut := kvDel s4.net.evOut d
        evSet := kvDel s4.net.evSet d }
      disp := { s4.disp with armed := kvDel s4.disp.armed d } }
    if d = 0 then s5.sessionEnd else s5

/-! ### The end -/

/-- Interrupt registers of domain `d`, and the priorities of its sources, at their reset values (05 R158). -/
def State.domInts (s : State) (d : Nat) : State :=
  let own := (upto 96).filter (fun n => s.irqOwner n == some d)
  let s1 := s.clrRange (0x2000 + 0x40 * d) (0x2028 + 0x40 * d)
  each own (fun n s =>
    let a := RegId.intPri.addr (n / 8)
    let w := kvD s.img a (RegId.intPri.reset (n / 8))
    s.wr .intPri (n / 8) (BitVec.ofNat 32 (putN (s.rd .intPri (n / 8)).toNat (4 * (n % 8)) 4 (bitsN w (4 * (n % 8)) 4)))) s1

/-- The registers banked by domain that return to their reset values (06 registers; 08, 11, 18 registers). -/
def State.domBanked (s : State) (d : Nat) : State :=
  let s1 := [RegId.bakeCtl, .regStat, .regCap, .domViol, .domInfl, .netTrayStat, .dispTmHi, .dispTmLo, .dispStat, .fltCap].foldl
    (fun s r => s.clrReg r d) s
  { s1 with
    snaps := s1.snaps.filter (fun x => x.bank % 4 != d || 32 ≤ x.bank)
    holdHi := s1.holdHi.filter (fun p => p.2 / 2 ^ 32 != d || p.1 / 0x100000 == 8) }

/-- Engines and racks of domain `d`: registers at their reset values. -/
def State.domBlocks (s : State) (d : Nat) : State :=
  let s1 := each engs (fun e s => if s.ownPe e = d then
      let cur := s.g F.peStat_CUR e
      (((s.clrRange (0x8100 + 0x20 * e.val) (0x811C + 0x20 * e.val)).p F.peStat_CUR e cur).modEn e (fun x => { x with cache := [], fill := none }))
    else s) s
  let s2 := each ctxs (fun c s => if s.ctxOfDom c d then (s.clrReg .peCtxStat c).clrReg .peCtxWork c else s) s1
  each (upto 32) (fun n s => if s.ownRack n = d then
      [RegId.rackCfg, .rackStat, .rackRet].foldl (fun s r => s.clrReg r n) s
    else s) s2

/-- Outputs and ADC tables of domain `d` with KEEPLIT = 0. -/
def State.domOutputs (s : State) (d : Nat) : State :=
  let s1 := each strs (fun i s => if s.ownStr i = d then s.resetString i else s) s
  let s2 := if s1.ownGrid = d then s1.resetGrid else s1
  each engs (fun k s => if s.ownAdc k = d then s.resetAdc k else s) s2

/-- The reset of domain `d` ends (05 R158, R160; 18 R690): IRQ(76 + d). -/
def State.domResetEnd (s : State) (d : Nat) (keep : Bool) : State :=
  let s1 := if keep then s else s.domOutputs d
  let s2 := ((s1.domInts d).domBanked d).domBlocks d
  let held := bitN s2.flt.dcont d || s2.domDark d
  let s3 := { s2 with
    domRst := kvDel s2.domRst d
    flt := { s2.flt with
      dcont := putN s2.flt.dcont d 1 0
      dark := if keep then s2.flt.dark else putN s2.flt.dark d 1 0
      release := if keep && held then s2.flt.release ||| 2 ^ d else s2.flt.release } }
  (s3.p F.domStat_RSTBUSY 0 (putN (s3.g F.domStat_RSTBUSY) d 1 0)).outputs.pendIrq (76 + d)

/-- DOMAIN_RESET_COMPLETE (05 R160): the outputs of domain `x` are dark, or kept, and its posted writes have drained. -/
def execDomainResetComplete (x : Dom) (s : State) : Host.Outcome State Fault Refusal :=
  match kvGet s.domRst x.val with
  | some v => .next (if 2 ≤ v && s.posted.all (·.dom != x.val) then s.domResetEnd x (v % 2 == 1) else s)
  | none => .next s

end Sys2Proof.Machine
end

