-- ==== Sys2Proof/Machine/Slice.lean ====
section
/-!
DEFINITION. The slice boundary (11 R430-R437; 06 R198-R204; 05 R143; 08 R299, R306) and the latch point (15 R567, R568): bakes,
ownership changes, overruns, tray selection, release of contexts; the meanings of SLICE_BOUNDARY, LATCH_POINT and
GPIO_SLICE_PULSE_END.
-/

namespace Sys2Proof.Machine

/-! ### Bakes of class S (06 R198-R204) -/

/-- An ownership register (05 R164-R170). -/
def isOwnReg (a : Nat) : Bool := 0x1000 ≤ a && a < 0x1050

/-- A point of curve `c` (17 R664). -/
def isCurve (c a : Nat) : Bool := 0xF080 + 0x20 * c ≤ a && a < 0xF0A0 + 0x20 * c

/-- The points of curve `c` bake together, or not at all where they would not ascend (17 R664). -/
def State.bakeCurve (s : State) (c : Nat) : State :=
  let sel (e : Staged) : Bool := e.cls == 0 && isCurve c e.addr
  if !s.staged.any sel then s
  else
    let s1 := s.bake sel
    if s1.crvOk c then s1
    else { s with staged := s.staged.filter (fun e => !(sel e && !s.heldBake e)) }.pb F.tlmStat_CRVERR 0 true

/-- EN, TOPO, MAIN and DEN of string `i` after a bake; `en`, `den` are EN and DEN before it (14 R535, R547). -/
def State.strBaked (s : State) (i : Fin 6) (en den : Bool) : State :=
  let now := s.b F.strCtl_EN i
  let bad := s.b F.pwmCtl_MAIN i != (s.g F.strCtl_TOPO i != 0)
  let s1 :=
    if !now then s.modSt i (fun x => { x with enOk := false })
    else if en then s
    else if bad then (s.modSt i (fun x => { x with enOk := false })).flagIrq F.strStat_CFGERR i i
    else s.modSt i (fun x => { x with enOk := true })
  if !s1.b F.strDim_DEN i then s1.modSt i (fun x => { x with dimOn := true })
  else if den then s1
  else s1.modSt i (fun x => { x with dimOn := s.g F.strDim_DUTY i != 0 })

/-- The switches of pixels that have become unused close; they are closed whenever the stack is driven (15 R570). -/
def State.closeUnused (s : State) (i : Fin 6) : State :=
  let sw := (upto 16).foldl (fun w k => if bitN (s.g F.bypUnused_MASK i) k then putN w k 1 0 else w) (s.by i).sw
  if s.b F.bypStat_DRIVEN i && sw != (s.by i).sw then s.countOn.setSw i sw else s

/-- Re-alignment begins, where ALIGN = 1 (08 R306): the first target is nearest to where the next boundary would fall. -/
def State.realign (s : State) : State :=
  if s.b F.netTimecfg_ALIGN then
    { s with slice := { s.slice with aim := some (s.time + (160000000 / s.slice.rate - (s.tick - s.slice.tick))) } }
  else s

/-- The slice rate after a bake (11 R430; 08 R306). -/
def State.rateBaked (s : State) : State :=
  let r := s.g F.peSlice_RATE
  if r = s.slice.rate then s
  else { s with slice := { s.slice with rate := r, t0 := s.time, tick := s.tick } }.realign

/-- Occurrences are counted for DIV from the bake that last changed the entry (11 R440). -/
def State.divRestart (s old : State) : State :=
  { s with disp := { s.disp with count := s.disp.count.filter (fun p =>
    s.rd .dispCfg p.1 == old.rd .dispCfg p.1 && s.rd .dispStart p.1 == old.rd .dispStart p.1) } }

/-- The S-class bakes of the present owners. -/
def State.bakeS (s : State) : State :=
  let en := strs.map (fun i => s.b F.strCtl_EN i)
  let den := strs.map (fun i => s.b F.strDim_DEN i)
  let s1 := (s.bake (fun e => e.cls == 0 && !isOwnReg e.addr && !(0xF080 ≤ e.addr && e.addr < 0xF100))).divRestart s
  let s2 := each (upto 4) (fun c s => s.bakeCurve c) s1
  each strs (fun i s => (s.strBaked i (en.getD i false) (den.getD i false)).closeUnused i) s2.rateBaked

/-! ### Ownership bakes (05 R143) -/

/-- Engine `e` has a recipe that has not executed SLICEEND for the ending slice. -/
def State.engOpen (s : State) (e : Nat) : Bool :=
  (upto 4).any (fun d => let x := s.cx (ctxOf e d); x.busy && !(x.st == .suspended && x.ended < s.tick))

/-- Entry of an ownership register that its condition defers: an engine's owner, or a held semaphore. -/
def State.deferPe (s : State) (e : Staged) : Bool :=
  e.addr == 0x1004 && e.lo < 8 && e.val != bitsN (s.rd .ownPe).toNat e.lo 2 && s.engOpen (e.lo / 2)
def State.deferSem (s : State) (e : Staged) : Bool :=
  let n := if e.addr = 0x1014 then e.lo / 2 else 16 + e.lo / 2
  (e.addr == 0x1014 || e.addr == 0x1018) && e.val != s.ownSem n && !s.b F.semCfg_MODE n && s.b F.semStat_HELD n

/-- A source whose owner changes: its pending bit moves, its enable of the old owner is cleared (05 R143). -/
def State.moveIrq (s : State) (n : Nat) (old new : Option Nat) : State :=
  match old, new with
  | some a, some b =>
    if a = b then s
    else
      let r (d : Nat) : Nat := 3 * d + n / 32
      let m := 2 ^ (n % 32)
      let was := s.rbit .intPend (r a) (n % 32)
      let s1 := (s.clrBits .intPend (r a) m).clrBits .intEn (r a) m
      if was then s1.setBits .intPend (r b) m else s1
  | _, _ => s

/-- A resource that changes owner while its old owner is in a domain reset with KEEPLIT = 0 takes its reset state first
(05 R163). -/
def State.resetMoved (s : State) (old : State) : State :=
  let inRst (d : Nat) : Bool := (kvGet old.domRst d).any (fun v => v % 2 == 0)
  let s1 := each strs (fun i s => if old.ownStr i ≠ s.ownStr i && inRst (old.ownStr i) then s.resetString i else s) s
  let s2 := if old.ownGrid ≠ s1.ownGrid && inRst old.ownGrid then s1.resetGrid else s1
  each engs (fun k s => if old.ownAdc k ≠ s.ownAdc k && inRst (old.ownAdc k) then s.resetAdc k else s) s2

/-- The sources that an EVENT of a domain has carried and that assert no more are forgotten: they are gained again when they
assert (05 R150). -/
def State.evPrune (s : State) : State :=
  { s with net := { s.net with evSet := s.net.evSet.map (fun p => (p.1, p.2.filter (fun k => s.asserting p.1 k))) } }

/-- A wait on a resource that its domain owns no more; there is none, so an ownership bake aborts it as ABORTED (09 R352; log 74). -/
def State.lostWait (s : State) (w : Wait) : Bool :=
  match w.what with
  | .pop n _ | .push n _ => s.ownRack n != w.dom
  | .take n => s.ownSem n != w.dom
  | .slot => false

/-- Changed ownership entries take effect: staged values of old owners are discarded (06 R204), sources move. -/
def State.bakeOwn (s : State) : State :=
  let own := s.staged.filter (fun e => e.cls == 0 && isOwnReg e.addr)
  let pe := own.filter s.deferPe
  let sem := own.filter s.deferSem
  let s1 := s.bake (fun e => e.cls == 0 && isOwnReg e.addr && !s.deferPe e && !s.deferSem e)
  let s2 := s1.unstage (fun e => !isOwnReg e.addr && !e.blk && s.stagedDom e != s1.stagedDom e)
  let s3 := (each (upto 96) (fun n t => t.moveIrq n (s.irqOwner n) (s1.irqOwner n)) s2).evPrune
  let s4 := each (s3.rack.waits.filter s3.lostWait) (fun w t => t.abortWait w 2) s3
  let pend := (pe.map (fun e => e.lo / 2)).foldl (fun m e => m ||| 2 ^ e) 0
  ((s4.p F.ownStat_PEPEND 0 pend).pb F.ownStat_SEMPEND 0 (!sem.isEmpty)).resetMoved s

/-! ### Overruns (11 R432) -/

/-- Overrun evaluation of context `c`. -/
def State.overrun (s : State) (c : Fin 16) : State :=
  let e := ctxEng c
  let x := s.cx c
  if s.halted e then s
  else if x.sb && x.busy && !(x.st == .suspended && x.ended < s.tick) then
    let k := s.g F.peCtxStat_CONSEC c
    let s1 := ((s.incSat F.peOvrcnt_COUNT e).p F.peCtxStat_CONSEC c (satN 3 (k + 1))).flagIrq F.peStat_OVR e (28 + e.val)
    if k = 2 then s1.raise (96 + ctxDom c) else s1
  else s.p F.peCtxStat_CONSEC c 0

/-! ### Tray selection (11 R437; 08 R299) -/

/-- A tray header from its 32 bytes (15 R564, R565): the groups it names, 0 where it is invalid, and their first pixel words. -/
def headerOf (h : List Nat) : Nat × List Nat :=
  let g := half8 h 0
  let bases := (upto 7).map (fun k => half8 h (4 + 2 * k))
  let ok := g < 128 && half8 h 2 == 0 && bases.all (· < 512) && zero8 (sub8 h 0x12 14)
    && (upto 7).all (fun k => !bitN g k || bases.getD k 0 + (if k = 6 then 384 else 16) ≤ 480)
  (if ok then g else 0, bases)

/-- The header of a tray as a requester reads it; an uncorrectable word makes it invalid. -/
def State.trayHeader (s : State) (req tray : Nat) : Nat × List Nat × State :=
  let r := s.rdBytes req (trayBase tray) 32
  let h := headerOf r.1
  (if r.2.1 then 0 else h.1, h.2, r.2.2)

/-- A network entry of domain `d` that may go live for group `g`. -/
def State.netCand (s : State) (d g : Nat) (p : PTray) : Bool :=
  bitN p.groups g && s.ownHot p.hot == d && s.ownGroup g == d

/-- The due network entry that goes live for group `g`: the latest PTIME, of equal ones the later commit. -/
def State.netWinner (s : State) (g : Nat) : Option PTray :=
  let d := s.ownGroup g
  ((kvD s.net.trays d []).filter (fun p => p.ptime ≤ s.time && s.netCand d g p)).foldl (fun b p =>
    match b with
    | none => some p
    | some q => if q.ptime ≤ p.ptime then some p else some q) none

/-- The offer of context `c` counts for this boundary, and may go live for group `g`. A halted engine's does not: the pixel path repeats
its trays (01 R26; 20 R755; log 76). -/
def State.offerFor (s : State) (c : Fin 16) (g : Nat) : Option Offer :=
  match (s.cx c).offer with
  | some o =>
    if o.tick < s.tick && !s.halted (ctxEng c) && bitN o.groups g && s.trayOwner o.tray == ctxDom c && s.ownGroup g == ctxDom c then some o else none
  | none => none

/-- Whether an offer's pixel words are there to show: a hot tray's always, a tray SRAM tray's when its fill is complete. -/
def Offer.ready (o : Offer) : Bool := 0x80 ≤ o.tray || o.filled

/-- The engine offer that group `g` selects among the ready ones, with its context: the last SLICEEND, then the lowest engine. -/
def State.offerWinner (s : State) (g : Nat) (all : Bool) : Option (Fin 16 × Offer) :=
  ctxs.foldl (fun b c =>
    match s.offerFor c g with
    | some o =>
      if !all && !o.ready then b
      else match b with
        | none => some (c, o)
        | some q => if q.2.tick < o.tick then some (c, o) else some q
    | none => b) none

/-- The pixel words of group `g` from tray words. -/
def groupWords (g base : Nat) (l : List Nat) : List Nat := (l.drop base).take (if g = 6 then 384 else 16)

/-- Select the tray of group `g`: what goes live, and which context's or domain's it is. -/
def State.selectGroup (s t : State) (g : Nat) : State :=
  match t.netWinner g with
  | some p =>
    let d := t.ownGroup g
    let late := p.ptime != 0 && p.ptime ≤ t.slice.last
    let s1 := { s with px := { s.px with live := kvSet s.px.live g { tray := 0x80 + p.hot, base := p.bases.getD g 0 } } }
    let s2 := s1.p F.netTrayStat_LIVE d p.hot
    if late then s2.pb F.netTrayStat_LATE d true else s2
  | none =>
    match t.offerWinner g false with
    | some (c, o) =>
      let s1 := { s with px := { s.px with
        live := kvSet s.px.live g { tray := o.tray, base := o.bases.getD g 0, fill := 16 * o.tick + c.val }
        buf := if o.tray < 0x60 then kvSet s.px.buf g (groupWords g (o.bases.getD g 0) o.words) else s.px.buf } }
      if 0x80 ≤ o.tray then s1.p F.netTrayStat_LIVE (ctxDom c) (o.tray - 0x80) else s1
    | none => s

/-- The due entries of domain `d` are retired; those that went live for no group count in SKIP (08 R299). -/
def State.retireNet (s t : State) (d : Nat) : State :=
  let l := kvD t.net.trays d []
  let due := l.filter (fun p => p.ptime ≤ t.time)
  let lost := due.filter (fun p => !(upto 7).any (fun g => t.ownGroup g == d && t.netWinner g == some p))
  if due.isEmpty then s
  else
    let rest := l.filter (fun p => !(p.ptime ≤ t.time))
    let s1 := { s with net := { s.net with trays := if rest.isEmpty then kvDel s.net.trays d else kvSet s.net.trays d rest } }
    (s1.p F.netTrayStat_PEND d rest.length).p F.netTrayStat_SKIP d (satN 255 (s1.g F.netTrayStat_SKIP d + lost.length))

/-- The offer of context `c` after selection: it went live, stays pending because its fill is incomplete, or is retired and
counted in SKIP (11 R437; 10 R373). -/
def State.retireOffer (s t : State) (c : Fin 16) : State :=
  match (t.cx c).offer with
  | none => s
  | some o =>
    if t.tick ≤ o.tick then s
    else
      let wins (all : Bool) : Bool :=
        (upto 7).any (fun g => (t.netWinner g).isNone && ((t.offerWinner g all).any (fun q => q.1 == c)))
      let drop (s : State) : State := s.modCx c (fun x => { x with offer := none })
      if wins false then drop s
      else if !o.ready && wins true then s.incSat F.memFahead_LATE
      else (drop s).incSat F.peCtxStat_SKIP c

/-- The fetch run of one live hot tray (10 R371), one act at the boundary (log 76). -/
def State.fetchHot (s : State) (h : Nat) : State :=
  let mine := s.px.live.filter (fun p => p.2.tray == 0x80 + h)
  if mine.isEmpty then s
  else
    let groups := (mine.map (fun p => 2 ^ p.1)).sum
    let bases := (upto 7).map (fun g => ((kvGet s.px.live g).map (·.base)).getD 0)
    let r := s.fetchTray 9 (0x80 + h) groups bases
    let buf := mine.foldl (fun b p => kvSet b p.1 (groupWords p.1 p.2.base r.1)) r.2.px.buf
    { r.2 with px := { r.2.px with buf := buf } }

/-- A live hot tray of domain `d` (08 R324). -/
def State.liveOf (s : State) (d : Nat) : Bool := s.px.live.any (fun p => 0x80 ≤ p.2.tray && s.ownHot (p.2.tray - 0x80) == d)

/-- Tray selection for every group, and the fetch run. -/
def State.selectTrays (s : State) : State :=
  let s1 := each (upto 7) (fun g x => x.selectGroup s g) s
  let s2 := each (upto 4) (fun d x => x.retireNet s d) s1
  let s3 := each ctxs (fun c x => x.retireOffer s c) s2
  let s4 := each (upto 16) (fun h x => x.fetchHot h) s3
  each (upto 4) (fun d s => s.pb F.netTrayStat_LIVEV d (s.liveOf d)) s4

/-! ### Release of contexts (11 R431, R433, R445, R456) -/

/-- Context `c` at tick 1: under ENDSLICE, or without its engine, it ends; else a SUSPENDED context goes on behind its
SLICEEND. A halted engine's waits for a boundary after the halt (11 R447). -/
def State.releaseCtx (s : State) (c : Fin 16) : State :=
  let x := s.cx c
  let e := ctxEng c
  if x.st != .suspended || s.tick ≤ x.ended || s.halted e then s
  else if !s.hasCtx e (ctxDom c) then s.endCtx c true false
  else if x.endslice then s.endCtx c true false
  else
    let s1 := s.p F.peCtxWork_WORK c (satN (2 ^ 22 - 1) (s.workOf c))
    s1.modCx c (fun x => { x with st := .runnable, work := 0, pc := pcNext x.pc })

/-- The dispatches of a context whose domain has lost the engine are dropped (05 R163). -/
def State.dropLost (s : State) (c : Fin 16) : State :=
  if s.hasCtx (ctxEng c) (ctxDom c) || (s.cx c).busy then s else s.flushAll c

/-! ### The boundary -/

/-- The slice index of the boundary that comes now (11 R430; 08 R306; log 90). -/
def State.nextIndex (s : State) : Nat :=
  let v := s.slice
  if !s.b F.netTimecfg_ALIGN then v.j + 1
  else
    match v.aim with
    | some t =>
      let a := t * v.rate / 160000000
      let lo := a * 160000000 / v.rate
      let hi := (a + 1) * 160000000 / v.rate
      max (v.k + 1) (if t - lo ≤ hi - t then a else a + 1)
    | none => v.k + 1

/-- Everything at a slice boundary of index `k` (11 R433); the first one after a standby period counts no overrun (11 R447). -/
def State.sliceWork (s : State) (k : Nat) (woken : Bool := false) : State :=
  let dark := s.clk.release && s.clk.relocked
  let fresh := s.flt.restart != 0
  -- tick 0: the lockouts and restarts that end here, then hearth entry
  let s0 := s.countOn
  let s1 := { s0 with
    clk := if dark then { s0.clk with release := false, relocked := false } else s0.clk
    flt := { s0.flt with restart := 0 } }
  let s2 := each strs (fun i s => s.modSt i (fun x => { x with unlock := false })) s1
  let s3 := (s2.hearthBoundary dark fresh).outputs
  -- bakes
  let s4 := s3.bakeS.bakeOwn
  let s5 := { s4 with slice := { s4.slice with k := k } }
  let s6 := s5.p F.peSliceno_K 0 k
  let s7 := each (upto 4) (fun d s => s.domBoundary d) s6
  let s8 := (each strs (fun n s => (s.startDuty s0 n).runBaked n) s7.outputs).gridEnable
  let s9 := (((s8.regBaked 0).regBaked 1).injBaked 0).injBaked 1
  -- overruns, trays, swap
  let s10 := if woken then s9 else each ctxs (fun c s => s.overrun c) s9
  let s11 := (if s.hearthOn then s10.selectTrays else s10.selectTrays.swapBoundary).outputs
  let s11 := each strs (fun i s => s.startDuty s8 i) s11
  -- tick 1
  let s12 := each ctxs (fun c s => (s.releaseCtx c).dropLost c) s11
  let s13 := ((s12.fireEvent 1 none (BitVec.ofNat 32 k)).pendIrq 81).evWake 3 0 none
  let s14 := s13.stringRecords.agePixels
  { s14 with slice := { s14.slice with last := s14.time, tick := s14.tick }, pins := { s14.pins with slicePulse := true } }

/-- The boundary at release (03 R70; 11 R430): index 0, or that of the nearest T_k with ALIGN = 1. -/
def State.sliceAtRelease (s : State) : State :=
  let r := s.g F.peSlice_RATE
  let near := (s.time * r + 80000000) / 160000000
  let s1 := { s with slice := { t0 := s.time, j := 0, rate := r, last := s.time } }
  let s2 := each strs (fun i s => s.strBaked i false false) s1
  s2.sliceWork (if s.b F.netTimecfg_ALIGN then near else 0)

/-- The boundary at the end of the wake delay (11 R447); with ALIGN = 1 re-alignment begins with it (log 78). -/
def State.sliceAtWake (s : State) : State :=
  let s1 := if s.b F.netTimecfg_ALIGN then { s with slice := { s.slice with aim := some s.time } } else s
  { s1 with slice := { s1.slice with j := s1.slice.j + 1, aim := none } }.sliceWork s1.nextIndex true

/-- SLICE_BOUNDARY (11 R430, R433): the slice timer reaches the next boundary. -/
def execSliceBoundary (s : State) : Host.Outcome State Fault Refusal :=
  if !s.running || !s.clk.fsys || s.frozen 9 then .next s
  else
    let k := s.nextIndex
    .next ({ s with slice := { s.slice with j := s.slice.j + 1, aim := none } }.sliceWork k)

/-- GPIO_SLICE_PULSE_END (02 R51): the SLICE function deasserts 16 ticks after the boundary. -/
def execGpioSlicePulseEnd (s : State) : Host.Outcome State Fault Refusal :=
  .next { s with pins := { s.pins with slicePulse := false } }

/-! ### The latch point (15 R567-R569) -/

/-- The duty of a pixel by its word and the value it last used, and the value it uses now (15 R567). -/
def State.pixelDuty (s : State) (p w : Nat) : Nat × Nat :=
  let d := w % 2 ^ 14
  match w / 2 ^ 14 % 4 with
  | 0 => (s.derate p d, 2 * d + 1)
  | 1 => (0, 0)
  | 2 => (16383, 2 * 16383)
  | _ =>
    let v := kvD s.px.prev p 0
    (if v % 2 = 1 then s.derate p (v / 2) else v / 2, v)

/-- Pixel places of group `g`. -/
def groupPlaces (g : Nat) : List Nat := if g = 6 then (upto 384).map (96 + ·) else (upto 16).map (16 * g + ·)

/-- The duties that the trays and the ramps of the domains give, and the values used, for group `g`. -/
def State.latchGroup (s : State) (g : Nat) : List (Nat × Nat) × List (Nat × Nat) :=
  match kvGet s.px.buf g with
  | some l =>
    if (kvGet s.px.live g).isNone then ([], [])
    else
      let r : List (Nat × Nat × Nat) := ((groupPlaces g).zip l).map (fun (q : Nat × Nat) => (q.1, s.pixelDuty q.1 q.2))
      let d := s.ownGroup g
      (nonzero (r.map (fun q => (q.1, s.domRamp d q.1 q.2.1))), nonzero (r.map (fun q => (q.1, q.2.2))))
  | none => ([], [])

/-- The duties of hearth mode (18 R699, R702): those of the preset's ramp, or at an exit blended with the domain values. -/
def State.hearthDuty (s : State) (own : List (Nat × Nat)) : List (Nat × Nat) :=
  if s.g F.hearthStat_STATE = 3 then
    let k := s.g F.hearthRamp_K
    let n := s.g F.hearthRamp_N
    nonzero ((upto 480).map (fun p =>
      (p, if s.chanOff (keyChan p) then 0
          else rampVal (kvD s.hearth.v0 p 0) (if s.keyDark p then 0 else kvD own p 0) k n)))
  else s.hearth.shown.filter (fun q => q.1 < 480)

/-- The values that pixels of the groups with no live tray last used. -/
def State.keepPrev (s : State) : List (Nat × Nat) :=
  s.px.prev.filter (fun (q : Nat × Nat) => (kvGet s.px.buf (groupOf q.1)).isNone || (kvGet s.px.live (groupOf q.1)).isNone)

/-- LATCH_POINT (15 R568; 17 R665): factors step, each pixel's duty is formed, stacks and the grid take the values. -/
def execLatchPoint (s : State) : Host.Outcome State Fault Refusal :=
  if !s.running || !s.clk.fsys || s.frozen 9 then .next s
  else
    let s1 := each (upto 7) (fun g s => s.stepFactors g) s
    let l := (upto 7).map s1.latchGroup
    let own := l.flatMap (·.1)
    let prev := l.flatMap (·.2)
    let d := if s1.hearthOn then s1.hearthDuty own else own
    let s2 := { s1 with
      px := { s1.px with d := d, prev := s1.keepPrev ++ prev }
      hearth := if s1.hearthOn then { s1.hearth with shown := d ++ s1.hearth.shown.filter (fun (q : Nat × Nat) => 480 ≤ q.1) } else s1.hearth }
    let s3 := each strs (fun i s => s.stackLatch i) s2
    .next (s3.modGrid (fun g => { g with lat := some (d.filter (fun q => 96 ≤ q.1)) })).outputs

end Sys2Proof.Machine
end

