-- ==== Sys2Proof/Machine/NetBase.lean ====
section
/-!
DEFINITION. What other blocks need of the network port (08) and of the clocks (04): its flags, PLCA status, the end of PHY activity, the frames the X648
sends and the answer to a message, the discard of a message in execution; the
reference of the PLL.
-/

namespace Sys2Proof.Machine

/-- Change the network state. -/
def State.modNet (s : State) (f : Net → Net) : State := { s with net := f s.net }

/-- The interrupt source of a flag of NET_STAT (08, registers). -/
def netIrq (f : Fld) : Nat := if f.lo = 14 then 82 else if 11 ≤ f.lo && f.lo ≤ 13 then 84 else 83

/-- A flag of NET_STAT is set, with its source. -/
def State.netFlag (s : State) (f : Fld) : State := s.flagIrq f 0 (netIrq f)

/-- PLCAOK takes a value; each change sets PLCACHG (08 R275). -/
def State.setPlca (s : State) (ok : Bool) : State :=
  if s.b F.netStat_PLCAOK == ok then s else (s.pb F.netStat_PLCAOK 0 ok).netFlag F.netStat_PLCACHG

/-- The node ID in force since PHYON became 1 (08 R274). -/
def State.plcaId (s : State) : Nat := s.net.plca % 16

/-- The PHY falls silent (08 R274): PHYON = 0; a coordinator is one only while PHYON = 1. -/
def State.phyStop (s : State) : State :=
  if !s.b F.netStat_PHYON then s
  else
    let s1 := (s.pb F.netStat_PHYON 0 false).pb F.netStat_COORD 0 false
    if s.plcaId = 0 then s1.setPlca false else s1

/-- The 48-bit address of a register pair, as its six bytes (08 R312). -/
def State.macOf (s : State) (hi lo : RegId) (i : Nat) : List Nat :=
  beBytes 2 ((s.rd hi i).toNat % 65536) ++ beBytes 4 (s.rd lo i).toNat
def State.mac (s : State) : List Nat := s.macOf .netMacHi .netMacLo 0

/-- Type code, domain, flags and counters of a ZSP message, with its payload (08 R280). -/
def zspBody (ty dom : Nat) (ackreq : Bool) (seq epoch rctr : Nat) (pay : List Nat) : List Nat :=
  [0x10 + ty, dom * 64 + (if ackreq then 32 else 0)] ++ beBytes 2 seq ++ beBytes 4 epoch ++ beBytes 6 rctr
    ++ beBytes 2 pay.length ++ pay

/-- The tag of a message of domain `dom`, from its destination address to its payload (08 R282). -/
def State.zspTag (s : State) (dom : Nat) (m : List Nat) : Nat :=
  cmac64 (s.slot (Fin.ofNat 4 (bitsN (s.rd .netKeysel).toNat (2 * dom) 2))).key m

/-- A new frame of domain `dom` to `dst`, from destination address to tag; its transmit counter advances (08 R289). -/
def State.newFrame (s : State) (ty dom : Nat) (ackreq : Bool) (seq : Nat) (dst pay : List Nat) : List Nat × State :=
  let c := kvD s.net.tx dom 0 + 1
  let m := dst ++ s.mac ++ beBytes 2 (s.g F.netEtype_ETYPE) ++ zspBody ty dom ackreq seq (s.rd .netEpoch).toNat c pay
  (m ++ beBytes 8 (s.zspTag dom m),
    s.modNet (fun n => { n with tx := kvSet n.tx dom c }))

/-- The time state changes (08 R304): 0 FREE, 1 ACQUIRING, 2 LOCKED, 3 HOLDOVER; entry into and exit from LOCKED set TCHG; TLOCK is
1 in LOCKED and in the master role. -/
def State.timeState (s : State) (st : Nat) : State :=
  let old := s.g F.netTstat_STATE
  let s1 := (s.p F.netTstat_STATE 0 st).pb F.netStat_TLOCK 0 (st == 2 || s.g F.netTimecfg_ROLE == 1)
  if old ≠ st && (old = 2 || st = 2) then s1.netFlag F.netStat_TCHG else s1

/-- A frame goes to the egress rack of domain `dom`; the network DMA waits with it where the rack is full or disabled (09 R329,
R335), and with each frame that the receive path answers meanwhile (log 41). -/
def State.egress (s : State) (dom : Nat) (frame : List Nat) : State :=
  let n := 8 + dom
  let d : Desc := { w0 := 3 + dom * 2 ^ 22, w1 := s.tick, body := frame }
  if s.rackEn n && !s.rackFull n then s.rackCommit n d
  else s.addWait { agent := 17, dom := dom, what := .push n d, start := s.tick, tmo := s.g F.waitTmo_AGT }

/-- Fields of a received frame, from destination address on (08 R280). -/
def zType (f : List Nat) : Nat := nth8 f 14 % 16
def zDom (f : List Nat) : Nat := nth8 f 15 / 64
def zAckreq (f : List Nat) : Bool := bitN (nth8 f 15) 5
def zSeq (f : List Nat) : Nat := beNat (sub8 f 16 2)
def zEpoch (f : List Nat) : Nat := beNat (sub8 f 18 4)
def zRctr (f : List Nat) : Nat := beNat (sub8 f 22 6)
def zPlen (f : List Nat) : Nat := beNat (sub8 f 28 2)
def zPay (f : List Nat) : List Nat := sub8 f 30 (zPlen f)
def zTag (f : List Nat) : Nat := beNat (sub8 f (30 + zPlen f) 8)

/-- Fields of the payloads of REGRD and REGWR (08 R291). -/
def pAddr (p : List Nat) : Nat := beNat (sub8 p 0 4)
def pCnt (p : List Nat) : Nat := beNat (sub8 p 4 2) % 128
def pFix (p : List Nat) : Bool := 128 ≤ nth8 p 4

/-- The answer to a message: an ACK or NAK on the egress rack, kept among the last 8 of its domain (08 R288, R292). -/
def State.answer (s : State) (f : List Nat) (code widx done : Nat) (data : List Nat) : State :=
  let dom := zDom f
  let r := s.newFrame 6 dom false (zSeq f) (sub8 f 6 6)
    ([zType f, code] ++ beBytes 2 widx ++ beBytes 2 done ++ data.flatMap (beBytes 4))
  let k : Kept := { rctr := zRctr f, seq := zSeq f, tag := zTag f, resp := r.1 }
  let s1 := r.2.modNet (fun n => { n with kept := kvSet n.kept dom (((kvD n.kept dom []) ++ [k]).reverse.take 8).reverse })
  s1.egress dom r.1

/-- The frame whose answer is due, where its type and ACKREQ ask for one (08 R292). -/
def State.answerIf (s : State) (f : List Nat) (code widx done : Nat) (data : List Nat) : State :=
  if zType f = 1 || zAckreq f || code ≠ 0 then s.answer f code widx done data else s

/-! ### The reference of the PLL (04 R108, R129) -/

/-- The condition for the crystal as the reference. -/
def State.refCond (s : State) : Bool :=
  s.b F.clkCfg_REFSEL && s.b F.clkCfg_XTALEN && s.b F.clkStat_XTALOK && !s.b F.clkStat_XTALFAIL

/-- The PLL switches its reference and slews, so that delay lines swap without their interval (13 R520); without the crystal the PHY
falls silent (04 R106, 08 R274). -/
def State.refSwitch (s : State) (crystal : Bool) : State :=
  let s1 := each strs (fun n s => s.swapIdle n) ((s.pb F.clkStat_REFACT 0 crystal).pb F.clkStat_SLEWING 0 true)
  if crystal then s1 else s1.phyStop

/-- Apply the condition, unless a slew is in progress: it completes first. -/
def State.refUpdate (s : State) : State :=
  if !s.running || !s.clk.fsys || s.b F.clkStat_SLEWING || s.b F.clkStat_REFACT == s.refCond then s
  else s.refSwitch s.refCond

/-- Words of data of a REGRD answer: those read, and 0 for the rest. -/
def padData (cnt : Nat) (l : List Nat) : List Nat := (upto cnt).map (fun i => l.getD i 0)

/-- A message in execution with words left is cut short (08 R294; 04 R116): its K-class values are discarded, and its descriptor is
retired as ABORTED. A REGWR answers with code 5 at the first word that was not executed; a REGRD, which is always answered (08 R292),
with its first failure, that word where it had none (08 R293). -/
def State.netCut (s : State) : State :=
  match s.net.job with
  | none => s
  | some j =>
    let n := pCnt (zPay j.body)
    if n ≤ j.i then s
    else
      let s1 := (((s.dropK .net).modNet (fun n => { n with job := none })).useSlot 17 j.dom).slotWait 17 j.dom false
      let s2 := s1.endPart 1
      let s3 := if zType j.body = 2 then s2.answer j.body 5 j.i j.done []
        else s2.answer j.body (if j.code = 0 then 5 else j.code) (if j.code = 0 then j.i else j.widx) j.done (padData n j.data)
      s3.retire (4 + j.dom) { w0 := 2 + j.dom * 2 ^ 22 } 2 0

end Sys2Proof.Machine
end

