-- ==== Sys2Proof/Machine/Power.lean ====
section
/-!
DEFINITION. Supplies, reset, the start-up sequence and standby (03), with the control inputs and GPIO of 02: the meanings
of the commands POWER_ON_RESET to WAKE_COMPLETE.
-/

namespace Sys2Proof.Machine

/-! ### What waits for fSYS (04 R113, R116; 03 R83; 18 R691) -/

/-- A supply flag of PWR_STAT is set, with IRQ89, from release on (03 R91); while fSYS is stopped, as in standby, it waits for it
(log 58). -/
def State.supplyFlag (s : State) (f : Fld) : State :=
  if s.running && s.clk.fsys then s.flagIrq f 0 89
  else if s.running || s.asleep then
    { s with pwr := { s.pwr with flags := s.pwr.flags ||| 2 ^ f.lo } }
  else s

/-- The flag of CLK_STAT that goes with a fault of a clock monitor, with IRQ90 (04 R110, R113). -/
def State.clkFlag (s : State) (n : Nat) : State :=
  match n with
  | 16 => s.flagIrq F.clkStat_XTALFAIL 0 90
  | 17 => s.flagIrq F.clkStat_PLLFAIL 0 90
  | 18 => s.flagIrq F.clkStat_PWMSTOP 0 90
  | 20 => s.flagIrq F.clkStat_LFRCFAIL 0 90
  | _ => s

/-- A fault of a clock monitor with its flag: both wait while fSYS is stopped (04 R113). -/
def State.clkFault (s : State) (n : Nat) : State := if s.clk.fsys then (s.clkFlag n).raise n else s.raise n

/-- A fault latched while fSYS was stopped is recorded, that of a clock monitor with its flag (04 R113, R116; 18 R691); a level that
has ended meanwhile leaves no bit set. -/
def State.takeLatched (s : State) (n chans : Nat) : State :=
  let s1 := (s.clkFlag n).raiseOn n chans
  if fltLevel n && !s1.flt.level.contains n then s1.endFault n else s1

/-- fSYS runs again: what was latched is recorded, faults first (18 R691). -/
def State.fsysBack (s : State) : State :=
  let s1 := { s with clk := { s.clk with fsys := true, latched := [] }, pwr := { s.pwr with flags := 0 } }
  let s2 := each s.clk.latched (fun p s => s.takeLatched p.1 p.2) s1
  each (upto 32) (fun k t => if bitN s.pwr.flags k then (t.setBits .pwrStat 0 (2 ^ k)).pendIrq 89 else t) s2

/-! ### Device resets -/

/-- The levels of the supplies outlast a device reset; AVDD stays in regulation on the warm path (03 R71). -/
def State.supplyLevels (s old : State) (warm : Bool) : State :=
  ((s.pb F.pwrStat_VBATLOW 0 (old.b F.pwrStat_VBATLOW)).pb F.pwrStat_VBATHI 0 (old.b F.pwrStat_VBATHI)).pb F.pwrStat_AVDDOK 0
    (warm && old.b F.pwrStat_AVDDOK)

/-- The defaults of NET_MAC that the identifier of the part gives (08 R312). -/
def macImg (uid : Nat) : List (Nat × Nat) :=
  if uid % 2 ^ 40 = 0 then [] else [(RegId.netMacHi.addr 0, 0x200 + uid / 2 ^ 32 % 256), (RegId.netMacLo.addr 0, uid % 2 ^ 32)]

/-- A write of the image store that a device reset ends spoils the header of its bank (03 R92; 10 R401). -/
def State.tornBanks (s : State) : Nat :=
  match s.store.job with
  | some j => if j.op = 1 || j.op = 4 then s.nv.torn ||| 2 ^ j.bank else s.nv.torn
  | none => s.nv.torn

/-- The shared part of every device reset (03 R74, R80): everything returns to its reset state but the queue, the free
source, the non-volatile contents, the pin levels, the die temperature, and the always-on registers, to which `cause` and `count` are added;
`spares` keeps the spare-row map and history, with the pass numbers it counts in (10 R384). -/
def State.deviceReset (s : State) (warm spares : Bool) (cause count : Nat) : State :=
  let s1 := { State.reset with
    pending := s.pending
    free := s.free
    regs := []
    nv := { s.nv with torn := s.tornBanks }
    img := macImg s.nv.uid
    mem := mramOnly s.mem
    ecc := s.ecc.filter (fun p => 0xC00000 ≤ p.1)
    spare := if spares then s.spare else State.reset.spare
    memc := { State.reset.memc with pass := if spares then s.memc.pass else [] }
    pins := { State.reset.pins with
      hen := s.pins.hen, tripn := s.pins.tripn, trigin := s.pins.trigin, fsync := s.pins.fsync
      wake := s.pins.wake, csnLow := s.pins.csnLow, energy := s.pins.energy
      gpio := s.pins.gpio, test := s.pins.test, vddio := s.pins.vddio }
    pwr := { State.reset.pwr with warm := warm }
    flt := { State.reset.flt with hot := s.flt.hot, thermal := s.flt.thermal } }
  let s2 := s1.wr .rstCause 0 (BitVec.ofNat 32 cause)
  let s3 := (s2.wr .dwdtStat 0 (BitVec.ofNat 32 (satN 255 count))).supplyLevels s warm
  (s3.lcStartup).newEpoch

/-- POWER_ON_RESET (03 R64, R74, R81): every bit of RST_CAUSE is cleared and POR set, DWDT_STAT is 0; power-on path. -/
def execPowerOnReset (s : State) : Host.Outcome State Fault Refusal :=
  .next (s.deviceReset false false 1 0)

/-- BROWN_OUT (03 R67, R74, R81): BOR is added; power-on path. -/
def execBrownOut (s : State) : Host.Outcome State Fault Refusal :=
  .next (s.deviceReset false false ((s.rd .rstCause).toNat ||| 2) (s.g F.dwdtStat_COUNT))

/-- VBAT_BELOW_VRET (03 R64): nothing runs below VBOR; the always-on registers are cleared. -/
def execVbatBelowVret (s : State) : Host.Outcome State Fault Refusal :=
  let s1 := s.deviceReset false false 0 0
  .next { s1 with pwr := { s1.pwr with mode := .off } }

/-- RESETN_ASSERT (02 R40, 03 R75): the outputs take their RESETN low state and stay so until RESETN goes high; PIN is
added to RST_CAUSE. Ignored where nothing is powered, and in standby, where RESETN is ignored (02 R36, R37). -/
def execResetnAssert (s : State) : Host.Outcome State Fault Refusal :=
  match s.pwr.mode with
  | .off | .standby _ => .next s
  | _ =>
    let s1 := s.deviceReset true true ((s.rd .rstCause).toNat ||| 4) (s.g F.dwdtStat_COUNT)
    .next { s1 with pwr := { s1.pwr with mode := .resetLow }, pins := { s1.pins with resetnLow := false } }

/-- Tick 0 of the warm path (03 R71): the rails and VREF stay in regulation, the HSEL pull-up connects, the HFRC starts. -/
def State.warmStart (s : State) : State :=
  { s with
    pwr := { s.pwr with mode := .startup, warm := true, lfrc := true, rails := true, vref := true }
    pins := { s.pins with resetnLow := true, hselPull := true } }

/-- RESETN_RELEASE (03 R71, R75): the start-up sequence runs on the warm path. -/
def execResetnRelease (s : State) : Host.Outcome State Fault Refusal :=
  .next (if s.pwr.mode == .resetLow then (s.warmStart).pb F.pwrStat_VREFOK 0 true else s)

/-- DEVICE_WATCHDOG_RESET (03 R76): no heartbeat for 8 ms after release; DWDT is added, DWDT_STAT counts, the warm path
follows the 100 us for which RESETN is driven low. -/
def execDeviceWatchdogReset (s : State) : Host.Outcome State Fault Refusal :=
  if s.running then
    .next ((s.deviceReset true true ((s.rd .rstCause).toNat ||| 8) (s.g F.dwdtStat_COUNT + 1)).warmStart.pb
      F.pwrStat_VREFOK 0 true)
  else .next s

/-- STARTUP_OVERDUE (03 R76): release has not come within 20 ms of tick 0; DWDT and STARTFAIL are added. -/
def execStartupOverdue (s : State) : Host.Outcome State Fault Refusal :=
  if s.pwr.mode == .startup then
    .next ((s.deviceReset true true ((s.rd .rstCause).toNat ||| 24) (s.g F.dwdtStat_COUNT + 1)).warmStart.pb
      F.pwrStat_VREFOK 0 true)
  else .next s

/-- DWDT_HEARTBEAT (03 R76): the 1 ms heartbeat of the core logic restarts the device-watchdog count; it comes only while
fSYS runs after release. -/
def execDwdtHeartbeat (s : State) : Host.Outcome State Fault Refusal :=
  .next (if s.running && s.clk.fsys then { s with pwr := { s.pwr with dwStart := s.tick } } else s)

/-- The HSELRAW windows (02 R44): HSELCODE and HSELVALID. -/
def hselDecode (raw : Nat) : Nat × Bool :=
  if raw < 5 then (0, false) else if raw < 20 then (0, true) else if raw < 38 then (1, true)
  else if raw < 62 then (2, true) else if raw < 88 then (3, true) else if raw < 117 then (4, true)
  else if raw < 152 then (5, true) else if raw < 187 then (6, true) else if raw < 226 then (7, true) else (0, false)

/-- HSEL_MEASUREMENT_DONE (02 R43, R44): HSELRAW is latched and decoded, the pull-up disconnected; FLT7 without a code. -/
def execHselMeasurementDone (raw : Byte) (s : State) : Host.Outcome State Fault Refusal :=
  if s.pwr.mode == .startup && s.pwr.lfrc && !s.pwr.hsel then
    let c := hselDecode raw.toNat
    let s1 := ((s.p F.pinStrap_HSELRAW 0 raw.toNat).p F.pinStrap_HSELCODE 0 c.1).pb F.pinStrap_HSELVALID 0 c.2
    let s2 := { s1 with pwr := { s1.pwr with hsel := true }, pins := { s1.pins with hselPull := false } }
    .next (if c.2 then s2 else s2.raise 7)
  else .next s

/-- LFRC_STABLE (03 R68, tick 50): the always-on controller runs, the HSEL pull-up connects. -/
def execLfrcStable (s : State) : Host.Outcome State Fault Refusal :=
  .next (if s.pwr.mode == .startup && !s.pwr.lfrc then
    { s with pwr := { s.pwr with lfrc := true }, pins := { s.pins with hselPull := true } } else s)

/-- VDD11_AVDD_IN_REGULATION (03 R68, tick 300): the HFRC starts and VREF is enabled. AVDDOK is 1 while AVDD is in
regulation (03 R93). -/
def execVdd11AvddInRegulation (s : State) : Host.Outcome State Fault Refusal :=
  .next (if s.pwr.mode == .startup && s.pwr.lfrc then
    { s.pb F.pwrStat_AVDDOK 0 true with pwr := { s.pwr with rails := true } } else s)

/-- HFRC_STABLE (03 R68, tick 320): the fuse load starts. -/
def execHfrcStable (s : State) : Host.Outcome State Fault Refusal :=
  .next (if s.pwr.mode == .startup && s.pwr.rails then { s with pwr := { s.pwr with hfrc := true } } else s)

/-- FUSE_LOAD_DONE (03 R68, tick 350; 10 R380): column repair and trims apply, the PLL starts on the HFRC. The columns in
use are those the fuses hold (MEM_BANKb.FUSECOL reads them). -/
def execFuseLoadDone (s : State) : Host.Outcome State Fault Refusal :=
  .next (if s.pwr.mode == .startup && s.pwr.hfrc then { s with pwr := { s.pwr with fuses := true } } else s)

/-- PLL_LOCK (03 R68, tick 450): fSYS and fPWM run, what waited for fSYS is recorded, key slots load into the larder key area (19 R719), proof cycles start
(13 R519); on the warm path the ADC self-calibration starts (03 R71). -/
def execPllLock (s : State) : Host.Outcome State Fault Refusal :=
  if s.pwr.mode == .startup && s.pwr.fuses && !s.pwr.pll then
    let s1 := (s.pb F.clkStat_PLLLOCK 0 true)
    let s2 := { s1 with pwr := { s1.pwr with pll := true } }.fsysBack
    let s3 := s2.loadKeySlots.startProofs
    .next (if s3.pwr.vref then s3.startAdcCal else s3)
  else .next s

/-- SRAM_INIT_DONE (10 R385): every word of every bank, of the larder and of rack RAM is 0; the crumb sweep starts. The
key area holds the keys of the LOADED slots (19 R719). -/
def execSramInitDone (s : State) : Host.Outcome State Fault Refusal :=
  if s.pwr.mode == .startup && s.pwr.pll && s.clk.fsys && !s.pwr.sram then
    .next { s with pwr := { s.pwr with sram := true }, mem := mramOnly s.mem
                   ecc := s.ecc.filter (fun p => 0xC00000 ≤ p.1)
                   memc := { s.memc with began := s.tick } }
  else .next s

/-- VREF_SETTLED (03 R68, tick 700): VREFOK; on the power-on path the self-calibrations start together. -/
def execVrefSettled (s : State) : Host.Outcome State Fault Refusal :=
  if s.pwr.mode == .startup && s.pwr.rails && !s.pwr.vref then
    let s1 := { s.pb F.pwrStat_VREFOK 0 true with pwr := { s.pwr with vref := true } }
    .next (if s1.pwr.pll then s1.startAdcCal else s1)
  else .next s

/-- The conditions of level faults that hold at release (18 R683, latch L). -/
def State.heldLevels (s : State) : State :=
  let on (c : Bool) (n : Nat) (s : State) : State := if c then s.levelOn n else s
  on s.flt.thermal 21 <| on s.flt.hot 15 <| on (!s.b F.pwrStat_AVDDOK) 6 (on (!s.pins.vddio) 5 (on (s.b F.pwrStat_VBATHI) 3 (on (s.b F.pwrStat_VBATLOW) 2 s)))

/-- RELEASE (03 R70), in one fSYS tick: RESETN released, INTA and INTB routed, HEN and TEST sampled, VCC5 enabled, the host
watchdog armed, the slice timer started with a boundary at release, BOOTDONE and BOOT_TIME written. It comes after image
load (or verification, when no bank is valid) and both self-calibrations; `usec` is the time since tick 0 (log 86). The spec gives factory
test no behaviour: the model shows that it is on and runs as without it (log 59). -/
def execRelease (test : Bool) (s : State) (usec : Word := 0) : Host.Outcome State Fault Refusal :=
  if s.pwr.mode == .startup && s.pwr.verified && (s.pwr.loaded || s.b F.pwrStat_NOIMG) && s.pwr.calA && s.pwr.calB
      && s.pwr.hsel && s.pwr.sram && s.clk.fsys then
    let man := s.lcState == 0
    let s1 := { s with
      pwr := { s.pwr with mode := .run, hwRun := s.b F.hwdtCfg_EN, hwMs := s.g F.hwdtCfg_TIMEOUT, hwStart := s.tick, dwStart := s.tick }
      pins := { s.pins with resetnLow := false, intRouted := true, vcc5On := true, test := test
                            factory := test && man } }
    let s2 := ((s1.pb F.pwrStat_BOOTDONE 0 true).pb F.pinStrap_HENRST 0 s1.pins.hen).pb F.pinStrap_TESTHI 0 test
    let s3 := s2.p F.bootTime_USEC 0 (satN 65535 usec.toNat)
    .next ((s3.timeState (s3.g F.netTstat_STATE)).heldLevels.proofsAtRelease.refUpdate.hearthCause.sliceAtRelease)
  else .next s

/-- VCC5OK takes a value (02 R39, 03 R91; 18 R683): VCC5F, and FLT4 while it is 0, count only once it has first been 1 after release. -/
def State.vcc5Set (s : State) (ok : Bool) : State :=
  let s1 := s.pb F.pwrStat_VCC5OK 0 ok
  let s2 := { s1 with pwr := { s1.pwr with vcc5Seen := s1.pwr.vcc5Seen || (ok && s1.running) } }
  let s3 := if s.pwr.vcc5Seen then s2.supplyFlag F.pwrStat_VCC5F else s2
  (if ok then s3.levelOff 4 else if s.pwr.vcc5Seen then s3.levelOn 4 else s3).outputs

/-- VCC5_IN_REGULATION (03 R68, R91): VCC5OK becomes 1 after release, and again after a standby in which VCC5 was off. -/
def execVcc5InRegulation (s : State) : Host.Outcome State Fault Refusal :=
  .next (if s.running && s.pins.vcc5On && !s.b F.pwrStat_VCC5OK then s.vcc5Set true else s)

/-- VBAT_LOW_CHANGE (03 R65, R91): VBATLOW and VBATLOWF; FLT2 while it holds. -/
def execVbatLowChange (low : Bool) (s : State) : Host.Outcome State Fault Refusal :=
  if s.b F.pwrStat_VBATLOW == low then .next s
  else
    let s1 := (s.pb F.pwrStat_VBATLOW 0 low).supplyFlag F.pwrStat_VBATLOWF
    .next (if low then s1.levelOn 2 else s1.levelOff 2)

/-- VBAT_HIGH_CHANGE (03 R65, R91): VBATHI and VBATHIF; FLT3 while it holds. -/
def execVbatHighChange (high : Bool) (s : State) : Host.Outcome State Fault Refusal :=
  if s.b F.pwrStat_VBATHI == high then .next s
  else
    let s1 := (s.pb F.pwrStat_VBATHI 0 high).supplyFlag F.pwrStat_VBATHIF
    .next (if high then s1.levelOn 3 else s1.levelOff 3)

/-- VCC5_UV_CHANGE (02 R39, 03 R67, R91): VCC5OK changes while the regulator is on; the gate drivers are Hi-Z below the lockout. -/
def execVcc5UvChange (ok : Bool) (s : State) : Host.Outcome State Fault Refusal :=
  .next (if s.b F.pwrStat_VCC5OK == ok || !s.pins.vcc5On then s else s.vcc5Set ok)

/-- AVDD_CHANGE (03 R91, 18 R683): AVDDOK and AVDDF; a loss after release raises FLT6. AVDD is off in standby (03 R63). -/
def execAvddChange (ok : Bool) (s : State) : Host.Outcome State Fault Refusal :=
  if s.b F.pwrStat_AVDDOK == ok || s.asleep then .next s
  else
    let s1 := (s.pb F.pwrStat_AVDDOK 0 ok).supplyFlag F.pwrStat_AVDDF
    .next (if ok then s1.levelOff 6 else if s.running then s1.levelOn 6 else s1)

/-- VDDIO_LOSS (02 R49, 03 R91): the inputs read inactive, an SPI transfer in progress is discarded; VDDIOF, FLT5. -/
def execVddioLoss (s : State) : Host.Outcome State Fault Refusal :=
  if s.pins.vddio then
    let s1 := { s with pins := { s.pins with vddio := false, hen := true, tripn := true, trigin := false, fsync := false, csnLow := false, gpio := 0 } }
    .next (((s1.supplyFlag F.pwrStat_VDDIOF).levelOn 5).hearthCause)
  else .next s

/-- VDDIO_GOOD (03 R91): VDDIOOK becomes 1; VDDIOF. Each input keeps its inactive level until a command brings the level that the
board gives it (log 56). -/
def execVddioGood (s : State) : Host.Outcome State Fault Refusal :=
  if s.pins.vddio then .next s
  else
    let s1 := { s with pins := { s.pins with vddio := true } }
    .next ((s1.supplyFlag F.pwrStat_VDDIOF).levelOff 5)

/-- HEN_REQUEST (02 R48): HEN is recognised low, or returns high; the HEN hearth cause follows it after release. -/
def execHenRequest (low : Bool) (s : State) : Host.Outcome State Fault Refusal :=
  .next (if s.pins.vddio then { s with pins := { s.pins with hen := !low } }.hearthCause else s)

/-- GPIO_EDGE (02 R52): GPIOn takes a new level; a selected edge of an input pin sets its flag, with IRQ21. -/
def execGpioEdge (n : Fin 6) (rising : Bool) (s : State) : Host.Outcome State Fault Refusal :=
  if !s.pins.vddio then .next s
  else
    let s1 := { s with pins := { s.pins with gpio := putN s.pins.gpio n.val 1 (if rising then 1 else 0) } }
    let e := s.g F.gpioCfg_EDGE n.val
    let sel := s.g F.gpioCfg_FUNC n.val == 0 && (if rising then bitN e 0 else bitN e 1)
    .next (if s.running && s.clk.fsys && sel && bitN s.pins.gpio n.val != rising then
      (s1.setBits .gpioEdge 0 (2 ^ n.val)).pendIrq 21 else s1)

/-- A valid service came in the present LFRC period, 5000 ticks at most (03 R92; log 60). -/
def State.justServed (s : State) : Bool := s.pwr.hwSvc.any (fun t => s.tick < t + 5000)

/-- HOST_WATCHDOG_EXPIRY (03 R77): EXPIRED, the count stops, FLT0, hearth entry is requested; a service in the same LFRC period wins
(03 R92). -/
def execHostWatchdogExpiry (s : State) : Host.Outcome State Fault Refusal :=
  if s.running && s.pwr.hwRun && !s.frozen 10 && !s.justServed then
    let st := s.g F.hearthStat_STATE
    let s1 := { s with
      pwr := { s.pwr with hwRun := false }
      hearth := { s.hearth with wdtLate := s.hearth.wdtLate || (st = 1 || st = 2) } }
    .next (((s1.flagIrq F.hwdtStat_EXPIRED 0 93).raise 0).hearthCause)
  else .next s

/-! ### Host watchdog (03 R77, R78, R88) -/

/-- fSYS ticks of the present count; it holds in a debug freeze and in standby (20 R759; 03 R88). -/
def State.hwElapsed (s : State) : Nat :=
  s.pwr.hwHeld + (if s.running && !s.frozen 10 then s.tick - s.pwr.hwStart else 0)

/-- HWDT_STAT.REMAIN: whole milliseconds left (03 R101). -/
def State.hwRemain (s : State) : Nat := if s.pwr.hwRun then s.pwr.hwMs - s.hwElapsed / 160000 else 0

/-- A count of the host watchdog starts. -/
def State.hwStart (s : State) : State :=
  { s with pwr := { s.pwr with hwRun := true, hwMs := s.g F.hwdtCfg_TIMEOUT, hwStart := s.tick, hwHeld := 0 } }

/-- A write of HWDT_SVC takes effect: service from a host port, BADSVC with FLT1 for another code. -/
def State.hwService (s : State) (p : Port) (code : Nat) : State :=
  if code = 0xC3 then
    if (p = .spi || p = .net) && s.b F.hwdtCfg_EN then
      { s.hwStart with pwr := { s.hwStart.pwr with hwSvc := some s.tick } }
    else s
  else (s.flagIrq F.hwdtStat_BADSVC 0 93).raise 1

/-! ### Standby (03 R82-R88) -/

/-- A string channel or the scan grid has an active enable. -/
def State.anyEnabled (s : State) : Bool := strs.any (fun i => s.strWanted i || s.strActive i) || s.gridActive

/-- A wake source enabled for standby state `k` is active now (03 R82, R84, R85): WAKE, CSN, which is low in the frame that carries a
command of the SPI port (log 61), or energy on the segment; the wake timer counts from standby entry on. -/
def State.wakeActive (s : State) (p : Port) (k : Standby) : Bool :=
  (s.pins.wake && (k == .deep || s.b F.pwrWakecfg_PINEN))
    || (k != .deep && s.b F.pwrWakecfg_CSNEN && s.pins.vddio && (s.pins.csnLow || p == .spi))
    || (k == .network && s.pins.energy)

/-- A write of PWR_CMD by port `p` takes effect (03 R82). Of several reasons to refuse it the first of a bad command, the backup clock
(04 R112), hearth mode or an enable, a wake source, and the coordinator is given; an accepted one replaces an entry that
waits, which a refused one leaves (log 62). -/
def State.pwrCommand (s : State) (p : Port) (w : Nat) : State :=
  let k : Option Standby := match bitsN w 0 3 with
    | 1 => some .deep
    | 2 => some .retention
    | 3 => some .network
    | _ => none
  match k with
  | none => s.refuse 1
  | some k =>
    if bitsN w 8 8 ≠ 0xC7 then s.refuse 1
    else if s.b F.clkStat_AONBK then s.refuse 6
    else if s.hearthOn || s.hearth.due || s.anyEnabled then s.refuse 2
    else if s.wakeActive p k then s.refuse 3
    else if k = .network && s.b F.netStat_COORD then s.refuse 4
    else { s with pwr := { s.pwr with entry := some k } }

/-- Nothing is in flight and no image-store write is in progress (03 R83 step 1). -/
def State.quiet (s : State) : Bool :=
  s.posted.isEmpty && s.rack.copy.isNone && s.net.job.isNone && !s.b F.imgStat_BUSY

/-- What standby entry ends: the D0 session (07 R260) and a pending swap, with RESULT = 10 (10 R401). -/
def State.standbyEnds (s : State) : State :=
  let s1 := s.sessionEnd
  if s1.b F.imgStat_SWAPPEND then (s1.pb F.imgStat_SWAPPEND 0 false).imgEnd 10 else s1

/-- STANDBY_ENTRY (03 R83 steps 1 to 4): the clocks stop and the rails switch, AVDD, VREF and VCC5 off (03 R63); a hearth entry that
is due wins (03 R92). -/
def execStandbyEntry (s : State) : Host.Outcome State Fault Refusal :=
  match s.pwr.entry with
  | some k =>
    if !s.running || !s.quiet then .next s
    else if s.hearthOn || s.hearth.due then .next ({ s with pwr := { s.pwr with entry := none } }.refuse 2)
    else
      let held := s.hwElapsed
      let s1 := (s.standbyEnds.phyStop.pb F.clkStat_PLLLOCK 0 false).pb F.clkStat_REFACT 0 false
      let s2 := (s1.pb F.clkStat_SLEWING 0 false).clrBits .pwrStat 0 (7 * 2 ^ 4)
      .next ({ s2 with
        pwr := { s2.pwr with mode := .standby k, entry := none, hwHeld := held, hwSvc := none, wake := 0
                             levels := (s.rd .pwrStat).toNat, lfrcDead := false, rails := false, vref := false }
        clk := { s2.clk with fsys := false }
        pins := { s2.pins with intRouted := false, vcc5On := false } }.outputs)
  | none => .next s

/-- STANDBY_ENTRY_TIMEOUT (03 R83 step 1): 1 ms has passed; REFUSE = 5, or 2 where hearth entry has met the standby entry (03 R92). -/
def execStandbyEntryTimeout (s : State) : Host.Outcome State Fault Refusal :=
  .next (if s.pwr.entry.isSome then
    { s with pwr := { s.pwr with entry := none } }.refuse (if s.hearthOn || s.hearth.due then 2 else 5) else s)

/-- A wake source, by its bit of PWR_WAKESRC, becomes active; `deep` and `ret` say whether it wakes from deep standby and from
retention standby, `net` from network-wake standby (03 R84, R85, R92). One that becomes active anywhere in the wake delay sets its bit too
(log 63). -/
def State.wakeBy (s : State) (bit : Nat) (deep ret net : Bool) : State :=
  let wakes (k : Standby) : Bool := match k with
    | .deep => deep
    | .retention => ret
    | .network => net
  let on (s : State) : State := { s with pwr := { s.pwr with wake := s.pwr.wake ||| 2 ^ bit } }
  match s.pwr.mode with
  | .standby k =>
    if !wakes k then s
    else if k = .deep then s.deviceReset false false ((s.rd .rstCause).toNat ||| 32) (s.g F.dwdtStat_COUNT)
    else on { s with pwr := { s.pwr with mode := .waking k } }
  | .waking k => if wakes k then on s else s
  | .run =>
    match s.pwr.entry with
    | some k => if wakes k then { s with pwr := { s.pwr with entry := none } }.refuse 3 else s
    | none => s
  | _ => s

/-- WAKE_PIN (03 R85): WAKE is recognised high, which is a wake source, or is low again. -/
def execWakePin (s : State) (high : Bool := true) : Host.Outcome State Fault Refusal :=
  let e := s.b F.pwrWakecfg_PINEN
  let s1 := { s with pins := { s.pins with wake := high } }
  .next (if high then s1.wakeBy 0 true e e else s1)

/-- WAKE_TIMER_EXPIRY (03 R85): a count of 0 never expires, nor does one whose LFRC has failed (04 R129). -/
def execWakeTimerExpiry (s : State) : Host.Outcome State Fault Refusal :=
  let e := s.b F.pwrWakecfg_TMREN && s.g F.pwrWktmr_COUNT != 0 && !s.pwr.lfrcDead
  .next (s.wakeBy 1 false e e)

/-- CSN_WAKE (03 R85): CSN stays low until its frame ends; the SPI transfer that it starts is discarded where it wakes the X648. -/
def execCsnWake (s0 : State) : Host.Outcome State Fault Refusal :=
  let e := s0.b F.pwrWakecfg_CSNEN && s0.pins.vddio && !s0.pwr.lfrcDead
  let s := if s0.pins.vddio then { s0 with pins := { s0.pins with csnLow := true } } else s0
  let s1 := s.wakeBy 2 false e e
  .next (if e && (match s1.pwr.mode with | .waking _ => true | _ => false) then
    { s1 with spi := { s1.spi with wakeDiscard := true } } else s1)

/-- ENERGY_DETECT (03 R85): activity on the segment is a wake source of network-wake standby. -/
def execEnergyDetect (s : State) (on : Bool := true) : Host.Outcome State Fault Refusal :=
  let s1 := { s with pins := { s.pins with energy := on } }
  .next (if on then s1.wakeBy 3 false false (!s.pwr.lfrcDead) else s1)

/-- WAKE_COMPLETE (03 R86-R88): the PLL has relocked on the HFRC and AVDD and VREF are back; VCC5 starts again (log 64). Device time
advances by the LFRC periods of the standby, the host watchdog counts on, PWR_WAKESRC and IRQ88; what came up in standby is
recorded; a follower is ACQUIRING and its judged exchanges count anew (08 R277, R304); the sweep begins every bank again (10 R386); a HEN low
taken meanwhile asks for hearth entry (02 R48). -/
def execWakeComplete (periods : Word) (s : State) : Host.Outcome State Fault Refusal :=
  match s.pwr.mode with
  | .waking _ =>
    let s0 := s.setBits .pwrStat 0 (s.pwr.levels &&& 3 * 2 ^ 5)
    let s1 := { s0 with
      pwr := { s.pwr with mode := .run, hwStart := s.tick, dwStart := s.tick, rails := true, vref := true, lfrcDead := false }
      pins := { s.pins with intRouted := true, vcc5On := true }
      time := s.time + 5000 * periods.toNat }
    let s2 := (s1.fsysBack.pb F.clkStat_PLLLOCK 0 true).setBits .pwrWakesrc 0 s.pwr.wake
    let s3 := { if s2.g F.netTimecfg_ROLE = 0 then s2.timeState 1 else s2 with memc := { s2.memc with ptr := [] } }
    let s4 := ((if s3.plcaId = 0 then s3 else s3.setPlca false).modNet (fun n => { n with good := 0, beacon := none }))
    .next (s4.pendIrq 88).refUpdate.hearthCause.outputs.sliceAtWake
  | _ => .next s

end Sys2Proof.Machine
end

