-- ==== Sys2Proof/Machine/Clock.lean ====
section
/-!
DEFINITION. Clock selection, the clock monitors and the clock-stop release (04 R107-R116): the meanings of the commands
XTAL_QUALIFIED to LFRC_FAIL.
-/

namespace Sys2Proof.Machine

/-- XTAL_QUALIFIED (04 R107): the qualification in progress ends with XTALOK; the reference condition of 04 R108 is applied. -/
def execXtalQualified (s : State) : Host.Outcome State Fault Refusal :=
  .next (if s.clk.qual then ({ s with clk := { s.clk with qual := false } }.pb F.clkStat_XTALOK 0 true).refUpdate else s)

/-- XTAL_QUALIFY_TIMEOUT (04 R107): the qualification in progress has failed (log 65): XTALFAIL with IRQ90, FLT16. -/
def execXtalQualifyTimeout (s : State) : Host.Outcome State Fault Refusal :=
  .next (if s.clk.qual then { s with clk := { s.clk with qual := false } }.clkFault 16 else s)

/-- REFERENCE_SLEW_DONE (04 R108, R129): SLEWING returns to 0; a condition that changed meanwhile is applied as a fresh
switch. -/
def execReferenceSlewDone (s : State) : Host.Outcome State Fault Refusal :=
  .next (if s.b F.clkStat_SLEWING then (s.pb F.clkStat_SLEWING 0 false).refUpdate else s)

/-- CRYSTAL_MONITOR_FAIL (04 R110, R129): XTALFAIL with IRQ90, FLT16; a reference that is the crystal returns to the HFRC at once,
reversing a slew towards the crystal, and the PHY goes silent. The crystal is no longer qualified (log 13). -/
def execCrystalMonitorFail (s : State) : Host.Outcome State Fault Refusal :=
  if s.running && s.clk.fsys && s.b F.clkStat_XTALOK then
    let s1 := (s.pb F.clkStat_XTALOK 0 false).clkFault 16
    .next (if s.b F.clkStat_REFACT then s1.refSwitch false else s1)
  else .next s

/-- A clock-stop release (04 R115, R116): gates Hi-Z, rows and sinks off, fSYS stopped, the PLL restarted on the HFRC, SPI
and ZSP transfers in progress discarded, with the class-K values and partial descriptors they carried; the fault waits for
fSYS. -/
def State.clockStop (s : State) (flt : Nat) : State :=
  let s1 := ((s.pb F.clkStat_PLLLOCK 0 false).pb F.clkStat_REFACT 0 false).pb F.clkStat_SLEWING 0 false
  let s2 := { s1 with clk := { s1.clk with fsys := false, release := true, relocked := false } }.latchFault flt 0
  let s3 := (s2.phyStop.netCut.modNet (fun n => { n with rx := [] })).unstage (fun e => e.cls == 3 && e.port == .spi && e.await.isSome)
  (s3.endPart 0).outputs

/-- The PLL loses lock, or a low frequency count is treated so (04 R110): after release a clock-stop release with FLT17;
before release the start-up sequence stalls (04 R114). -/
def State.pllLost (s : State) : State :=
  if s.running then s.clockStop 17
  else if s.pwr.mode == .startup && s.clk.fsys then
    { s.pb F.clkStat_PLLLOCK 0 false with clk := { s.clk with fsys := false } }
  else s

/-- PLL_UNLOCK (04 R110, R115). -/
def execPllUnlock (s : State) : Host.Outcome State Fault Refusal := .next s.pllLost

/-- FPWM_STOP (04 R110, R114, R115): a clock-stop release with FLT18; disarmed before release and in standby. -/
def execFpwmStop (s : State) : Host.Outcome State Fault Refusal :=
  .next (if s.running then s.clockStop 18 else s)

/-- PLL_RELOCK (04 R116): fSYS runs again, latched faults are recorded first, running generators start new periods; the
outputs stay off until the next slice boundary. -/
def execPllRelock (s : State) : Host.Outcome State Fault Refusal :=
  if s.clk.fsys then .next s
  else if s.clk.release then
    let s1 := { s.pb F.clkStat_PLLLOCK 0 true with clk := { s.clk with relocked := true } }
    .next (s1.fsysBack.pwmRelock.refUpdate)
  else if s.pwr.mode == .startup && s.pwr.pll then
    .next (s.pb F.clkStat_PLLLOCK 0 true).fsysBack
  else .next s

/-- FREQUENCY_WINDOW_END (04 R110, R133): the monitor, which runs in fSYS from release on (log 85), gives CLK_FMEAS the count, 0 while
AONBK = 1; below 120 000 acts as PLL unlock, above 200 000 is a clock tamper. -/
def execFrequencyWindowEnd (count : BitVec 20) (s : State) : Host.Outcome State Fault Refusal :=
  if !s.running || !s.clk.fsys then .next s
  else if s.b F.clkStat_AONBK then .next (s.p F.clkFmeas_COUNT 0 0)
  else
    let s1 := s.p F.clkFmeas_COUNT 0 count.toNat
    if count.toNat < 120000 then .next s1.pllLost
    else if 200000 < count.toNat then .next (s1.tamper 19)
    else .next s1

/-- CLOCK_GLITCH (04 R110, R111): FLT19, a tamper event. -/
def execClockGlitch (s : State) : Host.Outcome State Fault Refusal :=
  .next (if s.running && s.clk.fsys then s.tamper 19 else s)

/-- LFRC_FAIL (04 R110, R112, R129): the monitor, which runs in fSYS, moves the always-on controller to HFRC / 625, with AONBK,
LFRCFAIL with IRQ90 and FLT20; CLK_FMEAS then reads 0 (04 R133). In a standby state only the WAKE pin wakes the X648 from then on. -/
def execLfrcFail (s : State) : Host.Outcome State Fault Refusal :=
  .next (match s.pwr.mode with
    | .standby _ => { s with pwr := { s.pwr with lfrcDead := true } }
    | _ => if s.running && s.clk.fsys && !s.b F.clkStat_AONBK then
        ((s.pb F.clkStat_AONBK 0 true).p F.clkFmeas_COUNT 0 0).clkFault 20 else s)

end Sys2Proof.Machine
end

