-- ==== Sys2Proof/Decode.lean ====
section
/-!
DEFINITION. The recipe instruction words of the pattern engines (12 R464-R470): what a word stands for, or nothing where it takes
the ILLEGAL exception (12 R467), and the word of an instruction. The opcode table gives no command bits, so no word spells a
command to the X648.
-/

namespace Sys2Proof

/-! ### Fields of a word (12 R466) -/

/-- RD, RA and RB. -/
def rdOf (n : Nat) : Reg := Fin.ofNat 16 (n / 2 ^ 20)
def raOf (n : Nat) : Reg := Fin.ofNat 16 (n / 2 ^ 16)
def rbOf (n : Nat) : Reg := Fin.ofNat 16 (n / 2 ^ 12)

/-- IMM, and its low five bits. -/
def immOf (n : Nat) : BitVec 16 := BitVec.ofNat 16 n
def shOf (n : Nat) : BitVec 5 := BitVec.ofNat 5 n

/-- COND and OFS of format B. -/
def condOf (n : Nat) : BitVec 4 := BitVec.ofNat 4 (n / 2 ^ 20)
def ofsOf (n : Nat) : BitVec 20 := BitVec.ofNat 20 n

/-- IDX, W and TMO of format Q. -/
def idxOf (n : Nat) : Fin 32 := Fin.ofNat 32 (n / 2 ^ 15)
def waitOf (n : Nat) : Bool := n / 2 ^ 14 % 2 == 1
def tmoOf (n : Nat) : BitVec 14 := BitVec.ofNat 14 n

/-- An instruction, where the fields that must be 0 are and no field holds a reserved value. -/
def legal (b : Bool) (i : Instr) : Option Instr := if b then some i else none

/-- RB and [11:0], RD, RA are 0. -/
def low12 (n : Nat) : Bool := n % 2 ^ 12 == 0
def rb0 (n : Nat) : Bool := n % 2 ^ 16 == 0
def rd0 (n : Nat) : Bool := n / 2 ^ 20 % 16 == 0
def ra0 (n : Nat) : Bool := n / 2 ^ 16 % 16 == 0
def imm5 (n : Nat) : Bool := n / 2 ^ 5 % 2 ^ 11 == 0

/-- KIND and SEL of format E name an event (12 R492). -/
def evOk (kind sel : Nat) : Bool := if kind = 0 then sel ≤ 95 else if kind = 1 then sel ≤ 31 else sel == 0

/-- The instruction of engine `e` with opcode `op` in the word `n` (12 R470). -/
def decodeOp (e : Fin 4) (op n : Nat) : Option Instr :=
  match op with
  | 0x01 => legal (low12 n) (.add e (rdOf n) (raOf n) (rbOf n))
  | 0x02 => legal (low12 n) (.sub e (rdOf n) (raOf n) (rbOf n))
  | 0x03 => legal (low12 n) (.and e (rdOf n) (raOf n) (rbOf n))
  | 0x04 => legal (low12 n) (.or e (rdOf n) (raOf n) (rbOf n))
  | 0x05 => legal (low12 n) (.xor e (rdOf n) (raOf n) (rbOf n))
  | 0x06 => legal (low12 n) (.shl e (rdOf n) (raOf n) (rbOf n))
  | 0x07 => legal (low12 n) (.shr e (rdOf n) (raOf n) (rbOf n))
  | 0x08 => legal (low12 n) (.sar e (rdOf n) (raOf n) (rbOf n))
  | 0x09 => legal (low12 n) (.mul e (rdOf n) (raOf n) (rbOf n))
  | 0x0A => legal (low12 n) (.mulq e (rdOf n) (raOf n) (rbOf n))
  | 0x0B => legal (low12 n) (.min e (rdOf n) (raOf n) (rbOf n))
  | 0x0C => legal (low12 n) (.max e (rdOf n) (raOf n) (rbOf n))
  | 0x0D => legal (low12 n) (.adds e (rdOf n) (raOf n) (rbOf n))
  | 0x0E => legal (low12 n) (.subs e (rdOf n) (raOf n) (rbOf n))
  | 0x0F => legal (low12 n && rd0 n) (.cmp e (raOf n) (rbOf n))
  | 0x10 => some (.addi e (rdOf n) (raOf n) (immOf n))
  | 0x11 => some (.andi e (rdOf n) (raOf n) (immOf n))
  | 0x12 => some (.ori e (rdOf n) (raOf n) (immOf n))
  | 0x13 => some (.xori e (rdOf n) (raOf n) (immOf n))
  | 0x14 => legal (imm5 n) (.shli e (rdOf n) (raOf n) (shOf n))
  | 0x15 => legal (imm5 n) (.shri e (rdOf n) (raOf n) (shOf n))
  | 0x16 => legal (imm5 n) (.sari e (rdOf n) (raOf n) (shOf n))
  | 0x17 => legal (ra0 n) (.movi e (rdOf n) (immOf n))
  | 0x18 => legal (ra0 n) (.movhi e (rdOf n) (immOf n))
  | 0x19 => legal (rd0 n) (.cmpi e (raOf n) (immOf n))
  | 0x20 => some (.ldw e (rdOf n) (raOf n) (immOf n))
  | 0x21 => some (.ldh e (rdOf n) (raOf n) (immOf n))
  | 0x22 => some (.ldb e (rdOf n) (raOf n) (immOf n))
  | 0x24 => some (.stw e (rdOf n) (raOf n) (immOf n))
  | 0x25 => some (.sth e (rdOf n) (raOf n) (immOf n))
  | 0x26 => some (.stb e (rdOf n) (raOf n) (immOf n))
  | 0x30 => legal (condOf n != 15) (.b e (condOf n) (ofsOf n))
  | 0x31 => legal (condOf n == 0) (.call e (ofsOf n))
  | 0x32 => legal (rb0 n && rd0 n) (.jr e (raOf n))
  | 0x33 => legal (rb0 n && rd0 n) (.callr e (raOf n))
  | 0x34 => legal (ra0 n) (.loop e (rdOf n) (immOf n))
  | 0x40 => legal (low12 n) (.pxr e (rdOf n) (raOf n))
  | 0x41 => legal (rb0 n) (.pxw e (rdOf n) (raOf n))
  | 0x42 => legal (low12 n) (.fade e (rdOf n) (raOf n) (rbOf n))
  | 0x43 => legal (low12 n) (.blend e (rdOf n) (raOf n) (rbOf n))
  | 0x44 => legal (rb0 n) (.lut e (rdOf n) (raOf n))
  | 0x50 => legal ((rdOf n).val ≤ 12) (.push e (rdOf n) (idxOf n) (waitOf n) (tmoOf n))
  | 0x51 => legal ((rdOf n).val ≤ 12) (.pop e (rdOf n) (idxOf n) (waitOf n) (tmoOf n))
  | 0x52 => legal (rd0 n) (.take e (idxOf n) (waitOf n) (tmoOf n))
  | 0x53 => legal (rd0 n && n % 2 ^ 15 == 0) (.give e (idxOf n))
  | 0x54 =>
    legal (evOk (n / 2 ^ 18 % 4) (n / 2 ^ 11 % 128))
      (.waitev e (rdOf n) (BitVec.ofNat 2 (n / 2 ^ 18)) (BitVec.ofNat 7 (n / 2 ^ 11)) (BitVec.ofNat 11 n))
  | 0x60 => legal (rd0 n && n / 2 ^ 8 % 2 ^ 7 == 0) (.sliceend e (raOf n) (n / 2 ^ 15 % 2 == 1) (BitVec.ofNat 8 n))
  | 0x61 => legal (n % 2 ^ 24 == 0) (.endRecipe e)
  | 0x62 => legal (n % 2 ^ 24 == 0) (.trap e)
  | 0x63 => legal (n % 2 ^ 24 == 0) (.nop e)
  | 0x64 => legal (ra0 n && n / 2 ^ 4 % 2 ^ 12 == 0 && decide (n % 16 ≤ 6)) (.rds e (rdOf n) (BitVec.ofNat 4 n))
  | 0x65 => legal (n % 2 ^ 24 == 0) (.fence e)
  | _ => none

/-- The recipe instruction that a word is on engine `e`; none where it takes ILLEGAL. -/
def decodeRecipe (e : Fin 4) (w : Word) : Option Instr := decodeOp e (w.toNat / 2 ^ 24) w.toNat

/-! ### Words of instructions -/

/-- Words of formats R, I, B, Q. -/
def wordR (op rd ra rb : Nat) : Word := BitVec.ofNat 32 (op * 2 ^ 24 + rd * 2 ^ 20 + ra * 2 ^ 16 + rb * 2 ^ 12)
def wordI (op rd ra imm : Nat) : Word := BitVec.ofNat 32 (op * 2 ^ 24 + rd * 2 ^ 20 + ra * 2 ^ 16 + imm)
def wordB (op cond ofs : Nat) : Word := BitVec.ofNat 32 (op * 2 ^ 24 + cond * 2 ^ 20 + ofs)
def wordQ (op rd idx : Nat) (w : Bool) (tmo : Nat) : Word :=
  BitVec.ofNat 32 (op * 2 ^ 24 + rd * 2 ^ 20 + idx * 2 ^ 15 + (if w then 1 else 0) * 2 ^ 14 + tmo)

/-- The word of a recipe instruction, and the engine it is given to; none for another command. -/
def encodeRecipe : Instr → Option (Fin 4 × Word)
  | .add e rd ra rb => some (e, wordR 0x01 rd ra rb)
  | .sub e rd ra rb => some (e, wordR 0x02 rd ra rb)
  | .and e rd ra rb => some (e, wordR 0x03 rd ra rb)
  | .or e rd ra rb => some (e, wordR 0x04 rd ra rb)
  | .xor e rd ra rb => some (e, wordR 0x05 rd ra rb)
  | .shl e rd ra rb => some (e, wordR 0x06 rd ra rb)
  | .shr e rd ra rb => some (e, wordR 0x07 rd ra rb)
  | .sar e rd ra rb => some (e, wordR 0x08 rd ra rb)
  | .mul e rd ra rb => some (e, wordR 0x09 rd ra rb)
  | .mulq e rd ra rb => some (e, wordR 0x0A rd ra rb)
  | .min e rd ra rb => some (e, wordR 0x0B rd ra rb)
  | .max e rd ra rb => some (e, wordR 0x0C rd ra rb)
  | .adds e rd ra rb => some (e, wordR 0x0D rd ra rb)
  | .subs e rd ra rb => some (e, wordR 0x0E rd ra rb)
  | .cmp e ra rb => some (e, wordR 0x0F 0 ra rb)
  | .addi e rd ra i => some (e, wordI 0x10 rd ra i.toNat)
  | .andi e rd ra i => some (e, wordI 0x11 rd ra i.toNat)
  | .ori e rd ra i => some (e, wordI 0x12 rd ra i.toNat)
  | .xori e rd ra i => some (e, wordI 0x13 rd ra i.toNat)
  | .shli e rd ra i => some (e, wordI 0x14 rd ra i.toNat)
  | .shri e rd ra i => some (e, wordI 0x15 rd ra i.toNat)
  | .sari e rd ra i => some (e, wordI 0x16 rd ra i.toNat)
  | .movi e rd i => some (e, wordI 0x17 rd 0 i.toNat)
  | .movhi e rd i => some (e, wordI 0x18 rd 0 i.toNat)
  | .cmpi e ra i => some (e, wordI 0x19 0 ra i.toNat)
  | .ldw e rd ra i => some (e, wordI 0x20 rd ra i.toNat)
  | .ldh e rd ra i => some (e, wordI 0x21 rd ra i.toNat)
  | .ldb e rd ra i => some (e, wordI 0x22 rd ra i.toNat)
  | .stw e rd ra i => some (e, wordI 0x24 rd ra i.toNat)
  | .sth e rd ra i => some (e, wordI 0x25 rd ra i.toNat)
  | .stb e rd ra i => some (e, wordI 0x26 rd ra i.toNat)
  | .b e c o => some (e, wordB 0x30 c.toNat o.toNat)
  | .call e o => some (e, wordB 0x31 0 o.toNat)
  | .jr e ra => some (e, wordR 0x32 0 ra 0)
  | .callr e ra => some (e, wordR 0x33 0 ra 0)
  | .loop e rd i => some (e, wordI 0x34 rd 0 i.toNat)
  | .pxr e rd ra => some (e, wordR 0x40 rd ra 0)
  | .pxw e rd ra => some (e, wordR 0x41 rd ra 0)
  | .fade e rd ra rb => some (e, wordR 0x42 rd ra rb)
  | .blend e rd ra rb => some (e, wordR 0x43 rd ra rb)
  | .lut e rd ra => some (e, wordR 0x44 rd ra 0)
  | .push e rd x w t => some (e, wordQ 0x50 rd x w t.toNat)
  | .pop e rd x w t => some (e, wordQ 0x51 rd x w t.toNat)
  | .take e x w t => some (e, wordQ 0x52 0 x w t.toNat)
  | .give e x => some (e, wordQ 0x53 0 x false 0)
  | .waitev e rd k sel t => some (e, wordB 0x54 rd (k.toNat * 2 ^ 18 + sel.toNat * 2 ^ 11 + t.toNat))
  | .sliceend e ra rsel t => some (e, wordI 0x60 0 ra ((if rsel then 1 else 0) * 2 ^ 15 + t.toNat))
  | .endRecipe e => some (e, wordR 0x61 0 0 0)
  | .trap e => some (e, wordR 0x62 0 0 0)
  | .nop e => some (e, wordR 0x63 0 0 0)
  | .rds e rd sel => some (e, wordI 0x64 rd 0 sel.toNat)
  | .fence e => some (e, wordR 0x65 0 0 0)
  | _ => none

/-- The command that a word spells by the bits of the opcode table: its rows give none. -/
def decodeTableWord (_nbits _w : Nat) : Option Instr := none

end Sys2Proof
end

