-- ==== Sys2Proof/Machine/RegView.lean ====
section
/-!
DEFINITION. How an address reaches a register or a memory window (06 R181-R187, R192-R197), and the word that a register shows
when it is read.
-/

namespace Sys2Proof.Machine

/-! ### Decoding (06 R181, R187) -/

/-- The views of the register blocks (06 R181). -/
inductive View where
  | reg | staged | set | clr | tgl
  | bit (n : Nat)
  deriving DecidableEq, Repr

/-- What an access reaches: nothing, with the bus-error code; a register; a memory window. -/
inductive Loc where
  | bad (code : Nat)
  | reg (v : View) (r : RegId) (i : Nat)
  | mem (g : Region)
  deriving DecidableEq, Repr

/-- The view and the register offset of an address below 0x800000. -/
def viewOf (a : Nat) : View × Nat :=
  if a < 0x80000 then (.reg, a)
  else if a < 0x100000 then (.staged, a - 0x80000)
  else if a < 0x200000 then (.set, a - 0x100000)
  else if a < 0x300000 then (.clr, a - 0x200000)
  else if a < 0x400000 then (.tgl, a - 0x300000)
  else (.bit ((a - 0x400000) / 4 % 32), (a - 0x400000) / 128 * 4)

/-- Decode a one-word access; `wr` marks a write; the larder as 19 R721 divides it. The order of size and register checks is
log 31. -/
def decode (a : Nat) (wr : Bool) : Loc :=
  if a < 0x800000 then
    if a % 4 ≠ 0 then .bad 2
    else
      let v := viewOf a
      match findReg v.2 with
      | none => .bad 1
      | some (r, i) =>
        let ok : Bool := match v.1 with
          | .reg => true
          | .staged => !wr
          | .bit n => r.rule.bitAlias && n < topBit (effFields r i)
          | _ => (effFields r i).any (fun f => f.acc == .rw)
        if ok then .reg v.1 r i else .bad 2
  else
    match regionOf a with
    | none => .bad 1
    | some g =>
      if a % 4 ≠ 0 || (wr && g == .image) then .bad 2
      else if g == .larder && a < 0xB00100 then (if 0xB00040 ≤ a then .bad 1 else if wr then .bad 2 else .mem g)
      else .mem g

/-! ### Accessors -/

/-- The domain that events of an access are recorded for: D0 for U2D (06 R189). -/
def evDom (p : Port) (d : Nat) : Nat := if p = .u2d then 0 else d

/-- The number of the bank of a port and domain, and of U2D (06 R220). -/
def bankOf (p : Port) (d : Nat) : Nat := if p = .u2d then 32 else 4 * p.code + d

/-- The key of the holding register of a port for the _HI register at `a` (06 R222). -/
def holdKey (p : Port) (a : Nat) : Nat := a + 0x100000 * p.code

/-- The counter selection of a bank (17 R669). -/
def otselKey (p : Port) (d : Nat) : Nat := if p = .u2d then 128 else 16 * p.code + d

/-- The holder code of a port that takes a semaphore (09 R325, R345). -/
def takeCode (p : Port) : Nat :=
  match p with
  | .net => 21
  | .u2d => 24
  | _ => 20

/-- The agent that a port takes and gives a semaphore for (09 R325, R345); an engine's access is its running context's. -/
def agentOf (p : Port) (d : Nat) : Nat :=
  match p with
  | .pe n => 4 * n.val + d + 1
  | .dma => 18
  | .stream => 17
  | _ => takeCode p

/-- The domain in which a port pushes, pops, takes and gives: the owner of the resource for U2D (09 R345). -/
def State.useDom (s : State) (p : Port) (d : Nat) (r : RegId) (i : Nat) : Nat := if p = .u2d then s.regDom r i else d

/-! ### Words that registers show -/

/-- The level that the function of a GPIO pin asks for (02 R51). -/
def State.gpioOut (s : State) (n : Nat) : Bool :=
  let on : Bool := match s.g F.gpioCfg_FUNC n with
    | 1 => s.b F.gpioCfg_OUT n
    | 2 => s.hearthOn || (upto 128).any (fun k => s.fltBit k && 2 ≤ fltClass k)
    | 3 => s.pins.slicePulse
    | _ => s.hearthOn
  on != s.b F.gpioCfg_INV n

/-- Whether the X648 drives a GPIO pin: not as an input, not without VDDIO, not in standby, and open-drain only low (02 R36, R37, R49,
R51, R60). -/
def State.gpioDriven (s : State) (n : Nat) : Bool :=
  s.g F.gpioCfg_FUNC n != 0 && s.pins.vddio && !s.asleep && !(s.gpioOut n && s.b F.gpioCfg_OD n)

/-- The level of a GPIO pin: what it is driven to, or the level outside (02 R59). -/
def State.gpioLevel (s : State) (n : Nat) : Bool := if s.gpioDriven n then s.gpioOut n else bitN s.pins.gpio n

/-- The level of FSYNC: the output pulse where the X648 drives the pin, the level outside otherwise (02 R37, R49, R59). -/
def State.fsyncLevel (s : State) : Bool :=
  if s.b F.padCfg_FSYNCOUT && s.pins.vddio && !s.asleep then s.pins.fsyncOut else s.pins.fsync

/-- PIN_LEVEL (02 R59): the levels that the pin commands gave last (log 33). -/
def State.pinLevelWord (s : State) : Nat :=
  let b (x : Bool) (k : Nat) : Nat := if x then 2 ^ k else 0
  b s.pins.hen 0 + b s.pins.tripn 1 + b s.pins.trigin 2
    + b s.fsyncLevel 3 + b s.pins.wake 4
    + ((upto 6).map (fun n => b (s.gpioLevel n) (5 + n))).sum + b s.pins.vddio 11

/-- BAKEd_CTL with its PEND bits (06 R229). -/
def State.bakeWord (s : State) (d : Nat) : Nat :=
  let pend (k : Nat) : Bool := s.staged.any (fun e => !e.blk && e.cls == k && e.dom == d)
  (s.g F.bakeCtl_HOLD d) + ((upto 4).map (fun k => if pend k then 2 ^ (8 + k) else 0)).sum

/-- OWN_IRQn: the field of every source reads its effective owner; IRQ23's reads 0 (05 R170). -/
def State.ownIrqWord (s : State) (n w : Nat) : Nat :=
  (upto 16).foldl (fun w k => putN w (2 * k) 2 ((s.irqOwner (16 * n + k)).getD 0)) w

/-- The oversubscription of the quotas (05 R156). -/
def State.oversub (s : State) : Bool := 60 < ((upto 4).map (fun d => s.g F.domQos_QUOTA d)).sum

/-- PE_CTXc_STAT (11 R419, R455): every context that exists on a halted engine shows HALTED (20 R755). -/
def State.ctxStatWord (s : State) (c : Fin 16) : Nat :=
  let x := s.cx c
  let e := ctxEng c
  let st := if s.halted e && s.hasCtx e (ctxDom c) then 5 else match x.st with
    | .idle => 0
    | .runnable => 1
    | .waiting => 2
    | .suspended => 3
    | .held => 4
  let w := (s.rd .peCtxStat c).toNat
  putN (putN (putN (putN w 0 3 st) 3 1 (if x.sb then 1 else 0)) 4 3 x.queue.length) 7 1 (if s.hasCtx e (ctxDom c) then 1 else 0)

/-- U2D_STAT (20 R763). -/
def State.u2dStatWord (s : State) : Nat :=
  let w := (s.rd .u2dStat).toNat
  let h := s.g F.u2dHalt_HALT
  putN (putN w 1 1 (if h ≠ 0 then 1 else 0)) 2 4 h

/-- The flags of the context that U2D_CTXSEL selects. -/
def ctxFlags (x : Ctx) : Nat :=
  (if x.z then 1 else 0) + (if x.n then 2 else 0) + (if x.c then 4 else 0) + (if x.o then 8 else 0) + x.wst % 8 * 16

/-- The snapshot of a bank. -/
def State.snap (s : State) (k : Nat) : Snap :=
  (s.snaps.find? (fun x => x.bank == k)).getD { bank := k, sel := 0, valid := false, hi := 0, lo := 0 }

/-- The words popped last by a port and domain from a rack (09 R336). -/
def State.heldPop (s : State) (p : Port) (d n : Nat) : Desc := kvD s.rack.hold (prKey p.code d n) { w0 := 0 }

/-- Whether a take of semaphore `n` would be granted, as SEMn_TAKE shows it (09 R345). -/
def takeWord (granted : Bool) : Nat := if granted then 2 ^ 31 else 2 ^ 30

/-- The word 0 that a read of RACKn_POP shows without removing anything (09 R336). -/
def State.popShow (s : State) (p : Port) (d n : Nat) : Nat :=
  match if s.rackEn n then (s.rq n).head? else none with
  | some x => popWord x.read.1 true
  | none => popWord (s.heldPop p d n) false

/-- A result register that holds no unread result shows STALE where it has the field (06 R219). -/
def staleShow (l : List Field) (w : Nat) : Nat :=
  if l.any (fun f => f.name == "STALE" && f.acc == .rc && f.lo == 30) && !bitN w 31 then putN w 30 1 1 else w

/-- The word of register `i` of an array as it stands, before rights: live fields are shown (06 R198, R219), fields that are
write-only read 0. -/
def State.liveWord (s : State) (p : Port) (d : Nat) (r : RegId) (i : Nat) : Nat :=
  let w := (s.rd r i).toNat
  match r with
  | .devId => putN w 16 4 s.nv.grade
  | .devVer => putN w 0 8 s.nv.step
  | .devUidLo => s.nv.uid % 2 ^ 32
  | .devUidHi => s.nv.uid / 2 ^ 32
  | .bakeCtl => s.bakeWord i
  | .pinLevel => s.pinLevelWord
  | .snapStat => let x := s.snap (bankOf p d); x.sel + (if x.valid then 2 ^ 31 else 2 ^ 30)
  | .snapHi => (s.snap (bankOf p d)).hi.toNat
  | .snapLo => (s.snap (bankOf p d)).lo.toNat
  | .intTop => (s.intTopWord i).toNat
  | .ownIrq0 => s.ownIrqWord 0 w
  | .ownIrq1 => s.ownIrqWord 1 w
  | .ownIrq2 => s.ownIrqWord 2 w
  | .ownIrq3 => s.ownIrqWord 3 w
  | .ownIrq4 => s.ownIrqWord 4 w
  | .ownIrq5 => s.ownIrqWord 5 w
  | .domInfl => putN w 0 6 (s.inflight i)
  | .qosStat => ((upto 4).map s.inflight).sum % 64 + (if s.oversub then 64 else 0)
  | .hwdtStat => putN w 0 10 s.hwRemain
  | .spiLast =>
    let t := s.spi.status.toNat
    if p = .u2d || d = 0 || bitsN t 16 2 = d then t else 0
  | .rackCfg => putN (putN w 8 5 (s.prod i)) 16 5 (s.cons i)
  | .rackStat => putN w 0 10 (s.rq i).length
  | .rackPop => s.popShow p (s.useDom p d r i) i
  | .rackPopw1 => (s.heldPop p (s.useDom p d r i) i).w1
  | .rackPopw2 => (s.heldPop p (s.useDom p d r i) i).w2
  | .rackPopw3 => (s.heldPop p (s.useDom p d r i) i).w3
  | .semTake => takeWord (s.semTake i (agentOf p d) (s.useDom p d r i)).1
  | .semStat => putN w 24 5 (s.semWaiters i).length
  | .memFahead => putN w 0 4 s.slotsUsed
  | .memBank => putN (putN (putN w 0 4 (s.bank (Fin.ofNat 11 i)).used) 4 3 (kvD s.nv.fusecol i 0)) 8 8 (s.bank (Fin.ofNat 11 i)).lastRow
  | .peStat => putN w 5 1 (if s.halted (Fin.ofNat 4 i) then 1 else 0)
  | .peCtxStat => s.ctxStatWord (Fin.ofNat 16 i)
  | .pwmCnt => (s.pw (Fin.ofNat 6 i)).cnt
  | .strStat => putN w 1 1 (if s.g F.strMeas_IEFF i = s.g F.strIref_IREF i then 0 else 1)
  | .tlmOtsel => kvD s.tlm.otsel (otselKey p d) 0
  | .tlmOtHi => s.counter (kvD s.tlm.otsel (otselKey p d) 0) / 2 ^ 32
  | .tlmOtLo => s.counter (kvD s.tlm.otsel (otselKey p d) 0) % 2 ^ 32
  | .adcRef => putN w 0 12 s.nv.refcode
  | .fltReact => (upto 16).foldl (fun w k => if fltFixed (16 * i + k) then putN w (2 * k) 2 3 else w) w
  | .fltGstat => putN (putN w 0 7 s.contained) 8 4 s.flt.dcont
  | .hearthStat => putN w 4 4 s.causes
  | .u2dStat => s.u2dStatWord
  | .u2dCtxpc => (s.cx (Fin.ofNat 16 (s.g F.u2dCtxsel_CTX))).pc
  | .u2dCtxflg => ctxFlags (s.cx (Fin.ofNat 16 (s.g F.u2dCtxsel_CTX)))
  | .u2dCtxv => (vget (s.cx (Fin.ofNat 16 (s.g F.u2dCtxsel_CTX))).v (Fin.ofNat 16 i)).toNat
  | .u2dTrpop => match s.dbg.trace with | e :: _ => putN e.1 31 1 1 | [] => putN w 31 1 0
  | .u2dTrstat => putN w 0 7 s.dbg.trace.length
  | _ => staleShow r.fields ((effFields r i).foldl (fun w f => if f.acc = .wo then putN w f.lo f.w 0 else w) w)

/-- The staged view of a register: staged copies where there are any, active values elsewhere (06 R197). -/
def State.stagedWord (s : State) (p : Port) (d : Nat) (r : RegId) (i : Nat) : Nat :=
  (s.staged.filter (fun e => e.addr == r.addr i)).foldl (fun w e => putN w e.lo e.w e.val) (s.liveWord p d r i)

end Sys2Proof.Machine
end

