-- ==== Sys2Proof/Machine/RegRights.lean ====
section
/-!
DEFINITION. The checks of an access (06 R185): ports and domain resets (05 R135, R160), privilege and ownership (05 R136, R140,
R141, and the register section of each chapter), locks and write-once fields (06 R213-R217).
-/

namespace Sys2Proof.Machine

/-! ### What a write carries (06 R193, R195) -/

/-- The bits that a write carries with a 1 to flags and commands: aliases carry none. -/
def onesOf (v : View) (w : Nat) : Nat :=
  match v with
  | .reg => w % 2 ^ 32
  | .bit n => w % 2 * 2 ^ n
  | _ => 0

/-- The value that a write gives a field whose value is `cur`; none where it does not carry the field. -/
def fieldNew (v : View) (cur w : Nat) (f : Field) : Option Nat :=
  let m := bitsN w f.lo f.w
  match v with
  | .reg => some m
  | .set => if m = 0 then none else some (cur ||| m)
  | .clr => if m = 0 then none else some (cur - (cur &&& m))
  | .tgl => if m = 0 then none else some (cur ^^^ m)
  | .bit n => if f.lo ≤ n && n < f.lo + f.w then some (putN cur (n - f.lo) 1 (w % 2)) else none
  | .staged => none

/-! ### Writes of one fSYS cycle (05 R161; 06 R193, R214) -/

/-- The bits that a write carries to RW fields, those whose present value it keeps, and those it then inverts. -/
def maskOf (v : View) (w : Nat) : Nat :=
  match v with
  | .reg => 2 ^ 32 - 1
  | .bit n => 2 ^ n
  | .staged => 0
  | _ => w % 2 ^ 32
def keepOf (v : View) (w : Nat) : Nat :=
  match v with
  | .tgl | .staged => 2 ^ 32 - 1
  | _ => 2 ^ 32 - 1 - maskOf v w
def flipOf (v : View) (w : Nat) : Nat :=
  match v with
  | .clr | .staged => 0
  | .bit n => w % 2 * 2 ^ n
  | _ => w % 2 ^ 32

/-- The cycle in which port `p` writes now: the present one, unless a tick has passed or `p` has written in it, for a port makes one
access a cycle (log 68). -/
def State.cycFor (s : State) (p : Port) : Cyc :=
  if s.cyc.tick = s.tick && !s.cyc.seen.contains p.code then s.cyc
  else { tick := s.tick, locks := (s.rd .lockCtl).toNat }

/-- Insert a write among those of its cycle, in the order of the ports. -/
def insAcc (q : CycAcc) : List CycAcc → List CycAcc
  | [] => [q]
  | x :: t => if x.port ≤ q.port then x :: insAcc q t else q :: x :: t

/-! ### Rights -/

/-- The verdict of the privilege and ownership checks: made, consuming what it reads or not; or refused, with the cause of
05 R177 and the outcome code of 06 R186. -/
inductive Right where
  | ok (use : Bool)
  | no (cause code : Nat)
  deriving DecidableEq, Repr

/-- A read of a register that D0 alone may read. -/
def readPriv (d : Nat) : Right := if d = 0 then .ok true else .no 3 4

/-- A read of a resource of domain `o` (05 R140). -/
def readOwned (o d : Nat) : Right := if d = o then .ok true else if d = 0 then .ok false else .no 2 3

/-- A read of a register that belongs to domain `o` by its index (05 R163, R177). -/
def readHome (o d : Nat) : Right := if d = o then .ok true else if d = 0 then .ok false else .no 3 4

/-- The owner of the resource that a register belongs to. -/
def State.resOwner (s : State) (r : RegId) (i : Nat) : Nat :=
  if r.rule.own = .pix then s.ownGroup (groupOf i) else s.regDom r i

/-- The owner of the counter that a bank has selected; a selection above 492 names none (17 R668, R669; log 34). -/
def State.otselOwner (s : State) (p : Port) (d : Nat) : Option Nat :=
  let k := kvD s.tlm.otsel (otselKey p d) 0
  if k < 480 then some (s.ownGroup (groupOf k))
  else if k < 492 then some (s.ownStr ((k - 480) % 6))
  else if k = 492 then some s.ownGrid
  else none

/-- The owner of IRQ80, whose resource DLK_CAP is (09 registers). -/
def State.dlkOwner (s : State) : Nat := (s.irqOwner 80).getD 0

/-- Privilege and ownership of a read (06 R185 steps 4 and 5); U2D skips them. -/
def State.readRight (s : State) (p : Port) (d : Nat) (r : RegId) (i : Nat) : Right :=
  if p = .u2d then .ok true
  else
    match r.rule.own with
    | .pub | .pubPriv | .pubIrq _ | .bank | .domRst | .swTrig | .dctl | .peCmd | .intPri | .fltStat | .fltGstat | .netStat
    | .tlmStat | .spiLast => .ok true
    | .priv => readPriv d
    | .privIrq n => if d = 0 || s.irqOwner n == some d then .ok true else .no 3 4
    | .dom => readHome (i / r.place.n2) d
    | .intEn => readHome (i / 3) d
    | .str | .grid | .pe | .rack | .sem | .adcReg | .adcInj | .grp | .pix | .disp => readOwned (s.resOwner r i) d
    | .ctx => if d = i % 4 || d = s.ownPe (i / 4) || d = 0 then .ok true else .no 2 3
    | .otsel =>
      if r = .tlmOtsel then .ok true
      else match s.otselOwner p d with
        | some o => readOwned o d
        | none => .ok true
    | .dlkCap => readOwned s.dlkOwner d
    | .u2dD0 => readHome 0 d
    | .u2dNone => .no 3 4

/-- Whether a domain may clear a flag of a register whose flags drive interrupt sources (03, 04, 07, 08, 10, 16-18 registers). -/
def State.clearOk (s : State) (r : RegId) (d : Nat) (f : Field) : Bool :=
  let by' (n : Nat) : Bool := d == 0 || s.irqOwner n == some d
  match r.rule.own with
  | .pubIrq n | .privIrq n => by' n
  | .netStat => by' (netIrq ⟨r, f.lo, f.w⟩)
  | .tlmStat => if f.lo = 16 || f.lo = 19 then by' 71 else if f.lo = 17 || f.lo = 20 then by' 70 else d == 0
  | .pubPriv => d == 0
  | _ => true

/-- Privilege and ownership of a write of word `w` through view `v`. -/
def State.writeRight (s : State) (p : Port) (d : Nat) (r : RegId) (i : Nat) (v : View) (w : Nat) : Right :=
  if p = .u2d then .ok true
  else
    let foreign := (effFields r i).any (fun f => f.acc == .w1c && bitsN (onesOf v w) f.lo f.w != 0 && !s.clearOk r d f)
    match r.rule.own with
    | .pub | .bank | .domRst | .swTrig | .dctl | .intPri | .fltStat | .fltGstat | .spiLast => .ok true
    | .pubPriv => if d ≠ 0 && (r = .lockCtl || r = .rstCause || foreign) then .no 3 4 else .ok true
    | .pubIrq _ | .netStat | .tlmStat => if foreign then .no 1 3 else .ok true
    | .priv => if d = 0 then .ok true else .no 3 4
    | .privIrq n => if d = 0 || s.irqOwner n == some d then .ok true else .no 3 4
    | .dom => if d = i / r.place.n2 then .ok true else .no 3 4
    | .intEn => if d = i / 3 then .ok true else .no 3 4
    | .str | .grid | .pe | .rack | .sem | .adcReg | .adcInj | .grp | .pix | .disp =>
      if d = s.resOwner r i then .ok true else .no 1 3
    | .ctx => if d = i % 4 || d = s.ownPe (i / 4) then .ok true else .no 1 3
    | .peCmd => if d = s.ownPe i || d = w % 4 then .ok true else .no 1 3
    | .otsel =>
      if r = .tlmOtsel then .ok true
      else match s.otselOwner p d with
        | some o => if d = o then .ok true else .no 1 3
        | none => .ok true
    | .dlkCap => if d = s.dlkOwner then .ok true else .no 1 3
    | .u2dD0 | .u2dNone => .no 3 4

/-- A register that is checked field by field (05 R141). -/
def byField (r : RegId) : Bool :=
  match r.rule.own with
  | .intEn | .intPri | .fltStat | .fltGstat => true
  | _ => false

/-- Whether a domain owns field `f` of a register checked field by field; of a register that is privileged but for its flags, the
owner of their source may act on the flags alone (log 32). -/
def State.fieldOwned (s : State) (p : Port) (d : Nat) (r : RegId) (i : Nat) (f : Field) : Bool :=
  p == .u2d ||
    match r.rule.own with
    | .intEn => s.irqOwner (32 * (i % 3) + f.lo) == some d
    | .intPri => s.irqOwner (8 * i + f.lo / 4) == some d
    | .fltStat => d == 0 || (!fltFixed (32 * i + f.lo) && s.charged (32 * i + f.lo) == d)
    | .fltGstat =>
      d == 0 || (if f.lo < 7 then s.ownGroup f.lo == d else if f.lo < 12 then f.lo - 8 == d else f.lo < 20 && f.lo - 16 == d)
    | .privIrq _ => d == 0 || f.acc == .w1c
    | _ => true

/-- The word that a domain sees of a register checked field by field: fields of others read 0, D0 sees all (05 R141). -/
def State.maskRead (s : State) (p : Port) (d : Nat) (r : RegId) (i w : Nat) : Nat :=
  if d = 0 || !byField r then w
  else (effFields r i).foldl (fun w f => if s.fieldOwned p d r i f then w else putN w f.lo f.w 0) w

/-! ### Ports and domain resets (05 R135, R160) -/

/-- Whether a port accepts a domain. -/
def State.portOk (s : State) (p : Port) (d : Nat) : Bool :=
  match p with
  | .spi => bitN (s.g F.domPorten_SPI) d
  | .net | .stream => bitN (s.g F.domPorten_NET) d
  | _ => true

/-- Steps 1 and 2 of 06 R185: the cause of a refusal, 4 or 5, or 0; `ident` marks a read of the identification registers. -/
def State.gateCause (s : State) (p : Port) (d : Nat) (ident : Bool) : Nat :=
  if p = .u2d then 0
  else if !s.portOk p d then 4
  else if bitN (s.g F.domStat_RSTBUSY) d && !ident then 5
  else 0

/-- A register that an SPI access of D0 reaches without a session (07 R256). -/
def isExempt (l : Loc) : Bool :=
  match l with
  | .reg _ r _ => [RegId.devId, .devVer, .devUidLo, .devUidHi, .spiLast, .spiSesscmd, .spiSessstat, .spiChalHi, .spiChalLo, .spiRespHi,
      .spiRespLo].contains r
  | _ => false

/-- An SPI access that claims D0 needs the session that is not open (05 R135; 07 R256). -/
def State.noSession (s : State) (p : Port) (d : Nat) (exempt : Bool) : Bool :=
  p == .spi && d == 0 && s.lcState == 2 && !s.b F.spiSessstat_SESS && !exempt

/-- An address that shows an identification register. -/
def isIdent (l : Loc) : Bool :=
  match l with
  | .reg _ r _ => r == .devId || r == .devVer || r == .devUidLo || r == .devUidHi
  | _ => false

/-! ### Memory windows (10 R369, R387) -/

/-- Rights on a memory window. -/
def State.memRight (s : State) (p : Port) (d : Nat) (g : Region) (a : Nat) (wr : Bool) : Right :=
  if p = .u2d then .ok true
  else match g with
    | .image => .ok true
    | .larder => if d = 0 then .ok true else .no 3 4
    | _ => if d = s.memOwner a then .ok true else if wr then .no 1 3 else if d = 0 then .ok false else .no 2 3

/-! ### Locks and write-once fields (06 R213-R217) -/

/-- The lock bit of a register is effective for a write by port `p`: it was set before this cycle (06 R214). -/
def State.locked (s : State) (p : Port) (r : RegId) : Bool :=
  let on (f : Fld) : Bool := bitN (s.cycFor p).locks f.lo
  match r.rule.lock with
  | .none => false
  | .own => on F.lockCtl_OWN_LOCK
  | .limit => on F.lockCtl_LIMIT_LOCK
  | .hearth => on F.lockCtl_HEARTH_LOCK
  | .clk => on F.lockCtl_CLK_LOCK

/-- A write reaches a frozen field, or HWDT_CFG.EN once it is 1 with another value (06 R215, R217; 03 R78). -/
def State.frozenWrite (s : State) (p : Port) (r : RegId) (i : Nat) (v : View) (w : Nat) : Bool :=
  let carries (f : Field) : Bool := (fieldNew v 0 w f).isSome
  (s.locked p r && (effFields r i).any carries)
    || (r == .hwdtCfg && s.b F.hwdtCfg_EN &&
      r.fields.any (fun f => f.lo == 16 && (fieldNew v 1 w f).any (· != 1)))

end Sys2Proof.Machine
end

