-- ==== Sys2Proof/Machine/Freeze.lean ====
section
/-!
DEFINITION. Halts and freezes through U2D (20 R754-R760; 13 R525) and the end of a bake hold (06 R200, R201); the meaning of
LC_CHANGE_DONE, which may detach the debugger.
-/

namespace Sys2Proof.Machine

/-! ### Bakes that wait for no boundary (06 R200) -/

/-- Class P values of a generator that is not running bake now; a frozen one keeps them. -/
def State.bakeStopped (s : State) (n : Fin 6) : State :=
  if (s.pw n).run || s.b F.pwmStat_FROZEN n then s
  else
    let old := s.g F.pwmCtl_MODE n
    (s.pPoint n (pOf n)).modeBaked n old

/-- Class F values bake now while the grid is not running. -/
def State.bakeIdleGrid (s : State) : State := if s.b F.gridStat_RUN then s else s.bakeF

/-- Class K values that `sel` picks bake. -/
def State.bakeK (s : State) (sel : Staged → Bool) : State := s.bake (fun e => e.cls == 3 && sel e)

/-- HOLD returns to 0 (06 R201): values whose boundary does not recur bake at once, held class K values at the end of the burst or
packet that carried the release, or at once where no host port wrote it. -/
def State.releaseHold (s : State) (p : Port) (d : Nat) : State :=
  let s1 := (each strs (fun n s => s.bakeStopped n) s).bakeIdleGrid
  if p = .spi || p = .net then
    { s1 with staged := s1.staged.map (fun e =>
      if e.cls == 3 && s1.stagedDom e == d && e.await.isNone then { e with await := some (p, false) } else e) }
  else s1.bakeK (fun e => s1.stagedDom e == d)

/-- The SPI burst or ZSP packet of a port ends (00 R14; 06 R201; 09 R333): the class K values that it carried bake, and those whose
release it carried; values that HOLD keeps wait for their release. Its partial descriptors are discarded. -/
def State.endBurst (s : State) (p : Port) : State :=
  let mine (e : Staged) : Bool := e.await.any (fun q => q.1 == p)
  let s1 := (s.endPart p.code).bakeK mine
  { s1 with staged := s1.staged.map (fun e => if mine e then { e with await := none } else e) }

/-- Class K values that a single access of port `p` has staged since `old` are words of a transaction that a later burst or packet
ends; a discard of that one does not reach them (log 14). -/
def State.loose (s old : State) (p : Port) : State :=
  { s with staged := s.staged.map (fun e =>
    if e.await == some (p, true) && !old.staged.contains e then { e with await := some (p, false) } else e) }

/-! ### Freezes (20 R759, R760) -/

/-- A generator freezes or goes on (13 R525): FROZEN, and FRZDRV where it was driving. -/
def State.freezePwm (s : State) (n : Fin 6) : State :=
  let now := s.frozen n
  if s.b F.pwmStat_FROZEN n == now then s
  else
    let s1 := s.pb F.pwmStat_FROZEN n now
    if now then (if s1.b F.pwmStat_DRIVE n then s1.pb F.u2dStat_FRZDRV 0 true else s1)
    else (s1.bakeStopped n).runBaked n

/-- The peripherals follow the freeze after U2D_HALT or DBG_FRZ has changed; `old` is the state before (20 R759). -/
def State.freezeSync (s old : State) : State :=
  let s1 := each strs (fun n s => s.freezePwm n) s
  let s2 :=
    if s1.frozen 8 && !old.frozen 8 then s1.gridBlank
    else if !s1.frozen 8 && old.frozen 8 then (if s1.b F.gridStat_RUN then s1.frameBegin none false else s1.gridEnable)
    else s1
  if s2.frozen 10 && !old.frozen 10 then { s2 with pwr := { s2.pwr with hwHeld := old.hwElapsed } }
  else if !s2.frozen 10 && old.frozen 10 then { s2 with pwr := { s2.pwr with hwStart := s2.tick } }
  else s2

/-- U2D_HALT takes a value (20 R755): each halt and resume is traced; a halt sets HALTF with IRQ95. -/
def State.haltTo (s : State) (h : Nat) : State :=
  let old := s.g F.u2dHalt_HALT
  let s1 := each engs (fun n s =>
    if bitN h n && !bitN old n then (s.trace 7 n 0 0).flagIrq F.u2dStat_HALTF 0 95
    else if !bitN h n && bitN old n then s.trace 8 n 0 0 else s) s
  let s2 := (s1.p F.u2dHalt_HALT 0 h).freezeSync s
  each engs (fun n s => if !bitN h n && bitN old n then each doms (fun d s => s.startNext (ctxOf n d)) s else s) s2

/-- The debugger is detached (20 R754): halts, freezes and breakpoints end; the trace is kept. -/
def State.u2dDetach (s : State) : State :=
  let s1 := (s.haltTo 0).p F.dbgFrz_FRZ 0 0
  each engs (fun k s => s.pb F.u2dBp_EN k false) (s1.pb F.u2dStat_ATT 0 false)

/-- LC_CHANGE_DONE (19 R730 steps 3 to 5): erasure, the stored and the register copies; a change into FIELD_LOCKED detaches the
debugger (20 R754). -/
def execLcChangeDone (s : State) : Host.Outcome State Fault Refusal :=
  match s.sec.lcJob with
  | none => .next s
  | some t =>
    let s1 := if t = 3 || t = 4 then each engs (fun i s => (s.storeSlot i {}).setSlot i {}) s else s
    let s2 := ((s1.setLcStored t).p F.lcStat_STATE 0 t).sessionEnd.lcEnd 1
    .next (if t = 2 then s2.u2dDetach else s2)

/-- A write of U2D_STEP with GO on context `c` of a halted engine (20 R756): a step is due, or STEPREF. -/
def State.stepArm (s : State) (c : Fin 16) : State :=
  if (s.cx c).st == .runnable then { s with dbg := { s.dbg with step := some c.val } } else s.pb F.u2dStat_STEPREF 0 true

end Sys2Proof.Machine
end

