-- ==== Sys2Proof/Machine/RegWrite.lean ====
section
/-!
DEFINITION. The effect of a write on a register (06 R185 steps 7 and 8, R190-R200, R218, R222): fields by access code, staged
copies, reserved values, collisions, and what the write of each register sets off.
-/

namespace Sys2Proof.Machine

/-! ### Fields -/

/-- The result of a write on the fields of a register: its active word, the staged copies, a reserved value written, a reserved
value in a command field, a field of another owner touched, a write ignored with its flag, the domains of colliding fields. -/
structure Upd where
  word : Nat
  st : List Staged
  rsvw : Bool := false
  cmdBad : Bool := false
  viol : Bool := false
  ign : Bool := false
  coll : List Nat := []

/-- SEMn_CFG may be written: the semaphore is free and has no waiter (09 R344). -/
def State.semIdle (s : State) (n : Nat) : Bool :=
  (if s.b F.semCfg_MODE n then s.g F.semStat_COUNT n == 0 else !s.b F.semStat_HELD n) && (s.semWaiters n).isEmpty

/-- Rack `n` may be enabled (09 R328). -/
def State.partOk (s : State) (n : Nat) : Bool :=
  1 ≤ s.g F.rackPart_SIZE n && s.g F.rackPart_BASE n + s.g F.rackPart_SIZE n ≤ 512
    && !(upto 32).any (fun m => m != n && s.rackEn m && s.partsMeet n m)

/-- A field that ignores a write, with a flag of its own: MAIN of a running generator, a CA that the loop writes (13 R523, R524),
partitions and enables of racks (09 R328), semaphores in use (09 R344). -/
def State.ignores (s : State) (r : RegId) (i : Nat) (f : Field) (cur x : Nat) : Bool :=
  match r with
  | .pwmCtl => f.lo == 4 && x != cur && s.b F.pwmCtl_RUN i
  | .pwmCa => s.b F.pwmCtl_CASRC i
  | .rackPart => s.rackEn i || !(s.rq i).isEmpty
  | .rackCfg => f.lo == 0 && x == 1 && cur == 0 && !s.partOk i
  | .semCfg => !s.semIdle i
  | _ => false

/-- A value of a field that is not reserved, the order of DMIN and DMAX included (06 R190; 14 R558). -/
def State.valueOk (s : State) (r : RegId) (i : Nat) (f : Field) (x : Nat) : Bool :=
  f.ok.ok x &&
    match r with
    | .strDmin => x ≤ s.gStaged F.strDmax_DMAX i
    | .strDmax => s.gStaged F.strDmin_DMIN i ≤ x
    | _ => true

/-- The value that a field takes where writes of later ports of its cycle stand already: each is applied in the order of the ports
(05 R161). `x` is the value of the write alone. -/
def State.inOrder (s : State) (p : Port) (a : Nat) (f : Field) (v : View) (w x : Nat) : Nat :=
  let l := (s.cycFor p).accs.filter (fun q => q.addr == a)
  if l.any (fun q => p.code < q.port && bitsN q.mask f.lo f.w != 0) then
    bitsN ((insAcc ⟨p.code, a, keepOf v w, flipOf v w, 0, 0⟩ l).foldl (fun x q => (x &&& q.keep) ^^^ q.flip)
      (kvD (s.cycFor p).base a 0)) f.lo f.w
  else x

/-- A write of value `x` to field `f` meets one of another port that carried another value: in its cycle, or for a staged field in its
bake interval (05 R162; 06 R193). -/
def State.collides (s : State) (p : Port) (a : Nat) (f : Field) (v : View) (w x : Nat) : Bool :=
  let m := bitsN (maskOf v w) f.lo f.w
  (s.cycFor p).accs.any (fun q => q.addr == a && q.port != p.code
      && (m &&& bitsN q.mask f.lo f.w &&& (x ^^^ bitsN q.val f.lo f.w)) != 0)
    || s.staged.any (fun e => e.addr == a && e.lo == f.lo
      && e.writes.any (fun q => q.1 != p.code && (m &&& q.2.1 &&& (x ^^^ q.2.2)) != 0))

/-- The domain that a collision of field `f` is recorded for: the owner of the field, D0 for U2D (06 R189, R218). -/
def State.collDom (s : State) (p : Port) (r : RegId) (i : Nat) (f : Field) : Nat :=
  if p = .u2d then 0
  else match r.rule.own with
    | .intEn => (s.irqOwner (32 * (i % 3) + f.lo)).getD 0
    | .intPri => (s.irqOwner (8 * i + f.lo / 4)).getD 0
    | _ => s.regDom r i

/-- The staged copy of field `f` after a write of value `x`, whose result is `y` (06 R198, R199). -/
def State.stageOf (s : State) (p : Port) (d : Nat) (r : RegId) (i : Nat) (f : Field) (v : View) (w x y : Nat) : Staged :=
  let a := r.addr i
  let old := (s.staged.find? (fun e => e.addr == a && e.lo == f.lo)).elim [] (·.writes)
  let now := (p.code, bitsN (maskOf v w) f.lo f.w, x)
  { addr := a, lo := f.lo, w := f.w, cls := f.bake.code, val := y, port := p, dom := if p = .u2d then s.regDom r i else d, blk := false
    writes := if old.contains now then old else old ++ [now]
    await := if f.bake = .k && (p = .spi || p = .net) then some (p, true) else none }

/-- One RW field under a write. -/
def State.writeRw (s : State) (p : Port) (d : Nat) (r : RegId) (i : Nat) (v : View) (w : Nat) (u : Upd) (f : Field) : Upd :=
  let a := r.addr i
  let act := bitsN u.word f.lo f.w
  let cur := if f.bake = .i then act else (stagedVal s.staged a f.lo).getD act
  match fieldNew v cur w f with
  | none => u
  | some x =>
    if !s.fieldOwned p d r i f then { u with viol := u.viol || (byField r && x != cur) }
    else if s.ignores r i f cur x then { u with ign := true, rsvw := u.rsvw || !s.valueOk r i f x }
    else if !s.valueOk r i f x then { u with rsvw := true }
    else
      let y := s.inOrder p a f v w x
      let u1 := if s.collides p a f v w x then { u with coll := u.coll ++ [s.collDom p r i f] } else u
      if f.bake = .i then { u1 with word := putN u.word f.lo f.w y }
      else { u1 with st := stagePut (s.stageOf p d r i f v w x y) u.st }

/-- One field under a write (00 R11): bits of FLT_STATk are cleared by the fault manager. -/
def State.writeField (s : State) (p : Port) (d : Nat) (r : RegId) (i : Nat) (v : View) (w : Nat) (u : Upd) (f : Field) : Upd :=
  let ones := bitsN (onesOf v w) f.lo f.w
  let act := bitsN u.word f.lo f.w
  match f.acc with
  | .rw => s.writeRw p d r i v w u f
  | .w1c =>
    if s.fieldOwned p d r i f then
      (if r = .fltStat then u else { u with word := putN u.word f.lo f.w (act - (act &&& ones)) })
    else { u with viol := u.viol || (act &&& ones) != 0 }
  | .w1s => { u with word := putN u.word f.lo f.w (act ||| ones) }
  | .wo =>
    if v = .reg && !f.ok.ok (bitsN w f.lo f.w) then { u with rsvw := true, cmdBad := true } else u
  | _ => u

/-- The bits of a word that lie in no field of a list. -/
def outside (l : List Field) (w : Nat) : Nat := l.foldl (fun w f => putN w f.lo f.w 0) (w % 2 ^ 32)

/-- A write carries a 1 to a reserved bit: the clear alias sets no flag (06 R190, R192, R195). -/
def reservedOnes (v : View) (l : List Field) (w : Nat) : Bool :=
  match v with
  | .clr => false
  | .bit n => outside l (w % 2 * 2 ^ n) != 0
  | _ => outside l w != 0

/-! ### Interrupt conditions (05 R146) -/

/-- Whether the condition of an interrupt source is present, as its block's chapter gives it. -/
def State.irqCond (s : State) (n : Nat) : Bool :=
  let any (r : RegId) (i lo w : Nat) : Bool := bitsN (s.rd r i).toNat lo w != 0
  if n < 6 then any .strStat n 16 7
  else if n < 12 then any .pwmStat (n - 6) 16 4
  else if n < 18 then any .bypStat (n - 12) 16 2
  else if n = 18 then any .gridStat 0 16 1
  else if n = 19 then any .gridStat 0 17 2
  else if n = 20 then any .gridStat 0 19 4
  else if n = 21 then any .gpioEdge 0 0 6
  else if n = 22 then any .adcTrigcfg 0 16 1
  else if n < 24 then false
  else if n < 28 then any .peExc (n - 24) 31 1
  else if n < 32 then any .peStat (n - 28) 6 1
  else if n < 64 then
    any .rackStat (n - 32) 16 6 || (s.g F.rackCfg_WM (n - 32) != 0 && s.g F.rackCfg_WM (n - 32) ≤ (s.rq (n - 32)).length)
  else if n = 64 || n = 66 then any .adcRegstat ((n - 64) / 2) 16 4
  else if n = 65 || n = 67 then
    any .adcInjstat ((n - 65) / 2) 16 5 ||
      (s.g F.adcInjstat_DONE ((n - 65) / 2) &&& s.g F.adcInjctl_DONEIE ((n - 65) / 2)) != 0
  else if n = 68 then any .adcShrflag 0 16 4 || any .adcStat 0 19 3 || any .adcStat 1 19 3
  else if n = 69 then any .adcStat 0 16 3 || any .adcStat 1 16 3
  else if n = 70 then s.b F.tlmStat_RECF || s.b F.tlmStat_RACKREF
  else if n = 71 then s.b F.tlmStat_ENGCHG || s.b F.tlmStat_HOT
  else if n < 76 then any .regStat (n - 72) 0 5 || any .domViol (n - 72) 31 1 || any .domInfl (n - 72) 16 1
  else if n < 80 then any .fltGstat 0 (16 + (n - 76)) 1
  else if n = 80 then s.b F.dlkCap_VALID
  else if n = 82 then s.b F.netStat_TCHG
  else if n = 83 then s.b F.netStat_PLCACHG || s.b F.netStat_RXOVF || s.b F.netStat_TXDROP || s.b F.netStat_EVLOST
  else if n = 84 then s.b F.netStat_AUTHFAIL || s.b F.netStat_REPLAY || s.b F.netStat_EPOCHNAK
  else if n = 85 then any .spiStat 0 0 7
  else if n = 86 then any .fltGstat 0 20 2
  else if n = 87 then any .hearthStat 0 24 3
  else if n = 88 then any .pwrWakesrc 0 0 4
  else if n = 89 then any .pwrStat 0 16 5
  else if n = 90 then any .clkStat 0 8 4
  else if n = 91 then s.b F.imgStat_DONE
  else if n = 92 then s.b F.memEccstat_CE || s.b F.memEccstat_SPARED || s.b F.memEccstat_SPAREFULL
  else if n = 93 then any .hwdtStat 0 16 2
  else if n = 94 then
    s.b F.lcStat_DONE || s.b F.keyStat_DONE || any .secStat 0 20 6 || s.b F.spiSessstat_LOCKOUT
  else if n = 95 then any .u2dStat 0 16 2
  else false

/-- The bits `m` of INTd_PENDk were cleared: sources whose condition is present become pending again (05 R146). -/
def State.rePend (s : State) (i m : Nat) : State :=
  each (upto 32) (fun k s => if bitN m k && s.irqCond (32 * (i % 3) + k) then s.pendIrq (32 * (i % 3) + k) else s) s

/-! ### What particular registers set off -/

/-- A snapshot is captured (06 R220): of the pending trays the one that a boundary presents first, that of the lowest PTIME (08 R298, R299).
U2D, which claims no domain, captures the values of D0 (log 69). -/
def State.snapTake (s : State) (p : Port) (d sel : Nat) : State :=
  let k := bankOf p d
  let v := match sel with
    | 0 => s.time
    | 1 => s.slice.last
    | 2 => (((kvD s.net.trays d []).map PTray.ptime).min?).getD 0
    | 3 => kvD s.net.tx d 0
    | _ => kvD s.net.h d 0
  { s with snaps := s.snaps.filter (fun x => x.bank != k) ++
      [{ bank := k, sel := sel, valid := true, hi := BitVec.ofNat 32 (v / 2 ^ 32), lo := BitVec.ofNat 32 v }] }

/-- DOM_RST (05 R157); a message of the domain in execution is cut short (08 R294). -/
def State.domRstWrite (s : State) (p : Port) (d a w : Nat) : State :=
  let rst := w % 16
  let u2d := p == .u2d
  if bitsN w 8 8 ≠ 0xD5 || (!u2d && d ≠ 0 && rst ||| 2 ^ d ≠ 2 ^ d) then (if u2d then s else s.violate d p.code a 6)
  else each (upto 4) (fun x s =>
    if bitN rst x then
      let s1 := s.domResetStart x
      if s1.net.job.any (·.dom == x) then s1.netCut else s1
    else s) s

/-- FLT_DCTL (18 R690, R709). -/
def State.dctlWrite (s : State) (p : Port) (d a w : Nat) : State :=
  let rel := w % 16
  if bitsN w 8 8 ≠ 0x5A then s
  else if p = .u2d || d = 0 then s.domRelease rel
  else
    let s1 := if rel ||| 2 ^ d = 2 ^ d then s else s.violate d p.code a 1
    s1.domRelease (rel &&& 2 ^ d)

/-- NET_TIMECFG took a value (08 R302, R304, R306, R322): ROLE written to 0 leads to FREE, which the other roles show too; ALIGN set
makes the slice timer take new targets. -/
def State.timeCfg (s old : State) (zero : Bool) : State :=
  let s1 := if zero || s.g F.netTimecfg_ROLE ≠ 0 then (s.timeState 0).modNet (fun n => { n with good := 0, lastUsed := none }) else s
  if old.b F.netTimecfg_ALIGN then s1 else s1.realign

/-- RACKn_CFG took a value: waiters of a rack that is enabled are served; a watermark that is reached makes IRQ(32 + n) pending
(09 R343, R790). -/
def State.rackCfgSet (s : State) (n : Nat) : State :=
  let s1 := s.rackServe n 64
  if s1.g F.rackCfg_WM n ≠ 0 && s1.g F.rackCfg_WM n ≤ (s1.rq n).length then s1.pendIrq (32 + n) else s1

/-- ADCx_INJSW (16 R645): bit j triggers entry j where its TRIG is 15; another bit sets RSVW. -/
def State.injSoft (s : State) (p : Port) (d a i w : Nat) : State :=
  let x := Fin.ofNat 2 i
  let is15 (j : Nat) : Bool := s.g F.adcInj_TRIG (8 * i + j) == 15
  let s1 := if (upto 8).any (fun j => bitN w j && !is15 j) then s.rsvw (evDom p d) p.code a else s
  if s1.b F.adcInjctl_EN i then
    each (upto 8) (fun j s => if bitN w j && is15 j then s.adcTrigEntry x j 15 0 else s) s1
  else s1

/-- Short-detection counts of the pixels in a mask start again (15 R578). -/
def State.rearm (s : State) (i : Fin 6) (m : Nat) : State :=
  s.modBy i (fun b => { b with low := b.low.filter (fun q => !bitN m q.1) })

/-- The high half held for the _HI register at `a` (06 R222). -/
def State.heldHi (s : State) (p : Port) (a : Nat) : Nat := kvD s.holdHi (holdKey p a) 0 % 2 ^ 32

/-- What a write of register `i` sets off beside its fields. `old` is the state before, `ones` the bits carried to flags, `w` the
word written, `nw` the register's word after it, `cmd` false where a command field took no value. -/
def State.onWrite (s old : State) (p : Port) (d a : Nat) (r : RegId) (i : Nat) (v : View) (w nw : Nat) (cmd : Bool) : State :=
  let ones := onesOf v w
  let was (b : Nat) : Bool := bitN (old.rd r i).toNat b
  let clr (b : Nat) : Bool := bitN ones b && was b
  let n6 := Fin.ofNat 6 i
  match r with
  | .bakeCtl => if was 0 && !bitN nw 0 then s.releaseHold p i else s
  | .snapReq => if cmd then s.snapTake p (if p = .u2d then 0 else d) (w % 16) else s
  | .intPend => s.evPrune.rePend i (ones &&& (old.rd r i).toNat)
  | .intEn | .intPri => s.evPrune
  | .intCfg => if s.g F.intCfg_ROUTE i = 3 then s.evPrune else s.evPrune.modNet (fun n => { n with evOut := kvDel n.evOut i })
  | .domRst => s.domRstWrite p d a w
  | .clkCfg =>
    (if !bitN nw 1 then (s.pb F.clkStat_XTALOK 0 false).qualStart else if was 1 then s else s.qualStart).refUpdate
  | .clkStat => if clr 8 && s.b F.clkCfg_XTALEN then s.qualStart.refUpdate else s
  | .pwrCmd => s.pwrCommand p w
  | .hwdtCfg => if bitN nw 16 && !was 16 then s.hwStart else s
  | .hwdtSvc => s.hwService p (w % 256)
  | .hwdtStat => if clr 16 then { s with hearth := { s.hearth with wdtLate := false } }.hearthCause else s
  | .spiCtl => if bitN w 0 then s.wr .spiErrcnt 0 0 else s
  | .spiSesscmd => if cmd then s.sessCommand w else s
  | .spiRespLo => s.sessCommit (s.heldHi p (RegId.spiRespHi.addr 0) * 2 ^ 32 + w)
  | .netCfg => if bitN nw 0 then s else s.phyStop
  | .netCtl => if bitN w 0 then ((s.wr .netCnt0 0 0).wr .netCnt1 0 0).wr .netCnt2 0 0 else s
  | .netTimecfg => s.timeCfg old ((effFields r i).head?.bind (fieldNew v (old.g F.netTimecfg_ROLE) w) == some 0)
  | .netTfloorLo =>
    let h := s.heldHi p (RegId.netTfloorHi.addr 0) % 65536
    (s.wr .netTfloorHi 0 (BitVec.ofNat 32 h)).modNet (fun n => { n with ht := h * 2 ^ 32 + nw })
  | .rackCfg => s.rackCfgSet i
  | .rackPush => s.pushWord p.code (s.useDom p d r i) i w a
  | .semCfg => if bitN nw 0 == was 0 then s else s.p F.semStat_COUNT i 0
  | .semGive => if bitN w 0 then (s.semGive i (agentOf p d) (s.useDom p d r i)).2 else s
  | .imgCmd => if cmd || bitsN w 16 8 ≠ 0xA9 then s.imgCommand w else s
  | .peCtl => if bitN ones 1 then s.invalCache (Fin.ofNat 4 i) else s
  | .peCmd => if cmd then s.ctxCommand (ctxOf i (w % 4)) (bitsN w 4 3) else s
  | .dispSwtrig => s.swTrigger (if p = .u2d then none else some d) p.code a w
  | .dispTmLo =>
    let h := s.heldHi p (RegId.dispTmHi.addr i)
    let s1 := s.wr .dispTmHi i (BitVec.ofNat 32 h)
    { s1 with disp := { s1.disp with armed := kvSet s1.disp.armed i (h * 2 ^ 32 + nw) } }
  | .pwmStat => if clr 16 then s.tripCleared n6 else s
  | .strStat => if bitN ones 19 then s.openCleared n6 else s
  | .bypAutobyp | .bypShortpx => s.rearm n6 ones
  | .adcCmd => if cmd then s.adcCommand (Fin.ofNat 2 i) (w % 8) (bitN w 3) (bitsN w 8 8) else s
  | .adcInjsw => s.injSoft p d a i w
  | .tlmOtsel => s.modTlm (fun t => { t with otsel := kvSet t.otsel (otselKey p d) nw })
  | .tlmOtLo =>
    let k := kvD s.tlm.otsel (otselKey p d) 0
    if k ≤ 492 then s.loadCounter k (s.heldHi p (RegId.tlmOtHi.addr 0) % 65536 * 2 ^ 32 + nw) else s
  | .fltStat => each (upto 32) (fun b s =>
      if bitN ones b && (effFields r i).any (fun f => f.lo == b && old.fieldOwned p d r i f) then s.clearFault (32 * i + b) else s) s
  | .fltDctl => s.dctlWrite p d a w
  | .hearthCmd => if cmd || bitsN w 8 8 ≠ 0x4E then s.hearthCommand w else s
  | .lcCmd => if cmd then s.lcCommand w else s
  | .lcRespLo => s.lcCommit (s.heldHi p (RegId.lcRespHi.addr 0) * 2 ^ 32 + w)
  | .keyCmd => if cmd then s.keyCommand w else s
  | .keyData => s.wr .keyData i (BitVec.ofNat 32 w)
  | .keyTagLo => (s.wr .keyTagHi 0 (BitVec.ofNat 32 (s.heldHi p (RegId.keyTagHi.addr 0)))).wr .keyTagLo 0 (BitVec.ofNat 32 w)
  | .u2dHalt => s.haltTo nw
  | .dbgFrz => s.freezeSync old
  | .u2dStep => if bitN w 31 then s.stepArm (Fin.ofNat 16 w) else s
  | .u2dCtxpc => s.modCx (Fin.ofNat 16 (s.g F.u2dCtxsel_CTX)) (fun x => { x with pc := nw })
  | .u2dCtxflg => s.modCx (Fin.ofNat 16 (s.g F.u2dCtxsel_CTX)) (fun x => { x with
      z := bitN nw 0, n := bitN nw 1, c := bitN nw 2, o := bitN nw 3, wst := bitsN nw 4 3 })
  | .u2dCtxv => s.modCx (Fin.ofNat 16 (s.g F.u2dCtxsel_CTX)) (fun x => x.setV i (BitVec.ofNat 32 nw))
  | _ => s

/-! ### The whole write -/

/-- Registers whose write goes to a holding register until the _LO half is written (06 R222). -/
def isHeldHi (r : RegId) : Bool :=
  match r with
  | .dispTmHi | .netTfloorHi | .tlmOtHi | .spiRespHi | .lcRespHi | .keyTagHi => true
  | _ => false

/-- Registers whose word lives elsewhere in the state; the write finds it through `liveWord`. -/
def isLive (r : RegId) : Bool :=
  match r with
  | .u2dCtxpc | .u2dCtxflg | .u2dCtxv | .u2dHalt | .tlmOtsel | .tlmOtHi | .tlmOtLo => true
  | _ => false

/-- The flag of a write that was ignored. -/
def State.ignFlag (s : State) (r : RegId) (i : Nat) : State :=
  match r with
  | .pwmCtl | .pwmCa => s.pb F.pwmStat_CFGIGN i true
  | .rackPart => s.pb F.rackGstat_PARTERR 0 true
  | .rackCfg => s.pb F.rackGstat_OVERLAP 0 true
  | .semCfg => s.pb F.semStat_BADGIVE i true
  | _ => s

/-- Values that wait for no boundary bake: classes P and F whose generator or grid does not run, class K of an engine or U2D, and of
the DMA agent, of which the spec says nothing (06 R200; log 70). -/
def State.bakeNow (s : State) (p : Port) (r : RegId) (i : Nat) : State :=
  let holds (c : Bake) : Bool := r.fields.any (fun f => f.bake == c)
  let s1 := if holds .p then s.bakeStopped (Fin.ofNat 6 i) else s
  let s2 := if holds .f then s1.bakeIdleGrid else s1
  if holds .k && p != .spi && p != .net then s2.bakeK (fun e => e.port == p) else s2

/-- The write joins its fSYS cycle; `old` is the state before it. -/
def State.noteWrite (s old : State) (p : Port) (d : Nat) (r : RegId) (i : Nat) (v : View) (w : Nat) : State :=
  let c := old.cycFor p
  let a := r.addr i
  let word := old.stagedWord p d r i
  let q : CycAcc := ⟨p.code, a, keepOf v w, flipOf v w, maskOf v w, ((word &&& keepOf v w) ^^^ flipOf v w) &&& maskOf v w⟩
  { s with cyc := { c with
    seen := c.seen ++ [p.code], accs := insAcc q c.accs, base := if (kvGet c.base a).isSome then c.base else kvSet c.base a word } }

/-- A write that has passed the checks takes effect on register `i` (06 R185 steps 7 and 8); `a` is its address. -/
def State.applyReg (s : State) (p : Port) (d a : Nat) (r : RegId) (i : Nat) (v : View) (w : Nat) : State :=
  let l := effFields r i
  let base := if isLive r then s.liveWord p d r i else (s.rd r i).toNat
  let u := l.foldl (s.writeField p d r i v w) { word := base, st := s.staged }
  let e := evDom p d
  let held := (if l.any (·.acc == .wo) then w else u.word) % 2 ^ 32 + e * 2 ^ 32
  let wrote :=
    if isHeldHi r then { s with holdHi := kvSet s.holdHi (holdKey p (r.addr i)) held }
    else if isLive r || u.word = base then { s with staged := u.st }
    else { s.wr r i (BitVec.ofNat 32 u.word) with staged := u.st }
  let s0 := { wrote with parityBad := wrote.parityBad.filter (fun a => a % 2 ^ 24 != r.addr i) }
  let s1 := if u.rsvw || reservedOnes v l w then s0.rsvw e p.code a else s0
  let s2 := if u.viol then s1.violate d p.code a 1 else s1
  let s3 := if u.ign then s2.ignFlag r i else s2
  let s4 := each u.coll.eraseDups (fun x s => s.wrcoll x p.code a) (s3.noteWrite s p d r i v w)
  (s4.onWrite s p d a r i v w u.word (!u.cmdBad)).bakeNow p r i

end Sys2Proof.Machine
end

