-- ==== Sys2Proof/Machine/Access.lean ====
section
/-!
DEFINITION. An access of a port (06 R185): the checks in their order, posted writes (04 R120-R123), reads that consume (06
R219), memory windows; the meanings of REGISTER_WRITE, the alias writes, RC_READ and POSTED_WRITE_EFFECT.
-/

namespace Sys2Proof.Machine

/-! ### Posted writes (04 R120-R122) -/

/-- A register outside fSYS: PPWMn, or the ADC block (04 R117). -/
def postedReg (r : RegId) (i : Nat) : Bool :=
  let a := r.addr i
  (0xA000 ≤ a && a < 0xB000) || (0xE000 ≤ a && a < 0xF000)

/-- A write that has passed ownership reaches its field, unless a lock freezes it (06 R185 steps 6 to 8, R214, R215). -/
def State.regEffect (s : State) (p : Port) (d a : Nat) (v : View) (r : RegId) (i w : Nat) : Nat × State :=
  if s.frozenWrite p r i v w then (6, s.lockv (evDom p d) p.code a) else (0, s.applyReg p d a r i v w)

/-- A posted write takes effect; ownership is checked again (05 R143). -/
def State.postEffect (s : State) (q : Posted) : State :=
  match decode q.addr true with
  | .reg v r i =>
    match s.writeRight q.port q.dom r i v q.data.toNat with
    | .no cause _ => s.violate q.dom q.port.code q.addr cause
    | .ok _ => (s.regEffect q.port q.dom q.addr v r i q.data.toNat).2
  | _ => s

/-- The oldest posted write of a port takes effect. -/
def State.postHead (s : State) (p : Port) : State :=
  match s.posted.find? (·.port == p) with
  | some q => { s with posted := s.posted.erase q }.postEffect q
  | none => s

/-- Every posted write of a port takes effect, in order (04 R121, R122); the buffer holds eight. -/
def State.drain (s : State) (p : Port) : State := each (upto 8) (fun _ s => s.postHead p) s

/-- A write enters the buffer of its port, which is full after eight: the head then takes effect first. -/
def State.post (s : State) (q : Posted) : State :=
  let s1 := if 8 ≤ (s.posted.filter (·.port == q.port)).length then s.postHead q.port else s
  { s1 with posted := s1.posted ++ [q] }

/-! ### Memory windows -/

/-- A read of a window (10 R376, R388, R389; 19 R721): its word, whether the requester reacts to an uncorrectable one. A read of the
image store waits until a program operation ends, and returns what that leaves (10 R390; log 77). -/
def State.windowRead (s : State) (req a : Nat) : Nat × Bool × State :=
  match s.programmed a with
  | some w => (w, false, s)
  | none =>
  if regionOf a == some .larder && (a < 0xB00040 || s.b F.memLardstat_WIPING) then (0, false, s)
  else
    let r := s.readMem req a
    (r.1, r.2.1 && regionOf a != some .larder && a < 0xC00000, r.2.2)

/-- A write of a word of a window: discarded in the larder while a wipe runs. -/
def State.windowWrite (s : State) (a w : Nat) : State :=
  if regionOf a == some .larder && s.b F.memLardstat_WIPING then s else s.writeMem a w

/-! ### Reads -/

/-- The context whose state U2D reads and writes runs on a halted engine (20 R757). -/
def State.u2dCtxBusy (s : State) (r : RegId) : Bool :=
  (r == .u2dCtxpc || r == .u2dCtxflg || r == .u2dCtxv) && !s.halted (ctxEng (Fin.ofNat 16 (s.g F.u2dCtxsel_CTX)))

/-- A read of a result register clears VALID (06 R219). -/
def State.rcClear (s : State) (r : RegId) (i : Nat) : State :=
  if r.fields.any (fun f => f.acc == .rc && f.name == "VALID") && s.rbit r i 31 then s.clrBits r i (2 ^ 31) else s

/-- A read of a register at itself or through an alias, which consumes where `use` holds: its word and the state after. -/
def State.regRead (s : State) (p : Port) (d : Nat) (r : RegId) (i : Nat) (use : Bool) : Nat × State :=
  let dom := s.useDom p d r i
  let w := s.maskRead p d r i (s.liveWord p d r i)
  match r with
  | .rackPop => if use then s.popRead p.code dom i else s.popPeek p.code dom i
  | .semTake =>
    if use then
      let t := s.semTake i (agentOf p d) dom
      (takeWord t.1, t.2)
    else (w, s)
  | .snapStat =>
    let k := bankOf p d
    let x := s.snap k
    (w, if x.valid then { s with snaps := s.snaps.filter (fun y => y.bank != k) ++ [{ x with valid := false }] } else s)
  | .u2dTrpop =>
    match s.dbg.trace with
    | e :: t =>
      if use then (w, { (s.wr .u2dTrpop 0 (BitVec.ofNat 32 e.1)).wr .u2dTrw1 0 (BitVec.ofNat 32 e.2) with
        dbg := { s.dbg with trace := t } }) else (w, s)
    | [] => (w, s)
  | _ => (w, if use then s.rcClear r i else s)

/-- A read of `a` by a port and domain that has drained its posted writes: outcome code, word, whether the word is uncorrectable,
state after (06 R185-R188, R194, R195, R197). -/
def State.readAt (s : State) (p : Port) (d a : Nat) : Nat × Nat × Bool × State :=
  let l := decode a false
  let g := s.gateCause p d (isIdent l)
  if g ≠ 0 then (5, 0, false, s.violate d p.code a g)
  else if s.noSession p d (isExempt l) then (13, 0, false, s)
  else
    match l with
    | .bad c => (c, 0, false, s.buserr (evDom p d) p.code a c)
    | .mem rg =>
      match s.memRight p d rg a false with
      | .no cause code => (code, 0, false, s.violate d p.code a cause)
      | .ok _ => let m := s.windowRead p.code a; (0, m.1, m.2.1, m.2.2)
    | .reg v r i =>
      if p != .dma && r == .rackPop && 17 ≤ s.cons i then (2, 0, false, s.buserr (evDom p d) p.code a 2)
      else
        match s.readRight p d r i with
        | .no cause code => (code, 0, false, s.violate d p.code a cause)
        | .ok use =>
          if s.u2dCtxBusy r then (13, 0, false, s)
          else
            match v with
            | .staged => (0, s.maskRead p d r i (s.stagedWord p d r i), false, s)
            | .bit n => (0, (if bitN (s.maskRead p d r i (s.liveWord p d r i)) n then 1 else 0), false, s)
            | _ => let x := s.regRead p d r i use; (0, x.1, false, x.2)

/-- A read by a port: no read passes an earlier write of the port (04 R122). -/
def State.portRead (s : State) (p : Port) (d a : Nat) : Nat × Nat × Bool × State := (s.drain p).readAt p d a

/-! ### Writes -/

/-- A write of a register that has passed steps 1 to 3 of 06 R185. -/
def State.regWrite (s : State) (p : Port) (d a : Nat) (v : View) (r : RegId) (i w : Nat) : Nat × State :=
  if p != .dma && r == .rackPush && 17 ≤ s.prod i then (2, s.buserr (evDom p d) p.code a 2)
  else
    match s.writeRight p d r i v w with
    | .no cause code => (code, s.violate d p.code a cause)
    | .ok _ =>
      if s.u2dCtxBusy r || (r == .u2dStep && bitN w 31 && !s.halted (ctxEng (Fin.ofNat 16 w))) then (13, s)
      else if p != .dma && postedReg r i && !s.frozenWrite p r i v w then
        (0, s.post ⟨p, if p = .u2d then 4 else d, a, BitVec.ofNat 32 w⟩)
      else (s.drain p).regEffect p d a v r i w

/-- A write of `w` at `a` by a port and domain: outcome code and state after. -/
def State.portWrite (s : State) (p : Port) (d a w : Nat) : Nat × State :=
  let g := s.gateCause p d false
  if g ≠ 0 then (5, s.violate d p.code a g)
  else if s.noSession p d (isExempt (decode a true)) then (13, s)
  else
    match decode a true with
    | .bad c => (c, s.buserr (evDom p d) p.code a c)
    | .mem rg =>
      let s1 := s.drain p
      match s1.memRight p d rg a true with
      | .no cause code => (code, s1.violate d p.code a cause)
      | .ok _ => (0, s1.windowWrite a w)
    | .reg v r i => s.regWrite p d a v r i w

/-! ### The commands -/

/-- The port reports the outcome of its access. -/
def State.result (s : State) (p : Port) (code data : Nat) : State :=
  { s with acc := kvSet s.acc p.code ⟨code, BitVec.ofNat 32 data⟩ }

/-- Registers are reached from release on, while fSYS runs (03 R70, 04 R117). -/
def State.live (s : State) : Bool := s.running && s.clk.fsys

/-- A code of the SPI port: its flag, its counter, IRQ85 (07 R255, R267). -/
def State.spiFlag (s : State) (code : Nat) : State :=
  let s1 := (s.setBits .spiStat 0 (2 ^ (code - 8))).pendIrq 85
  match code with
  | 8 => s1.incSat F.spiErrcnt_CMDCRC
  | 9 => s1.incSat F.spiErrcnt_DATACRC
  | 10 => s1.incSat F.spiErrcnt_LEN
  | 12 => s1.incSat F.spiErrcnt_ABANDON
  | _ => s1

/-- A single access that the SPI port itself has refused sets the flag of its code (07 R255). -/
def State.portFlag (s : State) (p : Port) (code : Nat) : State := if p = .spi && code = 13 then s.spiFlag 13 else s

/-- A write command: a word of a transaction of its port (log 14). -/
def State.writeCmd (s : State) (p : Port) (d : Dom) (a w : Nat) : Host.Outcome State Fault Refusal :=
  if s.live then
    let r := s.portWrite p d a w
    .next (((r.2.loose s p).portFlag p r.1).result p r.1 0)
  else .next s

/-- A read command. -/
def State.readCmd (s : State) (p : Port) (d : Dom) (a : Nat) : Host.Outcome State Fault Refusal :=
  if s.live then
    let r := s.portRead p d a
    .next ((r.2.2.2.portFlag p r.1).result p r.1 r.2.1)
  else .next s

/-- A write command on register `i` of an array. -/
def State.writeReg (s : State) (p : Port) (d : Dom) (r : RegId) (i : Nat) (w : Nat) : Host.Outcome State Fault Refusal :=
  s.writeCmd p d (r.addr i) w

/-- REGISTER_WRITE (06 R185): a word is written at an address of the map. -/
def execRegisterWrite (p : Port) (d : Dom) (a : Addr) (w : Word) (s : State) : Host.Outcome State Fault Refusal :=
  s.writeCmd p d a.toNat w.toNat

/-- The address of a register through an alias whose region starts at `base`; an address that is no register offset stays in the
reserved part of the region. -/
def aliasAddr (base : Nat) (a : Addr) : Nat := if a.toNat < 0x80000 then base + a.toNat else base + 0x80000

/-- SET_ALIAS_WRITE (06 R192). -/
def execSetAliasWrite (p : Port) (d : Dom) (a : Addr) (w : Word) (s : State) : Host.Outcome State Fault Refusal :=
  s.writeCmd p d (aliasAddr 0x100000 a) w.toNat

/-- CLEAR_ALIAS_WRITE (06 R192). -/
def execClearAliasWrite (p : Port) (d : Dom) (a : Addr) (w : Word) (s : State) : Host.Outcome State Fault Refusal :=
  s.writeCmd p d (aliasAddr 0x200000 a) w.toNat

/-- TOGGLE_ALIAS_WRITE (06 R192). -/
def execToggleAliasWrite (p : Port) (d : Dom) (a : Addr) (w : Word) (s : State) : Host.Outcome State Fault Refusal :=
  s.writeCmd p d (aliasAddr 0x300000 a) w.toNat

/-- The bit-alias address of a bit of a register; an address beyond the register blocks lands on no register. -/
def bitAddr (a : Addr) (bit : Fin 32) : Nat :=
  if a.toNat < 0x20000 then 0x400000 + a.toNat * 32 + 4 * bit.val else 0x7FFF80 + 4 * bit.val

/-- BIT_ALIAS_WRITE (06 R195). -/
def execBitAliasWrite (p : Port) (d : Dom) (a : Addr) (bit : Fin 32) (v : Bool) (s : State) :
    Host.Outcome State Fault Refusal :=
  s.writeCmd p d (bitAddr a bit) (if v then 1 else 0)

/-- RC_READ (06 R219): a read, which consumes a result register where it may. -/
def execRcRead (p : Port) (d : Dom) (a : Addr) (s : State) : Host.Outcome State Fault Refusal := s.readCmd p d a.toNat

/-- POSTED_WRITE_EFFECT (04 R121): the oldest posted write of a port takes effect; its clock stands still with fSYS (04 R116). -/
def execPostedWriteEffect (p : Port) (s : State) : Host.Outcome State Fault Refusal :=
  .next (if s.clk.fsys then s.postHead p else s)

end Sys2Proof.Machine
end

