-- ==== Sys2Proof/Machine/Recipe.lean ====
section
/-!
DEFINITION. Execution of a recipe instruction by a pattern engine (12 R462-R467; 11 R422, R425): fetch, exceptions, in-flight
slots (05 R153, R154); the arithmetic, logic and branch instructions (12 R468-R474) and RDS, NOP, END, TRAP.
-/

namespace Sys2Proof.Machine

/-! ### Fetch -/

/-- What the fetch of an instruction gives: nothing yet, an exception with its code and address, or the word. -/
inductive Fetched where
  | wait
  | exc (code addr : Nat)
  | word (w : Word)
  deriving DecidableEq, Repr

/-- The fetch of the next instruction of context `c` (11 R422, R424): a stalled instruction stays as it was fetched; a miss counts
and waits for its line. -/
def State.fetch (s : State) (c : Fin 16) : Fetched × State :=
  let e := ctxEng c
  let pc := (s.cx c).pc
  match (s.cx c).stall with
  | some w => (.word w, s)
  | none =>
    if s.memOwner (0x800000 + pc) ≠ ctxDom c then (.exc 2 0, s)
    else
      match s.cached e pc with
      | some l =>
        (match l.words.getD (pc / 4 % 8) none with
          | some w => .word (BitVec.ofNat 32 w)
          | none => .exc 5 (0x800000 + pc), s.touchLine e l)
      | none =>
        if (s.en e).fill.isSome then (.wait, s)
        else (.wait, (s.modEn e (fun x => { x with fill := some (pcLine pc) })).incMod F.peStat_MISS e)

/-- A breakpoint halts engine `e` before the instruction at `pc` (20 R758). -/
def State.breaks (s : State) (e : Fin 4) (pc : Nat) : Bool :=
  (upto 4).any (fun k => s.b F.u2dBp_EN k && bitN (s.g F.u2dBp_MASK k) e && s.g F.u2dBp_PC k == pc)

/-- The breakpoint that engine `e` meets, the lowest. -/
def State.breakAt (s : State) (e : Fin 4) (pc : Nat) : Option Nat :=
  (upto 4).find? (fun k => s.b F.u2dBp_EN k && bitN (s.g F.u2dBp_MASK k) e && s.g F.u2dBp_PC k == pc)

/-- Context `c` may execute: its recipe is RUNNABLE and does not stall for a slot. -/
def State.mayRun (s : State) (c : Fin 16) : Bool :=
  s.live && (s.cx c).st == .runnable && ((s.cx c).stall.isNone || (s.cx c).slot)

/-- The context of engine `e` that executes now (12 R463): the one it is granted to, unless the engine is halted or at a
breakpoint. -/
def State.execCtx (s : State) (e : Fin 4) : Option (Fin 16) :=
  match s.cur e with
  | some c => if s.mayRun c && !s.halted e && !s.breaks e (s.cx c).pc then some c else none
  | none => none

/-- Engine `e` comes to the instruction `i`: where that is the next instruction of its context, `f` is what it does; an exception
of the fetch, or a miss, comes first. -/
def State.runOn (s : State) (e : Fin 4) (i : Instr) (f : Fin 16 → State → State) : Host.Outcome State Fault Refusal :=
  let s0 := s.engReady e
  match s0.execCtx e with
  | none => .next s
  | some c =>
    match s0.fetch c with
    | (.wait, s1) => .next s1
    | (.exc code a, s1) => .next (s1.exception c code a)
    | (.word w, s1) => if decodeRecipe e w = some i then .next ((f c s1).engReady e) else .next s

/-! ### Registers, flags, program counter -/

/-- The value of a register of context `c`. -/
def State.v (s : State) (c : Fin 16) (r : Reg) : Word := vget (s.cx c).v r

/-- Context `c` goes on to its next instruction. -/
def State.adv (s : State) (c : Fin 16) : State := s.modCx c (fun x => { x with pc := pcNext x.pc, stall := none, slot := false })

/-- A result without flags: `rd` takes it, the program counter advances. -/
def State.setRd (s : State) (c : Fin 16) (rd : Reg) (w : Word) : State := (s.modCx c (fun x => x.setV rd w)).adv c

/-- Z and N of a result, with C and V where the instruction names them (12 R468). -/
def State.flags (s : State) (c : Fin 16) (r : Word) (cy ov : Option Bool) : State :=
  s.modCx c (fun x => { x with z := r == 0, n := r.msb, c := cy.getD x.c, o := ov.getD x.o })

/-- A result with flags. -/
def State.alu (s : State) (c : Fin 16) (rd : Reg) (r : Word) (cy ov : Option Bool) : State :=
  (s.flags c r cy ov).setRd c rd r

/-! ### Arithmetic (12 R471-R473) -/

/-- Whether an exact result lies outside 32 signed bits. -/
def overS (i : Int) : Bool := i < -(2 ^ 31) || 2 ^ 31 ≤ i

/-- Carry and overflow of an addition, borrow and overflow of a subtraction (12 R471). -/
def carryAdd (a b : Word) : Bool := 2 ^ 32 ≤ a.toNat + b.toNat
def overAdd (a b : Word) : Bool := overS (a.toInt + b.toInt)
def borrowSub (a b : Word) : Bool := a.toNat < b.toNat
def overSub (a b : Word) : Bool := overS (a.toInt - b.toInt)

/-- An exact result held to 32 signed bits (12 R473). -/
def sat32 (i : Int) : Word := BitVec.ofInt 32 (clampI (-(2 ^ 31)) (2 ^ 31 - 1) i)

/-- IMM sign-extended and zero-extended. -/
def sx (i : BitVec 16) : Word := i.signExtend 32
def zx (i : BitVec 16) : Word := i.setWidth 32

/-- ADD: rd = ra + rb. -/
def opAdd (c : Fin 16) (rd ra rb : Reg) (s : State) : State :=
  let a := s.v c ra
  let b := s.v c rb
  s.alu c rd (a + b) (some (carryAdd a b)) (some (overAdd a b))
/-- SUB: rd = ra - rb. -/
def opSub (c : Fin 16) (rd ra rb : Reg) (s : State) : State :=
  let a := s.v c ra
  let b := s.v c rb
  s.alu c rd (a - b) (some (borrowSub a b)) (some (overSub a b))
/-- AND, OR, XOR. -/
def opAnd (c : Fin 16) (rd ra rb : Reg) (s : State) : State := s.alu c rd (s.v c ra &&& s.v c rb) none none
def opOr (c : Fin 16) (rd ra rb : Reg) (s : State) : State := s.alu c rd (s.v c ra ||| s.v c rb) none none
def opXor (c : Fin 16) (rd ra rb : Reg) (s : State) : State := s.alu c rd (s.v c ra ^^^ s.v c rb) none none

/-- The bit that a shift by `n` shifts out last: bit `32 - n` to the left, bit `n - 1` to the right; none for a count of 0
(12 R472). -/
def outLeft (a : Word) (n : Nat) : Option Bool := if n = 0 then none else some (a.getLsbD (32 - n))
def outRight (a : Word) (n : Nat) : Option Bool := if n = 0 then none else some (a.getLsbD (n - 1))

/-- SHL, SHR, SAR by rb[4:0]. -/
def opShl (c : Fin 16) (rd ra rb : Reg) (s : State) : State :=
  let a := s.v c ra
  let n := (s.v c rb).toNat % 32
  s.alu c rd (a <<< n) (outLeft a n) none
def opShr (c : Fin 16) (rd ra rb : Reg) (s : State) : State :=
  let a := s.v c ra
  let n := (s.v c rb).toNat % 32
  s.alu c rd (a >>> n) (outRight a n) none
def opSar (c : Fin 16) (rd ra rb : Reg) (s : State) : State :=
  let a := s.v c ra
  let n := (s.v c rb).toNat % 32
  s.alu c rd (a.sshiftRight n) (outRight a n) none
/-- MUL: the low word of the signed product; V where it does not fit. -/
def opMul (c : Fin 16) (rd ra rb : Reg) (s : State) : State :=
  let p := (s.v c ra).toInt * (s.v c rb).toInt
  s.alu c rd (BitVec.ofInt 32 p) none (some (overS p))
/-- MULQ: the product plus 0x4000, shifted right by 15, saturated. -/
def opMulq (c : Fin 16) (rd ra rb : Reg) (s : State) : State :=
  let p := ((s.v c ra).toInt * (s.v c rb).toInt + 0x4000) / 2 ^ 15
  s.alu c rd (sat32 p) none (some (overS p))
/-- MIN, MAX, signed. -/
def opMin (c : Fin 16) (rd ra rb : Reg) (s : State) : State :=
  s.alu c rd (if (s.v c rb).slt (s.v c ra) then s.v c rb else s.v c ra) none none
def opMax (c : Fin 16) (rd ra rb : Reg) (s : State) : State :=
  s.alu c rd (if (s.v c ra).slt (s.v c rb) then s.v c rb else s.v c ra) none none
/-- ADDS, SUBS: saturated. -/
def opAdds (c : Fin 16) (rd ra rb : Reg) (s : State) : State :=
  let i := (s.v c ra).toInt + (s.v c rb).toInt
  s.alu c rd (sat32 i) none (some (overS i))
def opSubs (c : Fin 16) (rd ra rb : Reg) (s : State) : State :=
  let i := (s.v c ra).toInt - (s.v c rb).toInt
  s.alu c rd (sat32 i) none (some (overS i))
/-- CMP: the flags of SUB. -/
def opCmp (c : Fin 16) (ra rb : Reg) (s : State) : State :=
  let a := s.v c ra
  let b := s.v c rb
  (s.flags c (a - b) (some (borrowSub a b)) (some (overSub a b))).adv c
/-- ADDI, ANDI, ORI, XORI. -/
def opAddi (c : Fin 16) (rd ra : Reg) (imm : BitVec 16) (s : State) : State :=
  let a := s.v c ra
  let b := sx imm
  s.alu c rd (a + b) (some (carryAdd a b)) (some (overAdd a b))
def opAndi (c : Fin 16) (rd ra : Reg) (imm : BitVec 16) (s : State) : State := s.alu c rd (s.v c ra &&& zx imm) none none
def opOri (c : Fin 16) (rd ra : Reg) (imm : BitVec 16) (s : State) : State := s.alu c rd (s.v c ra ||| zx imm) none none
def opXori (c : Fin 16) (rd ra : Reg) (imm : BitVec 16) (s : State) : State := s.alu c rd (s.v c ra ^^^ zx imm) none none
/-- SHLI, SHRI, SARI. -/
def opShli (c : Fin 16) (rd ra : Reg) (imm : BitVec 5) (s : State) : State :=
  let a := s.v c ra
  s.alu c rd (a <<< imm.toNat) (outLeft a imm.toNat) none
def opShri (c : Fin 16) (rd ra : Reg) (imm : BitVec 5) (s : State) : State :=
  let a := s.v c ra
  s.alu c rd (a >>> imm.toNat) (outRight a imm.toNat) none
def opSari (c : Fin 16) (rd ra : Reg) (imm : BitVec 5) (s : State) : State :=
  let a := s.v c ra
  s.alu c rd (a.sshiftRight imm.toNat) (outRight a imm.toNat) none
/-- MOVI, MOVHI. -/
def opMovi (c : Fin 16) (rd : Reg) (imm : BitVec 16) (s : State) : State := s.setRd c rd (sx imm)
def opMovhi (c : Fin 16) (rd : Reg) (imm : BitVec 16) (s : State) : State :=
  s.setRd c rd (zx imm <<< 16 ||| (s.v c rd &&& 0xFFFF))
/-- CMPI: the flags of a subtraction. -/
def opCmpi (c : Fin 16) (ra : Reg) (imm : BitVec 16) (s : State) : State :=
  let a := s.v c ra
  let b := sx imm
  (s.flags c (a - b) (some (borrowSub a b)) (some (overSub a b))).adv c

/-! ### Branches (12 R469, R470, R474) -/

/-- The condition that COND selects. -/
def Ctx.cond (x : Ctx) (k : Nat) : Bool :=
  match k with
  | 0 => true
  | 1 => x.z
  | 2 => !x.z
  | 3 => x.n != x.o
  | 4 => x.n == x.o
  | 5 => x.z || x.n != x.o
  | 6 => !x.z && x.n == x.o
  | 7 => x.c
  | 8 => !x.c
  | 9 => x.c || x.z
  | 10 => !x.c && !x.z
  | 11 => x.n
  | 12 => !x.n
  | 13 => x.o
  | _ => !x.o

/-- A program counter moved by a signed number of words, modulo the recipe SRAM (12 R499). -/
def pcJump (pc : Nat) (ofs : Int) : Nat := wrap 17 (pc + 4 * ofs)

/-- Context `c` goes on at `pc`. -/
def State.goto (s : State) (c : Fin 16) (pc : Nat) : State := s.modCx c (fun x => { x with pc := pc, stall := none, slot := false })

/-- ra[16:2] times 4. -/
def pcOf (w : Word) : Nat := w.toNat % 2 ^ 17 / 4 * 4

/-- v15 takes the program counter that follows (12 R463, R470). -/
def State.link (s : State) (c : Fin 16) : State := s.modCx c (fun x => x.setV 15 (BitVec.ofNat 32 (pcNext x.pc)))

/-- B. -/
def opB (c : Fin 16) (cond : BitVec 4) (ofs : BitVec 20) (s : State) : State :=
  if (s.cx c).cond cond.toNat then s.goto c (pcJump (s.cx c).pc ofs.toInt) else s.adv c
/-- CALL. -/
def opCall (c : Fin 16) (ofs : BitVec 20) (s : State) : State := (s.link c).goto c (pcJump (s.cx c).pc ofs.toInt)
/-- JR. -/
def opJr (c : Fin 16) (ra : Reg) (s : State) : State := s.goto c (pcOf (s.v c ra))
/-- CALLR: the target is read before v15 is written. -/
def opCallr (c : Fin 16) (ra : Reg) (s : State) : State := (s.link c).goto c (pcOf (s.v c ra))
/-- LOOP: no flag changes. -/
def opLoop (c : Fin 16) (rd : Reg) (imm : BitVec 16) (s : State) : State :=
  let w := s.v c rd - 1
  let s1 := s.modCx c (fun x => x.setV rd w)
  if w = 0 then s1.adv c else s1.goto c (pcJump (s.cx c).pc imm.toInt)

/-! ### Special values, END, TRAP, NOP (12 R494, R495) -/

/-- The value that SEL names; SEL 0 latches THI. -/
def State.special (s : State) (c : Fin 16) (sel : Nat) : Word :=
  BitVec.ofNat 32 (match sel with
    | 0 => s.time
    | 1 => (s.cx c).thi.toNat
    | 2 => s.slice.k
    | 3 => c.val
    | 4 => (s.cx c).wst
    | 5 => s.workOf c
    | _ => s.slice.last)

/-- RDS. -/
def opRds (c : Fin 16) (rd : Reg) (sel : BitVec 4) (s : State) : State :=
  let s1 := if sel = 0 then s.modCx c (fun x => { x with thi := BitVec.ofNat 32 (s.time / 2 ^ 32) }) else s
  s1.setRd c rd (s.special c sel.toNat)
/-- NOP. -/
def opNop (c : Fin 16) (s : State) : State := s.adv c
/-- END (11 R421): LOCK semaphores and partial pushes are kept. -/
def opEnd (c : Fin 16) (s : State) : State := s.endCtx c false false
/-- TRAP. -/
def opTrap (c : Fin 16) (s : State) : State := s.exception c 7 0
/-- FENCE: every earlier write of the engine has taken effect. -/
def opFence (c : Fin 16) (s : State) : State := (s.drain (.pe (ctxEng c))).adv c

end Sys2Proof.Machine
end

