-- ==== Sys2Proof/Machine/RecipeMem.lean ====
section
/-!
DEFINITION. Loads, stores and pixel instructions of the pattern engines (12 R475-R485), their in-flight slots (05 R153-R156;
12 R478); the meanings of QUOTA_STALL_TIMEOUT and INFLIGHT_SLOT_GRANT.
-/

namespace Sys2Proof.Machine

/-! ### In-flight slots (05 R153, R154) -/

/-- The instruction of context `c`, whose word is `w`, takes a slot for `f`, or stalls for one. -/
def State.withSlot (s : State) (c : Fin 16) (w : Word) (f : State → State) : State :=
  let d := ctxDom c
  if (s.cx c).slot then f (s.modCx c (fun x => { x with slot := false }))
  else if (s.cx c).stall.isSome then s
  else if s.slotShort d then
    ((s.modCx c (fun x => { x with stall := some w })).addWait
      { agent := c.val + 1, dom := d, what := .slot, start := s.tick, tmo := s.g F.waitTmo_ENG }).quotaHit d
  else f s

/-- INFLIGHT_SLOT_GRANT (05 R154, R156): a slot is free for the transaction that an agent waits with, the first of those that one is
free for. -/
def execInflightSlotGrant (agent : Fin 19) (s : State) : Host.Outcome State Fault Refusal :=
  match s.slotHead with
  | some w => .next (if w.agent == agent.val then s.giveSlot w else s)
  | none => .next s

/-- The stalled instruction of context `c` completes without an access (12 R478): WST 3, and 0 for a load. -/
def State.quotaGiveUp (s : State) (c : Fin 16) (w : Word) : State :=
  let s1 := s.modCx c (fun x => { x with wst := 3 })
  match decodeRecipe (ctxEng c) w with
  | some (.ldw _ rd _ _) | some (.ldh _ rd _ _) | some (.ldb _ rd _ _) => s1.setRd c rd 0
  | _ => s1.adv c

/-- QUOTA_STALL_TIMEOUT (12 R478; 09 R347, R348): the stall of context `c` has reached WAIT_TMO.ENG. -/
def execQuotaStallTimeout (c : Fin 16) (s : State) : Host.Outcome State Fault Refusal :=
  match (s.cx c).stall, s.waitOf (c.val + 1) with
  | some w, some q => .next ((((s.dlkRecord q 3).dropWait q.agent).quotaGiveUp c w).engReady (ctxEng c))
  | _, _ => .next s

/-! ### Loads and stores (12 R475-R477) -/

/-- The effective address. -/
def State.ea (s : State) (c : Fin 16) (ra : Reg) (imm : BitVec 16) : Nat := (s.v c ra + sx imm).toNat % 2 ^ 24

/-- Whether a location takes accesses of `n` bytes (12 R476). -/
def widthOk (a n : Nat) : Bool :=
  match regionOf a with
  | some .data => true
  | some .tray | some .hot => n != 1
  | _ => n == 4

/-- Whether an address holds a register or a window location, apart from its size. -/
def placed (a : Nat) : Bool :=
  match decode (a / 4 * 4) false with
  | .bad 1 => false
  | _ => true

/-- A halfword or byte access of context `c` that is not one of the location's widths, or reaches no location: the bus-error code,
0 where it goes on. -/
def badNarrow (a n : Nat) : Nat := if widthOk a n then 0 else if placed a || a < 0x800000 then 2 else 1

/-- The outcome of a data access: an exception with code and address, or a value. -/
inductive Got where
  | exc (code addr : Nat)
  | val (n : Nat)
  deriving DecidableEq, Repr

/-- A load of `n` bytes at `a` in the domain of context `c`. -/
def State.engLoad (s : State) (c : Fin 16) (n a : Nat) : Got × State :=
  let e := ctxEng c
  let d := ctxDom c
  let p : Port := .pe e
  if a % n ≠ 0 then (.exc 6 a, s)
  else if n = 4 then
    let r := s.portRead p d a
    if r.1 = 1 || r.1 = 2 then (.exc 3 a, r.2.2.2)
    else if r.2.2.1 then (.exc 5 a, r.2.2.2)
    else (.val r.2.1, r.2.2.2)
  else
    let s0 := s.drain p
    let g := s0.gateCause p d false
    if g ≠ 0 then (.val 0, s0.violate d p.code a g)
    else if badNarrow a n ≠ 0 then (.exc 3 a, s0.buserr d p.code a (badNarrow a n))
    else
      match s0.memRight p d .data a false with
      | .no cause _ => (.val 0, s0.violate d p.code a cause)
      | .ok _ =>
        let m := s0.windowRead (2 + e.val) (a / 4 * 4)
        if m.2.1 then (.exc 5 (a / 4 * 4), m.2.2) else (.val (bitsN m.1 (8 * (a % 4)) (8 * n)), m.2.2)

/-- A store of the low `n` bytes of `w` at `a`: an exception with code and address, or none. -/
def State.engStore (s : State) (c : Fin 16) (n a w : Nat) : Option (Nat × Nat) × State :=
  let e := ctxEng c
  let d := ctxDom c
  let p : Port := .pe e
  if a % n ≠ 0 then (some (6, a), s)
  else if n = 4 then
    let r := s.portWrite p d a w
    if r.1 = 1 || r.1 = 2 then (some (3, a), r.2)
    else if r.1 = 0 || r.1 = 6 then (none, r.2)
    else (some (4, a), r.2)
  else
    let s0 := s.drain p
    let g := s0.gateCause p d false
    if g ≠ 0 then (some (4, a), s0.violate d p.code a g)
    else if badNarrow a n ≠ 0 then (some (3, a), s0.buserr d p.code a (badNarrow a n))
    else
      match s0.memRight p d .data a true with
      | .no cause _ => (some (4, a), s0.violate d p.code a cause)
      | .ok _ =>
        let m := s0.mergeMem (2 + e.val) (a / 4 * 4) (8 * (a % 4)) (8 * n) w
        (if m.1 then some (5, a / 4 * 4) else none, m.2)

/-- A load instruction of `n` bytes; misalignment comes before the slot. -/
def State.loadAt (s : State) (c : Fin 16) (word : Word) (n : Nat) (rd ra : Reg) (imm : BitVec 16) : State :=
  let a := s.ea c ra imm
  if a % n ≠ 0 then s.exception c 6 a
  else s.withSlot c word (fun s =>
    match s.engLoad c n a with
    | (.exc code x, s1) => s1.exception c code x
    | (.val v, s1) => s1.setRd c rd (BitVec.ofNat 32 v))

/-- A store instruction of `n` bytes. -/
def State.storeAt (s : State) (c : Fin 16) (word : Word) (n : Nat) (rd ra : Reg) (imm : BitVec 16) : State :=
  let a := s.ea c ra imm
  if a % n ≠ 0 then s.exception c 6 a
  else s.withSlot c word (fun s =>
    match s.engStore c n a ((s.v c rd).toNat % 2 ^ (8 * n)) with
    | (some (code, x), s1) => s1.exception c code x
    | (none, s1) => s1.adv c)

/-- LDW, LDH, LDB. -/
def opLdw (c : Fin 16) (rd ra : Reg) (imm : BitVec 16) (s : State) : State := s.loadAt c (wordI 0x20 rd ra imm.toNat) 4 rd ra imm
def opLdh (c : Fin 16) (rd ra : Reg) (imm : BitVec 16) (s : State) : State := s.loadAt c (wordI 0x21 rd ra imm.toNat) 2 rd ra imm
def opLdb (c : Fin 16) (rd ra : Reg) (imm : BitVec 16) (s : State) : State := s.loadAt c (wordI 0x22 rd ra imm.toNat) 1 rd ra imm
/-- STW, STH, STB. -/
def opStw (c : Fin 16) (rd ra : Reg) (imm : BitVec 16) (s : State) : State := s.storeAt c (wordI 0x24 rd ra imm.toNat) 4 rd ra imm
def opSth (c : Fin 16) (rd ra : Reg) (imm : BitVec 16) (s : State) : State := s.storeAt c (wordI 0x25 rd ra imm.toNat) 2 rd ra imm
def opStb (c : Fin 16) (rd ra : Reg) (imm : BitVec 16) (s : State) : State := s.storeAt c (wordI 0x26 rd ra imm.toNat) 1 rd ra imm

/-! ### Pixel references (12 R479, R480) -/

/-- A pixel reference: first pixel word, number, tray. -/
structure Pref where
  p : Nat
  n : Nat
  t : Nat
  deriving DecidableEq, Repr

/-- The fields of a PREF; none where it takes RANGE whatever the instruction. -/
def prefOf (w : Word) : Option Pref :=
  let n := w.toNat
  let r : Pref := ⟨bitsN n 0 9, bitsN n 9 9, bitsN n 18 8⟩
  if bitsN n 26 6 = 0 && r.p ≤ 479 && trayOk r.t then some r else none

/-- A run that stays in its tray. -/
def Pref.fits (r : Pref) (n : Nat) : Bool := n != 0 && r.p + n ≤ 480

/-- The byte address of pixel word `q` of a tray, and of the 32-bit word `j` that holds words 2 j and 2 j + 1. -/
def Pref.at (r : Pref) (q : Nat) : Nat := trayBase r.t + 0x20 + 2 * q
def Pref.word (r : Pref) (j : Nat) : Nat := trayBase r.t + 0x20 + 4 * j

/-- The 32-bit words that a run of `n` touches. -/
def Pref.touched (r : Pref) (n : Nat) : List Nat := (upto ((r.p + n - 1) / 2 - r.p / 2 + 1)).map (· + r.p / 2)

/-! ### Pixel reads and writes (12 R481-R483) -/

/-- Read the word at an aligned address as a source of a pixel instruction: a read refused under 05 R140 gives 0. -/
def State.pxRead (s : State) (c : Fin 16) (a : Nat) : Got × State :=
  let e := ctxEng c
  let d := ctxDom c
  match s.memRight (.pe e) d .data a false with
  | .no cause _ => (.val 0, s.violate d (Port.pe e).code a cause)
  | .ok _ =>
    let m := s.windowRead (2 + e.val) a
    if m.2.1 then (.exc 5 a, m.2.2) else (.val m.1, m.2.2)

/-- The words read so far, the first exception, the state. -/
structure Reads where
  l : List Nat := []
  exc : Option (Nat × Nat) := none
  s : State

/-- Read words in order, up to the first that is uncorrectable. -/
def State.pxReads (s : State) (c : Fin 16) (as : List Nat) : Reads :=
  as.foldl (fun r a =>
    if r.exc.isSome then r
    else match r.s.pxRead c a with
      | (.val v, s1) => { r with l := r.l ++ [v], s := s1 }
      | (.exc code x, s1) => { r with exc := some (code, x), s := s1 }) { s := s }

/-- The pixel words of a run from the words it touches. -/
def runOf (r : Pref) (n : Nat) (words : List Nat) : List Nat :=
  (upto n).map (fun i => bitsN (words.getD ((r.p + i) / 2 - r.p / 2) 0) (16 * ((r.p + i) % 2)) 16)

/-- Write the pixel words of a run: whole words where both lie in it, halfwords at its edges; a write that meets an uncorrectable
word is left undone (12 R481, R482). -/
def State.pxWrite (s : State) (c : Fin 16) (r : Pref) (px : List Nat) : State :=
  let n := px.length
  let inRun (q : Nat) : Bool := r.p ≤ q && q < r.p + n
  let val (q : Nat) : Nat := px.getD (q - r.p) 0
  each (r.touched n) (fun j s =>
    let a := r.word j
    if inRun (2 * j) && inRun (2 * j + 1) then s.writeMem a (val (2 * j) + val (2 * j + 1) * 2 ^ 16)
    else
      let q := if inRun (2 * j) then 2 * j else 2 * j + 1
      (s.mergeMem (2 + (ctxEng c).val) a (16 * (q % 2)) 16 (val q)).2) s

/-- Phase 1 of an instruction that writes the run of `r`: ownership of its tray, then the words it reads (12 R481). -/
def State.pxCheck (s : State) (c : Fin 16) (r : Pref) (as : List Nat) : Reads :=
  let e := ctxEng c
  let d := ctxDom c
  match s.memRight (.pe e) d .data (r.at r.p) true with
  | .no cause _ => { exc := some (4, r.at r.p), s := s.violate d (Port.pe e).code (r.at r.p) cause }
  | .ok _ => s.pxReads c as

/-- A pixel instruction that writes a run: phase 1, then the results that `f` computes from the words read, or the exception. -/
def State.pxRun (s : State) (c : Fin 16) (r : Pref) (as : List Nat) (f : List Nat → List Nat) (z : List Nat → Option Bool) : State :=
  let x := (s.drain (.pe (ctxEng c))).pxCheck c r as
  match x.exc with
  | some (code, a) => x.s.exception c code a
  | none =>
    let px := f x.l
    ((x.s.pxWrite c r px).modCx c (fun y => { y with z := (z px).getD y.z })).adv c

/-! ### Arithmetic (12 R484) -/

/-- Duty and mode of a pixel word, and a pixel word of mode bits and a duty. -/
def dutyOf (w : Nat) : Nat := w % 2 ^ 14
def remode (w : Nat) (d : Int) : Nat := w / 2 ^ 14 * 2 ^ 14 + d.toNat % 2 ^ 14

/-- One FADE step of a duty. -/
def fadeStep (t st w : Nat) : Nat := remode w (dutyOf w + clampI (-(st : Int)) st ((t : Int) - dutyOf w))

/-- One BLEND of pixel word `a` with `b` by weight `w`. -/
def blendStep (w a b : Nat) : Nat :=
  let diff : Int := (dutyOf b : Int) - dutyOf a
  let q : Int := ((diff.natAbs * w + 255) / 256 : Nat)
  remode (if 128 < w then b else a) ((dutyOf a : Int) + if diff < 0 then -q else q)

/-- One LUT step of a pixel word between two entries. -/
def lutStep (a e0 e1 : Nat) : Nat :=
  let f := dutyOf a % 256
  remode a ((dutyOf e0 : Int) + (((dutyOf e1 : Int) - dutyOf e0) * f + 128) / 256)

/-! ### The pixel instructions -/

/-- PXR: N of the PREF is ignored. -/
def opPxr (c : Fin 16) (rd ra : Reg) (s : State) : State :=
  match prefOf (s.v c ra) with
  | none => s.exception c 8 0
  | some r => s.withSlot c (wordR 0x40 rd ra 0) (fun s =>
    match (s.drain (.pe (ctxEng c))).pxRead c (r.word (r.p / 2)) with
    | (.exc code x, s1) => s1.exception c code x
    | (.val v, s1) => s1.setRd c rd (BitVec.ofNat 32 (bitsN v (16 * (r.p % 2)) 16)))

/-- PXW: the words written as halfwords are read first. -/
def opPxw (c : Fin 16) (rd ra : Reg) (s : State) : State :=
  match prefOf (s.v c rd) with
  | none => s.exception c 8 0
  | some r =>
    if !r.fits r.n then s.exception c 8 0
    else s.withSlot c (wordR 0x41 rd ra 0) (fun s =>
      let edges := ([r.p, r.p + r.n].filter (fun q => q % 2 == 1)).map (fun q => r.word (q / 2))
      s.pxRun c r edges.eraseDups (fun _ => List.replicate r.n ((s.v c ra).toNat % 2 ^ 16)) (fun _ => none))

/-- FADE. -/
def opFade (c : Fin 16) (rd ra rb : Reg) (s : State) : State :=
  match prefOf (s.v c rd) with
  | none => s.exception c 8 0
  | some r =>
    if !r.fits r.n then s.exception c 8 0
    else s.withSlot c (wordR 0x42 rd ra rb) (fun s =>
      let t := dutyOf (s.v c ra).toNat
      s.pxRun c r ((r.touched r.n).map r.word)
        (fun l => (runOf r r.n l).map (fadeStep t (dutyOf (s.v c rb).toNat)))
        (fun px => some (px.all (fun w => dutyOf w == t))))

/-- BLEND: the B run takes its length from the A run. -/
def opBlend (c : Fin 16) (rd ra rb : Reg) (s : State) : State :=
  match prefOf (s.v c rd), prefOf (s.v c ra) with
  | some r, some q =>
    if !r.fits r.n || !q.fits r.n then s.exception c 8 0
    else s.withSlot c (wordR 0x43 rd ra rb) (fun s =>
      let w := satN 256 ((s.v c rb).toNat % 2 ^ 9)
      let na := (r.touched r.n).length
      s.pxRun c r ((r.touched r.n).map r.word ++ (q.touched r.n).map q.word)
        (fun l => List.zipWith (blendStep w) (runOf r r.n (l.take na)) (runOf q r.n (l.drop na)))
        (fun _ => none))
  | _, _ => s.exception c 8 0

/-- The words that hold the entries i and i + 1 of the table at `tab` for a pixel word. -/
def lutAddrs (tab w : Nat) : List Nat :=
  let i := dutyOf w / 256
  [(tab + 2 * i) / 4 * 4, (tab + 2 * i + 2) / 4 * 4]

/-- The halfword at an address, from the word that holds it. -/
def halfIn (word a : Nat) : Nat := bitsN word (8 * (a % 4)) 16

/-- LUT (12 R484, R485): the table must lie in data SRAM. -/
def opLut (c : Fin 16) (rd ra : Reg) (s : State) : State :=
  let tab := (s.v c ra).toNat % 2 ^ 24
  if tab % 2 = 1 then s.exception c 6 tab
  else
    match prefOf (s.v c rd) with
    | none => s.exception c 8 0
    | some r =>
      if !r.fits r.n then s.exception c 8 0
      else if tab < 0x840000 || 0x850000 ≤ tab then s.exception c 3 tab
      else if 0x850000 < tab + 130 then s.exception c 3 0x850000
      else s.withSlot c (wordR 0x44 rd ra 0) (fun s =>
        let x := (s.drain (.pe (ctxEng c))).pxCheck c r ((r.touched r.n).map r.word)
        match x.exc with
        | some (code, a) => x.s.exception c code a
        | none =>
          let px := runOf r r.n x.l
          let y := x.s.pxReads c (px.flatMap (lutAddrs tab))
          match y.exc with
          | some (code, a) => y.s.exception c code a
          | none =>
            let ent (i : Nat) (w : Nat) : Nat × Nat :=
              let k := dutyOf w / 256
              (halfIn (y.l.getD (2 * i) 0) (tab + 2 * k), halfIn (y.l.getD (2 * i + 1) 0) (tab + 2 * k + 2))
            (y.s.pxWrite c r (px.zipIdx.map (fun q => let e := ent q.2 q.1; lutStep q.1 e.1 e.2))).adv c)

end Sys2Proof.Machine
end

