-- ==== Sys2Proof/Machine/Copy.lean ====
section
/-!
DEFINITION. The SPI burst engine (09 R341, R342): arbitration of its racks, the guard semaphore, the word transfers; the meaning of
COPY_EXECUTE.
-/

namespace Sys2Proof.Machine

/-! ### Arbitration (09 R342) -/

/-- Domains whose COPY may start: each has an in-flight slot. -/
def State.copyDoms (s : State) : List Nat := (upto 4).filter (fun d => !(s.copyRacks d).isEmpty && s.hasSlot 18 d)

/-- The rack that the arbiter grants, and the state with the arbiter after it; a domain whose COPY finds no slot waits for one. -/
def State.copyPick (s : State) : Option Nat × State :=
  let doms := s.copyDoms
  let r := s.rack.arb18.pick doms (fun d => s.g F.domQos_RACKW d)
  let s1 := each (upto 4) (fun d t => t.slotWait 18 d (!(s.copyRacks d).isEmpty && !doms.contains d)) s
  match r.1 with
  | none => (none, s1.modRack (fun k => { k with arb18 := r.2 }))
  | some d =>
    let n := nextAfter (kvD s.rack.arb18.lastRack d 31) (s.copyRacks d)
    (n, (s1.useSlot 18 d).modRack (fun k => { k with arb18 := { r.2 with lastRack := kvSet r.2.lastRack d (n.getD 31) } }))

/-! ### Execution (09 R341) -/

/-- COUNT, SFIX and DFIX of a COPY, and the addresses of word `i`. -/
def copyCount (d : Desc) : Nat := d.w3 % 128
def copySrc (d : Desc) (i : Nat) : Nat := if bitN d.w3 8 then d.w1 else d.w1 + 4 * i
def copyDst (d : Desc) (i : Nat) : Nat := if bitN d.w3 9 then d.w2 else d.w2 + 4 * i

/-- The SPI burst engine begins to wait in the COPY `j`. -/
def State.copyWait (s : State) (dom : Nat) (what : WaitFor) : State :=
  s.addWait { agent := 18, dom := dom, what := what, start := s.tick, tmo := s.g F.waitTmo_AGT }

/-- The rack whose PUSH a COPY with DFIX writes, and the descriptor that the word `w` completes there, where it has no room and
the write would be accepted. -/
def State.copyFull (s : State) (dom : Nat) (d : Desc) (w : Nat) : Option (Nat × Desc) :=
  if !bitN d.w3 9 then none
  else
    match decode d.w2 true with
    | .reg .reg .rackPush m =>
      let l := kvD s.rack.part (prKey Port.dma.code dom m) [] ++ [w]
      if s.ownRack m == dom && s.gateCause .dma dom false == 0 && l.length == 4 && descOk (descOf l)
          && (!s.rackEn m || s.rackFull m) then some (m, descCommit (descOf l) dom) else none
    | _ => none

/-- Word `j.i` is moved: the COPY goes on, ends, or waits for a slot of a rack. -/
def State.copyWord (s : State) (j : CopyJob) : State :=
  let dom := s.ownRack j.rack
  let r := s.portRead .dma dom (copySrc j.d j.i)
  let s1 := r.2.2.2
  if r.1 ≠ 0 || r.2.2.1 then s1.copyEnd 5 j.i
  else
    match s1.copyFull dom j.d r.2.1 with
    | some (m, x) =>
      let s2 := s1.modRack (fun k => { k with
        part := kvDel k.part (prKey Port.dma.code dom m), copy := some { j with i := j.i + 1 } })
      s2.copyWait dom (.push m x)
    | none =>
      let q := s1.portWrite .dma dom (copyDst j.d j.i) r.2.1
      if q.1 ≠ 0 then q.2.copyEnd 5 j.i
      else q.2.modRack (fun k => { k with copy := some { j with i := j.i + 1 } })

/-- `n` words are moved, unless the COPY ends or waits. -/
def State.copyWords (s : State) : Nat → State
  | 0 => s
  | n + 1 =>
    match s.rack.copy with
    | none => s
    | some j =>
      if (s.blockOf 18).isSome then s
      else if copyCount j.d ≤ j.i then s.copyEnd 1 0
      else (s.copyWord j).copyWords n

/-- A COPY taken from rack `n` starts: its guard is taken, or waited for. -/
def State.copyStart (s0 : State) (n : Nat) : State :=
  let s := s0.rackClean n ((s0.rq n).length + 1)
  let t := if s.copyHead n then s.rackTake n else (none, s)
  match t.1 with
  | none => t.2
  | some d =>
    let s1 := t.2.modRack (fun k => { k with copy := some ⟨n, d, 0, false⟩ })
    let sem := d.w0 / 2 ^ 16 % 32
    if !bitN d.w0 21 then s1
    else if s1.ownSem sem ≠ s1.ownRack n then s1.copyEnd 5 0
    else
      let r := s1.semTake sem 18 (s1.ownRack n)
      if r.1 then r.2.modRack (fun k => { k with copy := some ⟨n, d, 0, true⟩ })
      else r.2.copyWait (s1.ownRack n) (.take sem)

/-- A COPY whose wait for its guard was granted holds it. -/
def State.copyGuard (s : State) : State :=
  match s.rack.copy with
  | some j => if (s.blockOf 18).isNone then s.modRack (fun k => { k with copy := some { j with guard := bitN j.d.w0 21 } }) else s
  | none => s

/-- COPY_EXECUTE (09 R341): the SPI burst engine takes the COPY that its arbiter grants, or goes on with the one it executes, by
`k` words, 0 for all that remain. -/
def execCopyExecute (k : Fin 65) (s : State) : Host.Outcome State Fault Refusal :=
  if !s.live then .next s
  else
    let s1 :=
      if s.rack.copy.isSome then s.copyGuard
      else
        match s.copyPick with
        | (some n, s1) => s1.copyStart n
        | (none, s1) => s1
    let s2 := s1.copyWords (if k = 0 then 65 else k)
    .next (match s2.rack.copy with
      | some j => if (s2.blockOf 18).isNone && copyCount j.d ≤ j.i then s2.copyEnd 1 0 else s2
      | none => s2)

end Sys2Proof.Machine
end

