-- ==== Sys2Proof/Machine/RecipeWait.lean ====
section
/-!
DEFINITION. Rack, semaphore, event and slice instructions (12 R487-R493); the table of what each instruction does, for a step
through U2D; the meanings of the recipe commands, of WAITEV_TIMEOUT, WAITEV_TIME_REACHED and ILLEGAL_INSTRUCTION.
-/

namespace Sys2Proof.Machine

/-! ### Racks (12 R488-R490) -/

/-- An instruction completes with a wait status and registers (12 R487). -/
def State.endWait (s : State) (c : Fin 16) (wst : Nat) (regs : List (Nat × Word)) : State :=
  s.modCx c (fun x => x.waitDone wst regs)

/-- Context `c` waits under 09 R347; a timeout of 0 selects WAIT_TMO.ENG. -/
def State.beginWait (s : State) (c : Fin 16) (what : WaitFor) (tmo : Nat) : State :=
  (s.modCx c (fun x => { x with st := .waiting })).addWait
    { agent := c.val + 1, dom := ctxDom c, what := what, start := s.tick, tmo := if tmo = 0 then s.g F.waitTmo_ENG else tmo }

/-- A bus error of a rack instruction (09 R327). -/
def State.rackBus (s : State) (c : Fin 16) (a : Nat) : State :=
  (s.buserr (ctxDom c) (Port.pe (ctxEng c)).code a 2).exception c 3 a

/-- A resource that the domain of context `c` does not own: the OWNER exception, with the violation. -/
def State.notOwner (s : State) (c : Fin 16) (a : Nat) : State :=
  (s.violate (ctxDom c) (Port.pe (ctxEng c)).code a 1).exception c 4 a

/-- PUSH. -/
def opPush (c : Fin 16) (rd : Reg) (idx : Fin 32) (w : Bool) (tmo : BitVec 14) (s : State) : State :=
  let s := s.drain (.pe (ctxEng c))
  let d := ctxDom c
  let n := idx.val
  let a := RegId.rackPush.addr n
  let x := descOf ((upto 4).map (fun k => (s.v c (Fin.ofNat 16 (rd.val + k))).toNat))
  if 17 ≤ s.prod n then s.rackBus c a
  else if s.ownRack n ≠ d then s.notOwner c a
  else if !descOk x then (s.rsvw d (Port.pe (ctxEng c)).code a).endWait c 6 []
  else if s.rackEn n && !s.rackFull n then (s.rackCommit n (descCommit x d)).endWait c 1 []
  else if w then s.beginWait c (.push n (descCommit x d)) tmo.toNat
  else s.endWait c 5 []

/-- The four registers of a pop that does not remove, for a D0 context (12 R490). -/
def State.peekRegs (s : State) (c : Fin 16) (rd : Reg) (n word : Nat) : List (Nat × Word) :=
  let h := s.heldPop (.pe (ctxEng c)) (ctxDom c) n
  if bitN word 31 then [(rd.val, BitVec.ofNat 32 word), (rd.val + 1, BitVec.ofNat 32 h.w1), (rd.val + 2, BitVec.ofNat 32 h.w2),
    (rd.val + 3, BitVec.ofNat 32 h.w3)]
  else [(rd.val, BitVec.ofNat 32 word)]

/-- POP. -/
def opPop (c : Fin 16) (rd : Reg) (idx : Fin 32) (w : Bool) (tmo : BitVec 14) (s : State) : State :=
  let s := s.drain (.pe (ctxEng c))
  let d := ctxDom c
  let p := (Port.pe (ctxEng c)).code
  let n := idx.val
  let a := RegId.rackPop.addr n
  if 17 ≤ s.cons n then s.rackBus c a
  else if s.ownRack n ≠ d then
    if d = 0 then
      let r := s.popPeek p d n
      r.2.endWait c 6 (r.2.peekRegs c rd n r.1)
    else (s.violate d p a 2).endWait c 6 [(rd.val, 0)]
  else
    let r := s.popRead p d n
    if bitN r.1 31 then r.2.endWait c 1 (r.2.peekRegs c rd n r.1)
    else if w then r.2.beginWait c (.pop n rd) tmo.toNat
    else r.2.endWait c 5 [(rd.val, BitVec.ofNat 32 r.1)]

/-! ### Semaphores (12 R491) -/

/-- TAKE. -/
def opTake (c : Fin 16) (idx : Fin 32) (w : Bool) (tmo : BitVec 14) (s : State) : State :=
  let s := s.drain (.pe (ctxEng c))
  let d := ctxDom c
  let n := idx.val
  if s.ownSem n ≠ d then
    (if d = 0 then s else s.violate d (Port.pe (ctxEng c)).code (RegId.semTake.addr n) 2).endWait c 6 []
  else
    let r := s.semTake n (c.val + 1) d
    if r.1 then r.2.endWait c 1 []
    else if w then r.2.beginWait c (.take n) tmo.toNat
    else r.2.endWait c 5 []

/-- GIVE: WST stays. -/
def opGive (c : Fin 16) (idx : Fin 32) (s : State) : State :=
  let s := s.drain (.pe (ctxEng c))
  let d := ctxDom c
  let n := idx.val
  if s.ownSem n ≠ d then s.notOwner c (RegId.semGive.addr n)
  else
    let r := s.semGive n (c.val + 1) d
    (r.2.modCx c (fun x => { x with z := r.1 })).adv c

/-! ### Events (12 R492) -/

/-- Device time is at or after a value, as signed 32-bit numbers. -/
def State.timeAt (s : State) (w : Word) : Bool := 0 ≤ (BitVec.ofNat 32 s.time - w).toInt

/-- Whether the event of KIND and SEL is not owned, and whether it is present. -/
def State.evForeign (s : State) (d kind sel : Nat) : Bool :=
  if kind = 0 then s.irqOwner sel != some d else if kind = 1 then s.ownRack sel != d else false
def State.evPresent (s : State) (d kind sel : Nat) (w : Word) : Bool :=
  if kind = 0 then s.rbit .intPend (3 * d + sel / 32) (sel % 32)
  else if kind = 1 then !(s.rq sel).isEmpty
  else if kind = 2 then s.timeAt w
  else false

/-- WAITEV. -/
def opWaitev (c : Fin 16) (rd : Reg) (kind : BitVec 2) (sel : BitVec 7) (tmo : BitVec 11) (s : State) : State :=
  let d := ctxDom c
  let k := kind.toNat
  let n := sel.toNat
  let w := s.v c rd
  if s.evForeign d k n then s.endWait c 5 []
  else if s.evPresent d k n w then s.endWait c 1 []
  else s.modCx c (fun x => { x with
    st := .waiting
    ev := some { kind := k, sel := n, val := w, start := s.tick, tmo := if tmo = 0 then s.g F.waitTmo_ENG else 10 * tmo.toNat } })

/-- WAITEV_TIMEOUT (12 R492): WST 3, with no record of an abort. -/
def execWaitevTimeout (c : Fin 16) (s : State) : Host.Outcome State Fault Refusal :=
  match (s.cx c).ev with
  | some _ => .next ((s.endWait c 3 []).engReady (ctxEng c))
  | none => .next s

/-- WAITEV_TIME_REACHED (12 R492): device time reaches the value that context `c` waits for. -/
def execWaitevTimeReached (c : Fin 16) (s : State) : Host.Outcome State Fault Refusal :=
  match (s.cx c).ev with
  | some e => .next (if e.kind = 2 && s.timeAt e.val then (s.endWait c 1 []).engReady (ctxEng c) else s)
  | none => .next s

/-! ### SLICEEND (12 R493; 11 R431, R434, R436) -/

/-- A tray is offered by context `c` (11 R434, R436): refused with OFFREJ, or pending in place of an earlier offer, which counts in
SKIP. -/
def State.offerTray (s : State) (c : Fin 16) (t : Nat) : State :=
  let d := ctxDom c
  let h := s.trayHeader (2 + (ctxEng c).val) t
  let ok := s.trayOwner t == d && h.1 != 0 && (upto 7).all (fun g => !bitN h.1 g || s.ownGroup g == d)
  if !ok then h.2.2.pb F.peCtxStat_OFFREJ c true
  else
    let s1 := if (s.cx c).offer.isSome then h.2.2.incSat F.peCtxStat_SKIP c else h.2.2
    s1.modCx c (fun x => { x with offer := some { tray := t, groups := h.1, bases := h.2.1, tick := s.tick } })

/-- The context is SUSPENDED until the next boundary. -/
def State.suspend (s : State) (c : Fin 16) : State := s.modCx c (fun x => { x with st := .suspended, ended := s.tick })

/-- SLICEEND. -/
def opSliceend (c : Fin 16) (ra : Reg) (rsel : Bool) (t : BitVec 8) (s : State) : State :=
  let code := if rsel then (s.v c ra).toNat % 256 else t.toNat
  if code = 0xFF then s.suspend c
  else if trayOk code then (s.offerTray c code).suspend c
  else s.exception c 8 0

/-! ### What each instruction does -/

/-- The effect of a recipe instruction on context `c`; a command that is no recipe instruction has none. -/
def runOp (i : Instr) (c : Fin 16) (s : State) : State :=
  match i with
  | .add _ rd ra rb => opAdd c rd ra rb s
  | .sub _ rd ra rb => opSub c rd ra rb s
  | .and _ rd ra rb => opAnd c rd ra rb s
  | .or _ rd ra rb => opOr c rd ra rb s
  | .xor _ rd ra rb => opXor c rd ra rb s
  | .shl _ rd ra rb => opShl c rd ra rb s
  | .shr _ rd ra rb => opShr c rd ra rb s
  | .sar _ rd ra rb => opSar c rd ra rb s
  | .mul _ rd ra rb => opMul c rd ra rb s
  | .mulq _ rd ra rb => opMulq c rd ra rb s
  | .min _ rd ra rb => opMin c rd ra rb s
  | .max _ rd ra rb => opMax c rd ra rb s
  | .adds _ rd ra rb => opAdds c rd ra rb s
  | .subs _ rd ra rb => opSubs c rd ra rb s
  | .cmp _ ra rb => opCmp c ra rb s
  | .addi _ rd ra i => opAddi c rd ra i s
  | .andi _ rd ra i => opAndi c rd ra i s
  | .ori _ rd ra i => opOri c rd ra i s
  | .xori _ rd ra i => opXori c rd ra i s
  | .shli _ rd ra i => opShli c rd ra i s
  | .shri _ rd ra i => opShri c rd ra i s
  | .sari _ rd ra i => opSari c rd ra i s
  | .movi _ rd i => opMovi c rd i s
  | .movhi _ rd i => opMovhi c rd i s
  | .cmpi _ ra i => opCmpi c ra i s
  | .ldw _ rd ra i => opLdw c rd ra i s
  | .ldh _ rd ra i => opLdh c rd ra i s
  | .ldb _ rd ra i => opLdb c rd ra i s
  | .stw _ rd ra i => opStw c rd ra i s
  | .sth _ rd ra i => opSth c rd ra i s
  | .stb _ rd ra i => opStb c rd ra i s
  | .b _ k o => opB c k o s
  | .call _ o => opCall c o s
  | .jr _ ra => opJr c ra s
  | .callr _ ra => opCallr c ra s
  | .loop _ rd i => opLoop c rd i s
  | .pxr _ rd ra => opPxr c rd ra s
  | .pxw _ rd ra => opPxw c rd ra s
  | .fade _ rd ra rb => opFade c rd ra rb s
  | .blend _ rd ra rb => opBlend c rd ra rb s
  | .lut _ rd ra => opLut c rd ra s
  | .push _ rd x w t => opPush c rd x w t s
  | .pop _ rd x w t => opPop c rd x w t s
  | .take _ x w t => opTake c x w t s
  | .give _ x => opGive c x s
  | .waitev _ rd k n t => opWaitev c rd k n t s
  | .sliceend _ ra r t => opSliceend c ra r t s
  | .endRecipe _ => opEnd c s
  | .trap _ => opTrap c s
  | .nop _ => opNop c s
  | .rds _ rd n => opRds c rd n s
  | .fence _ => opFence c s
  | _ => s

/-! ### The commands -/

/-- ADD (12 R471) as engine `e` comes to it. -/
def execAdd (e : Fin 4) (rd ra rb : Reg) (s : State) : Host.Outcome State Fault Refusal :=
  s.runOn e (.add e rd ra rb) (fun c s => opAdd c rd ra rb s)

/-- SUB (12 R471) as engine `e` comes to it. -/
def execSub (e : Fin 4) (rd ra rb : Reg) (s : State) : Host.Outcome State Fault Refusal :=
  s.runOn e (.sub e rd ra rb) (fun c s => opSub c rd ra rb s)

/-- AND (12 R470) as engine `e` comes to it. -/
def execAnd (e : Fin 4) (rd ra rb : Reg) (s : State) : Host.Outcome State Fault Refusal :=
  s.runOn e (.and e rd ra rb) (fun c s => opAnd c rd ra rb s)

/-- OR (12 R470) as engine `e` comes to it. -/
def execOr (e : Fin 4) (rd ra rb : Reg) (s : State) : Host.Outcome State Fault Refusal :=
  s.runOn e (.or e rd ra rb) (fun c s => opOr c rd ra rb s)

/-- XOR (12 R470) as engine `e` comes to it. -/
def execXor (e : Fin 4) (rd ra rb : Reg) (s : State) : Host.Outcome State Fault Refusal :=
  s.runOn e (.xor e rd ra rb) (fun c s => opXor c rd ra rb s)

/-- SHL (12 R472) as engine `e` comes to it. -/
def execShl (e : Fin 4) (rd ra rb : Reg) (s : State) : Host.Outcome State Fault Refusal :=
  s.runOn e (.shl e rd ra rb) (fun c s => opShl c rd ra rb s)

/-- SHR (12 R472) as engine `e` comes to it. -/
def execShr (e : Fin 4) (rd ra rb : Reg) (s : State) : Host.Outcome State Fault Refusal :=
  s.runOn e (.shr e rd ra rb) (fun c s => opShr c rd ra rb s)

/-- SAR (12 R472) as engine `e` comes to it. -/
def execSar (e : Fin 4) (rd ra rb : Reg) (s : State) : Host.Outcome State Fault Refusal :=
  s.runOn e (.sar e rd ra rb) (fun c s => opSar c rd ra rb s)

/-- MUL (12 R473) as engine `e` comes to it. -/
def execMul (e : Fin 4) (rd ra rb : Reg) (s : State) : Host.Outcome State Fault Refusal :=
  s.runOn e (.mul e rd ra rb) (fun c s => opMul c rd ra rb s)

/-- MULQ (12 R473) as engine `e` comes to it. -/
def execMulq (e : Fin 4) (rd ra rb : Reg) (s : State) : Host.Outcome State Fault Refusal :=
  s.runOn e (.mulq e rd ra rb) (fun c s => opMulq c rd ra rb s)

/-- MIN (12 R470) as engine `e` comes to it. -/
def execMin (e : Fin 4) (rd ra rb : Reg) (s : State) : Host.Outcome State Fault Refusal :=
  s.runOn e (.min e rd ra rb) (fun c s => opMin c rd ra rb s)

/-- MAX (12 R470) as engine `e` comes to it. -/
def execMax (e : Fin 4) (rd ra rb : Reg) (s : State) : Host.Outcome State Fault Refusal :=
  s.runOn e (.max e rd ra rb) (fun c s => opMax c rd ra rb s)

/-- ADDS (12 R473) as engine `e` comes to it. -/
def execAdds (e : Fin 4) (rd ra rb : Reg) (s : State) : Host.Outcome State Fault Refusal :=
  s.runOn e (.adds e rd ra rb) (fun c s => opAdds c rd ra rb s)

/-- SUBS (12 R473) as engine `e` comes to it. -/
def execSubs (e : Fin 4) (rd ra rb : Reg) (s : State) : Host.Outcome State Fault Refusal :=
  s.runOn e (.subs e rd ra rb) (fun c s => opSubs c rd ra rb s)

/-- CMP (12 R471) as engine `e` comes to it. -/
def execCmp (e : Fin 4) (ra rb : Reg) (s : State) : Host.Outcome State Fault Refusal :=
  s.runOn e (.cmp e ra rb) (fun c s => opCmp c ra rb s)

/-- ADDI (12 R470) as engine `e` comes to it. -/
def execAddi (e : Fin 4) (rd ra : Reg) (imm : BitVec 16) (s : State) : Host.Outcome State Fault Refusal :=
  s.runOn e (.addi e rd ra imm) (fun c s => opAddi c rd ra imm s)

/-- ANDI (12 R470) as engine `e` comes to it. -/
def execAndi (e : Fin 4) (rd ra : Reg) (imm : BitVec 16) (s : State) : Host.Outcome State Fault Refusal :=
  s.runOn e (.andi e rd ra imm) (fun c s => opAndi c rd ra imm s)

/-- ORI (12 R470) as engine `e` comes to it. -/
def execOri (e : Fin 4) (rd ra : Reg) (imm : BitVec 16) (s : State) : Host.Outcome State Fault Refusal :=
  s.runOn e (.ori e rd ra imm) (fun c s => opOri c rd ra imm s)

/-- XORI (12 R470) as engine `e` comes to it. -/
def execXori (e : Fin 4) (rd ra : Reg) (imm : BitVec 16) (s : State) : Host.Outcome State Fault Refusal :=
  s.runOn e (.xori e rd ra imm) (fun c s => opXori c rd ra imm s)

/-- SHLI (12 R472) as engine `e` comes to it. -/
def execShli (e : Fin 4) (rd ra : Reg) (imm : BitVec 5) (s : State) : Host.Outcome State Fault Refusal :=
  s.runOn e (.shli e rd ra imm) (fun c s => opShli c rd ra imm s)

/-- SHRI (12 R472) as engine `e` comes to it. -/
def execShri (e : Fin 4) (rd ra : Reg) (imm : BitVec 5) (s : State) : Host.Outcome State Fault Refusal :=
  s.runOn e (.shri e rd ra imm) (fun c s => opShri c rd ra imm s)

/-- SARI (12 R472) as engine `e` comes to it. -/
def execSari (e : Fin 4) (rd ra : Reg) (imm : BitVec 5) (s : State) : Host.Outcome State Fault Refusal :=
  s.runOn e (.sari e rd ra imm) (fun c s => opSari c rd ra imm s)

/-- MOVI (12 R470) as engine `e` comes to it. -/
def execMovi (e : Fin 4) (rd : Reg) (imm : BitVec 16) (s : State) : Host.Outcome State Fault Refusal :=
  s.runOn e (.movi e rd imm) (fun c s => opMovi c rd imm s)

/-- MOVHI (12 R470) as engine `e` comes to it. -/
def execMovhi (e : Fin 4) (rd : Reg) (imm : BitVec 16) (s : State) : Host.Outcome State Fault Refusal :=
  s.runOn e (.movhi e rd imm) (fun c s => opMovhi c rd imm s)

/-- CMPI (12 R471) as engine `e` comes to it. -/
def execCmpi (e : Fin 4) (ra : Reg) (imm : BitVec 16) (s : State) : Host.Outcome State Fault Refusal :=
  s.runOn e (.cmpi e ra imm) (fun c s => opCmpi c ra imm s)

/-- LDW (12 R477) as engine `e` comes to it. -/
def execLdw (e : Fin 4) (rd ra : Reg) (imm : BitVec 16) (s : State) : Host.Outcome State Fault Refusal :=
  s.runOn e (.ldw e rd ra imm) (fun c s => opLdw c rd ra imm s)

/-- LDH (12 R477) as engine `e` comes to it. -/
def execLdh (e : Fin 4) (rd ra : Reg) (imm : BitVec 16) (s : State) : Host.Outcome State Fault Refusal :=
  s.runOn e (.ldh e rd ra imm) (fun c s => opLdh c rd ra imm s)

/-- LDB (12 R477) as engine `e` comes to it. -/
def execLdb (e : Fin 4) (rd ra : Reg) (imm : BitVec 16) (s : State) : Host.Outcome State Fault Refusal :=
  s.runOn e (.ldb e rd ra imm) (fun c s => opLdb c rd ra imm s)

/-- STW (12 R477) as engine `e` comes to it. -/
def execStw (e : Fin 4) (rd ra : Reg) (imm : BitVec 16) (s : State) : Host.Outcome State Fault Refusal :=
  s.runOn e (.stw e rd ra imm) (fun c s => opStw c rd ra imm s)

/-- STH (12 R477) as engine `e` comes to it. -/
def execSth (e : Fin 4) (rd ra : Reg) (imm : BitVec 16) (s : State) : Host.Outcome State Fault Refusal :=
  s.runOn e (.sth e rd ra imm) (fun c s => opSth c rd ra imm s)

/-- STB (12 R477) as engine `e` comes to it. -/
def execStb (e : Fin 4) (rd ra : Reg) (imm : BitVec 16) (s : State) : Host.Outcome State Fault Refusal :=
  s.runOn e (.stb e rd ra imm) (fun c s => opStb c rd ra imm s)

/-- B (12 R469) as engine `e` comes to it. -/
def execB (e : Fin 4) (cond : BitVec 4) (ofs : BitVec 20) (s : State) : Host.Outcome State Fault Refusal :=
  s.runOn e (.b e cond ofs) (fun c s => opB c cond ofs s)

/-- CALL (12 R470) as engine `e` comes to it. -/
def execCall (e : Fin 4) (ofs : BitVec 20) (s : State) : Host.Outcome State Fault Refusal :=
  s.runOn e (.call e ofs) (fun c s => opCall c ofs s)

/-- JR (12 R470) as engine `e` comes to it. -/
def execJr (e : Fin 4) (ra : Reg) (s : State) : Host.Outcome State Fault Refusal :=
  s.runOn e (.jr e ra) (fun c s => opJr c ra s)

/-- CALLR (12 R470) as engine `e` comes to it. -/
def execCallr (e : Fin 4) (ra : Reg) (s : State) : Host.Outcome State Fault Refusal :=
  s.runOn e (.callr e ra) (fun c s => opCallr c ra s)

/-- LOOP (12 R474) as engine `e` comes to it. -/
def execLoop (e : Fin 4) (rd : Reg) (imm : BitVec 16) (s : State) : Host.Outcome State Fault Refusal :=
  s.runOn e (.loop e rd imm) (fun c s => opLoop c rd imm s)

/-- PXR (12 R484) as engine `e` comes to it. -/
def execPxr (e : Fin 4) (rd ra : Reg) (s : State) : Host.Outcome State Fault Refusal :=
  s.runOn e (.pxr e rd ra) (fun c s => opPxr c rd ra s)

/-- PXW (12 R484) as engine `e` comes to it. -/
def execPxw (e : Fin 4) (rd ra : Reg) (s : State) : Host.Outcome State Fault Refusal :=
  s.runOn e (.pxw e rd ra) (fun c s => opPxw c rd ra s)

/-- FADE (12 R484) as engine `e` comes to it. -/
def execFade (e : Fin 4) (rd ra rb : Reg) (s : State) : Host.Outcome State Fault Refusal :=
  s.runOn e (.fade e rd ra rb) (fun c s => opFade c rd ra rb s)

/-- BLEND (12 R484) as engine `e` comes to it. -/
def execBlend (e : Fin 4) (rd ra rb : Reg) (s : State) : Host.Outcome State Fault Refusal :=
  s.runOn e (.blend e rd ra rb) (fun c s => opBlend c rd ra rb s)

/-- LUT (12 R484, R485) as engine `e` comes to it. -/
def execLut (e : Fin 4) (rd ra : Reg) (s : State) : Host.Outcome State Fault Refusal :=
  s.runOn e (.lut e rd ra) (fun c s => opLut c rd ra s)

/-- PUSH (12 R489) as engine `e` comes to it. -/
def execPush (e : Fin 4) (rd : Reg) (idx : Fin 32) (w : Bool) (tmo : BitVec 14) (s : State) :
    Host.Outcome State Fault Refusal :=
  s.runOn e (.push e rd idx w tmo) (fun c s => opPush c rd idx w tmo s)

/-- POP (12 R490) as engine `e` comes to it. -/
def execPop (e : Fin 4) (rd : Reg) (idx : Fin 32) (w : Bool) (tmo : BitVec 14) (s : State) : Host.Outcome State Fault Refusal :=
  s.runOn e (.pop e rd idx w tmo) (fun c s => opPop c rd idx w tmo s)

/-- TAKE (12 R491) as engine `e` comes to it. -/
def execTake (e : Fin 4) (idx : Fin 32) (w : Bool) (tmo : BitVec 14) (s : State) : Host.Outcome State Fault Refusal :=
  s.runOn e (.take e idx w tmo) (fun c s => opTake c idx w tmo s)

/-- GIVE (12 R491) as engine `e` comes to it. -/
def execGive (e : Fin 4) (idx : Fin 32) (s : State) : Host.Outcome State Fault Refusal :=
  s.runOn e (.give e idx) (fun c s => opGive c idx s)

/-- WAITEV (12 R492) as engine `e` comes to it. -/
def execWaitev (e : Fin 4) (rd : Reg) (kind : BitVec 2) (sel : BitVec 7) (tmo : BitVec 11) (s : State) :
    Host.Outcome State Fault Refusal :=
  s.runOn e (.waitev e rd kind sel tmo) (fun c s => opWaitev c rd kind sel tmo s)

/-- SLICEEND (12 R493) as engine `e` comes to it. -/
def execSliceend (e : Fin 4) (ra : Reg) (rsel : Bool) (t : BitVec 8) (s : State) : Host.Outcome State Fault Refusal :=
  s.runOn e (.sliceend e ra rsel t) (fun c s => opSliceend c ra rsel t s)

/-- END (12 R494) as engine `e` comes to it. -/
def execEndRecipe (e : Fin 4) (s : State) : Host.Outcome State Fault Refusal :=
  s.runOn e (.endRecipe e) (fun c s => opEnd c s)

/-- TRAP (12 R494) as engine `e` comes to it. -/
def execTrap (e : Fin 4) (s : State) : Host.Outcome State Fault Refusal :=
  s.runOn e (.trap e) (fun c s => opTrap c s)

/-- NOP (12 R470) as engine `e` comes to it. -/
def execNop (e : Fin 4) (s : State) : Host.Outcome State Fault Refusal :=
  s.runOn e (.nop e) (fun c s => opNop c s)

/-- RDS (12 R495) as engine `e` comes to it. -/
def execRds (e : Fin 4) (rd : Reg) (sel : BitVec 4) (s : State) : Host.Outcome State Fault Refusal :=
  s.runOn e (.rds e rd sel) (fun c s => opRds c rd sel s)

/-- FENCE (12 R494) as engine `e` comes to it. -/
def execFence (e : Fin 4) (s : State) : Host.Outcome State Fault Refusal :=
  s.runOn e (.fence e) (fun c s => opFence c s)

/-- ILLEGAL_INSTRUCTION (12 R467): the word that engine `e` comes to is no instruction. -/
def execIllegalInstruction (e : Fin 4) (s : State) : Host.Outcome State Fault Refusal :=
  let s0 := s.engReady e
  match s0.execCtx e with
  | none => .next s
  | some c =>
    match s0.fetch c with
    | (.wait, s1) => .next s1
    | (.exc code a, s1) => .next (s1.exception c code a)
    | (.word w, s1) => if decodeRecipe e w = none then .next (s1.exception c 1 0) else .next s

end Sys2Proof.Machine
end

