-- ==== Sys2Proof/Machine/Debug.lean ====
section
/-!
DEFINITION. The two-wire debug port (20 R746-R763): its transactions and their rights by life-cycle state, halt, step,
breakpoint and trace; the meanings of ATTACH, DETACH, U2D_READ, U2D_WRITE, U2D_STATUS, LINE_RESET, ENGINE_HALT, ENGINE_STEP,
BREAKPOINT_HIT and TRACE_POP.
-/

namespace Sys2Proof.Machine

/-! ### Transactions (20 R747-R753) -/

/-- The request body: CMD, ADDR, DATA. -/
def u2dBody (cmd : Nat) (a : Addr) (w : Word) : List Nat := [cmd] ++ beBytes 3 a.toNat ++ beBytes 4 w.toNat

/-- STATUS of a response (20 R751). -/
def State.u2dStatusByte (s : State) (code : Nat) : Nat :=
  code % 16 * 16 + (if s.b F.u2dStat_ATT then 8 else 0) + (if s.g F.u2dHalt_HALT ≠ 0 then 6 else 0)

/-- The response goes out (20 R747): STATUS and DATA. -/
def State.u2dAnswer (s : State) (code data : Nat) : State :=
  { s with dbg := { s.dbg with resp := some (s.u2dStatusByte code, data) } }

/-- The attachment is recognised (20 R753). -/
def State.attach (s : State) : State :=
  if s.lcState = 2 then (s.tamper 85).u2dAnswer 11 0
  else
    let s1 := (s.pb F.u2dStat_ATT 0 true).flagIrq F.u2dStat_ATTF 0 95
    s1.u2dAnswer 0 (s1.rd .devId).toNat

/-- A request that the life-cycle state refuses: SCRAP takes no WRITE and no larder READ (20 R753). -/
def State.u2dRefused (s : State) (cmd a : Nat) : Bool :=
  s.lcState == 4 && (cmd == 4 || (cmd == 3 && regionOf a == some .larder))

/-- A request whose CRC is correct (20 R750-R754). DATA of a request that carries none is 0. -/
def State.u2dRequest (s : State) (cmd : Nat) (a : Addr) (w : Word) : State :=
  if a.toNat % 4 ≠ 0 || (cmd == 1 && w ≠ 0x648) || ((cmd == 2 || cmd == 3 || cmd == 5) && w ≠ 0) then s.u2dAnswer 12 0
  else if s.sec.u2dOff then s.u2dAnswer 11 0
  else if cmd == 1 then s.attach
  else if cmd == 5 then s.u2dAnswer 0 s.u2dStatWord
  else if !s.b F.u2dStat_ATT then s.u2dAnswer 9 0
  else if s.u2dRefused cmd a.toNat then s.u2dAnswer 10 0
  else if cmd == 2 then s.u2dDetach.u2dAnswer 0 0
  else if cmd == 3 then
    let r := s.portRead .u2d 0 a.toNat
    r.2.2.2.u2dAnswer r.1 (if r.1 = 0 then r.2.1 else 0)
  else
    let r := s.portWrite .u2d 0 a.toNat w.toNat
    r.2.u2dAnswer r.1 0

/-- The line works: without VDDIO DCK is inactive and DIO Hi-Z (02 R49, R57). -/
def State.u2dLive (s : State) : Bool := s.live && s.pins.vddio

/-- A transaction with its CRC as received: a CRC error executes nothing and sets CRCERR. -/
def State.u2dFrame (s : State) (cmd : Nat) (a : Addr) (w : Word) (crc : Byte) : Host.Outcome State Fault Refusal :=
  if !s.u2dLive then .next s
  else if crc8 (u2dBody cmd a w) ≠ crc.toNat then .next ((s.pb F.u2dStat_CRCERR 0 true).u2dAnswer 8 0)
  else .next (s.u2dRequest cmd a w)

/-- ATTACH (20 R753). -/
def execAttach (a : Addr) (w : Word) (crc : Byte) (s : State) : Host.Outcome State Fault Refusal := s.u2dFrame 1 a w crc
/-- DETACH (20 R754). -/
def execDetach (a : Addr) (w : Word) (crc : Byte) (s : State) : Host.Outcome State Fault Refusal := s.u2dFrame 2 a w crc
/-- READ (20 R752). -/
def execU2dRead (a : Addr) (w : Word) (crc : Byte) (s : State) : Host.Outcome State Fault Refusal := s.u2dFrame 3 a w crc
/-- WRITE (20 R752). -/
def execU2dWrite (a : Addr) (w : Word) (crc : Byte) (s : State) : Host.Outcome State Fault Refusal := s.u2dFrame 4 a w crc
/-- STATUS (20 R750). -/
def execU2dStatus (a : Addr) (w : Word) (crc : Byte) (s : State) : Host.Outcome State Fault Refusal := s.u2dFrame 5 a w crc

/-- LINE_RESET (20 R749): the response in progress ends; nothing else changes. -/
def execLineReset (s : State) : Host.Outcome State Fault Refusal := .next { s with dbg := { s.dbg with resp := none } }

/-! ### Halt, step, breakpoint, trace -/

/-- ENGINE_HALT (20 R755): the WRITE of U2D_HALT. -/
def execEngineHalt (mask : BitVec 4) (s : State) : Host.Outcome State Fault Refusal :=
  .next (if s.u2dLive then s.u2dRequest 4 (BitVec.ofNat 24 (RegId.u2dHalt.addr 0)) (mask.setWidth 32) else s)

/-- The step that is due executes the next instruction of its context, whatever breakpoint stands there (20 R756, R758); a miss
of the instruction cache, or a stall for a slot, leaves it due. -/
def State.stepRun (s : State) : State :=
  match s.dbg.step with
  | none => s
  | some n =>
    let c := Fin.ofNat 16 n
    if !s.halted (ctxEng c) || (s.cx c).st != .runnable then { s with dbg := { s.dbg with step := none } }
    else if !s.mayRun c then s
    else
      let done (s : State) : State := { s with dbg := { s.dbg with step := none } }
      match s.fetch c with
      | (.wait, s1) => s1
      | (.exc code a, s1) => done (s1.exception c code a)
      | (.word w, s1) =>
        match decodeRecipe (ctxEng c) w with
        | none => done (s1.exception c 1 0)
        | some i =>
          let s2 := runOp i c s1
          if (s2.cx c).stall.isSome then s2 else done s2

/-- ENGINE_STEP (20 R756): the step that is due for context `c` goes on; where none is, U2D_STEP is written with GO. -/
def execEngineStep (c : Fin 16) (s : State) : Host.Outcome State Fault Refusal :=
  if !s.live then .next s
  else if s.dbg.step = some c.val then .next s.stepRun
  else if !s.u2dLive then .next s
  else
    let s1 := s.u2dRequest 4 (BitVec.ofNat 24 (RegId.u2dStep.addr 0)) (BitVec.ofNat 32 (2 ^ 31 + c.val))
    .next (if s1.dbg.step = some c.val then s1.stepRun else s1)

/-- BREAKPOINT_HIT (20 R758): engine `e` is about to execute the instruction at a breakpoint; every engine in its mask that is
halts. -/
def execBreakpointHit (e : Fin 4) (s : State) : Host.Outcome State Fault Refusal :=
  let s0 := s.engsReady
  let at' (n : Fin 4) (k : Nat) : Bool := match s0.cur n with
    | some c => s0.mayRun c && !s0.halted n && s0.b F.u2dBp_EN k && bitN (s0.g F.u2dBp_MASK k) n && s0.g F.u2dBp_PC k == (s0.cx c).pc
    | none => false
  match (upto 4).find? (at' e) with
  | none => .next s
  | some k =>
    let m := engs.foldl (fun m n => if at' n k then m ||| 2 ^ n.val else m) (s0.g F.u2dHalt_HALT)
    .next ((s0.haltTo m).p F.u2dStat_BPHIT 0 k)

/-- TRACE_POP (20 R761): the READ of U2D_TRPOP. -/
def execTracePop (s : State) : Host.Outcome State Fault Refusal :=
  .next (if s.u2dLive then s.u2dRequest 3 (BitVec.ofNat 24 (RegId.u2dTrpop.addr 0)) 0 else s)

end Sys2Proof.Machine
end

