-- ==== Sys2Proof/Machine/Net.lean ====
section
/-!
DEFINITION. The network port (08): PHY and PLCA, receive processing, freshness, the messages, EVENTs, tray streaming, the time
servo; the meanings of the commands PHY_READY to TIME_HOLDOVER.
-/

namespace Sys2Proof.Machine

/-! ### PHY and PLCA (08 R274, R275, R301) -/

/-- PHY_READY (08 R274, R275): PHYON, with the PLCA settings of that instant; a coordinator has PLCAOK. -/
def execPhyReady (s : State) : Host.Outcome State Fault Refusal :=
  if s.live && s.b F.netCfg_PHYEN && s.b F.clkStat_REFACT && !s.b F.netStat_PHYON then
    let s1 := (s.pb F.netStat_PHYON 0 true).modNet (fun n => { n with plca := (s.rd .netPlca).toNat, beacon := none, cycleUsed := false })
    let s2 := s1.pb F.netStat_COORD 0 (s1.plcaId == 0)
    .next (if s2.plcaId = 0 then s2.setPlca true else s2)
  else .next s

/-- A PLCA cycle begins with a BEACON, which is stamped (08 R301). -/
def State.beaconSeen (s : State) : State := s.modNet (fun n => { n with beacon := some (s.time, s.tick), cycleUsed := false })

/-- BEACON_RECEIVE (08 R275, R301): a follower stamps the BEACON. -/
def execBeaconReceive (s : State) : Host.Outcome State Fault Refusal :=
  .next (if s.live && s.b F.netStat_PHYON && s.plcaId != 0 then s.beaconSeen.setPlca true else s)

/-- BEACON_TRANSMIT (08 R275, R301): a coordinator opens a PLCA cycle. -/
def execBeaconTransmit (s : State) : Host.Outcome State Fault Refusal :=
  .next (if s.live && s.b F.netStat_PHYON && s.plcaId == 0 then s.beaconSeen else s)

/-- PLCA_BEACON_LOSS (08 R275): a follower has received no BEACON for 4000 bit times, its PHY on or silent. -/
def execPlcaBeaconLoss (s : State) : Host.Outcome State Fault Refusal :=
  .next (if s.live && s.plcaId != 0 then
    (s.setPlca false).modNet (fun n => { n with beacon := none }) else s)

/-! ### Receive filter (08 R278, R279) -/

/-- The frame is addressed to the X648; a broadcast frame never is. -/
def State.forMe (s : State) (f : List Nat) : Bool :=
  f.take 6 != List.replicate 6 255 &&
    (f.take 6 == s.mac || (s.b F.netCfg_MCEN && f.take 6 == s.macOf .netMcastHi .netMcastLo 0))

/-- The frame passes the FCS (IEEE 802.3, its CRC-32 least significant byte first; log 42), length and EtherType checks. -/
def State.frameOk (s : State) (f : List Nat) : Bool :=
  64 ≤ f.length && f.length ≤ 1518 && crc32 (f.take (f.length - 4)) == leNat (f.drop (f.length - 4))
    && beNat (sub8 f 12 2) == s.g F.netEtype_ETYPE

/-- A dropped frame. -/
def State.rxDrop (s : State) : State := s.incSat F.netCnt0_RXDROP

/-! ### Freshness (08 R286-R290) -/

/-- The window of domain `d` with `c` marked. -/
def State.markWin (s : State) (d c : Nat) : State :=
  let i := kvD s.net.h d 0 - c
  let w := kvD s.net.win d 0
  if bitN w i then s else s.modNet (fun n => { n with win := kvSet n.win d (w + 2 ^ i) })

/-- H of domain `d` becomes `c`, and the window moves with it. -/
def State.moveWin (s : State) (d c : Nat) : State :=
  let sh := c - kvD s.net.h d 0
  s.modNet (fun n => { n with h := kvSet n.h d c, win := kvSet n.win d (if 32 ≤ sh then 0 else kvD n.win d 0 * 2 ^ sh % 2 ^ 32) })

/-- A replay is dropped: counted, with its flag. -/
def State.replay (s : State) : State := (s.incSat F.netCnt1_REPLAY).netFlag F.netStat_REPLAY

/-- A message with another EPOCH (08 R286): a code-14 NAK, at most one per domain in a millisecond. -/
def State.epochNak (s : State) (f : List Nat) : State :=
  let d := zDom f
  let s1 := s.netFlag F.netStat_EPOCHNAK
  match kvGet s.net.nak d with
  | some t => if s.tick - t < 160000 then s1 else (s1.modNet (fun n => { n with nak := kvSet n.nak d s.tick })).answer f 14 0 0 []
  | none => (s1.modNet (fun n => { n with nak := kvSet n.nak d s.tick })).answer f 14 0 0 []

/-- A duplicate (08 R288): the kept response again, or a replay. A NAK of code 10 answered no message that has been marked. -/
def State.duplicate (s : State) (f : List Nat) : State :=
  match (kvD s.net.kept (zDom f) []).find? (fun k =>
      k.rctr == zRctr f && k.seq == zSeq f && k.tag == zTag f && nth8 (zPay k.resp) 1 != 10) with
  | some k => s.egress (zDom f) k.resp
  | none => s.replay

/-! ### Payloads (08 R291) -/

/-- Fields of the payload of a TRAY. -/
def tHot (p : List Nat) : Nat := nth8 p 0 % 16
def tCommit (p : List Nat) : Bool := 128 ≤ nth8 p 0
def tFirst (p : List Nat) : Nat := beNat (sub8 p 2 2)
def tCount (p : List Nat) : Nat := beNat (sub8 p 4 2)
def tPtime (p : List Nat) : Nat := beNat (sub8 p 6 8)

/-- ADDR and CNT of a REGRD or REGWR lie in their ranges. -/
def regPayOk (p : List Nat) : Bool :=
  pAddr p < 2 ^ 24 && pAddr p % 4 == 0 && nth8 p 4 % 128 == 0 && nth8 p 5 < 128 && 1 ≤ pCnt p && pCnt p ≤ 64

/-- The payload of a message of a type lies in its ranges (08 R291). -/
def payOk (ty : Nat) (p : List Nat) : Bool :=
  match ty with
  | 1 => p.length == 6 && regPayOk p
  | 2 => 6 ≤ p.length && regPayOk p && p.length == 6 + 4 * pCnt p
  | 3 => 14 ≤ p.length && nth8 p 0 / 16 % 8 == 0 && nth8 p 1 == 0 && tFirst p ≤ 479 && 1 ≤ tCount p && tCount p ≤ 480
      && tFirst p + tCount p ≤ 480 && p.length == 14 + 2 * tCount p
  | 4 => p.length == 12 && nth8 p 0 % 128 == 0
  | _ => p.length == 6 || (nth8 p 0 == 1 && 6 ≤ p.length && p.length % 4 == 2 && p.length ≤ 262)

/-! ### FRAME_RECEIVE (08 R284) -/

/-- A NAK, which TIME and ACK messages never get (08 R292). -/
def State.nak (s : State) (f : List Nat) (code : Nat) : State :=
  if zType f = 4 || zType f = 6 then s else s.answer f code 0 0 []

/-- Steps 6 and 7: the message goes to its ingress rack; a TIME message takes the stamp of its cycle with it, once a cycle (08 R303). -/
def State.ingress (s : State) (f : List Nat) (uni : Bool) : State :=
  let d := zDom f
  let n := 4 + d
  if !s.rackEn n || s.rackFull n then s.nak f 10
  else
    let s1 := if uni then s.markWin d (zRctr f) else s
    let time := zType f = 4
    let use := time && !s.net.cycleUsed && s.b F.netStat_PLCAOK && s.net.beacon.isSome
    let st := s.net.beacon.getD (0, 0)
    let x : Desc := { w0 := 2 + d * 2 ^ 22, w1 := if use then 1 else 0, w2 := st.1, w3 := st.2, body := f }
    let s2 := if time then s1.modNet (fun n => { n with cycleUsed := true }) else s1
    (s2.incSat F.netCnt0_RXOK).rackCommit n x

/-- Steps 4 to 7 of 08 R284. `uni` marks a message at NET_MAC. -/
def State.rxAccept (s : State) (f : List Nat) (uni : Bool) : State :=
  let ty := zType f
  let fail (code : Nat) : State :=
    if ty = 4 || ty = 6 then s else (if uni then s.markWin (zDom f) (zRctr f) else s).nak f code
  let ok := if uni then ty = 1 || ty = 2 || ty = 3 || ty = 6 else ty = 4
  if !ok then fail 9
  else if !payOk ty (zPay f) then fail 8
  else s.ingress f uni

/-- Step 3 at NET_MAC (08 R286-R288), then the rest. -/
def State.rxUni (s : State) (f : List Nat) : State :=
  let d := zDom f
  let c := zRctr f
  let h := kvD s.net.h d 0
  if zEpoch f ≠ (s.rd .netEpoch).toNat then (if zType f = 4 || zType f = 6 then s else s.epochNak f)
  else if c = 0 || c + 31 < h then s.replay
  else if h < c then (s.moveWin d c).rxAccept f true
  else if bitN (kvD s.net.win d 0) (h - c) then s.duplicate f
  else s.rxAccept f true

/-- Step 3 at NET_MCAST (08 R290): HT guards TIME messages. -/
def State.rxMulti (s : State) (f : List Nat) : State :=
  if zType f ≠ 4 then s.rxAccept f false
  else
    let e := (s.rd .netTepoch).toNat
    if e = 0 || zEpoch f ≠ e || zRctr f ≤ s.net.ht then s.replay
    else (s.modNet (fun n => { n with ht := zRctr f })).rxAccept f false

/-- The key of a domain authenticates ZSP messages (08 R282). -/
def State.zspKeyOk (s : State) (d : Nat) : Bool := s.usable (Fin.ofNat 4 (bitsN (s.rd .netKeysel).toNat (2 * d) 2)) 1

/-- Steps 1 and 2, then the rest; `uni` marks a frame at NET_MAC. -/
def State.rxFrame (s : State) (f : List Nat) (uni : Bool) : State :=
  let len := f.length - 18
  if nth8 f 14 / 16 ≠ 1 || nth8 f 15 % 32 ≠ 0 || len < 24 + zPlen f then s.rxDrop
  else if !s.zspKeyOk (zDom f) || s.zspTag (zDom f) (f.take (30 + zPlen f)) ≠ zTag f then
    (s.incSat F.netCnt1_AUTHFAIL).netFlag F.netStat_AUTHFAIL
  else if uni then s.rxUni f
  else s.rxMulti f

/-- The frames of the receive buffer are processed in order; each leaves it as it is placed on its rack or refused (08 R279). -/
def State.rxServe (s : State) : State :=
  each s.net.rx (fun q s => s.rxFrame q.1 q.2) (s.modNet (fun n => { n with rx := [] }))

/-- FRAME_RECEIVE (08 R278, R279, R284): a frame arrives, from its destination address to its FCS. `held` where its processing ends
later, with the next frame's or in an idle tick (log 72): the frame then stays in the receive buffer, which holds four. -/
def execFrameReceive (frame : List Byte) (held : Bool) (s : State) : Host.Outcome State Fault Refusal :=
  let f := frame.map (·.toNat)
  .next (if !s.live || !s.b F.netStat_PHYON || !s.forMe f then s
    else if !s.frameOk f then s.rxDrop
    else if 4 ≤ s.net.rx.length then s.rxDrop.netFlag F.netStat_RXOVF
    else
      let s1 := s.modNet (fun n => { n with rx := n.rx ++ [(f, f.take 6 == s.mac)] })
      if held then s1 else s1.rxServe)

/-! ### The messages on the ingress racks (08 R285; 09 R342) -/

/-- Rack `n` holds a descriptor for its agent. -/
def State.rackHolds (s : State) (n : Nat) : Bool := s.rackEn n && !(s.rq n).isEmpty

/-- Domains whose rack `base + d` holds a descriptor that may start: each has an in-flight slot. -/
def State.readyDoms (s : State) (agent base : Nat) : List Nat :=
  (upto 4).filter (fun d => s.rackHolds (base + d) && s.hasSlot agent d)

/-- Domains whose head descriptor finds no slot wait for one, and set QUOTAHIT; the transmitter, which is no waiter, sets it alone (05
R154; 09 R325, R347). -/
def State.quotaWait (s : State) (agent base : Nat) : State :=
  let ready := s.readyDoms agent base
  each (upto 4) (fun d t =>
    let need := s.rackHolds (base + d) && !ready.contains d
    if agent = 19 then (if need then t.quotaHit d else t) else t.slotWait agent d need) s

/-- The network DMA takes the next message, where it is of type `ty`: its domain, its descriptor, the state without it. -/
def State.takeMsg (s : State) (ty : Nat) : Option (Nat × Desc) × State :=
  if !s.live || s.net.job.isSome || (s.blockOf 17).isSome then (none, s)
  else
    let r := s.rack.arb17.pick (s.readyDoms 17 4) (fun d => s.g F.domQos_RACKW d)
    let s0 := (s.quotaWait 17 4).modRack (fun k => { k with arb17 := r.2 })
    match r.1 with
    | none => (none, s0)
    | some d =>
      let t := (s0.useSlot 17 d).rackTake (4 + d)
      match t.1 with
      | some x => if zType x.body ≠ ty then (none, s) else (some (d, x), t.2)
      | none => (none, t.2)

/-- A message has been executed: its descriptor is retired (09 R340). -/
def State.msgEnd (s : State) (d : Nat) (x : Desc) (bad : Bool) (i : Nat) : State := s.retire (4 + d) x (if bad then 5 else 1) i

/-! ### REGRD and REGWR (08 R285, R293, R294) -/

/-- The job of a message as it starts: its first word has a slot. -/
def jobOf (d : Nat) (x : Desc) : NetJob := ⟨d, x.body, 0, [], 0, 0, 0, true⟩

/-- The message in execution. -/
def State.setJob (s : State) (j : Option NetJob) : State := s.modNet (fun n => { n with job := j })

/-- A job whose word `j.i` has ended with a code: a completed word counts in DONE, the first failure stands (08 R291, R293). -/
def NetJob.note (j : NetJob) (code : Nat) (data : List Nat) : NetJob := { j with
  i := j.i + 1, data := j.data ++ data, done := if code = 0 then j.done + 1 else j.done, slot := false
  code := if j.code = 0 then code else j.code, widx := if j.code = 0 && code != 0 then j.i else j.widx }

/-- One word of a job, an access with a slot of its own (08 R285); where the word ends the job, as a reset of its domain does, nothing of
it is left; the last word leaves a job that is complete (log 87). -/
def State.jobWord (s : State) (j : NetJob) : State :=
  let p := zPay j.body
  let a := if pFix p then pAddr p else pAddr p + 4 * j.i
  let s1 := s.setJob (some { j with i := j.i + 1, slot := true })
  let keep (s : State) (n : NetJob) : State := if s.net.job.isSome then s.setJob (some n) else s
  if zType j.body = 1 then
    let r := s1.portRead .net j.dom a
    keep r.2.2.2 (j.note r.1 [r.2.1])
  else
    let r := s1.portWrite .net j.dom a (beNat (sub8 p (6 + 4 * j.i) 4))
    keep r.2 (j.note r.1 [])

/-- `n` words of the job, as many as are left and find an in-flight slot; the job waits for one it does not find (05 R154). -/
def State.jobWords (s : State) : Nat → State
  | 0 => s
  | n + 1 =>
    match s.net.job with
    | none => s
    | some j =>
      if pCnt (zPay j.body) ≤ j.i then s
      else if j.slot then (s.jobWord j).jobWords n
      else if s.hasSlot 17 j.dom then (((s.useSlot 17 j.dom).slotWait 17 j.dom false).jobWord j).jobWords n
      else s.slotWait 17 j.dom true

/-- The job goes on by `k` words, 0 for all that remain; after the last its packet ends and it is answered (08 R292, R294). -/
def State.jobRun (s : State) (k : Nat) : State :=
  let t := s.jobWords (if k = 0 then 64 else k)
  match t.net.job with
  | none => t
  | some j =>
    if j.i < pCnt (zPay j.body) then t
    else
      let s1 := ((t.setJob none).drain .net).endBurst .net
      (s1.answerIf j.body j.code j.widx j.done (if zType j.body = 1 then padData (pCnt (zPay j.body)) j.data else [])).msgEnd j.dom
        { w0 := 2 + j.dom * 2 ^ 22 } false 0

/-- REGRD or REGWR: the message in execution goes on, or the next one starts. -/
def State.regMsg (s : State) (ty k : Nat) : State :=
  match s.net.job with
  | some j => if s.live && zType j.body = ty then s.jobRun k else s
  | none =>
    match s.takeMsg ty with
    | (some (d, x), s1) => (s1.setJob (some (jobOf d x))).jobRun k
    | (none, s1) => s1

/-- REGRD (08 R291, R293): `k` words are read, 0 for all that remain. -/
def execRegrd (k : BitVec 7) (s : State) : Host.Outcome State Fault Refusal := .next (s.regMsg 1 k.toNat)

/-- REGWR (08 R294): `k` words are written, 0 for all that remain. -/
def execRegwr (k : BitVec 7) (s : State) : Host.Outcome State Fault Refusal := .next (s.regMsg 2 k.toNat)

/-! ### TRAY (08 R297, R298) -/

/-- A hot tray is live, or in a pending-tray queue. -/
def State.hotBusy (s : State) (h : Nat) : Bool :=
  s.px.live.any (fun p => p.2.tray == 0x80 + h) || s.net.trays.any (fun q => q.2.any (fun p => p.hot == h))

/-- The refusal of a TRAY message of domain `d`, or 0, with the violation it records. -/
def State.trayRefusal (s : State) (d : Nat) (p : List Nat) : Nat × State :=
  let h := tHot p
  let a := trayBase (0x80 + h) + 0x20 + 2 * tFirst p
  let g := s.gateCause .stream d false
  if g ≠ 0 then (5, s.violate d (if g = 4 then 1 else 7) a g)
  else if s.ownHot h ≠ d then (3, s.violate d 7 a 1)
  else if s.hotBusy h then (11, s)
  else if tCommit p && 4 ≤ (kvD s.net.trays d []).length then (12, s)
  else if tCommit p && s.time + s.g F.netTraycfg_MAXLEAD * 160000 < tPtime p then (13, s)
  else (0, s)

/-- The streamer writes pixel words from the `i`-th on, `k` of them: the pixel words written, the first that met an uncorrectable
word (10 R376). -/
def State.streamPx (s : State) (base : Nat) (px : List Nat) (i : Nat) : Nat → Nat × Option Nat × State
  | 0 => (0, none, s)
  | k + 1 =>
    let a := base + 2 * i
    let m := s.mergeMem 7 (a / 4 * 4) (16 * (a / 2 % 2)) 16 (px.getD i 0)
    let r := m.2.streamPx base px (i + 1) k
    if m.1 then (r.1, some i, r.2.2) else (r.1 + 1, r.2.1, r.2.2)

/-- A committed tray joins the queue of its domain (08 R298). -/
def State.commitTray (s : State) (d : Nat) (p : List Nat) : Bool × State :=
  let r := s.rdBytes 7 (trayBase (0x80 + tHot p)) 32
  let h := headerOf r.1
  if r.2.1 then (true, r.2.2)
  else
    let l := kvD s.net.trays d [] ++ [⟨tHot p, tPtime p, h.1, h.2⟩]
    (false, (r.2.2.modNet (fun n => { n with trays := kvSet n.trays d l })).p F.netTrayStat_PEND d l.length)

/-- A TRAY message of domain `d` is executed: code, index, pixel words written. -/
def State.trayRun (s : State) (d : Nat) (p : List Nat) : (Nat × Nat × Nat) × State :=
  let q := s.trayRefusal d p
  if q.1 ≠ 0 then ((q.1, 0, 0), q.2)
  else
    let px := (upto (tCount p)).map (fun i => beNat (sub8 p (14 + 2 * i) 2))
    let w := q.2.streamPx (trayBase (0x80 + tHot p) + 0x20 + 2 * tFirst p) px 0 (tCount p)
    let c := if tCommit p then w.2.2.commitTray d p else (false, w.2.2)
    match w.2.1 with
    | some i => ((2, i, w.1), c.2)
    | none => (if c.1 then (2, 0, w.1) else (0, 0, w.1), c.2)

/-- TRAY (08 R297, R298): the next message writes pixel words of a hot tray, and commits it where it asks. -/
def execTray (s : State) : Host.Outcome State Fault Refusal :=
  match s.takeMsg 3 with
  | (some (d, x), s1) =>
    let r := s1.trayRun d (zPay x.body)
    .next ((r.2.answerIf x.body r.1.1 r.1.2.1 r.1.2.2 []).msgEnd d x (r.1.1 == 2) r.1.2.1)
  | (none, s1) => .next s1

/-! ### TIME (08 R303, R304) -/

/-- Device time as a 64-bit value that may be set back. -/
def timeBack (t : Nat) (e : Int) : Nat := wrap 64 ((t : Int) - e)

/-- The servo state after an offset `e` in state `st` with `good` results in a row. -/
def servoState (st good : Nat) (e : Nat) : Nat :=
  if st = 2 then (if 800 < e then 1 else 2)
  else if st = 3 then (if e ≤ 80 then 2 else 1)
  else if 4 ≤ good then 2 else 1

/-- Ticks between two slewed ones: the offset is spread over TINT ms, one tick in 2000 at most. -/
def slewGapOf (tint e : Nat) : Nat := max 2000 (tint * 160000 / max 1 e)

/-- A TIME message with offset `e`, whose BEACON came at fSYS tick `b`, is used. -/
def State.servo (s : State) (e : Int) (b tint : Nat) : State :=
  let s1 := s.wr .netTofs 0 (BitVec.ofInt 32 e)
  let used (n : Net) : Net := { n with lastUsed := some b }
  if 16000 < e.natAbs then
    let s2 := { s1 with time := timeBack s1.time e }
    let s3 := (s2.modNet (fun n => { used n with good := 0, slew := 0 })).timeState 1
    s3.realign
  else
    let rate : Int := sext 24 (s.g F.netTrate_RATE)
    let rate2 : Int := match s.net.lastUsed with
      | some t => clampI (-2147484) 2147484 (rate - Int.tdiv (Int.tdiv (e * 2 ^ 32) (max 1 (b - t) : Nat)) 4)
      | none => rate
    let good := if e.natAbs ≤ 80 then s.net.good + 1 else 0
    let s2 := (s1.p F.netTrate_RATE 0 (wrap 24 rate2)).modNet (fun n => { used n with
      good := good, slew := -e, slewAt := 0, slewGap := slewGapOf tint e.natAbs })
    s2.timeState (servoState (s.g F.netTstat_STATE) good e.natAbs)

/-- TIME (08 R303): the next message disciplines the device time of a follower. -/
def execTime (s : State) : Host.Outcome State Fault Refusal :=
  match s.takeMsg 4 with
  | (some (d, x), s1) =>
    let p := zPay x.body
    let e : Int := (x.w2 : Int) - s1.g F.netTimecfg_PDLY - beNat (sub8 p 4 8)
    let use := s1.g F.netTimecfg_ROLE = 0 && s1.g F.netTimecfg_TDOM = d && 128 ≤ nth8 p 0 && x.w1 = 1
    .next ((if use then s1.servo e x.w3 (beNat (sub8 p 2 2)) else s1).msgEnd d x false 0)
  | (none, s1) => .next s1

/-- TIME_HOLDOVER (08 R304): no used TIME for HOLD x 10 ms in LOCKED. -/
def execTimeHoldover (s : State) : Host.Outcome State Fault Refusal :=
  .next (if s.live && s.g F.netTimecfg_ROLE = 0 && s.g F.netTstat_STATE = 2 then s.timeState 3 else s)

/-! ### ACK and EVENT (08 R296) -/

/-- ACK (08 R296): the acknowledgement of the outstanding EVENT ends it; another is ignored. -/
def execAck (s : State) : Host.Outcome State Fault Refusal :=
  match s.takeMsg 6 with
  | (some (d, x), s1) =>
    let p := zPay x.body
    let hit := (kvGet s1.net.evOut d).any (fun e => nth8 p 0 == 5 && nth8 p 1 == 0 && zSeq x.body == e.seq)
    .next ((if hit then s1.modNet (fun n => { n with evOut := kvDel n.evOut d }) else s1).msgEnd d x false 0)
  | (none, s1) => .next s1

/-- The sources that assert for domain `d`. -/
def State.assertSet (s : State) (d : Nat) : List Nat := (upto 96).filter (fun n => s.asserting d n)

/-- Domain `d`, in no reset (05 R163), has EVENT as its route, and a destination. -/
def State.evRoute (s : State) (d : Nat) : Bool :=
  !bitN (s.g F.domStat_RSTBUSY) d && s.g F.intCfg_ROUTE d == 3 && (s.macOf .netHostHi .netHostLo d).any (· != 0)

/-- The port can send (08 R274, R276). -/
def State.canSend (s : State) : Bool := s.live && s.b F.netStat_PHYON && s.b F.netStat_PLCAOK

/-- A new EVENT of domain `d` goes to its egress rack, with a SEQ that is a free value (log 2). -/
def State.sendEvent (s : State) (d : Nat) : State :=
  let l := s.assertSet d
  let set := l.foldl (fun n k => n + 2 ^ k) 0
  let top := (s.intTopWord d).toNat
  let q := s.fresh 16
  let r := q.2.newFrame 5 d true q.1.toNat (s.macOf .netHostHi .netHostLo d)
    (beBytes 12 set ++ beBytes 2 (top % 128 + bitsN top 8 4 * 2 ^ 8) ++ beBytes 8 s.time)
  let s1 := r.2.modNet (fun n => { n with
    evOut := kvSet n.evOut d ⟨q.1.toNat, r.1, 0⟩, evSet := kvSet n.evSet d l, evTick := kvSet n.evTick d s.tick
    evLost := putN n.evLost d 1 0 })
  s1.egress d r.1

/-- EVENT_SEND (05 R150; 08 R296): the asserting set of domain `x` has gained a source that no EVENT has carried; none is outstanding
and EVGAP has passed. -/
def execEventSend (x : Dom) (s : State) : Host.Outcome State Fault Refusal :=
  let d := x.val
  let gain := (s.assertSet d).any (fun n => !(kvD s.net.evSet d []).contains n)
  let gap := (kvGet s.net.evTick d).all (fun t => s.g F.intCfg_EVGAP d * 16000 ≤ s.tick - t)
  .next (if s.canSend && s.evRoute d && (kvGet s.net.evOut d).isNone && gain && gap && (s.blockOf 17).isNone then s.sendEvent d else s)

/-- EVENT_RETRY (08 R296): no acknowledgement within ACKTO: the frame again, or the EVENT is abandoned after the last repeat. -/
def execEventRetry (x : Dom) (s : State) : Host.Outcome State Fault Refusal :=
  let d := x.val
  match kvGet s.net.evOut d with
  | none => .next s
  | some e =>
    if !s.live || (s.blockOf 17).isSome then .next s
    else if e.reps < s.g F.netEvcfg_RETRY then
      .next (((s.modNet (fun n => { n with evOut := kvSet n.evOut d { e with reps := e.reps + 1 } })).incSat F.netCnt2_TXRETRY).egress
        d e.frame)
    else
      .next ((s.modNet (fun n => { n with evOut := kvDel n.evOut d, evLost := putN n.evLost d 1 1 })).netFlag F.netStat_EVLOST)

/-- EVENT_RENEW (08 R296): 1 s after an EVENT was abandoned, a source still asserts. -/
def execEventRenew (x : Dom) (s : State) : Host.Outcome State Fault Refusal :=
  let d := x.val
  .next (if s.canSend && bitN s.net.evLost d && s.evRoute d && (kvGet s.net.evOut d).isNone && !(s.assertSet d).isEmpty
      && (s.blockOf 17).isNone then s.sendEvent d else s)

/-! ### Transmission (08 R276, R302) -/

/-- The frame at the head of egress rack `8 + d` leaves it, retired with a status. -/
def State.egressTake (s : State) (d status : Nat) : Option Desc × State :=
  let r := s.rackTake (8 + d)
  match r.1 with
  | some x => (some x, (r.2.modNet (fun n => { n with tries := kvDel n.tries d })).retire (8 + d) x status 0)
  | none => (none, r.2)

/-- The domain whose frame is sent next, with its arbiter (09 R342). -/
def State.egressPick (s : State) : Option Nat × State :=
  let r := s.rack.arb19.pick (s.readyDoms 19 8) (fun d => s.g F.domQos_RACKW d)
  (r.1, (s.quotaWait 19 8).modRack (fun k => { k with arb19 := r.2 }))

/-- Frames of one opportunity, at most `n`. -/
def State.sendFrames (s : State) : Nat → State
  | 0 => s
  | n + 1 =>
    match s.egressPick with
    | (none, s1) => s1
    | (some d, s1) =>
      match s1.egressTake d 1 with
      | (some x, s2) =>
        ((s2.incSat F.netCnt2_TXOK).modNet (fun k => { k with sent := k.sent ++ [x.body] })).sendFrames n
      | (none, s2) => s2

/-- A frame meets a collision: sent again later, up to three times, then dropped (08 R276). -/
def State.collide (s : State) : State :=
  match s.egressPick with
  | (none, s1) => s1
  | (some d, s1) =>
    let s2 := s1.incSat F.netCnt2_TXRETRY
    let k := kvD s2.net.tries d 0
    if k < 3 then s2.modNet (fun n => { n with tries := kvSet n.tries d (k + 1) })
    else (s2.egressTake d 5).2.netFlag F.netStat_TXDROP

/-- TRANSMIT_OPPORTUNITY (08 R276): the X648's own opportunity, with one frame, or up to BURST + 1; or a frame that collides. -/
def execTransmitOpportunity (collided : Bool) (s : State) : Host.Outcome State Fault Refusal :=
  .next (if !s.canSend then s
    else if collided then s.collide
    else (s.modNet (fun n => { n with sent := [] })).sendFrames (bitsN s.net.plca 24 8 + 1))

/-- The frame at place `i` of egress rack `8 + d` is dropped (08 R276). -/
def State.egressDrop (s : State) (d i : Nat) : State :=
  match (s.rq (8 + d))[i]? with
  | none => s
  | some x =>
    let s1 := if i = 0 then s.modNet (fun n => { n with tries := kvDel n.tries d }) else s
    (((s1.setRq (8 + d) ((s.rq (8 + d)).eraseIdx i)).rackServe (8 + d) 64).retire (8 + d) x 5 0).netFlag F.netStat_TXDROP

/-- EGRESS_ACK_TIMEOUT (08 R276): the oldest ACK frame on the egress rack of domain `x` has been held for more than 50 ms. -/
def execEgressAckTimeout (x : Dom) (s : State) : Host.Outcome State Fault Refusal :=
  .next (if s.live then s.egressDrop x.val ((s.rq (8 + x.val)).findIdx (fun y => zType y.body == 6)) else s)

/-- TIME_TRANSMIT (08 R302): a master sends a TIME message ahead of other egress frames; its SEQ is a free value (log 2). A message that
meets a collision is formed again, with the stamp of its cycle, up to three times, then dropped (08 R276; log 73). -/
def execTimeTransmit (s : State) (collided : Bool := false) : Host.Outcome State Fault Refusal :=
  match s.net.beacon with
  | some b =>
    if s.canSend && s.g F.netTimecfg_ROLE = 1 then
      let q := s.fresh 16
      let r := q.2.newFrame 4 (s.g F.netTimecfg_TDOM) false q.1.toNat (s.macOf .netMcastHi .netMcastLo 0)
        ([0x80, s.plcaId] ++ beBytes 2 (s.g F.netTimecfg_TINT) ++ beBytes 8 b.1)
      if !collided then .next ((r.2.incSat F.netCnt2_TXOK).modNet (fun n => { n with sent := [r.1], timeTries := 0 }))
      else
        let s1 := r.2.incSat F.netCnt2_TXRETRY
        .next (if s.net.timeTries < 3 then s1.modNet (fun n => { n with timeTries := n.timeTries + 1 })
          else (s1.modNet (fun n => { n with timeTries := 0 })).netFlag F.netStat_TXDROP)
    else .next s
  | none => .next s

end Sys2Proof.Machine
end

