-- ==== Sys2Proof/Machine/Commands.lean ====
section
/-!
DEFINITION. The commands that are accesses of one register (each an access under 06 R185 by a port and domain), the checks of the
crumb sweep on registers (06 R206-R212) and the die temperature (18 R683, R684).
-/

namespace Sys2Proof.Machine

/-- A command word: the value `v` in the field from bit `lo`. -/
def at' (lo v : Nat) : Nat := v * 2 ^ lo

/-! ### Supplies, reset, standby (03) -/

/-- HWDT_SVC_WRITE (03 R77). -/
def execHwdtSvcWrite (p : Port) (d : Dom) (w : Word) (s : State) : Host.Outcome State Fault Refusal :=
  s.writeReg p d .hwdtSvc 0 w.toNat
/-- HWDT_CFG_WRITE (03 R78). -/
def execHwdtCfgWrite (p : Port) (d : Dom) (w : Word) (s : State) : Host.Outcome State Fault Refusal :=
  s.writeReg p d .hwdtCfg 0 w.toNat
/-- DEEP_STANDBY (03 R82): PWR_CMD with CMD 1. -/
def execDeepStandby (p : Port) (d : Dom) (s : State) : Host.Outcome State Fault Refusal :=
  s.writeReg p d .pwrCmd 0 (1 + at' 8 0xC7)
/-- RETENTION_STANDBY (03 R82): PWR_CMD with CMD 2. -/
def execRetentionStandby (p : Port) (d : Dom) (s : State) : Host.Outcome State Fault Refusal :=
  s.writeReg p d .pwrCmd 0 (2 + at' 8 0xC7)
/-- NETWORK_WAKE_STANDBY (03 R82): PWR_CMD with CMD 3. -/
def execNetworkWakeStandby (p : Port) (d : Dom) (s : State) : Host.Outcome State Fault Refusal :=
  s.writeReg p d .pwrCmd 0 (3 + at' 8 0xC7)

/-! ### Domains and registers (05, 06) -/

/-- WIDE_LO_WRITE (06 R222): the write of a _LO half. -/
def execWideLoWrite (p : Port) (d : Dom) (a : Addr) (w : Word) (s : State) : Host.Outcome State Fault Refusal :=
  s.writeCmd p d a.toNat w.toNat
/-- BAKE_HOLD_WRITE (06 R201). -/
def execBakeHoldWrite (p : Port) (d x : Dom) (hold : Bool) (s : State) : Host.Outcome State Fault Refusal :=
  s.writeReg p d .bakeCtl x (if hold then 1 else 0)
/-- LOCK_SET (06 R214). -/
def execLockSet (p : Port) (d : Dom) (bits : BitVec 4) (s : State) : Host.Outcome State Fault Refusal :=
  s.writeReg p d .lockCtl 0 bits.toNat
/-- SNAP_REQ (06 R220). -/
def execSnapReq (p : Port) (d : Dom) (sel : BitVec 4) (s : State) : Host.Outcome State Fault Refusal :=
  s.writeReg p d .snapReq 0 sel.toNat
/-- DOMAIN_RESET (05 R157): DOM_RST with its key. -/
def execDomainReset (p : Port) (d : Dom) (rst : BitVec 4) (s : State) : Host.Outcome State Fault Refusal :=
  s.writeReg p d .domRst 0 (rst.toNat + at' 8 0xD5)

/-! ### SPI sessions and counters (07), network (08) -/

/-- SESSION_OPEN (07 R257). -/
def execSessionOpen (p : Port) (d : Dom) (ksel : Fin 4) (s : State) : Host.Outcome State Fault Refusal :=
  s.writeReg p d .spiSesscmd 0 (1 + at' 4 ksel)
/-- SESSION_RESPONSE (07 R257): the write of SPI_RESP_LO, which commits the response. -/
def execSessionResponse (p : Port) (d : Dom) (w : Word) (s : State) : Host.Outcome State Fault Refusal :=
  s.writeReg p d .spiRespLo 0 w.toNat
/-- SESSION_CLOSE (07 R260). -/
def execSessionClose (p : Port) (d : Dom) (s : State) : Host.Outcome State Fault Refusal :=
  s.writeReg p d .spiSesscmd 0 2
/-- SPI_COUNTER_CLEAR (07 R268). -/
def execSpiCounterClear (p : Port) (d : Dom) (s : State) : Host.Outcome State Fault Refusal := s.writeReg p d .spiCtl 0 1
/-- NET_TFLOOR_WRITE (08 R290): the write of NET_TFLOOR_LO. -/
def execNetTfloorWrite (p : Port) (d : Dom) (w : Word) (s : State) : Host.Outcome State Fault Refusal :=
  s.writeReg p d .netTfloorLo 0 w.toNat
/-- NET_COUNTER_CLEAR (08 R316). -/
def execNetCounterClear (p : Port) (d : Dom) (s : State) : Host.Outcome State Fault Refusal := s.writeReg p d .netCtl 0 1

/-! ### Racks and semaphores (09) -/

/-- RACK_PUSH (09 R333): a word is written to RACKn_PUSH. -/
def execRackPush (p : Port) (d : Dom) (n : Fin 32) (w : Word) (s : State) : Host.Outcome State Fault Refusal :=
  s.writeReg p d .rackPush n w.toNat
/-- RACK_POP (09 R330, R336): RACKn_POP is read, after bits of its head descriptor have flipped. -/
def execRackPop (p : Port) (d : Dom) (n : Fin 32) (s : State) (word : Fin 4 := 0) (flip : BitVec 39 := 0) :
    Host.Outcome State Fault Refusal :=
  (s.rackFlip n word.val flip.toNat).readCmd p d (RegId.rackPop.addr n)
/-- RACK_ENABLE (09 R328): RACKn_CFG is written. -/
def execRackEnable (p : Port) (d : Dom) (n : Fin 32) (w : Word) (s : State) : Host.Outcome State Fault Refusal :=
  s.writeReg p d .rackCfg n w.toNat
/-- RACK_PART_WRITE (09 R328). -/
def execRackPartWrite (p : Port) (d : Dom) (n : Fin 32) (w : Word) (s : State) : Host.Outcome State Fault Refusal :=
  s.writeReg p d .rackPart n w.toNat
/-- SEM_TAKE (09 R345): SEMn_TAKE is read. -/
def execSemTake (p : Port) (d : Dom) (n : Fin 32) (s : State) : Host.Outcome State Fault Refusal :=
  s.readCmd p d (RegId.semTake.addr n)
/-- SEM_GIVE (09 R344). -/
def execSemGive (p : Port) (d : Dom) (n : Fin 32) (s : State) : Host.Outcome State Fault Refusal := s.writeReg p d .semGive n 1
/-- SEM_CONFIG_WRITE (09 R344). -/
def execSemConfigWrite (p : Port) (d : Dom) (n : Fin 32) (w : Word) (s : State) : Host.Outcome State Fault Refusal :=
  s.writeReg p d .semCfg n w.toNat

/-! ### Image store (10 R399) -/

/-- A write of IMG_CMD with its key: OP, BANK and COUNT. -/
def imgWord (op : Nat) (bank : Bool) (count : Nat) : Nat :=
  op + (if bank then 8 else 0) + at' 4 count + at' 16 0xA9

/-- PROGRAM (10 R400). -/
def execProgram (p : Port) (d : Dom) (bank : Bool) (count : BitVec 7) (s : State) : Host.Outcome State Fault Refusal :=
  s.writeReg p d .imgCmd 0 (imgWord 1 bank count.toNat)
/-- VERIFY (10 R399). -/
def execVerify (p : Port) (d : Dom) (bank : Bool) (s : State) : Host.Outcome State Fault Refusal :=
  s.writeReg p d .imgCmd 0 (imgWord 2 bank 0)
/-- SWAP (10 R402). -/
def execSwap (p : Port) (d : Dom) (bank : Bool) (s : State) : Host.Outcome State Fault Refusal :=
  s.writeReg p d .imgCmd 0 (imgWord 3 bank 0)
/-- INVALIDATE (10 R399). -/
def execInvalidate (p : Port) (d : Dom) (bank : Bool) (s : State) : Host.Outcome State Fault Refusal :=
  s.writeReg p d .imgCmd 0 (imgWord 4 bank 0)
/-- CANCEL (10 R399). -/
def execCancel (p : Port) (d : Dom) (s : State) : Host.Outcome State Fault Refusal :=
  s.writeReg p d .imgCmd 0 (imgWord 5 false 0)

/-! ### Engines and dispatcher (11) -/

/-- ICACHE_INVALIDATE (11 R423): PEn_CTL is written with INVAL. -/
def execIcacheInvalidate (p : Port) (d : Dom) (e : Fin 4) (excstop : Bool) (s : State) : Host.Outcome State Fault Refusal :=
  s.writeReg p d .peCtl e ((if excstop then 1 else 0) + 2)
/-- SOFTWARE_TRIGGER (11 R441). -/
def execSoftwareTrigger (p : Port) (d : Dom) (w : Word) (s : State) : Host.Outcome State Fault Refusal :=
  s.writeReg p d .dispSwtrig 0 w.toNat
/-- TIME_MATCH_ARM (11 R442): the write of DISP_TM_LO of domain `x`. -/
def execTimeMatchArm (p : Port) (d x : Dom) (w : Word) (s : State) : Host.Outcome State Fault Refusal :=
  s.writeReg p d .dispTmLo x w.toNat
/-- KILL (11 R445): PEn_CMD with CMD 1. -/
def execKill (p : Port) (d : Dom) (e : Fin 4) (x : Dom) (s : State) : Host.Outcome State Fault Refusal :=
  s.writeReg p d .peCmd e (x + at' 4 1)
/-- ENDSLICE (11 R445): PEn_CMD with CMD 2. -/
def execEndslice (p : Port) (d : Dom) (e : Fin 4) (x : Dom) (s : State) : Host.Outcome State Fault Refusal :=
  s.writeReg p d .peCmd e (x + at' 4 2)
/-- RESUME (11 R445): PEn_CMD with CMD 3. -/
def execResume (p : Port) (d : Dom) (e : Fin 4) (x : Dom) (s : State) : Host.Outcome State Fault Refusal :=
  s.writeReg p d .peCmd e (x + at' 4 3)
/-- FLUSH (11 R445): PEn_CMD with CMD 4. -/
def execFlush (p : Port) (d : Dom) (e : Fin 4) (x : Dom) (s : State) : Host.Outcome State Fault Refusal :=
  s.writeReg p d .peCmd e (x + at' 4 4)

/-! ### ADC and telemetry (16, 17) -/

/-- ADC_SOFTWARE_TRIGGER (16 R645). -/
def execAdcSoftwareTrigger (p : Port) (d : Dom) (x : Fin 2) (w : Word) (s : State) : Host.Outcome State Fault Refusal :=
  s.writeReg p d .adcInjsw x w.toNat
/-- CAL (16 R625): ADCx_CMD with CMD 1. -/
def execCal (p : Port) (d : Dom) (x : Fin 2) (park : Bool) (s : State) : Host.Outcome State Fault Refusal :=
  s.writeReg p d .adcCmd x (1 + (if park then 8 else 0) + at' 8 0xAD)
/-- RESTORE (16 R633): ADCx_CMD with CMD 2. -/
def execRestore (p : Port) (d : Dom) (x : Fin 2) (s : State) : Host.Outcome State Fault Refusal :=
  s.writeReg p d .adcCmd x (2 + at' 8 0xAD)
/-- FAIL (16 R633): ADCx_CMD with CMD 3. -/
def execFail (p : Port) (d : Dom) (x : Fin 2) (s : State) : Host.Outcome State Fault Refusal :=
  s.writeReg p d .adcCmd x (3 + at' 8 0xAD)
/-- TLM_COUNTER_LOAD (17 R669): the write of TLM_OT_LO. -/
def execTlmCounterLoad (p : Port) (d : Dom) (w : Word) (s : State) : Host.Outcome State Fault Refusal :=
  s.writeReg p d .tlmOtLo 0 w.toNat

/-! ### Faults and hearth mode (18) -/

/-- FAULT_CLEAR (18 R686): a write of FLT_STATk. -/
def execFaultClear (p : Port) (d : Dom) (k : Fin 4) (w : Word) (s : State) : Host.Outcome State Fault Refusal :=
  s.writeReg p d .fltStat k w.toNat
/-- DOMAIN_RELEASE (18 R690): FLT_DCTL with its key. -/
def execDomainRelease (p : Port) (d : Dom) (rel : BitVec 4) (s : State) : Host.Outcome State Fault Refusal :=
  s.writeReg p d .fltDctl 0 (rel.toNat + at' 8 0x5A)
/-- ENTER (18 R692): HEARTH_CMD with CMD 1. -/
def execEnter (p : Port) (d : Dom) (preset : Fin 8) (s : State) : Host.Outcome State Fault Refusal :=
  s.writeReg p d .hearthCmd 0 (1 + at' 4 preset + at' 8 0x4E)
/-- EXIT (18 R702): HEARTH_CMD with CMD 2. -/
def execExit (p : Port) (d : Dom) (s : State) : Host.Outcome State Fault Refusal :=
  s.writeReg p d .hearthCmd 0 (2 + at' 8 0x4E)

/-- DIE_HOT (18 R683): the die reaches 140 °C or falls below 130 °C; FLT15 while it holds. -/
def execDieHot (hot : Bool) (s : State) : Host.Outcome State Fault Refusal :=
  let s1 := { s with flt := { s.flt with hot := hot } }
  .next (if !hot then s1.levelOff 15 else if s.running then s1.levelOn 15 else s1)
/-- THERMAL_SHUTDOWN (18 R684): the die reaches 170 °C: gates Hi-Z, rows and sinks off, FLT21 while it holds. -/
def execThermalShutdown (s : State) : Host.Outcome State Fault Refusal :=
  let s1 := { s with flt := { s.flt with thermal := true } }.outputs
  .next (if s.running then s1.levelOn 21 else s1)
/-- THERMAL_SHUTDOWN_END (18 R684): the die falls below 150 °C; the values that ramps have reached apply at the pins. -/
def execThermalShutdownEnd (s : State) : Host.Outcome State Fault Refusal :=
  .next ({ s with flt := { s.flt with thermal := false } }.levelOff 21).outputs

/-! ### Keys and life cycle (19) -/

/-- LOAD (19 R723): KEY_CMD with OP 1. -/
def execLoad (p : Port) (d : Dom) (slot : Fin 4) (unwrap : Bool) (wsel : Fin 4) (s : State) :
    Host.Outcome State Fault Refusal :=
  s.writeReg p d .keyCmd 0 (1 + at' 4 slot + at' 8 wsel + (if unwrap then at' 12 1 else 0) + at' 16 0x4B)
/-- REVOKE (19 R726): KEY_CMD with OP 2. -/
def execRevoke (p : Port) (d : Dom) (slot : Fin 4) (s : State) : Host.Outcome State Fault Refusal :=
  s.writeReg p d .keyCmd 0 (2 + at' 4 slot + at' 16 0x4B)
/-- LC_CHANGE_REQUEST (19 R729): LC_CMD with its key. -/
def execLcChangeRequest (p : Port) (d : Dom) (target : BitVec 3) (asel : Fin 4) (s : State) :
    Host.Outcome State Fault Refusal :=
  s.writeReg p d .lcCmd 0 (target.toNat + at' 4 asel + at' 8 0x6C)
/-- LC_RESPONSE (19 R729): the write of LC_RESP_LO, which commits the response. -/
def execLcResponse (p : Port) (d : Dom) (w : Word) (s : State) : Host.Outcome State Fault Refusal :=
  s.writeReg p d .lcRespLo 0 w.toNat

/-! ### Parity (06 R206-R209) -/

/-- A critical field (06 R210). -/
def critical (r : RegId) (f : Field) : Bool :=
  match r with
  | .pinStrap => f.lo == 8
  | .lcStat => f.lo == 0
  | .hearthSel | .lockCtl | .strLimit | .gridImax => true
  | .domQos => false
  | _ => r.rule.lock == .own && f.acc == .rw

/-- A register that carries parity: it holds a field of access RW that is not critical (06 R206). -/
def covered (r : RegId) (i : Nat) : Bool := (effFields r i).any (fun f => f.acc == .rw && !critical r f)

/-- A parity mismatch of a register is recorded and raises CFGPAR for its domain (06 R209, R235). -/
def State.parityReport (s : State) (a d : Nat) : State :=
  let s1 :=
    if s.b F.regPar_CFGPAR then s.pb F.regPar_OVF 0 true
    else ((s.p F.regPar_ADDR 0 a).p F.regPar_DOM 0 d).pb F.regPar_CFGPAR 0 true
  s1.raise (88 + d)

/-- PARITY_CHECK (06 R207-R209): the crumb sweep checks the register at `a`; a mismatch is reported once, until the register is
next written. A staged copy with a mismatch will not bake. -/
def execParityCheck (a : Addr) (bad badStaged : Bool) (s : State) : Host.Outcome State Fault Refusal :=
  match findReg a.toNat with
  | none => .next s
  | some (r, i) =>
    if !s.live || !covered r i then .next s
    else
      let fresh := (bad || badStaged) && !s.parityBad.any (fun x => x % 2 ^ 24 == a.toNat)
      let add (b : Bool) (k : Nat) (l : List Nat) : List Nat := if b && !l.contains k then l ++ [k] else l
      let s1 := { s with parityBad := add badStaged (a.toNat + 2 ^ 24) (add bad a.toNat s.parityBad) }
      .next (if fresh then s1.parityReport a.toNat (s.regDom r i) else s1)

/-! ### Triplication (06 R210-R212; 19 R736) -/

/-- The middle value of three. -/
def median3 (a b c : Nat) : Nat := max (min a b) (min (max a b) c)

/-- The value of a critical field without a majority, and its fault (06 R212). -/
def noMajority (r : RegId) (i : Nat) (f : Field) (a b c : Nat) : Nat × Nat :=
  match r with
  | .pinStrap | .hearthSel => (median3 a b c, 12)
  | .strLimit => (min a (min b c), 115 + i)
  | .gridImax => (min a (min b c), 121)
  | .domPorten => (if f.lo = 0 then 1 else 0, 11)
  | _ => (0, 11)

/-- REG_TMR records a vote (06 R211, R212, R233). -/
def State.tmrNote (s : State) (a : Nat) (f : Fld) : State := (s.p F.regTmr_ADDR 0 a).pb f 0 true

/-- A field of register `i` takes the value of a vote. -/
def State.putVote (s : State) (r : RegId) (i : Nat) (f : Field) (v : Nat) : State :=
  s.wr r i (BitVec.ofNat 32 (putN (s.rd r i).toNat f.lo f.w v))

/-- The vote on the life-cycle state: without a majority the tamper event of FLT87 (19 R736). -/
def State.lcVote (s : State) (addr a b c : Nat) : State :=
  let r := lcResolve a b c
  let s1 := s.p F.lcStat_STATE 0 r.1
  if r.2 then ((s1.setLcStored r.1).tmrNote addr F.regTmr_TMRFAIL).tamper 87
  else ((s1.tmrNote addr F.regTmr_TMRFIX).incSat F.regTmrCnt_COUNT).raise 10

/-- The vote on one critical field, whose copies hold `a`, `b` and `c`; three equal copies change nothing. -/
def State.voteField (s : State) (r : RegId) (i : Nat) (f : Field) (a b c : Nat) : State :=
  let addr := r.addr i
  if a == b && b == c then s
  else if r == .lcStat then s.lcVote addr a b c
  else if a == b || a == c || b == c then
    (((s.putVote r i f (vote3 a b c)).tmrNote addr F.regTmr_TMRFIX).incSat F.regTmrCnt_COUNT).raise 10
  else
    let x := noMajority r i f a b c
    ((s.putVote r i f x.1).tmrNote addr F.regTmr_TMRFAIL).raise x.2

/-- TMR_VOTE (06 R211, R212): the three copies of the register at `a` hold `c0`, `c1` and `c2`; each critical field is voted. -/
def execTmrVote (a : Addr) (c0 c1 c2 : Word) (s : State) : Host.Outcome State Fault Refusal :=
  match findReg a.toNat with
  | none => .next s
  | some (r, i) =>
    if !s.live then .next s
    else .next (each ((effFields r i).filter (critical r)) (fun f s =>
      s.voteField r i f (bitsN c0.toNat f.lo f.w) (bitsN c1.toNat f.lo f.w) (bitsN c2.toNat f.lo f.w)) s)

end Sys2Proof.Machine
end

