-- ==== Sys2Proof/Machine/Spi.lean ====
section
/-!
DEFINITION. The SPI host port (07): frames and their command words, data words and CRCs, outcome codes, the status word; the
meanings of SPI_STATUS, SPI_WRITE, SPI_WRITEF and SPI_READ. A command is one frame, whose effects are those of the interval
from the fall to the rise of CSN.
-/

namespace Sys2Proof.Machine

/-! ### Command word (07 R240-R242) -/

/-- Fields of a command word. -/
def cmdOp (w : Nat) : Nat := bitsN w 30 2
def cmdDom (w : Nat) : Nat := bitsN w 28 2
def cmdWords (w : Nat) : Nat := bitsN w 24 4 + 1
def cmdAddr (w : Nat) : Nat := bitsN w 2 22 * 4

/-- The byte address of word `i`. -/
def wordAddr (w i : Nat) : Nat := if cmdOp w = 3 then cmdAddr w else cmdAddr w + 4 * i

/-- A malformed command (07 R254). -/
def cmdBad (w : Nat) : Bool := w % 4 != 0 || (cmdOp w == 0 && w % 2 ^ 28 != 0)

/-! ### Frames -/

/-- The bytes of a frame. -/
def frBytes (f : SpiFrame) : List Nat := f.sdi.map (·.toNat)

/-- The command word and its CRC have been received; the command word; its CRC is right. -/
def frChecked (f : SpiFrame) : Bool := 5 ≤ f.sdi.length
def frCmd (f : SpiFrame) : Nat := beNat ((frBytes f).take 4)
def frCrc (f : SpiFrame) : Bool := crc8 ((frBytes f).take 4) == nth8 (frBytes f) 4

/-- OP of the frame, from its first byte. -/
def frOp (f : SpiFrame) : Nat := nth8 (frBytes f) 0 / 64

/-- An outcome: word index, 1 for a code of the port, code. -/
abbrev Fail := Nat × Nat × Nat

/-- What a frame has done so far: outcomes other than 0, words submitted, bytes on SDO after the status word, and whether bytes
followed a complete frame. -/
structure Run where
  fails : List Fail := []
  done : Nat := 0
  out : List Nat := []
  long : Bool := false
  s : State

/-- The first failure: the lowest word, an access before the port's own (07 R247, R249); index 16 stands for the frame as a whole. -/
def firstFail (l : List Fail) : Nat × Nat :=
  match l.foldl (fun b x =>
      match b with
      | none => some x
      | some y => if x.1 < y.1 || (x.1 == y.1 && x.2.1 < y.2.1) then some x else some y) (none : Option Fail) with
  | some x => (x.2.2, x.1)
  | none => (0, 0)

/-- The check of a command at the end of byte 4 (07 R254): its outcome code, 0 where it goes on, with a violation of steps 1 and 2 of
06 R185. A burst is exempt where every word is (DESIGN CHOICE, log 75: 06 R224 and 07 R256 speak of one target). -/
def State.spiCheck (s : State) (f : SpiFrame) : Nat × State :=
  let w := (frCmd f)
  let d := cmdDom w
  let wr := cmdOp w != 2
  let locs := (upto (cmdWords w)).map (fun i => decode (wordAddr w i) wr)
  if !(frCrc f) then (8, s)
  else if cmdBad w then (11, s)
  else if cmdOp w = 0 then (0, s)
  else
    let g := s.gateCause .spi d (!wr && locs.all isIdent)
    if g ≠ 0 then (5, s.violate d 0 (cmdAddr w) g)
    else if s.noSession .spi d (locs.all isExempt) then (13, s)
    else (0, s)

/-! ### Writes (07 R249-R251) -/

/-- The words of a write frame from word `i` on, `k` of them left. -/
def spiWrites (f : SpiFrame) (r : Run) (i : Nat) : Nat → Run
  | 0 => { r with long := 5 + 5 * cmdWords (frCmd f) < f.sdi.length || f.odd != 0 }
  | k + 1 =>
    let b := sub8 (frBytes f) (5 + 5 * i) 5
    if b.length < 5 then { r with fails := r.fails ++ [(i, 1, if f.cut then 14 else 10)] }
    else if r.fails.any (fun x => x.2.2 == 9) then spiWrites f r (i + 1) k
    else if crc8 (b.take 4) ≠ nth8 b 4 then spiWrites f { r with fails := r.fails ++ [(i, 1, 9)] } (i + 1) k
    else
      let o := r.s.portWrite .spi (cmdDom (frCmd f)) (wordAddr (frCmd f) i) (beNat (b.take 4))
      spiWrites f { r with
        fails := if o.1 = 0 then r.fails else r.fails ++ [(i, 0, o.1)], done := r.done + 1, s := o.2 } (i + 1) k

/-! ### Reads (07 R244, R252, R253) -/

/-- The words of a read frame from word `i` on, whose first position is byte `pos`; a word is issued when the start byte before it
is loaded, the first at the check of the command. -/
def spiReads (f : SpiFrame) (waits : List (Fin 49)) (r : Run) (i pos : Nat) : Nat → Run
  | 0 => { r with long := pos < f.sdi.length || f.odd != 0 }
  | k + 1 =>
    let w := (waits.map (·.val)).getD i 0
    let n := if i = 0 && w = 0 then 1 else w
    let o := r.s.portRead .spi (cmdDom (frCmd f)) (wordAddr (frCmd f) i)
    let word := beBytes 4 o.2.1
    let r1 : Run := { r with
      fails := if o.1 = 0 then r.fails else r.fails ++ [(i, 0, o.1)], done := r.done + 1, s := o.2.2.2
      out := r.out ++ List.replicate n 0xA5 ++ [0x3C] ++ word ++ [crc8 word] }
    let stop := pos + n + 6
    if stop ≤ f.sdi.length then spiReads f waits r1 (i + 1) stop k
    else
      let next := k != 0 && (pos + n < f.sdi.length || (pos + n == f.sdi.length && f.odd != 0))
      let r2 := if next then
          let q := r1.s.portRead .spi (cmdDom (frCmd f)) (wordAddr (frCmd f) (i + 1))
          { r1 with fails := if q.1 = 0 then r1.fails else r1.fails ++ [(i + 1, 0, q.1)], done := r1.done + 1, s := q.2.2.2 }
        else r1
      { r2 with fails := r2.fails ++ [(i, 1, if f.cut then 14 else if f.odd = 0 then 12 else 10)] }

/-! ### The end of a frame (07 R247, R248, R255) -/

/-- The low half of a status word: everything but the outcome. -/
def State.statusLow (s : State) (dom op seq : Nat) (int pend : Bool) : Nat :=
  let b (x : Bool) (k : Nat) : Nat := if x then 2 ^ k else 0
  seq % 256 + b pend 8 + b (s.lcState == 2) 9 + b (s.b F.hwdtStat_EXPIRED) 10 + b (s.b F.spiSessstat_SESS) 11 + b s.hearthOn 12
    + b int 13 + op * 2 ^ 14 + dom * 2 ^ 16

/-- The status word of a transaction whose outcome is final. -/
def State.statusWord (s : State) (dom op seq done : Nat) (fail : Nat × Nat) : Nat :=
  s.statusLow dom op seq (bitN (s.intTopWord dom).toNat 31) false + done * 2 ^ 18
    + (if fail.1 = 0 then 0 else fail.2 % 16 * 2 ^ 23 + fail.1 * 2 ^ 27 + 2 ^ 31)

/-- A transaction is counted: its sequence number, its status word. -/
def State.spiCount (s : State) (dom op done : Nat) (fail : Nat × Nat) : State :=
  let seq := (s.spi.seq + 1) % 256
  { s with spi := { s.spi with
    seq := seq, status := BitVec.ofNat 32 (s.statusWord dom op seq done fail), counted := true } }

/-- A transaction is over: its flags, then its count, which waits for the next frame where `later` (07 R264). -/
def State.spiEnd (s : State) (dom op done : Nat) (fails : List Fail) (later : Bool) : State :=
  let s1 := each (fails.filter (fun x => x.2.1 == 1)) (fun x s => s.spiFlag x.2.2) s
  if later then { s1 with spi := { s1.spi with owed := some (dom, op, done, firstFail fails) } }
  else s1.spiCount dom op done (firstFail fails)

/-- A frame that a fall of VDDIO discarded is counted first (07 R264), a transfer that a CSN wake discarded reported (07 R255). -/
def State.spiWoken (s : State) : State :=
  let s1 := match s.spi.owed with
    | some (dom, op, done, fail) => { s with spi := { s.spi with owed := none } }.spiCount dom op done fail
    | none => s
  if s1.spi.wakeDiscard then { s1 with spi := { s1.spi with wakeDiscard := false } }.spiEnd 0 0 0 [(0, 1, 14)] false else s1

/-- The status word sent in a frame: with PEND where the outcome before it is not final yet (07 R248). -/
def State.spiSent (s : State) (quick : Bool) : Nat :=
  let t := s.spi.status.toNat
  if quick && s.spi.counted then s.statusLow (bitsN t 16 2) (bitsN t 14 2) s.spi.seq false true else t

/-- Bytes on SDO of a frame: status word, its CRC, then `rest`, as many as are clocked. -/
def sdoOf (n status : Nat) (rest : List Nat) (fill : Nat) : List Byte :=
  let st := beBytes 4 status
  let l := st ++ [crc8 st] ++ rest
  ((l ++ List.replicate (n - l.length) fill).take n).map (BitVec.ofNat 8)

/-- Bytes follow a complete frame whose command has failed (07 R245); a READ of ABORT bytes is never complete. -/
def failedLong (f : SpiFrame) : Bool :=
  let n := if frOp f = 0 then 5 else 5 + 5 * cmdWords (frCmd f)
  frOp f != 2 && (n < f.sdi.length || (n == f.sdi.length && f.odd != 0))

/-- A frame of operation `op`; `go` submits its words. CSN is high after it. -/
def State.spiFrame (s : State) (op : Nat) (f : SpiFrame) (go : Run → Run) : Host.Outcome State Fault Refusal :=
  if !s.running || !s.pins.vddio || f.sdi.isEmpty || (frOp f) ≠ op then .next s
  else
    let s0 := s.spiWoken
    let sent := s0.spiSent f.quick
    let s1 := if f.quick && s0.spi.counted then s0.pb F.spiStat_SHORTGAP 0 true else s0
    let cut := f.cut || !s1.clk.fsys
    let dom := if (frChecked f) then cmdDom (frCmd f) else 0
    let fin (r : Run) (fails : List Fail) (fill : Nat) : Host.Outcome State Fault Refusal :=
      let bad := fails.any (fun x => x.2.1 == 1 && (x.2.2 == 9 || x.2.2 == 10 || x.2.2 == 14))
      let t := ((if bad then r.s.dropK .spi else r.s).endBurst .spi)
      let u := if r.long then t.pb F.spiStat_LONG 0 true else t
      let e := u.spiEnd dom (if (frChecked f) then op else 0) r.done fails (cut && f.unpowered)
      .next { e with spi := { e.spi with sdo := sdoOf f.sdi.length sent r.out fill }, pins := { e.pins with csnLow := false } }
    if !s1.clk.fsys then fin { s := s1 } [(0, 1, 14)] 0
    else if !(frChecked f) then fin { s := s1 } [(0, 1, if cut then 14 else 10)] 0
    else
      let c := s1.spiCheck f
      if c.1 ≠ 0 then fin { s := c.2, long := failedLong f } [(0, if c.1 = 5 then 0 else 1, c.1)] (if op = 2 then 0xE7 else 0)
      else
        let r := go { s := c.2 }
        fin r (if cut && !r.fails.any (fun x => x.2.2 == 14) then r.fails ++ [(16, 1, 14)] else r.fails) 0

/-! ### The commands -/

/-- SPI_STATUS (07 R241): a transaction with no access. -/
def execSpiStatus (f : SpiFrame) (s : State) : Host.Outcome State Fault Refusal :=
  s.spiFrame 0 f (fun r => { r with long := 5 < f.sdi.length || f.odd != 0 })

/-- SPI_WRITE (07 R241, R250): word i goes to ADDR + 4 i. -/
def execSpiWrite (f : SpiFrame) (s : State) : Host.Outcome State Fault Refusal :=
  s.spiFrame 1 f (fun r => spiWrites f r 0 (cmdWords (frCmd f)))

/-- SPI_WRITEF (07 R241): every word goes to ADDR. -/
def execSpiWritef (f : SpiFrame) (s : State) : Host.Outcome State Fault Refusal :=
  s.spiFrame 3 f (fun r => spiWrites f r 0 (cmdWords (frCmd f)))

/-- SPI_READ (07 R244, R252): word i comes from ADDR + 4 i. -/
def execSpiRead (f : SpiFrame) (waits : List (Fin 49)) (s : State) : Host.Outcome State Fault Refusal :=
  s.spiFrame 2 f (fun r => spiReads f waits r 0 5 (cmdWords (frCmd f)))

end Sys2Proof.Machine
end

