-- ==== Sys2Proof/Machine/Tick.lean ====
section
/-!
DEFINITION. One tick of fSYS with no command waiting (log 1): device time and its discipline (08 R303), the grants of the engines
(11 R428), the frames of the receive buffer (08 R279).
-/

namespace Sys2Proof.Machine

/-- The ticks by which device time leads or lags one tick of fSYS: the rate in units of 2^-32, the fraction it gathers, and one tick
of a slew (08 R303). -/
def Net.servo (n : Net) (rate : Int) : Int × Net :=
  let f := n.frac + rate
  let due := n.slewGap ≤ n.slewAt + 1
  let one : Int := if n.slew = 0 || !due then 0 else if 0 < n.slew then 1 else -1
  (f / 2 ^ 32 + one,
    { n with frac := f % 2 ^ 32, slew := n.slew - one, slewAt := if one = 0 then n.slewAt + 1 else 0 })

/-- A tick of fSYS: device time is disciplined in the follower role and runs free in the others (08 R302); it does not count while
fSYS is stopped (04 R116). -/
def State.fsysTick (s : State) : State :=
  if !s.clk.fsys then s
  else
    let s0 := s.engsReady.rxServe
    let r := if s0.g F.netTimecfg_ROLE = 0 then s0.net.servo (sext 24 (s0.g F.netTrate_RATE)) else (0, s0.net)
    { s0 with tick := s0.tick + 1, time := ((s0.time : Int) + 1 + r.1).toNat, net := r.2 }

end Sys2Proof.Machine
end

