-- ==== Sys2Proof/Machine/Dispatch.lean ====
section
/-!
DEFINITION. The dispatch: each command to its meaning.
-/

namespace Sys2Proof.Machine

/-- The effect of a command on everything but the queue. -/
def exec (i : Instr) (s : State) : Host.Outcome State Fault Refusal :=
  match i with
  | .powerOnReset => Sys2Proof.Machine.execPowerOnReset s
  | .brownOut => Sys2Proof.Machine.execBrownOut s
  | .vbatBelowVret => Sys2Proof.Machine.execVbatBelowVret s
  | .resetnAssert => Sys2Proof.Machine.execResetnAssert s
  | .resetnRelease => Sys2Proof.Machine.execResetnRelease s
  | .deviceWatchdogReset => Sys2Proof.Machine.execDeviceWatchdogReset s
  | .startupOverdue => Sys2Proof.Machine.execStartupOverdue s
  | .dwdtHeartbeat => Sys2Proof.Machine.execDwdtHeartbeat s
  | .hselMeasurementDone raw => Sys2Proof.Machine.execHselMeasurementDone raw s
  | .fuseLoadDone => Sys2Proof.Machine.execFuseLoadDone s
  | .pllLock => Sys2Proof.Machine.execPllLock s
  | .sramInitDone => Sys2Proof.Machine.execSramInitDone s
  | .imageVerificationDone flips => Sys2Proof.Machine.execImageVerificationDone flips s
  | .imageLoadDone => Sys2Proof.Machine.execImageLoadDone s
  | .release test usec => Sys2Proof.Machine.execRelease test s usec
  | .vcc5InRegulation => Sys2Proof.Machine.execVcc5InRegulation s
  | .vbatLowChange low => Sys2Proof.Machine.execVbatLowChange low s
  | .vbatHighChange high => Sys2Proof.Machine.execVbatHighChange high s
  | .vcc5UvChange ok => Sys2Proof.Machine.execVcc5UvChange ok s
  | .avddChange ok => Sys2Proof.Machine.execAvddChange ok s
  | .vddioLoss => Sys2Proof.Machine.execVddioLoss s
  | .vddioGood => Sys2Proof.Machine.execVddioGood s
  | .henRequest low => Sys2Proof.Machine.execHenRequest low s
  | .gpioEdge n rising => Sys2Proof.Machine.execGpioEdge n rising s
  | .hostWatchdogExpiry => Sys2Proof.Machine.execHostWatchdogExpiry s
  | .hwdtSvcWrite p d w => Sys2Proof.Machine.execHwdtSvcWrite p d w s
  | .hwdtCfgWrite p d w => Sys2Proof.Machine.execHwdtCfgWrite p d w s
  | .deepStandby p d => Sys2Proof.Machine.execDeepStandby p d s
  | .retentionStandby p d => Sys2Proof.Machine.execRetentionStandby p d s
  | .networkWakeStandby p d => Sys2Proof.Machine.execNetworkWakeStandby p d s
  | .standbyEntry => Sys2Proof.Machine.execStandbyEntry s
  | .standbyEntryTimeout => Sys2Proof.Machine.execStandbyEntryTimeout s
  | .wakePin high => Sys2Proof.Machine.execWakePin s high
  | .wakeTimerExpiry => Sys2Proof.Machine.execWakeTimerExpiry s
  | .csnWake => Sys2Proof.Machine.execCsnWake s
  | .energyDetect on => Sys2Proof.Machine.execEnergyDetect s on
  | .wakeComplete periods => Sys2Proof.Machine.execWakeComplete periods s
  | .xtalQualified => Sys2Proof.Machine.execXtalQualified s
  | .xtalQualifyTimeout => Sys2Proof.Machine.execXtalQualifyTimeout s
  | .referenceSlewDone => Sys2Proof.Machine.execReferenceSlewDone s
  | .crystalMonitorFail => Sys2Proof.Machine.execCrystalMonitorFail s
  | .pllUnlock => Sys2Proof.Machine.execPllUnlock s
  | .fpwmStop => Sys2Proof.Machine.execFpwmStop s
  | .pllRelock => Sys2Proof.Machine.execPllRelock s
  | .frequencyWindowEnd count => Sys2Proof.Machine.execFrequencyWindowEnd count s
  | .clockGlitch => Sys2Proof.Machine.execClockGlitch s
  | .lfrcFail => Sys2Proof.Machine.execLfrcFail s
  | .postedWriteEffect p => Sys2Proof.Machine.execPostedWriteEffect p s
  | .registerWrite p d a w => Sys2Proof.Machine.execRegisterWrite p d a w s
  | .setAliasWrite p d a w => Sys2Proof.Machine.execSetAliasWrite p d a w s
  | .clearAliasWrite p d a w => Sys2Proof.Machine.execClearAliasWrite p d a w s
  | .toggleAliasWrite p d a w => Sys2Proof.Machine.execToggleAliasWrite p d a w s
  | .bitAliasWrite p d a bit v => Sys2Proof.Machine.execBitAliasWrite p d a bit v s
  | .rcRead p d a => Sys2Proof.Machine.execRcRead p d a s
  | .wideLoWrite p d a w => Sys2Proof.Machine.execWideLoWrite p d a w s
  | .bakeHoldWrite p d x hold => Sys2Proof.Machine.execBakeHoldWrite p d x hold s
  | .lockSet p d bits => Sys2Proof.Machine.execLockSet p d bits s
  | .snapReq p d sel => Sys2Proof.Machine.execSnapReq p d sel s
  | .parityCheck a bad badStaged => Sys2Proof.Machine.execParityCheck a bad badStaged s
  | .tmrVote a c0 c1 c2 => Sys2Proof.Machine.execTmrVote a c0 c1 c2 s
  | .domainReset p d rst => Sys2Proof.Machine.execDomainReset p d rst s
  | .domainResetComplete x => Sys2Proof.Machine.execDomainResetComplete x s
  | .inflightSlotGrant agent => Sys2Proof.Machine.execInflightSlotGrant agent s
  | .sliceBoundary => Sys2Proof.Machine.execSliceBoundary s
  | .latchPoint => Sys2Proof.Machine.execLatchPoint s
  | .spiStatus f => Sys2Proof.Machine.execSpiStatus f s
  | .spiWrite f => Sys2Proof.Machine.execSpiWrite f s
  | .spiWritef f => Sys2Proof.Machine.execSpiWritef f s
  | .spiRead f waits => Sys2Proof.Machine.execSpiRead f waits s
  | .sessionOpen p d ksel => Sys2Proof.Machine.execSessionOpen p d ksel s
  | .sessionChallengeReady => Sys2Proof.Machine.execSessionChallengeReady s
  | .sessionResponse p d w => Sys2Proof.Machine.execSessionResponse p d w s
  | .sessionClose p d => Sys2Proof.Machine.execSessionClose p d s
  | .sessionLockoutEnd => Sys2Proof.Machine.execSessionLockoutEnd s
  | .spiCounterClear p d => Sys2Proof.Machine.execSpiCounterClear p d s
  | .phyReady => Sys2Proof.Machine.execPhyReady s
  | .beaconReceive => Sys2Proof.Machine.execBeaconReceive s
  | .beaconTransmit => Sys2Proof.Machine.execBeaconTransmit s
  | .plcaBeaconLoss => Sys2Proof.Machine.execPlcaBeaconLoss s
  | .transmitOpportunity collided => Sys2Proof.Machine.execTransmitOpportunity collided s
  | .egressAckTimeout x => Sys2Proof.Machine.execEgressAckTimeout x s
  | .frameReceive frame held => Sys2Proof.Machine.execFrameReceive frame held s
  | .regrd k => Sys2Proof.Machine.execRegrd k s
  | .regwr k => Sys2Proof.Machine.execRegwr k s
  | .tray => Sys2Proof.Machine.execTray s
  | .time => Sys2Proof.Machine.execTime s
  | .ack => Sys2Proof.Machine.execAck s
  | .eventSend x => Sys2Proof.Machine.execEventSend x s
  | .eventRetry x => Sys2Proof.Machine.execEventRetry x s
  | .eventRenew x => Sys2Proof.Machine.execEventRenew x s
  | .timeTransmit collided => Sys2Proof.Machine.execTimeTransmit s collided
  | .timeHoldover => Sys2Proof.Machine.execTimeHoldover s
  | .netTfloorWrite p d w => Sys2Proof.Machine.execNetTfloorWrite p d w s
  | .netCounterClear p d => Sys2Proof.Machine.execNetCounterClear p d s
  | .rackPush p d n w => Sys2Proof.Machine.execRackPush p d n w s
  | .rackPop p d n word flip => Sys2Proof.Machine.execRackPop p d n s word flip
  | .rackEnable p d n w => Sys2Proof.Machine.execRackEnable p d n w s
  | .rackPartWrite p d n w => Sys2Proof.Machine.execRackPartWrite p d n w s
  | .semTake p d n => Sys2Proof.Machine.execSemTake p d n s
  | .semGive p d n => Sys2Proof.Machine.execSemGive p d n s
  | .semConfigWrite p d n w => Sys2Proof.Machine.execSemConfigWrite p d n w s
  | .copyExecute k => Sys2Proof.Machine.execCopyExecute k s
  | .waitTimeout agent => Sys2Proof.Machine.execWaitTimeout agent s
  | .deadlockScan => Sys2Proof.Machine.execDeadlockScan s
  | .fetchAheadFillDone c => Sys2Proof.Machine.execFetchAheadFillDone c s
  | .eccWriteBack a => Sys2Proof.Machine.execEccWriteBack a s
  | .crumbSweepRead b flip => Sys2Proof.Machine.execCrumbSweepRead b flip s
  | .rowSpareComplete b => Sys2Proof.Machine.execRowSpareComplete b s
  | .larderWipeDone => Sys2Proof.Machine.execLarderWipeDone s
  | .program p d bank count => Sys2Proof.Machine.execProgram p d bank count s
  | .programDone => Sys2Proof.Machine.execProgramDone s
  | .verify p d bank => Sys2Proof.Machine.execVerify p d bank s
  | .verifyDone flips => Sys2Proof.Machine.execVerifyDone flips s
  | .swap p d bank => Sys2Proof.Machine.execSwap p d bank s
  | .invalidate p d bank => Sys2Proof.Machine.execInvalidate p d bank s
  | .cancel p d => Sys2Proof.Machine.execCancel p d s
  | .icacheFill e parity => Sys2Proof.Machine.execIcacheFill e parity s
  | .icacheInvalidate p d e excstop => Sys2Proof.Machine.execIcacheInvalidate p d e excstop s
  | .quantumEnd e => Sys2Proof.Machine.execQuantumEnd e s
  | .dispatchIssue => Sys2Proof.Machine.execDispatchIssue s
  | .recipeStart c => Sys2Proof.Machine.execRecipeStart c s
  | .softwareTrigger p d w => Sys2Proof.Machine.execSoftwareTrigger p d w s
  | .timeMatch x => Sys2Proof.Machine.execTimeMatch x s
  | .timeMatchArm p d x w => Sys2Proof.Machine.execTimeMatchArm p d x w s
  | .kill p d e x => Sys2Proof.Machine.execKill p d e x s
  | .endslice p d e x => Sys2Proof.Machine.execEndslice p d e x s
  | .resume p d e x => Sys2Proof.Machine.execResume p d e x s
  | .flush p d e x => Sys2Proof.Machine.execFlush p d e x s
  | .add e rd ra rb => Sys2Proof.Machine.execAdd e rd ra rb s
  | .sub e rd ra rb => Sys2Proof.Machine.execSub e rd ra rb s
  | .and e rd ra rb => Sys2Proof.Machine.execAnd e rd ra rb s
  | .or e rd ra rb => Sys2Proof.Machine.execOr e rd ra rb s
  | .xor e rd ra rb => Sys2Proof.Machine.execXor e rd ra rb s
  | .shl e rd ra rb => Sys2Proof.Machine.execShl e rd ra rb s
  | .shr e rd ra rb => Sys2Proof.Machine.execShr e rd ra rb s
  | .sar e rd ra rb => Sys2Proof.Machine.execSar e rd ra rb s
  | .mul e rd ra rb => Sys2Proof.Machine.execMul e rd ra rb s
  | .mulq e rd ra rb => Sys2Proof.Machine.execMulq e rd ra rb s
  | .min e rd ra rb => Sys2Proof.Machine.execMin e rd ra rb s
  | .max e rd ra rb => Sys2Proof.Machine.execMax e rd ra rb s
  | .adds e rd ra rb => Sys2Proof.Machine.execAdds e rd ra rb s
  | .subs e rd ra rb => Sys2Proof.Machine.execSubs e rd ra rb s
  | .cmp e ra rb => Sys2Proof.Machine.execCmp e ra rb s
  | .addi e rd ra imm => Sys2Proof.Machine.execAddi e rd ra imm s
  | .andi e rd ra imm => Sys2Proof.Machine.execAndi e rd ra imm s
  | .ori e rd ra imm => Sys2Proof.Machine.execOri e rd ra imm s
  | .xori e rd ra imm => Sys2Proof.Machine.execXori e rd ra imm s
  | .shli e rd ra imm => Sys2Proof.Machine.execShli e rd ra imm s
  | .shri e rd ra imm => Sys2Proof.Machine.execShri e rd ra imm s
  | .sari e rd ra imm => Sys2Proof.Machine.execSari e rd ra imm s
  | .movi e rd imm => Sys2Proof.Machine.execMovi e rd imm s
  | .movhi e rd imm => Sys2Proof.Machine.execMovhi e rd imm s
  | .cmpi e ra imm => Sys2Proof.Machine.execCmpi e ra imm s
  | .ldw e rd ra imm => Sys2Proof.Machine.execLdw e rd ra imm s
  | .ldh e rd ra imm => Sys2Proof.Machine.execLdh e rd ra imm s
  | .ldb e rd ra imm => Sys2Proof.Machine.execLdb e rd ra imm s
  | .stw e rd ra imm => Sys2Proof.Machine.execStw e rd ra imm s
  | .sth e rd ra imm => Sys2Proof.Machine.execSth e rd ra imm s
  | .stb e rd ra imm => Sys2Proof.Machine.execStb e rd ra imm s
  | .quotaStallTimeout c => Sys2Proof.Machine.execQuotaStallTimeout c s
  | .b e cond ofs => Sys2Proof.Machine.execB e cond ofs s
  | .call e ofs => Sys2Proof.Machine.execCall e ofs s
  | .jr e ra => Sys2Proof.Machine.execJr e ra s
  | .callr e ra => Sys2Proof.Machine.execCallr e ra s
  | .loop e rd imm => Sys2Proof.Machine.execLoop e rd imm s
  | .pxr e rd ra => Sys2Proof.Machine.execPxr e rd ra s
  | .pxw e rd ra => Sys2Proof.Machine.execPxw e rd ra s
  | .fade e rd ra rb => Sys2Proof.Machine.execFade e rd ra rb s
  | .blend e rd ra rb => Sys2Proof.Machine.execBlend e rd ra rb s
  | .lut e rd ra => Sys2Proof.Machine.execLut e rd ra s
  | .push e rd idx w tmo => Sys2Proof.Machine.execPush e rd idx w tmo s
  | .pop e rd idx w tmo => Sys2Proof.Machine.execPop e rd idx w tmo s
  | .take e idx w tmo => Sys2Proof.Machine.execTake e idx w tmo s
  | .give e idx => Sys2Proof.Machine.execGive e idx s
  | .waitev e rd kind sel tmo => Sys2Proof.Machine.execWaitev e rd kind sel tmo s
  | .waitevTimeout c => Sys2Proof.Machine.execWaitevTimeout c s
  | .sliceend e ra rsel t => Sys2Proof.Machine.execSliceend e ra rsel t s
  | .endRecipe e => Sys2Proof.Machine.execEndRecipe e s
  | .trap e => Sys2Proof.Machine.execTrap e s
  | .nop e => Sys2Proof.Machine.execNop e s
  | .rds e rd sel => Sys2Proof.Machine.execRds e rd sel s
  | .fence e => Sys2Proof.Machine.execFence e s
  | .pwmPeriodStart n len => Sys2Proof.Machine.execPwmPeriodStart n len s
  | .pwmMidPoint n => Sys2Proof.Machine.execPwmMidPoint n s
  | .pwmCompare n rise => Sys2Proof.Machine.execPwmCompare n rise s
  | .deadTimeEnd n main => Sys2Proof.Machine.execDeadTimeEnd n main s
  | .cmpChange n asserted c => Sys2Proof.Machine.execCmpChange n asserted c s
  | .blankingClose n c => Sys2Proof.Machine.execBlankingClose n c s
  | .tripnTrip low pos => Sys2Proof.Machine.execTripnTrip low pos s
  | .currentLimitTrip n asserted pos => Sys2Proof.Machine.execCurrentLimitTrip n asserted pos s
  | .ovpTrip n asserted pos => Sys2Proof.Machine.execOvpTrip n asserted pos s
  | .trgEvent n => Sys2Proof.Machine.execTrgEvent n s
  | .syncPulse n len => Sys2Proof.Machine.execSyncPulse n len s
  | .proofCycleDone n line mono span => Sys2Proof.Machine.execProofCycleDone n line mono span s
  | .coarseEntry n => Sys2Proof.Machine.execCoarseEntry n s
  | .supplyMonitorSample vbatMv => Sys2Proof.Machine.execSupplyMonitorSample vbatMv s
  | .loopUpdate n => Sys2Proof.Machine.execLoopUpdate n s
  | .dimPeriodEdge n => Sys2Proof.Machine.execDimPeriodEdge n s
  | .pixelCounterWrap n => Sys2Proof.Machine.execPixelCounterWrap n s
  | .bypassEdge n => Sys2Proof.Machine.execBypassEdge n s
  | .pixelOpenDetect n k => Sys2Proof.Machine.execPixelOpenDetect n k s
  | .pixelShortSample n k low => Sys2Proof.Machine.execPixelShortSample n k low s
  | .pixelEvent n => Sys2Proof.Machine.execPixelEvent n s
  | .scanFrameStart => Sys2Proof.Machine.execScanFrameStart s
  | .scanSlotStart => Sys2Proof.Machine.execScanSlotStart s
  | .scanPhaseEnd => Sys2Proof.Machine.execScanPhaseEnd s
  | .columnSinkOff c => Sys2Proof.Machine.execColumnSinkOff c s
  | .headroomSample c mv => Sys2Proof.Machine.execHeadroomSample c mv s
  | .rowOvercurrent => Sys2Proof.Machine.execRowOvercurrent s
  | .fsyncEdge rising => Sys2Proof.Machine.execFsyncEdge s rising
  | .fsyncTimeout => Sys2Proof.Machine.execFsyncTimeout s
  | .fsyncOutputPulseEnd => Sys2Proof.Machine.execFsyncOutputPulseEnd s
  | .triginEdge rising => Sys2Proof.Machine.execTriginEdge rising s
  | .injectedRequest x j => Sys2Proof.Machine.execInjectedRequest x j s
  | .adcSoftwareTrigger p d x w => Sys2Proof.Machine.execAdcSoftwareTrigger p d x w s
  | .conversionStart x => Sys2Proof.Machine.execConversionStart x s
  | .conversionEnd x raw => Sys2Proof.Machine.execConversionEnd x raw s
  | .regularDelayEnd x => Sys2Proof.Machine.execRegularDelayEnd x s
  | .adcPowerDown x => Sys2Proof.Machine.execAdcPowerDown x s
  | .adcWakeUp x => Sys2Proof.Machine.execAdcWakeUp x s
  | .cal p d x park => Sys2Proof.Machine.execCal p d x park s
  | .adcCalibrationDone x ofs gain => Sys2Proof.Machine.execAdcCalibrationDone x ofs gain s
  | .restore p d x => Sys2Proof.Machine.execRestore p d x s
  | .fail p d x => Sys2Proof.Machine.execFail p d x s
  | .sharedConversionDue => Sys2Proof.Machine.execSharedConversionDue s
  | .sharedConversionSkip => Sys2Proof.Machine.execSharedConversionSkip s
  | .energyAccumulate => Sys2Proof.Machine.execEnergyAccumulate s
  | .tlmCounterLoad p d w => Sys2Proof.Machine.execTlmCounterLoad p d w s
  | .dieHot hot => Sys2Proof.Machine.execDieHot hot s
  | .thermalShutdown => Sys2Proof.Machine.execThermalShutdown s
  | .thermalShutdownEnd => Sys2Proof.Machine.execThermalShutdownEnd s
  | .faultClear p d k w => Sys2Proof.Machine.execFaultClear p d k w s
  | .domainRelease p d rel => Sys2Proof.Machine.execDomainRelease p d rel s
  | .enter p d preset => Sys2Proof.Machine.execEnter p d preset s
  | .exit p d => Sys2Proof.Machine.execExit p d s
  | .load p d slot unwrap wsel => Sys2Proof.Machine.execLoad p d slot unwrap wsel s
  | .revoke p d slot => Sys2Proof.Machine.execRevoke p d slot s
  | .keyCommandDone => Sys2Proof.Machine.execKeyCommandDone s
  | .lcChangeRequest p d target asel => Sys2Proof.Machine.execLcChangeRequest p d target asel s
  | .lcChallengeReady => Sys2Proof.Machine.execLcChallengeReady s
  | .lcResponse p d w => Sys2Proof.Machine.execLcResponse p d w s
  | .lcChangeDone => Sys2Proof.Machine.execLcChangeDone s
  | .lcLockoutEnd => Sys2Proof.Machine.execLcLockoutEnd s
  | .vddGlitch => Sys2Proof.Machine.execVddGlitch s
  | .attach a w crc => Sys2Proof.Machine.execAttach a w crc s
  | .detach a w crc => Sys2Proof.Machine.execDetach a w crc s
  | .u2dRead a w crc => Sys2Proof.Machine.execU2dRead a w crc s
  | .u2dWrite a w crc => Sys2Proof.Machine.execU2dWrite a w crc s
  | .u2dStatus a w crc => Sys2Proof.Machine.execU2dStatus a w crc s
  | .lineReset => Sys2Proof.Machine.execLineReset s
  | .engineHalt mask => Sys2Proof.Machine.execEngineHalt mask s
  | .engineStep c => Sys2Proof.Machine.execEngineStep c s
  | .breakpointHit e => Sys2Proof.Machine.execBreakpointHit e s
  | .tracePop => Sys2Proof.Machine.execTracePop s
  | .lfrcStable => Sys2Proof.Machine.execLfrcStable s
  | .vdd11AvddInRegulation => Sys2Proof.Machine.execVdd11AvddInRegulation s
  | .hfrcStable => Sys2Proof.Machine.execHfrcStable s
  | .vrefSettled => Sys2Proof.Machine.execVrefSettled s
  | .bootstrapLockout n low => Sys2Proof.Machine.execBootstrapLockout n low s
  | .gpioSlicePulseEnd => Sys2Proof.Machine.execGpioSlicePulseEnd s
  | .waitevTimeReached c => Sys2Proof.Machine.execWaitevTimeReached c s
  | .shadowLoadDone => Sys2Proof.Machine.execShadowLoadDone s
  | .illegalInstruction e => Sys2Proof.Machine.execIllegalInstruction e s
  | .proofIntervalElapsed n => Sys2Proof.Machine.execProofIntervalElapsed n s

end Sys2Proof.Machine
end

