-- ==== Sys2Proof/WellFormed.lean ====
section
/-!
DEFINITION. Well-formed commands: the operand values that the spec gives a command and the types of the operands do not already
say.
-/

namespace Sys2Proof

/-- A port from which commands reach registers: SPI, the network port, an engine or U2D (04, Write posting). -/
def Port.isPort : Port → Bool
  | .dma => false
  | .stream => false
  | _ => true

/-- The port operand of a command, if it has one. -/
def Instr.port? : Instr → Option Port
  | .hwdtSvcWrite p _ _ | .hwdtCfgWrite p _ _ | .deepStandby p _ | .retentionStandby p _ | .networkWakeStandby p _
  | .postedWriteEffect p | .registerWrite p _ _ _ | .setAliasWrite p _ _ _ | .clearAliasWrite p _ _ _
  | .toggleAliasWrite p _ _ _ | .bitAliasWrite p _ _ _ _ | .rcRead p _ _ | .wideLoWrite p _ _ _ | .bakeHoldWrite p _ _ _
  | .lockSet p _ _ | .snapReq p _ _ | .domainReset p _ _ | .sessionOpen p _ _ | .sessionResponse p _ _ | .sessionClose p _
  | .spiCounterClear p _ | .netTfloorWrite p _ _ | .netCounterClear p _ | .rackPush p _ _ _ | .rackPop p _ _ _ _
  | .rackEnable p _ _ _ | .rackPartWrite p _ _ _ | .semTake p _ _ | .semGive p _ _ | .semConfigWrite p _ _ _
  | .program p _ _ _ | .verify p _ _ | .swap p _ _ | .invalidate p _ _ | .cancel p _ | .icacheInvalidate p _ _ _
  | .softwareTrigger p _ _ | .timeMatchArm p _ _ _ | .kill p _ _ _ | .endslice p _ _ _ | .resume p _ _ _ | .flush p _ _ _
  | .adcSoftwareTrigger p _ _ _ | .cal p _ _ _ | .restore p _ _ | .fail p _ _ | .tlmCounterLoad p _ _ | .faultClear p _ _ _
  | .domainRelease p _ _ | .enter p _ _ | .exit p _ | .load p _ _ _ _ | .revoke p _ _ | .lcChangeRequest p _ _ _
  | .lcResponse p _ _ => some p
  | _ => none

/-- A command is well formed: it comes from a port; a recipe instruction is one that a word encodes; a network message has at
most 64 words (08 R291). -/
def Instr.wf (i : Instr) : Bool :=
  i.port?.all Port.isPort &&
    match i with
    | .push _ rd _ _ _ | .pop _ rd _ _ _ => decide (rd.val ≤ 12)
    | .b _ cond _ => cond != 15
    | .waitev _ _ kind sel _ => evOk kind.toNat sel.toNat
    | .rds _ _ sel => decide (sel.toNat ≤ 6)
    | .regrd k | .regwr k => decide (k.toNat ≤ 64)
    | _ => true

end Sys2Proof
end

