-- ==== Sys2Proof/Safety.lean ====
section
/-!
DEFINITION. The terms of the claims: a command that answers a next state with a property; an access that passes the checks of 06
R185; an engine that comes to an instruction; a memory in its canonical form.
-/

namespace Sys2Proof.Machine

/-- The command answers a next state with the property `P`. -/
def Gives (i : Instr) (s : State) (P : State → Prop) : Prop := ∃ t, exec i s = .next t ∧ P t

/-- The write of `w` through a view of register `i` of an array by a port and domain is not refused (06 R185 steps 1 to 6; 07 R256),
no posted write of any port waits, and no other port has written in this fSYS cycle (05 R161). -/
def State.accepts (s : State) (p : Port) (d : Nat) (r : RegId) (i w : Nat) (v : View := .reg) : Bool :=
  s.live && p.isPort && s.posted.isEmpty && s.gateCause p d false == 0 && s.writeRight p d r i v w == .ok true
    && !s.frozenWrite p r i v w && !s.noSession p d (isExempt (.reg v r i)) && (s.cycFor p).accs.isEmpty

/-- The address of register `i` of an array. -/
def RegId.loc (r : RegId) (i : Nat) : Addr := BitVec.ofNat 24 (r.addr i)

/-- The port `p` reports that its access took effect. -/
def State.done (s : State) (p : Port) : Bool := (kvD s.acc p.code {}).code == 0

/-- Engine `e` executes context `c`, whose next word, once fetched, is the instruction `i`; `s1` is the state after the fetch. No end of
a quantum waits for the instruction to complete (11 R428). -/
def Comes (s : State) (e : Fin 4) (i : Instr) (c : Fin 16) (s1 : State) : Prop :=
  (s.engReady e).execCtx e = some c ∧ (s1.en e).due = false ∧
    ∃ w, (s.engReady e).fetch c = (.word w, s1) ∧ decodeRecipe e w = some i

/-! ### What a recipe instruction leaves of its context (12 R462, R463, R468) -/

/-- The program counter of the context goes to `pc`; nothing stalls. -/
def Ctx.goesTo (x : Ctx) (pc : Nat) : Ctx := { x with pc := pc, stall := none, slot := false }

/-- `rd` takes `w`, and the context goes on to the next word. -/
def Ctx.takes (x : Ctx) (rd : Reg) (w : Word) : Ctx :=
  { x with v := x.v.set rd.val w rd.isLt, pc := (x.pc + 4) % 0x20000, stall := none, slot := false }

/-- Flags of a result `w`, with C and V. -/
def Ctx.flagsOf (x : Ctx) (w : Word) (c o : Bool) : Ctx := { x with z := decide (w = 0), n := w.msb, c := c, o := o }

/-- `i` lies outside 32 signed bits, and `i` held to them. -/
def wide (i : Int) : Bool := decide (i < -2147483648 ∨ 2147483647 < i)
def held32 (i : Int) : Word := BitVec.ofInt 32 (max (-2147483648) (min 2147483647 i))

/-- A slot of the in-flight pool is there for the access of context `c` (05 R154). -/
def State.slotFree (s : State) (c : Fin 16) : Bool := (s.cx c).slot || !s.slotShort (c.val % 4)

/-- Domain `c.val % 4` may reach, through the engine of context `c`, the bytes of data SRAM at `a`, whose word holds no error. -/
def State.dataFor (s : State) (c : Fin 16) (a : Nat) : Bool :=
  decide (0x840000 ≤ a) && decide (a < 0x850000) && s.posted.isEmpty && s.gateCause (.pe (ctxEng c)) (c.val % 4) false == 0
    && s.memOwner a == c.val % 4 && kvD s.ecc (a / 4 * 4) 0 == 0

/-- The pixel word at a byte address. -/
def pixelAt (m : List Host.Cell) (a : Nat) : Nat := (memGet m a).toNat + 256 * (memGet m (a + 1)).toNat

/-- A pixel reference names a run of its tray that the domain of context `c` may write; no word of memory holds an error and no
posted write waits. -/
def State.runFor (s : State) (c : Fin 16) (w : Word) (r : Pref) : Bool :=
  prefOf w == some r && r.fits r.n && s.trayOwner r.t == c.val % 4 && s.ecc.isEmpty && s.posted.isEmpty && s.slotFree c

/-! ### SPI frames (07 R240-R246) -/

/-- A whole frame of `n` bytes of operation `op`, clocked to its end after a full gap, whose command word is well formed and has its CRC. -/
def wholeFrame (f : SpiFrame) (op n : Nat) : Bool :=
  f.sdi.length == n && f.odd == 0 && !f.cut && !f.quick && frOp f == op && frCrc f && !cmdBad (frCmd f)

/-- Data word `i` of a write frame, and whether its CRC is right. -/
def frameData (f : SpiFrame) (i : Nat) : Nat := beNat (sub8 (frBytes f) (5 + 5 * i) 4)
def frameDataOk (f : SpiFrame) (i : Nat) : Bool := crc8 (sub8 (frBytes f) (5 + 5 * i) 4) == nth8 (frBytes f) (9 + 5 * i)

/-- The SPI port takes a frame: no transfer waits to be reported as discarded. -/
def State.spiReady (s : State) : Bool := s.live && s.pins.vddio && !s.spi.wakeDiscard && s.spi.owed.isNone

/-- The D0 session rule of 07 R256 lets a command of D0 pass. -/
def State.sessionOpenFor (s : State) : Bool := s.lcState != 2 || s.b F.spiSessstat_SESS

/-! ### Racks and the network (08, 09) -/

/-- Nothing waits on a rack, and the descriptors of rack `n` hold no error. -/
def State.rackCalm (s : State) (n : Nat) : Bool := s.rack.waits.isEmpty && (s.rq n).all (·.errs.isEmpty)

/-- Rack `n` takes a descriptor at once. -/
def State.rackOpen (s : State) (n : Nat) : Bool := s.rackCalm n && s.rackEn n && !s.rackFull n

/-- Nothing is staged, posted or half pushed. -/
def State.portsCalm (s : State) : Bool := s.staged.isEmpty && s.posted.isEmpty && s.rack.part.isEmpty

/-- The network DMA takes message `f` of type `ty` and domain `d`; `s1` is the state without its descriptor. -/
def TakesMsg (s : State) (ty d : Nat) (f : List Nat) (s1 : State) : Prop :=
  s.net.job = none ∧ zDom f = d ∧ ∃ x, x.body = f ∧ s.takeMsg ty = (some (d, x), s1)

/-- The newest frame on the egress rack of domain `d`. -/
def State.newest (s : State) (d : Nat) : Option (List Nat) := (s.rq (8 + d)).getLast?.map (·.body)

/-- A received frame is a ZSP message for NET_MAC with its length, FCS and tag right (08 R278-R284). -/
def State.authentic (s : State) (f : List Nat) : Bool :=
  s.live && s.b F.netStat_PHYON && s.net.rx.isEmpty && s.frameOk f && s.forMe f && f.take 6 == s.mac && nth8 f 14 / 16 == 1 && nth8 f 15 % 32 == 0
    && 42 + zPlen f ≤ f.length && s.zspKeyOk (zDom f)
    && s.zspTag (zDom f) (f.take (30 + zPlen f)) == zTag f && zEpoch f == (s.rd .netEpoch).toNat

/-- The message may go to its ingress rack (08 R284 steps 4 to 6). -/
def State.admits (s : State) (f : List Nat) : Bool :=
  (zType f == 1 || zType f == 2 || zType f == 3 || zType f == 6) && payOk (zType f) (zPay f) && s.rackOpen (4 + zDom f)

/-- A counter goes up by one, held at its greatest value. -/
def Counts (f : Fld) (s t : State) : Prop := t.g f = min (2 ^ f.w - 1) (s.g f + 1)

/-! ### Invariants -/

/-- Memory is in its canonical form. -/
def State.memOk (s : State) : Prop := Memory.wf s.mem = true

/-- Every staged copy is that of an RW field that does not take its value at once. -/
def State.stagedOk (s : State) : Prop :=
  ∀ e ∈ s.staged, ∃ r i f, findReg e.addr = some (r, i) ∧ f ∈ effFields r i ∧ f.acc = .rw ∧ f.bake ≠ .i ∧
    f.lo = e.lo ∧ f.w = e.w ∧ f.bake.code = e.cls

/-- The register blocks that an event of the outputs may write: interrupts, the dispatcher's flags, generators, strings, pixels, the
grid, converters and telemetry, faults, and the trace count. -/
def outBlocks : List Nat := [0x2, 0x9, 0xA, 0xB, 0xC, 0xD, 0xE, 0xF, 0x10, 0x12]

end Sys2Proof.Machine

namespace Sys2Proof

/-! ### Frames -/

/-- The commands that may write SRAM, the larder or the image store: resets, the loads of the start-up sequence, writes that may
reach a memory window, maintenance, and the stores of the recipe set. -/
def Instr.stores : Instr → Bool
  | .powerOnReset | .brownOut | .vbatBelowVret | .resetnAssert | .deviceWatchdogReset | .startupOverdue | .wakePin _
  | .sramInitDone | .imageLoadDone | .registerWrite _ _ _ _ | .wideLoWrite _ _ _ _ | .spiWrite _ | .spiWritef _ | .regwr _
  | .tray | .copyExecute _ | .eccWriteBack _ | .rowSpareComplete _ | .larderWipeDone | .programDone | .stw _ _ _ _ | .sth _ _ _ _
  | .stb _ _ _ _ | .pxw _ _ _ | .fade _ _ _ _ | .blend _ _ _ _ | .lut _ _ _ | .u2dWrite _ _ _ | .engineStep _ => true
  | _ => false

/-- The events of the generators, the string channels, the pixels and the scan grid (13, 14, 15). -/
def Instr.ofOutputs : Instr → Bool
  | .pwmPeriodStart _ _ | .pwmMidPoint _ | .pwmCompare _ _ | .deadTimeEnd _ _ | .cmpChange _ _ _ | .blankingClose _ _
  | .tripnTrip _ _ | .currentLimitTrip _ _ _ | .ovpTrip _ _ _ | .trgEvent _ | .syncPulse _ _ | .proofCycleDone _ _ _ _
  | .coarseEntry _ | .proofIntervalElapsed _ | .bootstrapLockout _ _ | .supplyMonitorSample _ | .loopUpdate _
  | .dimPeriodEdge _ | .pixelCounterWrap _ | .bypassEdge _ | .pixelOpenDetect _ _ | .pixelShortSample _ _ _ | .pixelEvent _
  | .scanFrameStart | .scanSlotStart | .scanPhaseEnd | .columnSinkOff _ | .headroomSample _ _ | .rowOvercurrent | .fsyncEdge _
  | .fsyncTimeout | .fsyncOutputPulseEnd => true
  | _ => false

end Sys2Proof
end

