-- ==== Sys2Proof/Certificates/Slice0/Obligations.lean ====
section
/-!
DEFINITION. The statements for the provers, from the numbered rules of the spec: the whole machine first, then chapter by chapter.
-/

open Sys2Proof Sys2Proof.Machine

/-! ### The whole machine -/

/-- A step takes the command at the front of the queue and executes it with the queue's rest; on an empty queue fSYS ticks (log 1, the
model's choice; 08 R303; 04 R116): its counter goes up, and memory and staged copies stay where no frame waits in the receive buffer
(log 72). -/
def Obligations.StepRunsTheFrontCommand : Prop :=
  (∀ c rest (s : State), step { s with pending := c :: rest } = exec c { s with pending := rest }) ∧
  (∀ s : State, s.pending = [] → step s = .next s.fsysTick) ∧
  (∀ s : State, s.clk.fsys = false → s.fsysTick = s) ∧
  (∀ s : State, s.clk.fsys = true → s.net.rx = [] →
    s.fsysTick.tick = s.tick + 1 ∧ s.fsysTick.mem = s.mem ∧ s.fsysTick.staged = s.staged) ∧
  (∀ s : State, s.clk.fsys = true → s.engsReady = s → s.net.rx = [] → s.g F.netTimecfg_ROLE ≠ 0 → s.fsysTick.time = s.time + 1)

/-- Reset (03 R68, R74, R81): RST_CAUSE is POR, NET_EPOCH is not 0 (08 R286), every other register but SEC_STAT, whose count of
discarded blocks is free (log 2), has the reset word of its fields; memory is 0 and its own registers are in form; no command waits. -/
def Obligations.ResetState : Prop :=
  State.reset.rd .rstCause = 1 ∧ State.reset.rd .netEpoch ≠ 0 ∧
  (∀ r i, r.addr i ≠ 0x3104 → r.addr i ≠ 0x5038 → r.addr i ≠ 0x11060 → State.reset.rd r i = BitVec.ofNat 32 (r.reset i)) ∧
  (∀ a, memGet State.reset.mem a = 0) ∧ (∀ c v, vget (State.reset.cx c).v v = 0 ∧ (State.reset.cx c).st = .idle) ∧
  (∀ n, State.reset.rq n = []) ∧ (∀ k : Fin 4, State.reset.slot k = {}) ∧
  State.reset.pending = [] ∧ State.reset.memOk ∧ State.reset.stagedOk

/-- Words of recipe instructions (12 R464-R470): every well-formed instruction decodes from its word; every word that decodes gives a
well-formed instruction, whose word it is again but for the RB that PXR does not use. -/
def Obligations.RecipeWordsRoundTrip : Prop :=
  (∀ i e w, Instr.wf i = true → encodeRecipe i = some (e, w) → decodeRecipe e w = some i) ∧
  (∀ i e w, decodeRecipe e w = some i → Instr.wf i = true ∧ ∃ v, encodeRecipe i = some (e, v) ∧
    decodeRecipe e v = some i ∧ (w.toNat / 2 ^ 24 ≠ 0x40 → v = w))

/-- Every step answers a next state, takes one command from the queue, and keeps the canonical form of memory. -/
def Obligations.StepKeepsMemoryCanonical : Prop :=
  ∀ s : State, ∃ t, step s = .next t ∧ t.pending = s.pending.tail ∧ (s.memOk → t.memOk)

/-- Every step keeps the staged copies those of RW fields that wait for a boundary (06 R197). -/
def Obligations.StepKeepsStagedCopies : Prop :=
  ∀ s t : State, step s = .next t → s.stagedOk → t.stagedOk

/-- A command that is none of the resets, loads, writes and stores of `Instr.stores` leaves every byte of memory as it was. -/
def Obligations.MemoryIsKept : Prop :=
  ∀ (c : Instr) s t, c.stores = false → exec c s = .next t → ∀ a, memGet t.mem a = memGet s.mem a

/-- What the events of the power outputs leave alone: every register outside their blocks (ownership, clocks and power, ports, racks,
memory, engines, security), memory, racks, the ports, the engines, keys and life cycle, the image store and non-volatile records. -/
def Obligations.OutputEventsStayAmongOutputs : Prop :=
  ∀ (c : Instr) (s t : State), c.ofOutputs = true → s.stagedOk → exec c s = .next t →
    (∀ r i, r.addr i / 0x1000 ∉ outBlocks → t.rd r i = s.rd r i) ∧ t.mem = s.mem ∧ t.ecc = s.ecc ∧ t.rack = s.rack ∧
      t.spi = s.spi ∧ t.net = s.net ∧ t.eng = s.eng ∧ t.sec = s.sec ∧ t.nv = s.nv ∧ t.store = s.store ∧ t.posted = s.posted ∧
      t.acc = s.acc ∧ t.pwr = s.pwr ∧ t.slice = s.slice ∧ t.time = s.time ∧ t.tick = s.tick
/-! ### Power, reset, standby and pins (02, 03, 21) -/

/-- Resets (03 R64, R67, R74-R76, R81): each adds its cause to RST_CAUSE, or clears it, and starts its path. -/
def Obligations.ResetsRecordTheirCause : Prop :=
  (∀ s, Gives .powerOnReset s fun t =>
    t.rd .rstCause = 1 ∧ t.g F.dwdtStat_COUNT = 0 ∧ t.pwr.mode = .startup ∧ t.pwr.warm = false) ∧
  (∀ s, Gives .brownOut s fun t =>
    t.rd .rstCause = s.rd .rstCause ||| 2 ∧ t.g F.dwdtStat_COUNT = s.g F.dwdtStat_COUNT ∧ t.pwr.mode = .startup ∧
      t.pwr.warm = false) ∧
  (∀ s, Gives .vbatBelowVret s fun t => t.rd .rstCause = 0 ∧ t.pwr.mode = .off) ∧
  (∀ s, s.pwr.mode ≠ .off → (∀ k, s.pwr.mode ≠ .standby k) → Gives .resetnAssert s fun t =>
    t.rd .rstCause = s.rd .rstCause ||| 4 ∧ t.g F.dwdtStat_COUNT = s.g F.dwdtStat_COUNT ∧ t.pwr.mode = .resetLow) ∧
  (∀ s, s.pwr.mode = .resetLow → Gives .resetnRelease s fun t =>
    t.rd .rstCause = s.rd .rstCause ∧ t.pwr.mode = .startup ∧ t.pwr.warm = true ∧ t.pins.resetnLow = true) ∧
  (∀ s, s.pwr.mode = .run → Gives .deviceWatchdogReset s fun t =>
    t.rd .rstCause = s.rd .rstCause ||| 8 ∧ t.g F.dwdtStat_COUNT = min 255 (s.g F.dwdtStat_COUNT + 1) ∧
      t.pwr.mode = .startup ∧ t.pwr.warm = true) ∧
  (∀ s, s.pwr.mode = .startup → Gives .startupOverdue s fun t =>
    t.rd .rstCause = s.rd .rstCause ||| 24 ∧ t.g F.dwdtStat_COUNT = min 255 (s.g F.dwdtStat_COUNT + 1) ∧
      t.pwr.mode = .startup ∧ t.pwr.warm = true) ∧
  (∀ s, s.pwr.mode = .run → s.clk.fsys = true → Gives .dwdtHeartbeat s fun t => t.pwr.dwStart = s.tick)

/-- What a device reset leaves (03 R74, R80; 10 R385): the volatile memories are 0, the image store keeps its bytes, nothing staged,
posted or waiting remains, contexts and racks are as at reset; the queue is kept. -/
def Obligations.DeviceResetClearsState : Prop :=
  ∀ i ∈ [Instr.powerOnReset, .brownOut, .vbatBelowVret], ∀ s, Gives i s fun t =>
    (∀ a, a < 0xC00000 → memGet t.mem a = 0) ∧ (∀ a, 0xC00000 ≤ a → memGet t.mem a = memGet s.mem a) ∧
      t.staged = [] ∧ t.posted = [] ∧ t.rack = {} ∧ (∀ c, (t.cx c).st = .idle) ∧ t.clk.fsys = false ∧
      t.pins.intRouted = false ∧ t.pins.vcc5On = false ∧ t.pending = s.pending

/-- The start-up sequence (02 R43, R44; 03 R68; 10 R385): each step, once the steps it follows have come, has its effect. -/
def Obligations.StartUpStepsComplete : Prop :=
  (∀ s, s.pwr.mode = .startup → s.pwr.lfrc = false → Gives .lfrcStable s fun t =>
    t.pwr.lfrc = true ∧ t.pins.hselPull = true) ∧
  (∀ s raw, s.pwr.mode = .startup → s.pwr.lfrc = true → s.pwr.hsel = false →
    Gives (.hselMeasurementDone raw) s fun t =>
      t.g F.pinStrap_HSELRAW = raw.toNat ∧ t.g F.pinStrap_HSELCODE = (hselDecode raw.toNat).1 ∧
        t.b F.pinStrap_HSELVALID = (hselDecode raw.toNat).2 ∧ t.pwr.hsel = true ∧ t.pins.hselPull = false) ∧
  (∀ s, s.pwr.mode = .startup → s.pwr.lfrc = true → Gives .vdd11AvddInRegulation s fun t =>
    t.pwr.rails = true ∧ t.b F.pwrStat_AVDDOK = true) ∧
  (∀ s, s.pwr.mode = .startup → s.pwr.rails = true → Gives .hfrcStable s fun t => t.pwr.hfrc = true) ∧
  (∀ s, s.pwr.mode = .startup → s.pwr.hfrc = true → Gives .fuseLoadDone s fun t => t.pwr.fuses = true) ∧
  (∀ s, s.pwr.mode = .startup → s.pwr.fuses = true → s.pwr.pll = false → Gives .pllLock s fun t =>
    t.pwr.pll = true ∧ t.clk.fsys = true ∧ t.b F.clkStat_PLLLOCK = true) ∧
  (∀ s, s.pwr.mode = .startup → s.pwr.pll = true → s.clk.fsys = true → s.pwr.sram = false → Gives .sramInitDone s fun t =>
    t.pwr.sram = true ∧ (∀ a, a < 0xC00000 → memGet t.mem a = 0) ∧
      (∀ a, 0xC00000 ≤ a → memGet t.mem a = memGet s.mem a)) ∧
  (∀ s, s.pwr.mode = .startup → s.pwr.rails = true → s.pwr.vref = false → Gives .vrefSettled s fun t =>
    t.pwr.vref = true ∧ t.b F.pwrStat_VREFOK = true)

/-- RELEASE and VCC5_IN_REGULATION (03 R68, R70): once image and calibrations are done, RESETN is released, the interrupt pins are
routed, VCC5 is enabled, BOOTDONE is 1, TESTHI shows TEST, and BOOT_TIME holds the microseconds since tick 0, which the command gives
(log 86); VCC5OK follows when VCC5 is in regulation. -/
def Obligations.ReleaseCompletes : Prop :=
  (∀ s test usec, s.pwr.mode = .startup → s.clk.fsys = true → s.pwr.verified = true → (s.pwr.loaded = true ∨ s.b F.pwrStat_NOIMG = true) →
    s.pwr.calA = true → s.pwr.calB = true → s.pwr.hsel = true → s.pwr.sram = true → s.stagedOk → Gives (.release test usec) s fun t =>
      t.pwr.mode = .run ∧ t.pins.resetnLow = false ∧ t.pins.intRouted = true ∧ t.pins.vcc5On = true ∧
        t.b F.pwrStat_BOOTDONE = true ∧ t.b F.pinStrap_HENRST = s.pins.hen ∧
        t.b F.pinStrap_TESTHI = test ∧ t.g F.bootTime_USEC = min 65535 usec.toNat ∧ t.pwr.dwStart = s.tick) ∧
  (∀ s, s.pwr.mode = .run → s.pins.vcc5On = true → s.b F.pwrStat_VCC5OK = false → Gives .vcc5InRegulation s fun t =>
    t.b F.pwrStat_VCC5OK = true ∧ t.pwr.vcc5Seen = true)

/-- Supply monitors (03 R91; 18 R683): a change sets the level bit and, from release on, its flag, which waits for fSYS while it is
stopped (log 58); a level source of a fault that begins sets its fault bit. -/
def Obligations.SupplyChangesAreReported : Prop :=
  (∀ s low, s.b F.pwrStat_VBATLOW ≠ low → s.clk.fsys = true → s.flt.level.contains 2 = false →
    Gives (.vbatLowChange low) s fun t => t.b F.pwrStat_VBATLOW = low ∧
      (s.pwr.mode = .run → t.b F.pwrStat_VBATLOWF = true) ∧ (low = true → t.fltBit 2 = true)) ∧
  (∀ s low, s.b F.pwrStat_VBATLOW ≠ low → s.clk.fsys = false → s.pwr.mode = .run → Gives (.vbatLowChange low) s fun t =>
    t.b F.pwrStat_VBATLOW = low ∧ t.b F.pwrStat_VBATLOWF = s.b F.pwrStat_VBATLOWF ∧
      bitN t.pwr.flags F.pwrStat_VBATLOWF.lo = true) ∧
  (∀ s high, s.b F.pwrStat_VBATHI ≠ high → s.clk.fsys = true → s.flt.level.contains 3 = false →
    Gives (.vbatHighChange high) s fun t => t.b F.pwrStat_VBATHI = high ∧
      (s.pwr.mode = .run → t.b F.pwrStat_VBATHIF = true) ∧ (high = true → t.fltBit 3 = true)) ∧
  (∀ s ok, s.b F.pwrStat_VCC5OK ≠ ok → s.pwr.vcc5Seen = true → s.pins.vcc5On = true → s.pwr.mode = .run → s.clk.fsys = true →
    s.flt.level.contains 4 = false → Gives (.vcc5UvChange ok) s fun t =>
      t.b F.pwrStat_VCC5OK = ok ∧ t.b F.pwrStat_VCC5F = true ∧ (ok = false → t.fltBit 4 = true)) ∧
  (∀ s ok, s.b F.pwrStat_AVDDOK ≠ ok → s.pwr.mode = .run → s.clk.fsys = true → s.flt.level.contains 6 = false →
    Gives (.avddChange ok) s fun t =>
      t.b F.pwrStat_AVDDOK = ok ∧ t.b F.pwrStat_AVDDF = true ∧ (ok = false → t.fltBit 6 = true)) ∧
  (∀ s, s.pins.vddio = true → s.pwr.mode = .run → s.clk.fsys = true → s.flt.level.contains 5 = false →
    Gives .vddioLoss s fun t => t.pins.vddio = false ∧ t.pins.hen = true ∧ t.pins.tripn = true ∧
      t.b F.pwrStat_VDDIOF = true ∧ t.fltBit 5 = true) ∧
  (∀ s, s.pins.vddio = false → s.pwr.mode = .run → s.clk.fsys = true → Gives .vddioGood s fun t =>
    t.pins.vddio = true ∧ t.b F.pwrStat_VDDIOF = true)

/-- HEN, GPIO and the host watchdog (02 R48, R52; 03 R77): the pin's level is taken; a selected edge sets its flag; an expiry sets
EXPIRED, stops the count, raises FLT0 and asks for hearth entry, where no service came in its LFRC period (03 R92; log 60). -/
def Obligations.ControlInputsAct : Prop :=
  (∀ s low, s.pins.vddio = true → Gives (.henRequest low) s fun t =>
    t.pins.hen = !low ∧ (low = true → s.pwr.mode = .run → s.g F.hearthStat_STATE = 0 → t.hearth.due = true)) ∧
  (∀ s n rising, s.pins.vddio = true → s.pwr.mode = .run → s.clk.fsys = true → s.g F.gpioCfg_FUNC n.val = 0 →
    bitN (s.g F.gpioCfg_EDGE n.val) (if rising then 0 else 1) = true → bitN s.pins.gpio n.val ≠ rising →
    Gives (.gpioEdge n rising) s fun t => bitN t.pins.gpio n.val = rising ∧ t.rbit .gpioEdge 0 n.val = true) ∧
  (∀ s, s.pwr.mode = .run → s.pwr.hwRun = true → s.frozen 10 = false → s.justServed = false → s.clk.fsys = true →
    Gives .hostWatchdogExpiry s fun t =>
      t.pwr.hwRun = false ∧ t.b F.hwdtStat_EXPIRED = true ∧ t.fltBit 0 = true ∧
        (s.g F.hearthStat_STATE = 0 → t.hearth.due = true))

/-- Standby (03 R82, R83, R93): an accepted PWR_CMD with its key starts the entry when nothing forbids it; the entry stops the clocks
and routes the interrupt pins away, with AVDD off; after 1 ms it is given up with REFUSE 5, or 2 where hearth entry met it. The
backup clock (6), hearth mode or an active enable (2), an active wake source (3; CSN in a frame of the SPI port: log 61) or a network
coordinator (4) refuses the command, in that order where several hold (log 62, the model's choice), and nothing starts. -/
def Obligations.StandbyCommandsComplete : Prop :=
  (∀ s p d, s.accepts p d .pwrCmd 0 0xC701 = true → s.hearthOn = false → s.hearth.due = false → s.anyEnabled = false →
    s.b F.clkStat_AONBK = false → s.wakeActive p .deep = false →
    Gives (.deepStandby p d) s fun t => t.pwr.entry = some .deep ∧ t.done p = true) ∧
  (∀ s p d, s.accepts p d .pwrCmd 0 0xC702 = true → s.hearthOn = false → s.hearth.due = false → s.anyEnabled = false →
    s.b F.clkStat_AONBK = false → s.wakeActive p .retention = false →
    Gives (.retentionStandby p d) s fun t => t.pwr.entry = some .retention ∧ t.done p = true) ∧
  (∀ s p d, s.accepts p d .pwrCmd 0 0xC703 = true → s.hearthOn = false → s.hearth.due = false → s.anyEnabled = false →
    s.b F.netStat_COORD = false → s.b F.clkStat_AONBK = false → s.wakeActive p .network = false →
    Gives (.networkWakeStandby p d) s fun t => t.pwr.entry = some .network ∧ t.done p = true) ∧
  (∀ s k, s.pwr.entry = some k → s.pwr.mode = .run → s.quiet = true → s.hearthOn = false → s.hearth.due = false →
    Gives .standbyEntry s fun t => t.pwr.mode = .standby k ∧ t.pwr.entry = none ∧ t.clk.fsys = false ∧
      t.pins.intRouted = false ∧ t.pins.vcc5On = false ∧ t.b F.clkStat_PLLLOCK = false ∧ t.b F.pwrStat_AVDDOK = false) ∧
  (∀ s k, s.pwr.entry = some k → Gives .standbyEntryTimeout s fun t =>
    t.pwr.entry = none ∧ t.g F.pwrStat_REFUSE = if s.hearthOn || s.hearth.due then 2 else 5) ∧
  (∀ s p d, s.accepts p d .pwrCmd 0 0xC701 = true → s.pwr.entry = none → s.b F.clkStat_AONBK = false →
    (s.hearthOn = true ∨ s.hearth.due = true ∨ s.anyEnabled = true) →
    Gives (.deepStandby p d) s fun t => t.pwr.entry = none ∧ t.g F.pwrStat_REFUSE = 2) ∧
  (∀ s p d, s.accepts p d .pwrCmd 0 0xC701 = true → s.pwr.entry = none → s.hearthOn = false → s.hearth.due = false →
    s.anyEnabled = false → s.b F.clkStat_AONBK = false → s.wakeActive p .deep = true →
    Gives (.deepStandby p d) s fun t => t.pwr.entry = none ∧ t.g F.pwrStat_REFUSE = 3) ∧
  (∀ s p d, s.accepts p d .pwrCmd 0 0xC703 = true → s.pwr.entry = none → s.hearthOn = false → s.hearth.due = false →
    s.anyEnabled = false → s.b F.clkStat_AONBK = false → s.wakeActive p .network = false → s.b F.netStat_COORD = true →
    Gives (.networkWakeStandby p d) s fun t => t.pwr.entry = none ∧ t.g F.pwrStat_REFUSE = 4) ∧
  (∀ s p d, s.accepts p d .pwrCmd 0 0xC702 = true → s.pwr.entry = none → s.b F.clkStat_AONBK = true →
    Gives (.retentionStandby p d) s fun t => t.pwr.entry = none ∧ t.g F.pwrStat_REFUSE = 6)

/-- Wake-up (03 R84-R88): deep standby leaves by the power-on path with WAKE added to RST_CAUSE; retention and network-wake standby
note the source and wait for the PLL, where the LFRC that times them has not failed (04 R129); at its relock device time has advanced
by 5000 ticks a period of the LFRC. -/
def Obligations.WakeUpCompletes : Prop :=
  (∀ s, s.pwr.mode = .standby .deep → Gives .wakePin s fun t =>
    t.pwr.mode = .startup ∧ t.pwr.warm = false ∧ t.rd .rstCause = s.rd .rstCause ||| 32) ∧
  (∀ s k, s.pwr.mode = .standby k → k ≠ .deep → s.b F.pwrWakecfg_PINEN = true → Gives .wakePin s fun t =>
    t.pwr.mode = .waking k ∧ t.pwr.wake = s.pwr.wake ||| 1) ∧
  (∀ s k, s.pwr.mode = .standby k → k ≠ .deep → s.b F.pwrWakecfg_TMREN = true → s.g F.pwrWktmr_COUNT ≠ 0 →
    s.pwr.lfrcDead = false → Gives .wakeTimerExpiry s fun t => t.pwr.mode = .waking k ∧ t.pwr.wake = s.pwr.wake ||| 2) ∧
  (∀ s k, s.pwr.mode = .standby k → k ≠ .deep → s.b F.pwrWakecfg_CSNEN = true → s.pins.vddio = true → s.pwr.lfrcDead = false →
    Gives .csnWake s fun t =>
      t.pwr.mode = .waking k ∧ t.pwr.wake = s.pwr.wake ||| 4 ∧ t.spi.wakeDiscard = true) ∧
  (∀ s, s.pwr.mode = .standby .network → s.pwr.lfrcDead = false → Gives .energyDetect s fun t =>
    t.pwr.mode = .waking .network ∧ t.pwr.wake = s.pwr.wake ||| 8) ∧
  (∀ s k periods, s.pwr.mode = .waking k → s.stagedOk → Gives (.wakeComplete periods) s fun t =>
    t.pwr.mode = .run ∧ t.clk.fsys = true ∧ t.time = s.time + 5000 * periods.toNat ∧ t.b F.clkStat_PLLLOCK = true ∧
      t.rd .pwrWakesrc = s.rd .pwrWakesrc ||| BitVec.ofNat 32 s.pwr.wake ∧ t.pins.intRouted = true)

/-- Host-watchdog writes (03 R77, R78): service with code 0xC3 from a host port restarts the count; another code sets BADSVC and FLT1;
HWDT_CFG takes its fields, and EN taking 1 starts the count. -/
def Obligations.HostWatchdogWritesComplete : Prop :=
  (∀ s p d w, s.accepts p d .hwdtSvc 0 w.toNat = true → w.toNat % 256 = 0xC3 → (p = .spi ∨ p = .net) →
    s.b F.hwdtCfg_EN = true → Gives (.hwdtSvcWrite p d w) s fun t =>
      t.pwr.hwRun = true ∧ t.pwr.hwStart = s.tick ∧ t.pwr.hwMs = s.g F.hwdtCfg_TIMEOUT ∧ t.done p = true) ∧
  (∀ s p d w, s.accepts p d .hwdtSvc 0 w.toNat = true → w.toNat % 256 ≠ 0xC3 →
    Gives (.hwdtSvcWrite p d w) s fun t =>
      t.b F.hwdtStat_BADSVC = true ∧ t.fltBit 1 = true ∧ t.pwr.hwStart = s.pwr.hwStart) ∧
  (∀ s p d w, s.accepts p d .hwdtCfg 0 w.toNat = true → bitsN w.toNat 0 10 ≠ 0 →
    Gives (.hwdtCfgWrite p d w) s fun t => t.g F.hwdtCfg_TIMEOUT = bitsN w.toNat 0 10 ∧
      t.g F.hwdtCfg_EN = bitsN w.toNat 16 1 ∧
        (bitsN w.toNat 16 1 = 1 → s.b F.hwdtCfg_EN = false → t.pwr.hwRun = true ∧ t.pwr.hwStart = s.tick))

/-! ### Clocks (04) -/

/-- Clock selection and monitors (04 R107-R116, R129, R133): a qualification in progress (log 65) and its timeout, the end of a slew, the
monitors' flags and faults while fSYS runs, an LFRC failure in standby, the clock-stop release and its end. -/
def Obligations.ClockEventsComplete : Prop :=
  (∀ s, s.clk.qual = true →
    Gives .xtalQualified s fun t => t.clk.qual = false ∧ t.b F.clkStat_XTALOK = true ∧
      (s.pwr.mode = .run → s.clk.fsys = true → s.b F.clkStat_SLEWING = false → s.b F.clkStat_REFACT = false →
        s.b F.clkCfg_XTALEN = true → s.b F.clkStat_XTALFAIL = false → s.b F.clkCfg_REFSEL = true → t.b F.clkStat_SLEWING = true ∧ t.b F.clkStat_REFACT = true)) ∧
  (∀ s, s.clk.qual = true → s.clk.fsys = true →
    Gives .xtalQualifyTimeout s fun t => t.clk.qual = false ∧ t.b F.clkStat_XTALFAIL = true ∧ t.fltBit 16 = true) ∧
  (∀ s, s.b F.clkStat_SLEWING = true → s.b F.clkStat_REFACT = s.refCond →
    Gives .referenceSlewDone s fun t => t.b F.clkStat_SLEWING = false ∧ t.b F.clkStat_REFACT = s.b F.clkStat_REFACT) ∧
  (∀ s, s.pwr.mode = .run → s.b F.clkStat_XTALOK = true → s.clk.fsys = true →
    Gives .crystalMonitorFail s fun t => t.b F.clkStat_XTALFAIL = true ∧ t.fltBit 16 = true ∧ t.b F.clkStat_REFACT = false ∧
      (s.b F.clkStat_REFACT = true → t.b F.clkStat_SLEWING = true ∧ t.b F.netStat_PHYON = false)) ∧
  (∀ s, s.pwr.mode = .run → Gives .pllUnlock s fun t =>
    t.clk.fsys = false ∧ t.clk.release = true ∧ t.clk.latched.any (·.1 == 17) = true ∧ t.b F.clkStat_PLLLOCK = false ∧
      ∀ n : Fin 6, t.b F.pwmStat_DRIVE n = false) ∧
  (∀ s, s.pwr.mode = .run → Gives .fpwmStop s fun t =>
    t.clk.fsys = false ∧ t.clk.release = true ∧ t.clk.latched.any (·.1 == 18) = true ∧
      ∀ n : Fin 6, t.b F.pwmStat_DRIVE n = false) ∧
  (∀ s, s.clk.fsys = false → s.clk.release = true → s.clk.latched = [(17, 0)] → Gives .pllRelock s fun t =>
    t.clk.fsys = true ∧ t.clk.relocked = true ∧ t.clk.latched = [] ∧ t.b F.clkStat_PLLLOCK = true ∧
      t.b F.clkStat_PLLFAIL = true ∧ t.fltBit 17 = true) ∧
  (∀ s count, s.pwr.mode = .run → s.clk.fsys = true → Gives (.frequencyWindowEnd count) s fun t =>
    if s.b F.clkStat_AONBK then t.g F.clkFmeas_COUNT = 0
    else t.g F.clkFmeas_COUNT = count.toNat ∧ (count.toNat < 120000 → t.clk.release = true) ∧
      (200000 < count.toNat → t.fltBit 19 = true)) ∧
  (∀ s, s.pwr.mode = .run → s.clk.fsys = true → Gives .clockGlitch s fun t =>
    t.fltBit 19 = true ∧ t.b F.secStat_CLK = true ∧ t.b F.secStat_KEYSOFF = true) ∧
  (∀ s, s.pwr.mode = .run → s.b F.clkStat_AONBK = false → s.clk.fsys = true → Gives .lfrcFail s fun t =>
    t.b F.clkStat_AONBK = true ∧ t.b F.clkStat_LFRCFAIL = true ∧ t.fltBit 20 = true ∧ t.g F.clkFmeas_COUNT = 0) ∧
  (∀ s k, s.pwr.mode = .standby k → Gives .lfrcFail s fun t => t.pwr.lfrcDead = true)

/-! ### Registers, domains (05, 06) -/

/-- Writes of registers (06 R185, R190, R192-R195, R197, R198, R222; 04 R121): an RW field of class I takes the value written,
through an alias with its bits set, cleared or toggled; one of another class takes it in its staged copy alone; the _LO half takes
the held _HI half with it; a posted write takes effect when its time comes; of two ports that write a field in one fSYS cycle the later in
order prevails, whichever comes first, and the collision is recorded (05 R161, R162; the cycle is that of one tick: log 68). -/
def Obligations.RegisterWritesTakeEffect : Prop :=
  (∀ s p d (n : Fin 6) (w : Word), s.accepts p d .gpioCfg n w.toNat = true → bitsN w.toNat 0 3 ≤ 4 → bitsN w.toNat 4 2 ≤ 2 →
    w &&& 0xFFFFF808 = 0 → s.stagedOk → Gives (.registerWrite p d (RegId.gpioCfg.loc n) w) s fun t => t.done p = true ∧
      t.g F.gpioCfg_FUNC n = bitsN w.toNat 0 3 ∧ t.g F.gpioCfg_OD n = bitsN w.toNat 6 1 ∧
      t.g F.gpioCfg_INV n = bitsN w.toNat 7 1 ∧ t.g F.gpioCfg_OUT n = bitsN w.toNat 8 1 ∧
      t.g F.gpioCfg_EDGE n = bitsN w.toNat 9 2 ∧
      (∀ r j, r.addr j ≠ RegId.gpioCfg.addr n → t.rd r j = s.rd r j) ∧ t.mem = s.mem ∧ t.staged = s.staged) ∧
  (∀ s p d (w : Word), s.accepts p d .ownStr 0 w.toNat = true →
    Gives (.registerWrite p d (RegId.ownStr.loc 0) w) s fun t => t.done p = true ∧ t.rd .ownStr = s.rd .ownStr ∧
      ∀ k, k < 7 → stagedVal t.staged 0x1000 (2 * k) = some (bitsN w.toNat (2 * k) 2)) ∧
  (∀ s p d (n : Fin 6) (w : Word), s.accepts p d .gpioCfg n w.toNat .set = true →
    Gives (.setAliasWrite p d (RegId.gpioCfg.loc n) w) s fun t => t.done p = true ∧
      t.g F.gpioCfg_OUT n = s.g F.gpioCfg_OUT n ||| bitsN w.toNat 8 1 ∧
      t.g F.gpioCfg_EDGE n = s.g F.gpioCfg_EDGE n ||| bitsN w.toNat 9 2) ∧
  (∀ s p d (n : Fin 6) (w : Word), s.accepts p d .gpioCfg n w.toNat .clr = true →
    Gives (.clearAliasWrite p d (RegId.gpioCfg.loc n) w) s fun t => t.done p = true ∧
      t.g F.gpioCfg_OUT n = s.g F.gpioCfg_OUT n &&& (1 - bitsN w.toNat 8 1) ∧
      t.g F.gpioCfg_EDGE n = s.g F.gpioCfg_EDGE n &&& (3 - bitsN w.toNat 9 2)) ∧
  (∀ s p d (n : Fin 6) (w : Word), s.accepts p d .gpioCfg n w.toNat .tgl = true →
    Gives (.toggleAliasWrite p d (RegId.gpioCfg.loc n) w) s fun t => t.done p = true ∧
      t.g F.gpioCfg_OUT n = s.g F.gpioCfg_OUT n ^^^ bitsN w.toNat 8 1 ∧
      t.g F.gpioCfg_EDGE n = s.g F.gpioCfg_EDGE n ^^^ bitsN w.toNat 9 2) ∧
  (∀ s p d (i : Fin 12) (b : Fin 32) v, s.accepts p d .intEn i (if v then 1 else 0) (.bit b) = true →
    s.irqOwner (32 * (i.val % 3) + b) = some d.val → Gives (.bitAliasWrite p d (RegId.intEn.loc i) b v) s fun t =>
      t.done p = true ∧ t.rbit .intEn i b = v ∧ ∀ k : Fin 32, k ≠ b → t.rbit .intEn i k = s.rbit .intEn i k) ∧
  (∀ s p d (w : Word), s.accepts p d .netTfloorLo 0 w.toNat = true →
    ∀ i ∈ [Instr.wideLoWrite p d (RegId.netTfloorLo.loc 0) w, .netTfloorWrite p d w], Gives i s fun t =>
      let h := s.heldHi p (RegId.netTfloorHi.addr 0) % 65536
      t.done p = true ∧ t.rd .netTfloorLo = w ∧ (t.rd .netTfloorHi).toNat = h ∧ t.net.ht = h * 2 ^ 32 + w.toNat) ∧
  (∀ s q (n : Fin 6), s.posted = [q] → q.addr = RegId.pwmTrg.addr n → s.clk.fsys = true → (s.cycFor q.port).accs = [] →
    s.writeRight q.port q.dom .pwmTrg n .reg q.data.toNat = .ok true → (s.pw n).run = true →
    Gives (.postedWriteEffect q.port) s fun t => t.posted = [] ∧
      stagedVal t.staged q.addr 0 = some (bitsN q.data.toNat 0 16) ∧
      stagedVal t.staged q.addr 16 = some (bitsN q.data.toNat 16 2) ∧
      stagedVal t.staged q.addr 18 = some (bitsN q.data.toNat 18 4)) ∧
  (∀ s (n : Fin 6) (w x : Word) b, s.live = true → s.posted = [] → s.gateCause .spi 0 false = 0 → s.noSession .spi 0 false = false →
    bitsN w.toNat 8 1 ≠ bitsN x.toNat 8 1 →
    let a := RegId.gpioCfg.addr n
    s.cyc = { tick := s.tick, seen := [1], accs := [⟨1, a, 0, w.toNat, 2 ^ 32 - 1, w.toNat⟩], base := [(a, b)], locks := 0 } →
    Gives (.registerWrite .spi 0 (RegId.gpioCfg.loc n) x) s fun t => t.done .spi = true ∧
      t.g F.gpioCfg_OUT n = bitsN w.toNat 8 1 ∧ t.b F.regStat_WRCOLL 0 = true)

/-- Commands of the register model (06 R201, R206-R214, R219, R220): reading a capture clears its VALID, HOLD takes its value, locks
are set and never cleared, a snapshot is captured for the bank of its port and domain, a parity mismatch is recorded with its fault,
a vote restores the value that two copies agree on. -/
def Obligations.RegisterCommandsComplete : Prop :=
  (∀ s p d, s.live = true → s.posted = [] → s.gateCause p d.val false = 0 → s.noSession p d.val false = false →
    Gives (.rcRead p d (RegId.regCap.loc d)) s fun t => t.b F.regCap_VALID d = false ∧
      kvD t.acc p.code {} = ⟨0, s.rd .regCap d⟩ ∧ ∀ r j, r.addr j ≠ RegId.regCap.addr d → t.rd r j = s.rd r j) ∧
  (∀ s p d (x : Dom) hold, s.accepts p d .bakeCtl x (if hold then 1 else 0) = true → s.stagedOk →
    Gives (.bakeHoldWrite p d x hold) s fun t => t.done p = true ∧ t.b F.bakeCtl_HOLD x = hold) ∧
  (∀ s p d (bits : BitVec 4), s.accepts p d .lockCtl 0 bits.toNat = true → Gives (.lockSet p d bits) s fun t =>
    t.done p = true ∧ t.rd .lockCtl = s.rd .lockCtl ||| bits.setWidth 32 ∧
      ∀ r j, r.addr j ≠ 0x50 → t.rd r j = s.rd r j) ∧
  (∀ s p d (sel : BitVec 4), s.accepts p d .snapReq 0 sel.toNat = true → sel.toNat ≤ 4 → Gives (.snapReq p d sel) s fun t =>
    let e := evDom p d
    let v := match sel.toNat with
      | 0 => s.time
      | 1 => s.slice.last
      | 2 => ((kvD s.net.trays e []).map PTray.ptime).min?.getD 0
      | 3 => kvD s.net.tx e 0
      | _ => kvD s.net.h e 0
    t.done p = true ∧ t.regs = s.regs ∧
      t.snap (bankOf p d) = ⟨bankOf p d, sel.toNat, true, BitVec.ofNat 32 (v / 2 ^ 32), BitVec.ofNat 32 v⟩) ∧
  (∀ s (a : Addr) r i bad badStaged, s.live = true → findReg a.toNat = some (r, i) → covered r i = true →
    (bad || badStaged) = true → s.parityBad.any (fun x => x % 2 ^ 24 == a.toNat) = false →
    s.b F.regPar_CFGPAR = false → Gives (.parityCheck a bad badStaged) s fun t =>
      t.g F.regPar_ADDR = a.toNat ∧ t.g F.regPar_DOM = s.regDom r i % 4 ∧ t.b F.regPar_CFGPAR = true ∧
        t.fltBit (88 + s.regDom r i) = true ∧ (bad = true → a.toNat ∈ t.parityBad) ∧
        (badStaged = true → t.stagedBad a.toNat = true)) ∧
  (∀ s (c0 c1 c2 : Word), s.live = true → Gives (.tmrVote 0x50 c0 c1 c2) s fun t =>
    (∀ k : Fin 4, t.rbit .lockCtl 0 k = if c0.getLsbD k = c1.getLsbD k ∧ c1.getLsbD k = c2.getLsbD k then s.rbit .lockCtl 0 k
      else (c0.getLsbD k && c1.getLsbD k || c0.getLsbD k && c2.getLsbD k || c1.getLsbD k && c2.getLsbD k)) ∧
    (¬ (c0.setWidth 4 = c1.setWidth 4 ∧ c1.setWidth 4 = c2.setWidth 4) →
      t.b F.regTmr_TMRFIX = true ∧ t.g F.regTmr_ADDR = 0x50 ∧ t.fltBit 10 = true))

/-- An access that a check of 06 R185 turns away has no effect but its record, in the order of the checks: port and reset (code 5), the D0
session of an SPI access (code 13; 07 R256), no register or window (code 1 or 2, BUSERR), privilege and ownership (codes 3 and 4,
DOMd_VIOL with its cause), locks (code 6, LOCKV). -/
def Obligations.RefusedWritesAreRecorded : Prop :=
  ∀ s p d (a : Addr) (w : Word), s.live = true → s.posted = [] →
    let code (t : State) := (kvD t.acc p.code {}).code
    (s.gateCause p d.val false ≠ 0 → Gives (.registerWrite p d a w) s fun t =>
      code t = 5 ∧ t.b F.domViol_VALID d = true ∧ t.mem = s.mem ∧ t.staged = s.staged) ∧
    (s.gateCause p d.val false = 0 → s.noSession p d.val (isExempt (decode a.toNat true)) = true →
      Gives (.registerWrite p d a w) s fun t => code t = 13 ∧ t.mem = s.mem ∧ t.staged = s.staged) ∧
    (s.gateCause p d.val false = 0 → s.noSession p d.val (isExempt (decode a.toNat true)) = false →
      (∀ c, decode a.toNat true = .bad c → Gives (.registerWrite p d a w) s fun t =>
        code t = c ∧ t.b F.regStat_BUSERR (evDom p d) = true ∧ t.mem = s.mem ∧ t.staged = s.staged) ∧
      (∀ r i cause c, a = r.loc i → decode a.toNat true = .reg .reg r i → r ≠ .rackPush →
        s.writeRight p d r i .reg w.toNat = .no cause c → Gives (.registerWrite p d a w) s fun t =>
          code t = c ∧ (s.b F.domViol_VALID d = true → t.b F.domViol_OVF d = true) ∧
            (s.b F.domViol_VALID d = false → t.rd .domViol d =
              BitVec.ofNat 32 (a.toNat + p.code % 8 * 2 ^ 24 + cause * 2 ^ 27 + 2 ^ 31)) ∧
            t.rbit .intPend (3 * d + 2) (8 + d) = true ∧ t.mem = s.mem ∧ t.staged = s.staged) ∧
      (∀ r i, a = r.loc i → decode a.toNat true = .reg .reg r i → s.writeRight p d r i .reg w.toNat = .ok true →
        s.frozenWrite p r i .reg w.toNat = true → Gives (.registerWrite p d a w) s fun t =>
          code t = 6 ∧ t.b F.regStat_LOCKV (evDom p d) = true ∧ t.rd r i = s.rd r i ∧ t.mem = s.mem ∧
            t.staged = s.staged))

/-- Domain reset (05 R157-R160): DOM_RST with its key starts the reset of each domain named that the writer may reset; a domain that
is not D0 and names another starts nothing and is recorded with cause 6; the end clears RSTBUSY and makes IRQ(76 + d) pending. -/
def Obligations.DomainResetsComplete : Prop :=
  (∀ s p d (rst : BitVec 4), s.accepts p d .domRst 0 (rst.toNat + 0xD500) = true →
    (p = .u2d ∨ d = 0 ∨ rst.toNat ||| 2 ^ d.val = 2 ^ d.val) → Gives (.domainReset p d rst) s fun t => t.done p = true ∧
      ∀ x : Dom, bitN rst.toNat x = true → bitN (t.g F.domStat_RSTBUSY) x = true ∧
        (bitN (s.g F.domStat_RSTBUSY) x = false → t.b F.bakeCtl_HOLD x = false ∧ kvGet t.disp.armed x = none)) ∧
  (∀ s p d (rst : BitVec 4), s.accepts p d .domRst 0 (rst.toNat + 0xD500) = true → p ≠ .u2d → d ≠ 0 →
    rst.toNat ||| 2 ^ d.val ≠ 2 ^ d.val → s.b F.domViol_VALID d = false → Gives (.domainReset p d rst) s fun t =>
      t.g F.domStat_RSTBUSY = s.g F.domStat_RSTBUSY ∧ t.domRst = s.domRst ∧
        t.rd .domViol d = BitVec.ofNat 32 (0x1064 + p.code % 8 * 2 ^ 24 + 6 * 2 ^ 27 + 2 ^ 31)) ∧
  (∀ s (x : Dom) v, kvGet s.domRst x = some v → 2 ≤ v → s.posted.all (·.dom != x.val) = true →
    Gives (.domainResetComplete x) s fun t => bitN (t.g F.domStat_RSTBUSY) x = false ∧ kvGet t.domRst x = none ∧
      t.rbit .intPend (3 * x + 2) (12 + x) = true)

/-! ### Recipe instructions (12) -/

/-- Arithmetic, logic and shifts on registers (12 R468, R470-R473): the result in rd, the flags that each names, the next word; nothing
else changes. -/
def Obligations.RegisterArithmeticResults : Prop :=
  ∀ s e c s1 rd ra rb, let a := vget (s1.cx c).v ra; let b := vget (s1.cx c).v rb
    let n := b.toNat % 32
    let C := (s1.cx c).c; let V := (s1.cx c).o
    let out (w : Word) (cy ov : Bool) := Host.Outcome.next (s1.modCx c fun x => (x.flagsOf w cy ov).takes rd w)
    (Comes s e (.add e rd ra rb) c s1 → exec (.add e rd ra rb) s =
      out (a + b) (decide (2 ^ 32 ≤ a.toNat + b.toNat)) (wide (a.toInt + b.toInt))) ∧
    (Comes s e (.sub e rd ra rb) c s1 → exec (.sub e rd ra rb) s =
      out (a - b) (decide (a.toNat < b.toNat)) (wide (a.toInt - b.toInt))) ∧
    (Comes s e (.and e rd ra rb) c s1 → exec (.and e rd ra rb) s = out (a &&& b) C V) ∧
    (Comes s e (.or e rd ra rb) c s1 → exec (.or e rd ra rb) s = out (a ||| b) C V) ∧
    (Comes s e (.xor e rd ra rb) c s1 → exec (.xor e rd ra rb) s = out (a ^^^ b) C V) ∧
    (Comes s e (.shl e rd ra rb) c s1 → exec (.shl e rd ra rb) s =
      out (a <<< n) (if n = 0 then C else a.getLsbD (32 - n)) V) ∧
    (Comes s e (.shr e rd ra rb) c s1 → exec (.shr e rd ra rb) s =
      out (a >>> n) (if n = 0 then C else a.getLsbD (n - 1)) V) ∧
    (Comes s e (.sar e rd ra rb) c s1 → exec (.sar e rd ra rb) s =
      out (a.sshiftRight n) (if n = 0 then C else a.getLsbD (n - 1)) V) ∧
    (Comes s e (.mul e rd ra rb) c s1 → exec (.mul e rd ra rb) s = out (a * b) C (wide (a.toInt * b.toInt))) ∧
    (Comes s e (.mulq e rd ra rb) c s1 → exec (.mulq e rd ra rb) s =
      out (held32 ((a.toInt * b.toInt + 0x4000) / 32768)) C (wide ((a.toInt * b.toInt + 0x4000) / 32768))) ∧
    (Comes s e (.min e rd ra rb) c s1 → exec (.min e rd ra rb) s = out (if a.toInt ≤ b.toInt then a else b) C V) ∧
    (Comes s e (.max e rd ra rb) c s1 → exec (.max e rd ra rb) s = out (if b.toInt ≤ a.toInt then a else b) C V) ∧
    (Comes s e (.adds e rd ra rb) c s1 → exec (.adds e rd ra rb) s =
      out (held32 (a.toInt + b.toInt)) C (wide (a.toInt + b.toInt))) ∧
    (Comes s e (.subs e rd ra rb) c s1 → exec (.subs e rd ra rb) s =
      out (held32 (a.toInt - b.toInt)) C (wide (a.toInt - b.toInt)))

/-- Instructions with an immediate, and the comparisons (12 R468, R470-R472). -/
def Obligations.ImmediateArithmeticResults : Prop :=
  ∀ s e c s1 rd ra rb (imm : BitVec 16) (sh : BitVec 5), let a := vget (s1.cx c).v ra; let b := vget (s1.cx c).v rb
    let i := imm.signExtend 32; let z := imm.setWidth 32
    let n := sh.toNat
    let C := (s1.cx c).c; let V := (s1.cx c).o
    let out (w : Word) (cy ov : Bool) := Host.Outcome.next (s1.modCx c fun x => (x.flagsOf w cy ov).takes rd w)
    let cmp (w : Word) (cy ov : Bool) :=
      Host.Outcome.next (s1.modCx c fun x => (x.flagsOf w cy ov).goesTo ((x.pc + 4) % 0x20000))
    (Comes s e (.addi e rd ra imm) c s1 → exec (.addi e rd ra imm) s =
      out (a + i) (decide (2 ^ 32 ≤ a.toNat + i.toNat)) (wide (a.toInt + i.toInt))) ∧
    (Comes s e (.andi e rd ra imm) c s1 → exec (.andi e rd ra imm) s = out (a &&& z) C V) ∧
    (Comes s e (.ori e rd ra imm) c s1 → exec (.ori e rd ra imm) s = out (a ||| z) C V) ∧
    (Comes s e (.xori e rd ra imm) c s1 → exec (.xori e rd ra imm) s = out (a ^^^ z) C V) ∧
    (Comes s e (.shli e rd ra sh) c s1 → exec (.shli e rd ra sh) s =
      out (a <<< n) (if n = 0 then C else a.getLsbD (32 - n)) V) ∧
    (Comes s e (.shri e rd ra sh) c s1 → exec (.shri e rd ra sh) s =
      out (a >>> n) (if n = 0 then C else a.getLsbD (n - 1)) V) ∧
    (Comes s e (.sari e rd ra sh) c s1 → exec (.sari e rd ra sh) s =
      out (a.sshiftRight n) (if n = 0 then C else a.getLsbD (n - 1)) V) ∧
    (Comes s e (.movi e rd imm) c s1 → exec (.movi e rd imm) s = .next (s1.modCx c fun x => x.takes rd i)) ∧
    (Comes s e (.movhi e rd imm) c s1 → exec (.movhi e rd imm) s = .next (s1.modCx c fun x =>
      x.takes rd (imm ++ (vget (s1.cx c).v rd).setWidth 16))) ∧
    (Comes s e (.cmp e ra rb) c s1 → exec (.cmp e ra rb) s =
      cmp (a - b) (decide (a.toNat < b.toNat)) (wide (a.toInt - b.toInt))) ∧
    (Comes s e (.cmpi e ra imm) c s1 → exec (.cmpi e ra imm) s =
      cmp (a - i) (decide (a.toNat < i.toNat)) (wide (a.toInt - i.toInt)))

/-- Branches, calls, LOOP, NOP and RDS (12 R463, R469, R470, R474, R495): where the program counter goes, the link in v15, the count;
flags are kept. -/
def Obligations.BranchesAndSpecialValues : Prop :=
  ∀ s e c s1 rd ra (cond : BitVec 4) (ofs : BitVec 20) (imm : BitVec 16),
    let x := s1.cx c
    let next := (x.pc + 4) % 0x20000
    let jump (i : Int) := (((x.pc : Int) + 4 * i) % 0x20000).toNat
    let target := (vget x.v ra).toNat % 0x20000 / 4 * 4
    let count := vget x.v rd - 1
    (Comes s e (.b e cond ofs) c s1 → exec (.b e cond ofs) s = .next (s1.modCx c fun y =>
      y.goesTo (if x.cond cond.toNat then jump ofs.toInt else next))) ∧
    (Comes s e (.call e ofs) c s1 → exec (.call e ofs) s = .next (s1.modCx c fun y =>
      (y.takes 15 (BitVec.ofNat 32 next)).goesTo (jump ofs.toInt))) ∧
    (Comes s e (.jr e ra) c s1 → exec (.jr e ra) s = .next (s1.modCx c fun y => y.goesTo target)) ∧
    (Comes s e (.callr e ra) c s1 → exec (.callr e ra) s = .next (s1.modCx c fun y =>
      (y.takes 15 (BitVec.ofNat 32 next)).goesTo target)) ∧
    (Comes s e (.loop e rd imm) c s1 → exec (.loop e rd imm) s = .next (s1.modCx c fun y =>
      (y.takes rd count).goesTo (if count = 0 then next else jump imm.toInt))) ∧
    (Comes s e (.nop e) c s1 → exec (.nop e) s = .next (s1.modCx c fun y => y.goesTo next)) ∧
    (Comes s e (.rds e rd 0) c s1 → exec (.rds e rd 0) s = .next (s1.modCx c fun y =>
      { y.takes rd (BitVec.ofNat 32 s1.time) with thi := BitVec.ofNat 32 (s1.time / 2 ^ 32) })) ∧
    (Comes s e (.rds e rd 1) c s1 → exec (.rds e rd 1) s = .next (s1.modCx c fun y => y.takes rd x.thi)) ∧
    (Comes s e (.rds e rd 2) c s1 → exec (.rds e rd 2) s = .next (s1.modCx c fun y =>
      y.takes rd (BitVec.ofNat 32 s1.slice.k))) ∧
    (Comes s e (.rds e rd 3) c s1 → exec (.rds e rd 3) s = .next (s1.modCx c fun y => y.takes rd (BitVec.ofNat 32 c.val))) ∧
    (Comes s e (.rds e rd 4) c s1 → exec (.rds e rd 4) s = .next (s1.modCx c fun y => y.takes rd (BitVec.ofNat 32 x.wst))) ∧
    (Comes s e (.rds e rd 5) c s1 → exec (.rds e rd 5) s = .next (s1.modCx c fun y =>
      y.takes rd (BitVec.ofNat 32 (s1.workOf c)))) ∧
    (Comes s e (.rds e rd 6) c s1 → exec (.rds e rd 6) s = .next (s1.modCx c fun y =>
      y.takes rd (BitVec.ofNat 32 s1.slice.last)))

/-- COND in format B selects the condition of the table of R469: when it is taken, the relation that it tests after CMP ra, rb, and no
branch has COND = 15. -/
def Obligations.ConditionsAfterCompare : Prop :=
  (∀ x : Ctx, x.cond 0 = true ∧ x.cond 1 = x.z ∧ x.cond 2 = !x.z ∧ x.cond 3 = (x.n != x.o) ∧ x.cond 4 = (x.n == x.o) ∧
    x.cond 5 = (x.z || x.n != x.o) ∧ x.cond 6 = (!x.z && x.n == x.o) ∧ x.cond 7 = x.c ∧ x.cond 8 = !x.c ∧
    x.cond 9 = (x.c || x.z) ∧ x.cond 10 = (!x.c && !x.z) ∧ x.cond 11 = x.n ∧ x.cond 12 = !x.n ∧ x.cond 13 = x.o ∧
    x.cond 14 = !x.o) ∧
  (∀ (x : Ctx) (a b : Word), let y := x.flagsOf (a - b) (decide (a.toNat < b.toNat)) (wide (a.toInt - b.toInt))
    y.cond 1 = decide (a = b) ∧ y.cond 2 = decide (a ≠ b) ∧ y.cond 3 = decide (a.toInt < b.toInt) ∧
      y.cond 4 = decide (b.toInt ≤ a.toInt) ∧ y.cond 5 = decide (a.toInt ≤ b.toInt) ∧
      y.cond 6 = decide (b.toInt < a.toInt) ∧ y.cond 7 = decide (a.toNat < b.toNat) ∧
      y.cond 8 = decide (b.toNat ≤ a.toNat) ∧ y.cond 9 = decide (a.toNat ≤ b.toNat) ∧
      y.cond 10 = decide (b.toNat < a.toNat) ∧ y.cond 11 = (a - b).msb ∧ y.cond 12 = !(a - b).msb ∧
      y.cond 13 = wide (a.toInt - b.toInt) ∧ y.cond 14 = !wide (a.toInt - b.toInt)) ∧
  (∀ e (ofs : BitVec 20), decodeRecipe e (BitVec.ofNat 32 (0x30 * 2 ^ 24 + 15 * 2 ^ 20 + ofs.toNat)) = none)

/-- Loads and stores in data SRAM (12 R475-R477; 10 R368): an aligned access of an owned word without errors loads what memory holds, or
stores the low bytes of rd at ea and no other byte; the context alone changes beside. -/
def Obligations.LoadsAndStores : Prop :=
  ∀ s e c s1 rd ra (imm : BitVec 16),
    let x := s1.cx c
    let a := (vget x.v ra + imm.signExtend 32).toNat % 2 ^ 24
    let w := vget x.v rd
    s1.dataFor c a = true → s1.slotFree c = true →
      (Comes s e (.ldw e rd ra imm) c s1 → a % 4 = 0 → exec (.ldw e rd ra imm) s = .next (s1.modCx c fun y =>
        y.takes rd (BitVec.ofNat 32 (pixelAt s1.mem a + 65536 * pixelAt s1.mem (a + 2))))) ∧
      (Comes s e (.ldh e rd ra imm) c s1 → a % 2 = 0 → exec (.ldh e rd ra imm) s = .next (s1.modCx c fun y =>
        y.takes rd (BitVec.ofNat 32 (pixelAt s1.mem a)))) ∧
      (Comes s e (.ldb e rd ra imm) c s1 → exec (.ldb e rd ra imm) s = .next (s1.modCx c fun y =>
        y.takes rd ((memGet s1.mem a).setWidth 32))) ∧
      (∀ n i, ((i = .stw e rd ra imm ∧ n = 4) ∨ (i = .sth e rd ra imm ∧ n = 2) ∨ (i = .stb e rd ra imm ∧ n = 1)) →
        a % n = 0 → Comes s e i c s1 → Gives i s fun t =>
          (∀ k, k < n → memGet t.mem (a + k) = BitVec.ofNat 8 (w.toNat / 2 ^ (8 * k))) ∧
            (∀ b, b < a ∨ a + n ≤ b → memGet t.mem b = memGet s1.mem b) ∧
            (∀ k, t.cx k = if k = c then x.goesTo ((x.pc + 4) % 0x20000) else s1.cx k) ∧ t.regs = s1.regs ∧
            t.staged = s1.staged ∧ t.rack = s1.rack)

/-- A misaligned load or store is not issued and takes the ALIGN exception (12 R477; 11 R425, R452): its code, context and program
counter are captured with the address, memory is unchanged, and the recipe ends. -/
def Obligations.MisalignedAccessTakesAlign : Prop :=
  ∀ s e c s1 rd ra (imm : BitVec 16),
    let x := s1.cx c
    let a := (vget x.v ra + imm.signExtend 32).toNat % 2 ^ 24
    ∀ n i, ((i = .ldw e rd ra imm ∧ n = 4) ∨ (i = .ldh e rd ra imm ∧ n = 2) ∨ (i = .stw e rd ra imm ∧ n = 4) ∨
        (i = .sth e rd ra imm ∧ n = 2)) → a % n ≠ 0 → Comes s e i c s1 → s1.b F.peExc_VALID (ctxEng c) = false →
      Gives i s fun t =>
        t.rd .peExc (ctxEng c) = BitVec.ofNat 32 (6 + (c.val + 1) * 16 + 2 ^ 31) ∧
          t.rd .peExcpc (ctxEng c) = BitVec.ofNat 32 x.pc ∧ t.rd .peExcaddr (ctxEng c) = BitVec.ofNat 32 a ∧
          t.mem = s1.mem ∧ ((t.cx c).st = .idle ∨ (t.cx c).st = .held)

/-- Pixel instructions (12 R479-R485): PXR reads one pixel word; PXW, FADE, BLEND and LUT write each pixel word of the run of rd with
their result and no other byte, FADE setting Z when every duty has reached the target. -/
def Obligations.PixelInstructions : Prop :=
  ∀ s e c s1 rd ra rb, let x := s1.cx c
    let wd := vget x.v rd; let wa := vget x.v ra; let wb := vget x.v rb
    let px (t : State) (r : Pref) (k : Nat) := pixelAt t.mem (r.at (r.p + k))
    let elsewhere (t : State) (r : Pref) := ∀ b, b < r.at r.p ∨ r.at (r.p + r.n) ≤ b → memGet t.mem b = memGet s1.mem b
    let next := (x.pc + 4) % 0x20000
    (∀ r, Comes s e (.pxr e rd ra) c s1 → prefOf wa = some r → s1.trayOwner r.t = c.val % 4 → s1.ecc = [] → s1.posted = [] →
      s1.slotFree c = true → exec (.pxr e rd ra) s = .next (s1.modCx c fun y =>
        y.takes rd (BitVec.ofNat 32 (px s1 r 0)))) ∧
    (∀ r, Comes s e (.pxw e rd ra) c s1 → s1.runFor c wd r = true → Gives (.pxw e rd ra) s fun t =>
      (∀ k, k < r.n → px t r k = wa.toNat % 65536) ∧ elsewhere t r ∧ t.cx c = x.goesTo next) ∧
    (∀ r, Comes s e (.fade e rd ra rb) c s1 → s1.runFor c wd r = true → Gives (.fade e rd ra rb) s fun t =>
      (∀ k, k < r.n → px t r k = fadeStep (wa.toNat % 2 ^ 14) (wb.toNat % 2 ^ 14) (px s1 r k)) ∧ elsewhere t r ∧
        t.cx c = { x.goesTo next with z := (List.range r.n).all fun k => px t r k % 2 ^ 14 == wa.toNat % 2 ^ 14 }) ∧
    (∀ r q, Comes s e (.blend e rd ra rb) c s1 → s1.runFor c wd r = true → prefOf wa = some q → q.fits r.n = true →
      s1.trayOwner q.t = c.val % 4 → Gives (.blend e rd ra rb) s fun t =>
        (∀ k, k < r.n → px t r k = blendStep (min 256 (wb.toNat % 512)) (px s1 r k) (px s1 q k)) ∧ elsewhere t r ∧
          t.cx c = x.goesTo next) ∧
    (∀ r, Comes s e (.lut e rd ra) c s1 → s1.runFor c wd r = true → wa.toNat % 2 = 0 →
      0x840000 ≤ wa.toNat % 2 ^ 24 → wa.toNat % 2 ^ 24 + 130 ≤ 0x850000 →
      (∀ k, k < 65 → s1.memOwner ((wa.toNat % 2 ^ 24 + 2 * k) / 4 * 4) = c.val % 4) → Gives (.lut e rd ra) s fun t =>
        (∀ k, k < r.n → let i := px s1 r k % 2 ^ 14 / 256
          px t r k = lutStep (px s1 r k) (pixelAt s1.mem (wa.toNat % 2 ^ 24 + 2 * i))
            (pixelAt s1.mem (wa.toNat % 2 ^ 24 + 2 * (i + 1)))) ∧ elsewhere t r ∧ t.cx c = x.goesTo next)

/-- No pixel result leaves 0-16383, and BLEND with weight 256 copies the source word, with weight 0 leaves the destination
(12 R484). -/
def Obligations.PixelArithmeticStaysInRange : Prop :=
  (∀ t st w, t < 16384 → st < 16384 → w < 65536 → fadeStep t st w < 65536 ∧ fadeStep t st w / 16384 = w / 16384 ∧
    min (w % 16384) t ≤ fadeStep t st w % 16384 ∧ fadeStep t st w % 16384 ≤ max (w % 16384) t) ∧
  (∀ w a b, w ≤ 256 → a < 65536 → b < 65536 →
    min (a % 16384) (b % 16384) ≤ blendStep w a b % 16384 ∧ blendStep w a b % 16384 ≤ max (a % 16384) (b % 16384)) ∧
  (∀ a b, a < 65536 → b < 65536 → blendStep 256 a b = b ∧ blendStep 0 a b = a) ∧
  (∀ a e0 e1, a < 65536 → min (e0 % 16384) (e1 % 16384) ≤ lutStep a e0 e1 % 16384 ∧
    lutStep a e0 e1 % 16384 ≤ max (e0 % 16384) (e1 % 16384) ∧ lutStep a e0 e1 / 16384 = a / 16384)

/-- PUSH, POP, TAKE and GIVE (12 R487-R491) where they complete: the descriptor, the semaphore, WST = 1 and Z = 1. -/
def Obligations.RackAndSemaphoreInstructions : Prop :=
  ∀ s e c s1 rd (n : Fin 32) w tmo, let x := s1.cx c; let d := c.val % 4; let next := (x.pc + 4) % 0x20000
    let done (t : State) := (t.cx c).wst = 1 ∧ (t.cx c).z = true ∧ (t.cx c).pc = next ∧ (t.cx c).st = .runnable
    s1.posted = [] → s1.rack.waits = [] →
    (rd.val ≤ 12 → Comes s e (.push e rd n w tmo) c s1 → s1.ownRack n = d → s1.prod n < 17 →
      s1.rackEn n = true → s1.rackFull n = false → (∀ q ∈ s1.rq n, q.errs = []) →
      let desc := descOf ((List.range 4).map fun k => (vget x.v (Fin.ofNat 16 (rd.val + k))).toNat)
      descOk desc = true → Gives (.push e rd n w tmo) s fun t =>
        t.rq n = s1.rq n ++ [descCommit desc d] ∧ done t ∧ (t.cx c).v = x.v) ∧
    (∀ q l, rd.val ≤ 12 → Comes s e (.pop e rd n w tmo) c s1 → s1.ownRack n = d → s1.cons n < 17 → s1.rackEn n = true →
      s1.rq n = q :: l → (∀ y ∈ s1.rq n, y.errs = []) → Gives (.pop e rd n w tmo) s fun t =>
        t.rq n = l ∧ done t ∧ vget (t.cx c).v rd = BitVec.ofNat 32 (q.w0 % 2 ^ 30 + 2 ^ 31) ∧
          vget (t.cx c).v (Fin.ofNat 16 (rd.val + 1)) = BitVec.ofNat 32 q.w1 ∧
          vget (t.cx c).v (Fin.ofNat 16 (rd.val + 2)) = BitVec.ofNat 32 q.w2 ∧
          vget (t.cx c).v (Fin.ofNat 16 (rd.val + 3)) = BitVec.ofNat 32 q.w3) ∧
    (Comes s e (.take e n w tmo) c s1 → s1.ownSem n = d → s1.b F.semCfg_MODE n = false → s1.b F.semStat_HELD n = false →
      Gives (.take e n w tmo) s fun t => t.b F.semStat_HELD n = true ∧ t.g F.semStat_HOLDER n = c.val + 1 ∧
        t.g F.semStat_HDOM n = d ∧ done t) ∧
    (Comes s e (.take e n w tmo) c s1 → s1.ownSem n = d → s1.b F.semCfg_MODE n = true → s1.g F.semStat_COUNT n ≠ 0 →
      Gives (.take e n w tmo) s fun t => t.g F.semStat_COUNT n = s1.g F.semStat_COUNT n - 1 ∧ done t) ∧
    (Comes s e (.give e n) c s1 → s1.ownSem n = d → s1.b F.semCfg_MODE n = false → s1.b F.semStat_HELD n = true →
      s1.g F.semStat_HOLDER n = c.val + 1 → s1.g F.semStat_HDOM n = d → Gives (.give e n) s fun t =>
        t.b F.semStat_HELD n = false ∧ (t.cx c).z = true ∧ (t.cx c).wst = x.wst ∧ (t.cx c).pc = next) ∧
    (Comes s e (.give e n) c s1 → s1.ownSem n = d → s1.b F.semCfg_MODE n = true →
      s1.g F.semStat_COUNT n < s1.g F.semCfg_MAX n → Gives (.give e n) s fun t =>
        t.g F.semStat_COUNT n = s1.g F.semStat_COUNT n + 1 ∧ (t.cx c).z = true ∧ (t.cx c).pc = next)

/-- Waits that do not complete (12 R488-R491): without W, NOTDONE; with W, the context waits. A rack or semaphore of another domain:
OWNER, or REFUSED. -/
def Obligations.RackAndSemaphoreOtherOutcomes : Prop :=
  ∀ s e c s1 rd (n : Fin 32) tmo, let x := s1.cx c; let d := c.val % 4
    s1.posted = [] → s1.rack.waits = [] →
    (∀ w, rd.val ≤ 12 → Comes s e (.pop e rd n w tmo) c s1 → s1.ownRack n = d → s1.cons n < 17 →
      (s1.rackEn n = false ∨ s1.rq n = []) → Gives (.pop e rd n w tmo) s fun t =>
        if w then (t.cx c).st = .waiting ∧ (t.cx c).pc = x.pc ∧ (t.waitOf (c.val + 1)).isSome = true
        else (t.cx c).wst = 5 ∧ (t.cx c).z = false ∧ (t.cx c).pc = (x.pc + 4) % 0x20000) ∧
    (∀ w, Comes s e (.take e n w tmo) c s1 → s1.ownSem n = d → s1.b F.semCfg_MODE n = true → s1.g F.semStat_COUNT n = 0 →
      Gives (.take e n w tmo) s fun t =>
        if w then (t.cx c).st = .waiting ∧ (t.cx c).pc = x.pc ∧ (t.waitOf (c.val + 1)).isSome = true
        else (t.cx c).wst = 5 ∧ (t.cx c).z = false ∧ (t.cx c).pc = (x.pc + 4) % 0x20000) ∧
    (∀ w, Comes s e (.take e n w tmo) c s1 → s1.ownSem n ≠ d → Gives (.take e n w tmo) s fun t =>
      (t.cx c).wst = 6 ∧ (t.cx c).z = false ∧ (d ≠ 0 → t.b F.domViol_VALID d = true)) ∧
    (Comes s e (.give e n) c s1 → s1.ownSem n ≠ d → s1.b F.peExc_VALID (ctxEng c) = false → Gives (.give e n) s fun t =>
      t.rd .peExc (ctxEng c) = BitVec.ofNat 32 (4 + (c.val + 1) * 16 + 2 ^ 31) ∧ t.b F.domViol_VALID d = true)

/-- WAITEV and its ends, SLICEEND, END, TRAP, FENCE and ILLEGAL_INSTRUCTION (12 R467, R492-R496; 11 R421, R425, R431). -/
def Obligations.EventsSliceEndAndTraps : Prop :=
  ∀ s e c s1, let x := s1.cx c; let next := (x.pc + 4) % 0x20000
    let ended (t : State) := (t.cx c).st = (if s1.b F.peCtl_EXCSTOP (ctxEng c) then .held else .idle)
    (∀ rd kind sel tmo, Comes s e (.waitev e rd kind sel tmo) c s1 →
      s1.evForeign (c.val % 4) kind.toNat sel.toNat = false →
      s1.evPresent (c.val % 4) kind.toNat sel.toNat (vget x.v rd) = true → Gives (.waitev e rd kind sel tmo) s fun t =>
        (t.cx c).wst = 1 ∧ (t.cx c).z = true ∧ (t.cx c).pc = next ∧ t.regs = s1.regs) ∧
    (∀ rd kind sel tmo, Comes s e (.waitev e rd kind sel tmo) c s1 →
      s1.evForeign (c.val % 4) kind.toNat sel.toNat = false →
      s1.evPresent (c.val % 4) kind.toNat sel.toNat (vget x.v rd) = false → Gives (.waitev e rd kind sel tmo) s fun t =>
        (t.cx c).st = .waiting ∧ (t.cx c).pc = x.pc ∧ (t.cx c).ev.isSome = true) ∧
    (∀ ra, Comes s e (.sliceend e ra false 0xFF) c s1 → Gives (.sliceend e ra false 0xFF) s fun t =>
      (t.cx c).st = .suspended ∧ (t.cx c).ended = s1.tick ∧ (t.cx c).pc = x.pc ∧ (t.cx c).offer = x.offer) ∧
    (∀ ra rsel (t8 : BitVec 8), let code := if rsel then (vget x.v ra).toNat % 256 else t8.toNat
      Comes s e (.sliceend e ra rsel t8) c s1 → trayOk code = true → s1.trayOwner code = c.val % 4 → s1.ecc = [] →
      (s1.trayHeader (2 + (ctxEng c).val) code).1 ≠ 0 →
      ((List.range 7).all fun g => !bitN (s1.trayHeader (2 + (ctxEng c).val) code).1 g || s1.ownGroup g == c.val % 4) = true →
      Gives (.sliceend e ra rsel t8) s fun t => (t.cx c).st = .suspended ∧ (t.cx c).ended = s1.tick ∧
        ∃ o, (t.cx c).offer = some o ∧ o.tray = code ∧ o.tick = s1.tick) ∧
    (Comes s e (.endRecipe e) c s1 → Gives (.endRecipe e) s fun t => (t.cx c).st = .idle ∧ (t.cx c).v = x.v) ∧
    (Comes s e (.trap e) c s1 → s1.b F.peExc_VALID (ctxEng c) = false → Gives (.trap e) s fun t =>
      t.rd .peExc (ctxEng c) = BitVec.ofNat 32 (7 + (c.val + 1) * 16 + 2 ^ 31) ∧
        t.rd .peExcpc (ctxEng c) = BitVec.ofNat 32 x.pc ∧ ended t) ∧
    (Comes s e (.fence e) c s1 → s1.posted = [] → exec (.fence e) s = .next (s1.modCx c fun y => y.goesTo next)) ∧
    (∀ w, (s.engReady e).execCtx e = some c → (s.engReady e).fetch c = (.word w, s1) → decodeRecipe e w = none →
      s1.b F.peExc_VALID (ctxEng c) = false → Gives (.illegalInstruction e) s fun t =>
        t.rd .peExc (ctxEng c) = BitVec.ofNat 32 (1 + (c.val + 1) * 16 + 2 ^ 31) ∧
          t.rd .peExcpc (ctxEng c) = BitVec.ofNat 32 x.pc ∧ ended t)

/-- Waits that end from outside (12 R478, R492; 05 R154, R156; 09 R347): WST 3 for a timeout, 1 for the event; a slot goes to the first
waiter that one is free for, whose instruction or DMA transaction goes on with it, and to no other. -/
def Obligations.WaitsEnd : Prop :=
  (∀ s c w q, (s.cx c).st = .runnable → (s.cx c).stall = some w → s.waitOf (c.val + 1) = some q → Gives (.quotaStallTimeout c) s fun t =>
    (t.cx c).wst = 3 ∧ (t.cx c).stall = none ∧ (t.cx c).pc = ((s.cx c).pc + 4) % 0x20000 ∧
      t.waitOf (c.val + 1) = none) ∧
  (∀ s c ev, (s.cx c).ev = some ev → Gives (.waitevTimeout c) s fun t =>
    (t.cx c).wst = 3 ∧ (t.cx c).z = false ∧ (t.cx c).ev = none ∧ (t.cx c).pc = ((s.cx c).pc + 4) % 0x20000) ∧
  (∀ s c ev, (s.cx c).ev = some ev → ev.kind = 2 → s.timeAt ev.val = true → Gives (.waitevTimeReached c) s fun t =>
    (t.cx c).wst = 1 ∧ (t.cx c).z = true ∧ (t.cx c).ev = none) ∧
  (∀ s (a : Fin 19) q, s.slotHead = some q → q.agent = a.val → Gives (.inflightSlotGrant a) s fun t =>
    t.rack.waits = s.rack.waits.erase q ∧ (∀ c : Fin 16, a.val = c.val + 1 → (t.cx c).slot = true) ∧
      (17 ≤ a.val → t.rack.given = s.rack.given ++ [(a.val, q.dom)])) ∧
  (∀ s (a : Fin 19), (∀ q, s.slotHead = some q → q.agent ≠ a.val) → exec (.inflightSlotGrant a) s = .next s)

/-! ### The slice boundary and the latch point (11, 15) -/

/-- A slice boundary (11 R430, R433; 06 R198): the slice index and device time of the boundary, the SLICE pulse of the pins; a changed
ownership entry takes effect unless its owner holds its bakes; the pulse ends by its own command. -/
def Obligations.SliceBoundaryCompletes : Prop :=
  (∀ s, s.live = true → s.frozen 9 = false → Gives .sliceBoundary s fun t =>
    t.slice.k = s.nextIndex ∧ t.slice.last = s.time ∧ t.slice.j = s.slice.j + 1 ∧ t.pins.slicePulse = true ∧
      (s.stagedOk → t.g F.peSliceno_K = s.nextIndex % 2 ^ F.peSliceno_K.w)) ∧
  (∀ s (h : Fin 16) v p, s.live = true → s.frozen 9 = false → v < 4 → s.parityBad = [] →
    s.staged = [⟨RegId.ownHot.addr 0, 2 * h, 2, 0, v, p, 0, false, [], none⟩] → Gives .sliceBoundary s fun t =>
      t.ownHot h = if s.b F.bakeCtl_HOLD 0 then s.ownHot h else v) ∧
  (∀ s, exec .gpioSlicePulseEnd s = .next { s with pins := { s.pins with slicePulse := false } })

/-- The latch point (15 R567, R568): with hearth mode off and no ramp of its domain, each pixel of a live tray takes the duty of its word:
mode 0 the derated duty, mode 1 dark, mode 2 full. -/
def Obligations.LatchPointFormsDuties : Prop :=
  ∀ s g l k w, s.live = true → s.frozen 9 = false → g < 7 → s.hearthOn = false →
    s.tlm.age.all (·.1 < 480) = true → (kvGet s.px.live g).isSome = true →
    kvGet s.px.buf g = some l → l[k]? = some w →
    k < (if g = 6 then 384 else 16) → kvGet s.domRamps (s.ownGroup g) = none →
    s.domDark (s.ownGroup g) = false → Gives .latchPoint s fun t =>
      let p := if g = 6 then 96 + k else 16 * g + k
      (w / 2 ^ 14 % 4 = 1 → kvD t.px.d p 0 = 0) ∧ (w / 2 ^ 14 % 4 = 2 → kvD t.px.d p 0 = 16383) ∧
        (w / 2 ^ 14 % 4 = 0 → kvD t.px.d p 0 = min 16383 ((w % 2 ^ 14 * t.g F.tlmPixB_F p + 2048) / 4096))

/-! ### SPI (07) -/

/-- SPI frames (07 R241-R250): a status frame shifts out the last status word with its CRC and has no access; the words of WRITE go to
rising addresses and those of WRITEF to one; a read shifts out the word after its start byte with its CRC; each transaction counts its
words and, without a failure, leaves outcome 0. -/
def Obligations.SpiFramesComplete : Prop :=
  ∀ s f, s.spiReady = true →
    let st := beBytes 4 s.spi.status.toNat
    let out (t : State) := t.spi.sdo.map (·.toNat)
    let outcome (t : State) := bitsN t.spi.status.toNat 27 5
    let words (t : State) := bitsN t.spi.status.toNat 18 5
    let d := cmdDom (frCmd f)
    (wholeFrame f 0 5 = true → Gives (.spiStatus f) s fun t =>
      t.spi.seq = (s.spi.seq + 1) % 256 ∧ outcome t = 0 ∧ words t = 0 ∧ out t = st ++ [crc8 st] ∧ t.mem = s.mem) ∧
    (∀ n, n < 5 → s.stagedOk → s.sessionOpenFor = true → wholeFrame f 1 15 = true → frameDataOk f 0 = true → frameDataOk f 1 = true →
      cmdWords (frCmd f) = 2 → cmdAddr (frCmd f) = RegId.gpioCfg.addr n → s.accepts .spi d .gpioCfg n 0 = true →
      Gives (.spiWrite f) s fun t => outcome t = 0 ∧ words t = 2 ∧ t.g F.gpioCfg_OUT n = bitsN (frameData f 0) 8 1 ∧
        t.g F.gpioCfg_EDGE n = bitsN (frameData f 0) 9 2 ∧ t.g F.gpioCfg_OUT (n + 1) = bitsN (frameData f 1) 8 1 ∧
        t.g F.gpioCfg_EDGE (n + 1) = bitsN (frameData f 1) 9 2 ∧ t.mem = s.mem) ∧
    (∀ n, n < 6 → s.stagedOk → s.sessionOpenFor = true → wholeFrame f 3 15 = true → frameDataOk f 0 = true → frameDataOk f 1 = true →
      cmdWords (frCmd f) = 2 → cmdAddr (frCmd f) = RegId.gpioCfg.addr n → s.accepts .spi d .gpioCfg n 0 = true →
      Gives (.spiWritef f) s fun t => outcome t = 0 ∧ words t = 2 ∧ t.g F.gpioCfg_OUT n = bitsN (frameData f 1) 8 1 ∧
        t.g F.gpioCfg_EDGE n = bitsN (frameData f 1) 9 2 ∧ t.mem = s.mem) ∧
    (∀ n, n < 6 → s.sessionOpenFor = true → wholeFrame f 2 12 = true → cmdWords (frCmd f) = 1 →
      cmdAddr (frCmd f) = RegId.gpioCfg.addr n → s.accepts .spi d .gpioCfg n 0 = true → Gives (.spiRead f []) s fun t =>
        let word := beBytes 4 (s.rd .gpioCfg n).toNat
        outcome t = 0 ∧ words t = 1 ∧ out t = st ++ [crc8 st] ++ [0xA5, 0x3C] ++ word ++ [crc8 word] ∧ t.mem = s.mem)

/-- A frame whose command word fails its CRC has no access and reports code 8 with SPI_STAT.CMDCRC, in the status word of the next frame
where VDDIO has cut it (07 R264); a data word that fails its CRC is not submitted and gives code 9 (07 R246, R250, R254, R255, R267). -/
def Obligations.SpiCrcErrorsAreReported : Prop :=
  ∀ s f, s.spiReady = true → let outcome (t : State) := bitsN t.spi.status.toNat 27 5
    (∀ ws i, 5 ≤ f.sdi.length → frCrc f = false →
      ((i = .spiStatus f ∧ frOp f = 0) ∨ (i = .spiWrite f ∧ frOp f = 1) ∨ (i = .spiRead f ws ∧ frOp f = 2) ∨
        (i = .spiWritef f ∧ frOp f = 3)) → Gives i s fun t =>
          t.rbit .spiStat 0 0 = true ∧ t.mem = s.mem ∧
            if f.cut && f.unpowered then t.spi.owed.isSome = true ∧ t.spi.status = s.spi.status else outcome t = 16 + 8) ∧
    (wholeFrame f 1 10 = true → frameDataOk f 0 = false → cmdWords (frCmd f) = 1 → s.sessionOpenFor = true →
      s.gateCause .spi (cmdDom (frCmd f)) false = 0 → Gives (.spiWrite f) s fun t =>
        outcome t = 16 + 9 ∧ bitsN t.spi.status.toNat 18 5 = 0 ∧ t.rbit .spiStat 0 1 = true ∧ t.mem = s.mem)

/-- The D0 session (07 R257-R260, R268): OPEN of a usable slot asks for a challenge; the challenge is a random non-zero number, whatever
the source gives (log 2); a response that is its CMAC under the slot's key opens the session and another starts the lockout; CLOSE ends
it; the counters clear. -/
def Obligations.SessionsComplete : Prop :=
  (∀ s p d (k : Fin 4), s.accepts p d .spiSesscmd 0 (1 + 16 * k) = true → s.b F.spiSessstat_LOCKOUT = false →
    s.usable k 0 = true → Gives (.sessionOpen p d k) s fun t => t.done p = true ∧ t.sec.spiReq = some k.val ∧
      t.g F.spiSessstat_KSEL = k ∧ t.b F.spiSessstat_SESS = false ∧ t.b F.spiSessstat_CHAL = false) ∧
  (∀ s k, s.sec.spiReq = some k → Gives .sessionChallengeReady s fun t => t.b F.spiSessstat_CHAL = true ∧
    t.sec.spiReq = none ∧ ¬ (t.rd .spiChalHi = 0 ∧ t.rd .spiChalLo = 0)) ∧
  (∀ s p d (w : Word) (k : Fin 4), s.accepts p d .spiRespLo 0 w.toNat = true → s.b F.spiSessstat_CHAL = true →
    s.g F.spiSessstat_KSEL = k.val → s.usable k 0 = true →
    let m := beBytes 4 (s.rd .spiChalHi).toNat ++ beBytes 4 (s.rd .spiChalLo).toNat ++ s.uidBytes
    let resp := s.heldHi p (RegId.spiRespHi.addr 0) * 2 ^ 32 + w.toNat
    (resp = cmac64 (s.slot k).key m → Gives (.sessionResponse p d w) s fun t => t.b F.spiSessstat_SESS = true ∧
      t.b F.spiSessstat_CHAL = false ∧ t.g F.spiSessstat_RESULT = 1 ∧ t.g F.spiSessstat_FAILCNT = 0) ∧
    (resp ≠ cmac64 (s.slot k).key m → Gives (.sessionResponse p d w) s fun t => t.b F.spiSessstat_LOCKOUT = true ∧
      t.b F.spiSessstat_CHAL = false ∧ t.g F.spiSessstat_RESULT = 2 ∧ t.b F.spiSessstat_SESS = s.b F.spiSessstat_SESS)) ∧
  (∀ s p d, s.accepts p d .spiSesscmd 0 2 = true → Gives (.sessionClose p d) s fun t => t.b F.spiSessstat_SESS = false) ∧
  (∀ s, Gives .sessionLockoutEnd s fun t => t.b F.spiSessstat_LOCKOUT = false) ∧
  (∀ s p d, s.accepts p d .spiCtl 0 1 = true → Gives (.spiCounterClear p d) s fun t => t.rd .spiErrcnt = 0)

/-! ### Keys and life cycle (19) -/

/-- Key commands (19 R722-R726): a permitted LOAD takes its key as written, or unwraps it where its tag is right; REVOKE erases the key;
the end of the command stores both records, changes the slot and clears the key registers. -/
def Obligations.KeyCommandsComplete : Prop :=
  (∀ s p d (k : Fin 4) (u : Bool) (w : Fin 4),
    s.accepts p d .keyCmd 0 (1 + 16 * k + 256 * w + (if u then 4096 else 0) + 0x4B0000) = true → s.keyBusy = false →
    s.lcState ≠ 4 → (u = false → s.lcState ≠ 2) → (s.slot k).ver < s.g F.keyAttr_VER → s.b F.secStat_KEYSOFF = false →
    (u = true → s.usable w 3 = true ∧
      cmac64 (s.slot w).key (s.wrapMsg k w) = (s.rd .keyTagHi).toNat * 2 ^ 32 + (s.rd .keyTagLo).toNat) →
    Gives (.load p d k u w) s fun t => t.b F.keyStat_BUSY = true ∧ t.done p = true ∧ t.sec.job = some ⟨1, k, {
      key := beNat (if u then aesDec (beBytes 16 (s.slot w).key) s.keyBytes else s.keyBytes)
      st := 1, use := s.g F.keyAttr_USE, ver := s.g F.keyAttr_VER }⟩) ∧
  (∀ s p d (k : Fin 4), s.accepts p d .keyCmd 0 (2 + 16 * k + 0x4B0000) = true → s.keyBusy = false → s.lcState ≠ 4 →
    (s.slot k).st ≠ 0 → Gives (.revoke p d k) s fun t => t.b F.keyStat_BUSY = true ∧ t.done p = true ∧
      t.sec.job = some ⟨2, k, { s.slot k with key := 0, st := 2 }⟩) ∧
  (∀ s (j : KeyJob) (k : Fin 4), s.sec.job = some j → j.slot = k → Gives .keyCommandDone s fun t =>
    t.slot k = j.new ∧ vget t.nv.rec1 k = ⟨true, j.new⟩ ∧ vget t.nv.rec2 k = ⟨true, j.new⟩ ∧ t.sec.job = none ∧
      t.b F.keyStat_BUSY = false ∧ t.b F.keyStat_DONE = true ∧ t.g F.keyStat_RESULT = 1 ∧
      (∀ i : Fin 4, t.rd .keyData i = 0) ∧ ∀ i, i ≠ k → t.slot i = s.slot i)

/-- Life cycle (19 R728-R730, R734-R737): a change that needs no authorisation starts; one that does asks for a challenge, whose CMAC
under the authorising slot starts it and any other answer starts the lockout; the end of a change stores the state three times and, into
RETURN or SCRAP, erases every slot; a supply glitch is a tamper event. -/
def Obligations.LifeCycleCompletes : Prop :=
  (∀ s p d (x : BitVec 3) (k : Fin 4), s.accepts p d .lcCmd 0 (x.toNat + 16 * k + 0x6C00) = true → s.keyBusy = false →
    s.b F.lcStat_LOCKOUT = false →
    (lcAuth s.lcState x.toNat = 1 → (x.toNat = 2 → engs.any (fun i => s.usable i 0) = true) →
      Gives (.lcChangeRequest p d x k) s fun t => t.b F.lcStat_BUSY = true ∧ t.sec.lcJob = some x.toNat ∧
        t.b F.memLardstat_WIPING = true) ∧
    (lcAuth s.lcState x.toNat = 2 → s.usable k 4 = true → Gives (.lcChangeRequest p d x k) s fun t =>
      t.sec.lcReq = some (x.toNat, k.val) ∧ t.b F.lcStat_CHAL = false ∧ t.sec.lcJob = s.sec.lcJob)) ∧
  (∀ s q, s.sec.lcReq = some q → Gives .lcChallengeReady s fun t => t.b F.lcStat_CHAL = true ∧ t.sec.lcReq = none ∧
    t.sec.lcOpen = some q ∧ ¬ (t.rd .lcChalHi = 0 ∧ t.rd .lcChalLo = 0)) ∧
  (∀ s p d (w : Word) (k : Fin 4) x, s.accepts p d .lcRespLo 0 w.toNat = true → s.sec.lcOpen = some (x, k.val) →
    s.usable k 4 = true →
    let m := beBytes 4 (s.rd .lcChalHi).toNat ++ beBytes 4 (s.rd .lcChalLo).toNat ++ s.uidBytes ++ [0, 0, 0, x]
    let resp := s.heldHi p (RegId.lcRespHi.addr 0) * 2 ^ 32 + w.toNat
    (resp = cmac64 (s.slot k).key m → Gives (.lcResponse p d w) s fun t => t.b F.lcStat_BUSY = true ∧ t.sec.lcJob = some x) ∧
    (resp ≠ cmac64 (s.slot k).key m → Gives (.lcResponse p d w) s fun t => t.b F.lcStat_LOCKOUT = true ∧
      t.g F.lcStat_RESULT = 4)) ∧
  (∀ s x, s.sec.lcJob = some x → x < 5 → s.stagedOk → Gives .lcChangeDone s fun t => t.lcState = x ∧ t.sec.lcJob = none ∧
    t.nv.lc0 = x ∧ t.nv.lc1 = x ∧ t.nv.lc2 = x ∧ t.b F.lcStat_BUSY = false ∧ t.b F.lcStat_DONE = true ∧
      ((x = 3 ∨ x = 4) → ∀ i, t.slot i = {})) ∧
  (∀ s, Gives .lcLockoutEnd s fun t => t.b F.lcStat_LOCKOUT = false) ∧
  (∀ s, s.pwr.mode = .run → s.clk.fsys = true → Gives .vddGlitch s fun t => t.fltBit 22 = true ∧
    t.b F.secStat_VDD = true ∧ t.b F.secStat_KEYSOFF = true ∧ t.g F.secStat_TAMPCNT = min 255 (s.nv.tamp + 1) ∧
      t.b F.memLardstat_WIPING = true)

/-! ### The network port (08) -/

/-- PHY and PLCA (08 R274, R275, R301): PHYON takes the PLCA settings; node 0 is the coordinator; a BEACON of the right kind is stamped
with device time; a follower loses PLCAOK without one; TIME_HOLDOVER leaves LOCKED; the counters clear. -/
def Obligations.PhyAndBeaconsComplete : Prop :=
  (∀ s, s.live = true → s.b F.netCfg_PHYEN = true → s.b F.clkStat_REFACT = true → s.b F.netStat_PHYON = false →
    Gives .phyReady s fun t => t.b F.netStat_PHYON = true ∧ t.net.plca = (s.rd .netPlca).toNat ∧
      (t.b F.netStat_COORD = true ↔ t.plcaId = 0) ∧ (t.plcaId = 0 → t.b F.netStat_PLCAOK = true)) ∧
  (∀ s, s.live = true → s.b F.netStat_PHYON = true → s.plcaId ≠ 0 →
    Gives .beaconReceive s fun t => t.net.beacon = some (s.time, s.tick) ∧ t.b F.netStat_PLCAOK = true) ∧
  (∀ s, s.live = true → s.b F.netStat_PHYON = true → s.plcaId = 0 →
    Gives .beaconTransmit s fun t => t.net.beacon = some (s.time, s.tick)) ∧
  (∀ s, s.live = true → s.plcaId ≠ 0 →
    Gives .plcaBeaconLoss s fun t => t.net.beacon = none ∧ t.b F.netStat_PLCAOK = false ∧
      (s.b F.netStat_PLCAOK = true → t.b F.netStat_PLCACHG = true)) ∧
  (∀ s, s.live = true → s.g F.netTimecfg_ROLE = 0 → s.g F.netTstat_STATE = 2 →
    Gives .timeHoldover s fun t => t.g F.netTstat_STATE = 3 ∧ t.b F.netStat_TLOCK = false ∧ t.b F.netStat_TCHG = true) ∧
  (∀ s p d, s.accepts p d .netCtl 0 1 = true →
    Gives (.netCounterClear p d) s fun t => t.rd .netCnt0 = 0 ∧ t.rd .netCnt1 = 0 ∧ t.rd .netCnt2 = 0)

/-- Reception (08 R278-R289): a frame that fails its checks, or finds the four receive buffers full, is counted and dropped; one that is
held stays in its buffer (log 72); one whose tag is wrong counts as an authentication failure; a fresh message goes to the ingress rack of
its domain, whole, and marks its counter; one already marked, or too old, is a replay. No dropped frame reaches a rack or the freshness
state. -/
def Obligations.FramesAreReceived : Prop :=
  ∀ s (fr : List Byte), let f := fr.map (·.toNat)
    let d := zDom f
    let c := zRctr f
    let h := kvD s.net.h d 0
    let kept (t : State) := t.rack = s.rack ∧ t.net = s.net ∧ t.mem = s.mem
    (∀ held, s.live = true → s.b F.netStat_PHYON = true → s.forMe f = true → (s.frameOk f = false ∨ 4 ≤ s.net.rx.length) →
      Gives (.frameReceive fr held) s fun t => Counts F.netCnt0_RXDROP s t ∧ kept t ∧
        (s.frameOk f = true → t.b F.netStat_RXOVF = true)) ∧
    (s.live = true → s.b F.netStat_PHYON = true → s.forMe f = true → s.frameOk f = true → s.net.rx.length < 4 →
      exec (.frameReceive fr true) s = .next { s with net := { s.net with rx := s.net.rx ++ [(f, f.take 6 == s.mac)] } }) ∧
    (s.net.rx = [] → s.live = true → s.b F.netStat_PHYON = true → s.forMe f = true → s.frameOk f = true → nth8 f 14 / 16 = 1 →
      nth8 f 15 % 32 = 0 → 42 + zPlen f ≤ f.length →
      s.zspTag d (f.take (30 + zPlen f)) ≠ zTag f →
      Gives (.frameReceive fr false) s fun t => Counts F.netCnt1_AUTHFAIL s t ∧ t.b F.netStat_AUTHFAIL = true ∧ kept t) ∧
    (s.authentic f = true → s.admits f = true → h < c → Gives (.frameReceive fr false) s fun t =>
      (t.rq (4 + d)).map (·.body) = (s.rq (4 + d)).map (·.body) ++ [f] ∧ (t.rq (4 + d)).getLast?.map (·.w0) = some (2 + d * 2 ^ 22) ∧
        kvD t.net.h d 0 = c ∧ bitN (kvD t.net.win d 0) 0 = true ∧ Counts F.netCnt0_RXOK s t) ∧
    (s.authentic f = true → s.admits f = true → c ≠ 0 → c ≤ h → h ≤ c + 31 → bitN (kvD s.net.win d 0) (h - c) = false →
      Gives (.frameReceive fr false) s fun t => (t.rq (4 + d)).map (·.body) = (s.rq (4 + d)).map (·.body) ++ [f] ∧
        kvD t.net.h d 0 = h ∧ bitN (kvD t.net.win d 0) (h - c) = true) ∧
    (s.authentic f = true → (c = 0 ∨ c + 31 < h ∨
        (c ≤ h ∧ bitN (kvD s.net.win d 0) (h - c) = true ∧ kvD s.net.kept d [] = [])) →
      Gives (.frameReceive fr false) s fun t => Counts F.netCnt1_REPLAY s t ∧ t.b F.netStat_REPLAY = true ∧ kept t)

/-- REGRD and REGWR (08 R291-R294): a REGRD of one word answers with it; a REGWR of one word writes it, and both answers carry code,
index and words done. -/
def Obligations.RegisterMessagesComplete : Prop :=
  ∀ s s1 d f n, s1.portsCalm = true → s1.rackOpen (8 + d) = true → n < 6 → s1.accepts .net d .gpioCfg n 0 = true →
    pAddr (zPay f) = RegId.gpioCfg.addr n → pCnt (zPay f) = 1 →
    (TakesMsg s 1 d f s1 → Gives (.regrd 0) s fun t => ∃ a, t.newest d = some a ∧ zType a = 6 ∧ zSeq a = zSeq f % 65536 ∧
      zPay a = [1, 0, 0, 0, 0, 1] ++ beBytes 4 (s1.rd .gpioCfg n).toNat ∧ t.mem = s1.mem) ∧
    (TakesMsg s 2 d f s1 → zAckreq f = true → Gives (.regwr 0) s fun t =>
      let w := beNat (sub8 (zPay f) 6 4)
      (∃ a, t.newest d = some a ∧ zType a = 6 ∧ zSeq a = zSeq f % 65536 ∧ zPay a = [2, 0, 0, 0, 0, 1]) ∧
        t.g F.gpioCfg_OUT n = bitsN w 8 1 ∧ t.g F.gpioCfg_EDGE n = bitsN w 9 2 ∧ t.mem = s1.mem)

/-- TRAY (08 R297, R298): the pixel words of a message that nothing refuses go to their hot tray and to no other byte; a commit appends
the tray to the pending queue of its domain, and a message without one leaves the queue. -/
def Obligations.TrayMessagesComplete : Prop :=
  ∀ s s1 d f, TakesMsg s 3 d f s1 → let p := zPay f
    let a := trayBase (0x80 + tHot p) + 32 + 2 * tFirst p
    let l := kvD s1.net.trays d []
    s1.memOk → s1.ecc = [] → payOk 3 p = true → s1.trayRefusal d p = (0, s1) → Gives .tray s fun t =>
      (∀ i, i < tCount p → pixelAt t.mem (a + 2 * i) = beNat (sub8 p (14 + 2 * i) 2) % 65536) ∧
      (∀ b, (b < a ∨ a + 2 * tCount p ≤ b) → memGet t.mem b = memGet s1.mem b) ∧
      (tCommit p = false → kvD t.net.trays d [] = l) ∧
      (tCommit p = true → ∃ q, kvD t.net.trays d [] = l ++ [q] ∧ q.hot = tHot p ∧ q.ptime = tPtime p)

/-- TIME and ACK (08 R296, R303, R304): a used TIME message steps the device time where the offset exceeds 16000 ticks, and otherwise
slews it by that offset; the acknowledgement of the outstanding EVENT ends it. -/
def Obligations.TimeAndAckMessagesComplete : Prop :=
  (∀ s s1 d f x, s.net.job = none → s.takeMsg 4 = (some (d, x), s1) → x.body = f → zDom f = d → x.w1 = 1 →
    s1.g F.netTimecfg_ROLE = 0 → s1.g F.netTimecfg_TDOM = d → 128 ≤ nth8 (zPay f) 0 →
    let e : Int := (x.w2 : Int) - s1.g F.netTimecfg_PDLY - beNat (sub8 (zPay f) 4 8)
    Gives .time s fun t => t.rd .netTofs = BitVec.ofInt 32 e ∧
      (16000 < e.natAbs → t.time = timeBack s1.time e ∧ t.g F.netTstat_STATE = 1 ∧ t.net.slew = 0) ∧
      (e.natAbs ≤ 16000 → t.time = s1.time ∧ t.net.slew = -e ∧
        t.g F.netTstat_STATE = servoState (s1.g F.netTstat_STATE) t.net.good e.natAbs)) ∧
  (∀ s s1 d f e, TakesMsg s 6 d f s1 → kvGet s1.net.evOut d = some e →
    (zSeq f = e.seq → nth8 (zPay f) 0 = 5 → nth8 (zPay f) 1 = 0 → Gives .ack s fun t => kvGet t.net.evOut d = none) ∧
    (zSeq f ≠ e.seq → Gives .ack s fun t => kvGet t.net.evOut d = some e))

/-- EVENTs (05 R150; 08 R296): a domain whose asserting set has gained a source sends an EVENT with the set, its top source and device
time, once the gap has passed; it is repeated up to RETRY times and then abandoned, and renewed while a source asserts. The sequence
number is a free value (log 2). -/
def Obligations.EventsAreSent : Prop :=
  ∀ s (x : Dom), s.rackOpen (8 + x.val) = true →
    let sent (t : State) := ∃ e, kvGet t.net.evOut x.val = some e ∧ e.reps = 0 ∧ t.newest x.val = some e.frame ∧ zType e.frame = 5 ∧
      zDom e.frame = x.val ∧ zAckreq e.frame = true ∧
      zPay e.frame = beBytes 12 ((s.assertSet x.val).foldl (fun n k => n + 2 ^ k) 0)
        ++ beBytes 2 ((s.intTopWord x.val).toNat % 128 + bitsN (s.intTopWord x.val).toNat 8 4 * 2 ^ 8) ++ beBytes 8 s.time
    (∀ n, s.canSend = true → s.evRoute x.val = true → kvGet s.net.evOut x.val = none → n < 96 → s.asserting x.val n = true →
      n ∉ kvD s.net.evSet x.val [] → (∀ t0, kvGet s.net.evTick x.val = some t0 → s.g F.intCfg_EVGAP x.val * 16000 ≤ s.tick - t0) →
      Gives (.eventSend x) s sent) ∧
    (∀ e, s.live = true → kvGet s.net.evOut x.val = some e →
      (e.reps < s.g F.netEvcfg_RETRY → Gives (.eventRetry x) s fun t =>
        kvGet t.net.evOut x.val = some { e with reps := e.reps + 1 } ∧ t.newest x.val = some e.frame ∧ Counts F.netCnt2_TXRETRY s t) ∧
      (s.g F.netEvcfg_RETRY ≤ e.reps → Gives (.eventRetry x) s fun t =>
        kvGet t.net.evOut x.val = none ∧ bitN t.net.evLost x.val = true ∧ t.b F.netStat_EVLOST = true ∧ t.rack = s.rack)) ∧
    (∀ n, s.canSend = true → bitN s.net.evLost x.val = true → s.evRoute x.val = true → kvGet s.net.evOut x.val = none →
      n < 96 → s.asserting x.val n = true → Gives (.eventRenew x) s sent)

/-- Transmission (08 R276, R302; 09 R342): an opportunity sends the head of the egress rack that the arbiter grants; a collision keeps the
frame three times, then drops it; the oldest ACK held too long is dropped; a time master sends its stamp, again after a collision, up to
three times (log 73). -/
def Obligations.FramesAreTransmitted : Prop :=
  (∀ s s1 d x rest, s.canSend = true → ({ s with net := { s.net with sent := [] } } : State).egressPick = (some d, s1) →
    s1.rq (8 + d) = x :: rest → s1.rackCalm (8 + d) = true → Gives (.transmitOpportunity false) s fun t => t.net.sent.head? = some x.body) ∧
  (∀ s s1 d x rest, s.canSend = true → s.egressPick = (some d, s1) → s1.rq (8 + d) = x :: rest → s1.rackCalm (8 + d) = true →
    Gives (.transmitOpportunity true) s fun t => Counts F.netCnt2_TXRETRY s1 t ∧
      (kvD s1.net.tries d 0 < 3 → t.rq (8 + d) = x :: rest ∧ kvD t.net.tries d 0 = kvD s1.net.tries d 0 + 1) ∧
      (3 ≤ kvD s1.net.tries d 0 → t.rq (8 + d) = rest ∧ kvD t.net.tries d 0 = 0 ∧ t.b F.netStat_TXDROP = true ∧
        t.g F.rackRet_LAST (8 + d) = 5)) ∧
  (∀ s (d : Dom) l x rest, s.live = true → s.rq (8 + d.val) = l ++ x :: rest → s.rackCalm (8 + d.val) = true →
    l.all (fun y => zType y.body != 6) = true → zType x.body = 6 →
    Gives (.egressAckTimeout d) s fun t => t.rq (8 + d.val) = l ++ rest ∧ t.b F.netStat_TXDROP = true) ∧
  (∀ s b, s.net.beacon = some b → s.canSend = true → s.g F.netTimecfg_ROLE = 1 → Gives (.timeTransmit true) s fun t =>
    Counts F.netCnt2_TXRETRY s t ∧ t.net.sent = s.net.sent ∧
      (s.net.timeTries < 3 → t.net.timeTries = s.net.timeTries + 1) ∧
      (3 ≤ s.net.timeTries → t.net.timeTries = 0 ∧ t.b F.netStat_TXDROP = true)) ∧
  (∀ s b, s.net.beacon = some b → s.canSend = true → s.g F.netTimecfg_ROLE = 1 → Gives (.timeTransmit false) s fun t =>
    ∃ f, t.net.sent = [f] ∧ zType f = 4 ∧ zDom f = s.g F.netTimecfg_TDOM ∧ f.take 6 = s.macOf .netMcastHi .netMcastLo 0 ∧
      zPay f = [128, s.plcaId] ++ beBytes 2 (s.g F.netTimecfg_TINT) ++ beBytes 8 b.1)

/-! ### Racks, semaphores, waits, COPYs (09) -/

/-- Rack commands (09 R328, R331-R336): the first three words pushed are kept, the fourth commits the descriptor with STATUS 0 and the
domain of the push, or sets PUSHFULL where the rack has no room; a pop returns the oldest descriptor and keeps its words for the
port; a rack is enabled only with a partition that meets no other, and only a disabled empty rack takes a partition. -/
def Obligations.RackCommandsComplete : Prop :=
  ∀ s (p : Port) (d : Dom) (n : Fin 32) (w : Word),
    let dom (r : RegId) := s.useDom p d r n
    let l := kvD s.rack.part (prKey p.code (dom .rackPush) n) []
    let x := descOf (l ++ [w.toNat])
    (s.accepts p d .rackPush n w.toNat = true → s.prod n < 17 →
      (l.length < 3 → Gives (.rackPush p d n w) s fun t => t.done p = true ∧ t.rq n = s.rq n ∧
        kvD t.rack.part (prKey p.code (dom .rackPush) n) [] = l ++ [w.toNat]) ∧
      (l.length = 3 → descOk x = true → s.rackOpen n = true → Gives (.rackPush p d n w) s fun t => t.done p = true ∧
        t.rq n = s.rq n ++ [descCommit x (dom .rackPush)] ∧ kvD t.rack.part (prKey p.code (dom .rackPush) n) [] = []) ∧
      (l.length = 3 → descOk x = true → (s.rackEn n = false ∨ s.rackFull n = true) → Gives (.rackPush p d n w) s fun t =>
        t.b F.rackStat_PUSHFULL n = true ∧ t.rq n = s.rq n)) ∧
    (s.accepts p d .rackPop n 0 = true → s.cons n < 17 → s.rackEn n = true → s.rackCalm n = true →
      (∀ y rest, s.rq n = y :: rest → Gives (.rackPop p d n) s fun t => t.rq n = rest ∧ t.done p = true ∧
        (kvD t.acc p.code {}).data = BitVec.ofNat 32 (popWord y true) ∧ kvGet t.rack.hold (prKey p.code (dom .rackPop) n) = some y) ∧
      (s.rq n = [] → Gives (.rackPop p d n) s fun t => t.rq n = [] ∧ t.done p = true ∧
        (kvD t.acc p.code {}).data.toNat / 2 ^ 30 = 1)) ∧
    (s.accepts p d .rackCfg n w.toNat = true → w.toNat % 2 = 1 → s.rackEn n = false →
      (s.partOk n = true → Gives (.rackEnable p d n w) s fun t => t.rackEn n = true) ∧
      (s.partOk n = false → Gives (.rackEnable p d n w) s fun t => t.rackEn n = false ∧ t.b F.rackGstat_OVERLAP = true)) ∧
    (s.accepts p d .rackPart n w.toNat = true → 1 ≤ bitsN w.toNat 16 10 → bitsN w.toNat 16 10 ≤ 512 →
      (s.rackEn n = false → s.rq n = [] → Gives (.rackPartWrite p d n w) s fun t =>
        t.g F.rackPart_BASE n = bitsN w.toNat 0 9 ∧ t.g F.rackPart_SIZE n = bitsN w.toNat 16 10) ∧
      ((s.rackEn n = true ∨ s.rq n ≠ []) → Gives (.rackPartWrite p d n w) s fun t =>
        t.rd .rackPart n = s.rd .rackPart n ∧ t.b F.rackGstat_PARTERR = true))

/-- Semaphores and waits (09 R344-R350): a take of a COUNT semaphore counts it down and of a free LOCK semaphore holds it; a take that
cannot be granted changes nothing; a give frees it, or hands it to its first waiter, whose instruction completes; a wrong give sets
BADGIVE; only an idle semaphore is configured; a wait that times out is counted and completes with TIMEOUT: the instruction of a
context, the COPY of the SPI burst engine, the answer or EVENT of the network, which is not sent; of two contexts that wait
for the semaphores of each other the later one completes with DEADLOCK. -/
def Obligations.SemaphoresAndWaitsComplete : Prop :=
  (∀ s (p : Port) (d : Dom) (n : Fin 32) (w : Word),
    let agent := agentOf p d
    let dom (r : RegId) := s.useDom p d r n
    let data (t : State) := (kvD t.acc p.code {}).data
    (s.accepts p d .semTake n 0 = true →
      (s.b F.semCfg_MODE n = true → 0 < s.g F.semStat_COUNT n → Gives (.semTake p d n) s fun t =>
        t.g F.semStat_COUNT n = s.g F.semStat_COUNT n - 1 ∧ data t = 0x80000000) ∧
      (s.b F.semCfg_MODE n = false → s.b F.semStat_HELD n = false → Gives (.semTake p d n) s fun t =>
        t.b F.semStat_HELD n = true ∧ t.g F.semStat_HOLDER n = agent ∧ t.g F.semStat_HDOM n = dom .semTake ∧ data t = 0x80000000) ∧
      (((s.b F.semCfg_MODE n = true ∧ s.g F.semStat_COUNT n = 0) ∨
          (s.b F.semCfg_MODE n = false ∧ s.b F.semStat_HELD n = true ∧ s.g F.semStat_HOLDER n ≠ agent)) →
        Gives (.semTake p d n) s fun t => data t = 0x40000000 ∧ t.regs = s.regs)) ∧
    (s.accepts p d .semGive n 1 = true → s.semWaiters n = [] →
      (s.b F.semCfg_MODE n = true → s.g F.semStat_COUNT n < s.g F.semCfg_MAX n → Gives (.semGive p d n) s fun t =>
        t.g F.semStat_COUNT n = s.g F.semStat_COUNT n + 1) ∧
      (s.b F.semCfg_MODE n = false → s.b F.semStat_HELD n = true → s.g F.semStat_HOLDER n = agent →
        s.g F.semStat_HDOM n = dom .semGive → Gives (.semGive p d n) s fun t => t.b F.semStat_HELD n = false) ∧
      (s.b F.semCfg_MODE n = false → s.b F.semStat_HELD n = true → s.g F.semStat_HOLDER n ≠ agent →
        Gives (.semGive p d n) s fun t => t.b F.semStat_HELD n = true ∧ t.b F.semStat_BADGIVE n = true)) ∧
    (∀ x ws, s.accepts p d .semGive n 1 = true → s.semWaiters n = x :: ws → 1 ≤ x.agent → x.agent ≤ 16 → x.dom < 4 →
      s.b F.semCfg_MODE n = false → s.b F.semStat_HELD n = true → s.g F.semStat_HOLDER n = agent →
      s.g F.semStat_HDOM n = dom .semGive → Gives (.semGive p d n) s fun t => t.b F.semStat_HELD n = true ∧
        t.g F.semStat_HOLDER n = x.agent ∧ t.rack.waits = s.rack.waits.erase x ∧ (t.cx (ctxOfAgent x.agent)).wst = 1 ∧
          (t.cx (ctxOfAgent x.agent)).st = .runnable) ∧
    (s.accepts p d .semCfg n w.toNat = true → 1 ≤ bitsN w.toNat 16 16 →
      (s.semIdle n = true → Gives (.semConfigWrite p d n w) s fun t =>
        t.g F.semCfg_MODE n = w.toNat % 2 ∧ t.g F.semCfg_MAX n = bitsN w.toNat 16 16) ∧
      (s.semIdle n = false → Gives (.semConfigWrite p d n w) s fun t =>
        t.rd .semCfg n = s.rd .semCfg n ∧ t.b F.semStat_BADGIVE n = true))) ∧
  (∀ s (a : Fin 19) x, s.waitOf a.val = some x → 1 ≤ a.val → a.val ≤ 16 → x.what ≠ .slot →
    Gives (.waitTimeout a) s fun t => t.rack.waits = s.rack.waits.erase x ∧ Counts F.dlkCnt_TIMEOUT s t ∧
      (t.cx (ctxOfAgent a.val)).wst = 3 ∧ (t.cx (ctxOfAgent a.val)).z = false ∧ (t.cx (ctxOfAgent a.val)).st = .runnable) ∧
  (∀ s x j, s.waitOf 18 = some x → x.what ≠ .slot → s.rack.copy = some j → j.guard = false → j.rack < 32 →
    Gives (.waitTimeout 18) s fun t => t.rack.waits = s.rack.waits.erase x ∧ Counts F.dlkCnt_TIMEOUT s t ∧ t.rack.copy = none ∧
      t.g F.rackRet_LAST j.rack = 3) ∧
  (∀ s x n y, s.waitOf 17 = some x → x.what = .push n y → Gives (.waitTimeout 17) s fun t =>
    t.rack.waits = s.rack.waits.erase x ∧ Counts F.dlkCnt_TIMEOUT s t ∧ t.b F.netStat_TXDROP = true ∧ t.rack.q = s.rack.q) ∧
  (∀ s x y n m, s.live = true → s.rack.waits = [x, y] → 1 ≤ x.agent → x.agent ≤ 16 → 1 ≤ y.agent → y.agent ≤ 16 → x.agent ≠ y.agent →
    x.what = .take n → y.what = .take m → s.b F.semCfg_MODE n = false → s.b F.semCfg_MODE m = false →
    s.b F.semStat_HELD n = true → s.b F.semStat_HELD m = true → s.g F.semStat_HOLDER n = y.agent →
    s.g F.semStat_HOLDER m = x.agent → (x.start < y.start ∨ (x.start = y.start ∧ x.agent < y.agent)) →
    Gives .deadlockScan s fun t => t.rack.waits = [x] ∧ Counts F.dlkCnt_DEADLOCK s t ∧
      (t.cx (ctxOfAgent y.agent)).wst = 4 ∧ (t.cx (ctxOfAgent y.agent)).st = .runnable)

/-- COPY (09 R341, R342): the SPI burst engine takes the descriptor that its arbiter grants and moves its words one by one, each to its own
address and no other; after the last word the descriptor retires DONE. -/
def Obligations.CopyMovesItsWords : Prop :=
  ∀ s, s.live = true → s.memOk → s.ecc = [] → s.posted = [] → s.rack.waits = [] →
    let inData (a dom : Nat) := a % 4 = 0 ∧ 0x840000 ≤ a ∧ a < 0x850000 ∧ s.memOwner a = dom
    let moved (a b : Nat) (t : State) := memWord t.mem b = memWord s.mem a ∧
      ∀ c, (c < b ∨ b + 4 ≤ c) → memGet t.mem c = memGet s.mem c
    (∀ j, s.rack.copy = some j → s.gateCause .dma (s.ownRack j.rack) false = 0 → bitN j.d.w3 9 = false →
      inData (copySrc j.d j.i) (s.ownRack j.rack) → inData (copyDst j.d j.i) (s.ownRack j.rack) → bitN j.d.w0 21 = false →
      (j.i + 1 < copyCount j.d → Gives (.copyExecute 1) s fun t => moved (copySrc j.d j.i) (copyDst j.d j.i) t ∧
        t.rack.copy = some { j with i := j.i + 1, guard := false }) ∧
      (j.i + 1 = copyCount j.d → Gives (.copyExecute 1) s fun t => moved (copySrc j.d j.i) (copyDst j.d j.i) t ∧
        t.rack.copy = none ∧ t.g F.rackRet_LAST j.rack = 1)) ∧
    (∀ n s1 x rest, n < 32 → s.rack.copy = none → s.copyPick = (some n, s1) → s1.rq n = x :: rest → x.errs = [] → s1.posted = [] →
      s1.rackCalm n = true → s1.mem = s.mem → bitN x.w0 21 = false → bitN x.w3 9 = false → 2 ≤ copyCount x →
      s1.gateCause .dma (s1.ownRack n) false = 0 →
      inData x.w1 (s.ownRack n) → inData x.w2 (s.ownRack n) → Gives (.copyExecute 1) s fun t =>
        moved x.w1 x.w2 t ∧ t.rq n = rest ∧ t.rack.copy = some ⟨n, x, 1, false⟩)

/-! ### Memory (10) -/

/-- Memory maintenance (10 R372-R389): a write-back stores the corrected word; the sweep moves on, corrects and captures a single-bit error,
and reports an uncorrectable word of SRAM to the owner of its unit; a spared row leaves no corrected word pending; a wipe zeroes the
larder and no other byte; a fill copies the pixel words of its tray. -/
def Obligations.MemoryMaintenanceCompletes : Prop :=
  (∀ s (a : Addr), s.memOk → a.toNat ∈ s.memc.wb →
    let e := kvD s.ecc a.toNat 0
    syndFix (synd e) = true → Gives (.eccWriteBack a) s fun t => a.toNat ∉ t.memc.wb ∧
      kvD t.ecc a.toNat 0 = 0 ∧ memWord t.mem a.toNat = memWord s.mem a.toNat ^^^ dataFlip (e ^^^ 2 ^ (synd e % 64)) ∧
      ∀ b, (b < a.toNat ∨ a.toNat + 4 ≤ b) → memGet t.mem b = memGet s.mem b) ∧
  (∀ s (b : Fin 11) (flip : BitVec 39), s.pwr.sram = true → s.clk.fsys = true →
    let word := kvD s.memc.ptr b 0
    let a := bankBase b + 4 * word
    let e := kvD s.ecc a 0 ^^^ flip.toNat
    Gives (.crumbSweepRead b flip) s fun t => t.mem = s.mem ∧
      kvD t.memc.ptr b 0 = (if word + 1 < bankWords b then word + 1 else 0) ∧
      (e = 0 → t.g F.memEccstat_CORR = s.g F.memEccstat_CORR) ∧
      (word < bankWords b → syndFix (synd e) = true → Counts F.memEccstat_CORR s t ∧ a ∈ t.memc.wb ∧ t.b F.memEccstat_CE = true ∧
        t.rd .memCecap = BitVec.ofNat 32 (a + synd e * 2 ^ 24)) ∧
      (b ≠ 10 → word < bankWords b → synd e ≠ 0 → syndFix (synd e) = false → t.b F.memEccstat_UE = true ∧
        t.fltBit (92 + s.memOwner a) = true)) ∧
  (∀ s (b : Fin 11) r k, (s.bank b).copying = some (r, k) → s.clk.fsys = true → Gives (.rowSpareComplete b) s fun t =>
    (t.bank b).used = (s.bank b).used + 1 ∧ (t.bank b).lastRow = r ∧ t.b F.memEccstat_SPARED = true ∧ t.fltBit 13 = true ∧
      ∀ i, i < 32 → syndFix (synd (kvD s.ecc (bankBase b + 128 * r + 4 * i) 0)) = true →
        kvD t.ecc (bankBase b + 128 * r + 4 * i) 0 = 0) ∧
  (∀ s, s.memc.wipe ≠ 0 → Gives .larderWipeDone s fun t => t.memc.wipe = 0 ∧ t.b F.memLardstat_WIPING = false ∧
    t.b F.memLardstat_WIPED = true ∧ (∀ a, 0xB00000 ≤ a → a < 0xB01000 → memGet t.mem a = 0) ∧
      ∀ a, (a < 0xB00000 ∨ 0xB01000 ≤ a) → memGet t.mem a = memGet s.mem a) ∧
  (∀ s (c : Fin 16) o, (s.cx c).offer = some o → o.tray < 0x60 → s.clk.fsys = true → s.fills c o = true → s.ecc = [] →
    Gives (.fetchAheadFillDone c) s fun t => t.mem = s.mem ∧ ∃ ws, (t.cx c).offer = some { o with filled := true, words := ws } ∧
      ws.length = 480 ∧ ∀ i, i < 480 → ws.getD i 0 = pixelAt s.mem (trayBase o.tray + 32 + 2 * i))

/-- The image store (10 R394-R402; 03 R69): a PROGRAM reads its words first and its end stores them in the bank; INVALIDATE clears the
bank's VALID bit and then its MAGIC; VERIFY and SWAP end with the result of the check, a SWAP going on to load the second shadow
tables; CANCEL ends a pending swap; the boot takes the valid bank with the higher sequence number, A of equal ones, or reports FLT8. -/
def Obligations.ImageStoreCompletes : Prop :=
  (∀ s p (d : Dom) (bank : Bool), let k := if bank then 1 else 0
    let valid (t : State) := t.b (if bank then F.imgStat_BVALID else F.imgStat_AVALID)
    s.b F.imgStat_BUSY = false →
    (s.store.active ≠ some k → (s.b F.imgStat_SWAPPEND = false ∨ s.store.target ≠ k) →
      (∀ count : BitVec 7, s.accepts p d .imgCmd 0 (imgWord 1 bank count.toNat) = true → s.ecc = [] → 1 ≤ count.toNat →
        count.toNat ≤ 64 → s.g F.imgSrc_SRC % 4 = 0 → (∀ i, i < count.toNat → srcOk (s.g F.imgSrc_SRC + 4 * i) = true) →
        s.g F.imgDst_OFFSET % 4 = 0 → s.g F.imgDst_OFFSET % 256 + 4 * count.toNat ≤ 256 → Gives (.program p d bank count) s fun t =>
          t.b F.imgStat_BUSY = true ∧ valid t = false ∧ t.mem = s.mem ∧ t.store.job = some ⟨1, k, s.g F.imgDst_OFFSET,
            (upto count.toNat).map (fun i => memWord s.mem (s.g F.imgSrc_SRC + 4 * i)), [], false⟩) ∧
      (s.accepts p d .imgCmd 0 (imgWord 4 bank 0) = true → Gives (.invalidate p d bank) s fun t => t.b F.imgStat_BUSY = true ∧
        valid t = false ∧ ∃ j, t.store.job = some j ∧ j.op = 4 ∧ j.bank = k ∧ j.dst = 0 ∧ j.words = [0])) ∧
    (s.accepts p d .imgCmd 0 (imgWord 2 bank 0) = true → Gives (.verify p d bank) s fun t => t.b F.imgStat_BUSY = true ∧
      t.store.job = some { op := 2, bank := k, dst := 0, words := [], key := s.imgKeys, loading := false }) ∧
    (s.accepts p d .imgCmd 0 (imgWord 3 bank 0) = true → s.store.active ≠ some k → Gives (.swap p d bank) s fun t =>
      t.b F.imgStat_BUSY = true ∧
        t.store.job = some { op := 3, bank := k, dst := 0, words := [], key := s.imgKeys, loading := false }) ∧
    (s.accepts p d .imgCmd 0 (imgWord 5 false 0) = true → s.b F.imgStat_SWAPPEND = true → Gives (.cancel p d) s fun t =>
      t.b F.imgStat_SWAPPEND = false ∧ t.g F.imgStat_RESULT = 9 ∧ t.b F.imgStat_DONE = true)) ∧
  (∀ s j, s.store.job = some j →
    let ended (t : State) (result : Nat) := t.store.job = none ∧ t.b F.imgStat_BUSY = false ∧
      t.g F.imgStat_RESULT = result ∧ t.b F.imgStat_DONE = true
    let r := s.verifyBank j.bank j.key
    ((j.op = 1 ∨ j.op = 4) → s.memOk → Gives .programDone s fun t => ended t 1 ∧
      (∀ i, i < j.words.length → memWord t.mem (imgBase j.bank + j.dst + 4 * i) = nth8 j.words i % 2 ^ 32) ∧
      ∀ a, (a < imgBase j.bank + j.dst ∨ imgBase j.bank + j.dst + 4 * j.words.length ≤ a) → memGet t.mem a = memGet s.mem a) ∧
    (j.op = 2 → j.loading = false → Gives (.verifyDone []) s fun t => ended t r.1 ∧ t.mem = s.mem ∧
        (t.b (if j.bank = 0 then F.imgStat_AVALID else F.imgStat_BVALID) = true ↔ r.1 = 1)) ∧
    (j.op = 3 → j.loading = false → r.1 = 1 → (∀ q, s.activeSeq = some q → q < r.2.1) → Gives (.verifyDone []) s fun t =>
        t.store.job = some { j with loading := true }) ∧
    (j.op = 3 → j.loading = false → r.1 ≠ 1 → Gives (.verifyDone []) s fun t => ended t r.1) ∧
    (j.op = 3 → j.loading = true → Gives .shadowLoadDone s fun t => t.b F.imgStat_SWAPPEND = true ∧ t.b F.imgStat_BUSY = false ∧
      t.store.job = none ∧ t.store.target = j.bank ∧ t.store.next = (s.readTabs j.bank).1)) ∧
  (∀ s, s.pwr.mode = .startup → s.pwr.pll = true → s.pwr.verified = false → s.clk.fsys = true →
    let a := s.verifyBank 0 s.imgKeys
    let b := a.2.2.2.verifyBank 1 s.imgKeys
    Gives (.imageVerificationDone []) s fun t => t.pwr.verified = true ∧ t.mem = s.mem ∧
      (a.1 = 1 → (b.1 ≠ 1 ∨ b.2.1 ≤ a.2.1) → t.store.active = some 0) ∧
      (b.1 = 1 → (a.1 ≠ 1 ∨ a.2.1 < b.2.1) → t.store.active = some 1) ∧
      (a.1 ≠ 1 → b.1 ≠ 1 → t.store.active = none ∧ t.b F.pwrStat_NOIMG = true ∧ t.fltBit 8 = true)) ∧
  (∀ s bank, s.store.active = some bank → s.memOk → s.pwr.mode = .startup → s.pwr.verified = true → s.pwr.sram = true →
    s.clk.fsys = true → s.pwr.loaded = false →
    let l := (s.sectBytes bank 1).1.getD []
    Gives .imageLoadDone s fun t => t.pwr.loaded = true ∧
      (∀ i, i < l.length → memGet t.mem (0x800000 + i) = BitVec.ofNat 8 (nth8 l i)) ∧
      ∀ a, (a < 0x800000 ∨ 0x800000 + l.length ≤ a) → memGet t.mem a = memGet s.mem a)

/-! ### Engines and dispatcher (11) -/

/-- Engines and dispatcher (11 R420-R445): a fill brings the line as memory holds it, also after a parity error of the line fetched from,
which sets CERR; an invalidation empties the cache; a pooled engine grants a RUNNABLE context, behind an instruction that stalls
where one does; an issued dispatch waits for its idle context, coalesces with one of its entry, or queues; a recipe starts
at its START with its arguments; software triggers and time matches fire their entries; the context commands act on their context. -/
def Obligations.EnginesAndDispatcherComplete : Prop :=
  (∀ s (e : Fin 4) par line, s.clk.fsys = true → s.ecc = [] →
      ((s.en e).fill = some line ∨ ((s.en e).fill = none ∧ par = true ∧ s.hitLine e = some line)) → Gives (.icacheFill e par) s fun t =>
    (t.en e).fill = none ∧ (par = true → t.b F.peStat_CERR e = true) ∧
      t.cached e (32 * line) = some ⟨line, (upto 8).map (fun i => some (memWord s.mem (0x800000 + 32 * line + 4 * i)))⟩) ∧
  (∀ s p d (e : Fin 4) (x : Bool), s.accepts p d .peCtl e ((if x then 1 else 0) + 2) = true →
    Gives (.icacheInvalidate p d e x) s fun t => (t.en e).cache = [] ∧ t.b F.peCtl_EXCSTOP e = x) ∧
  (∀ s (e : Fin 4), s.peMask e ≠ 0 → s.halted e = false → s.runnable e ≠ [] →
    let stalls := (s.cur e).any (fun c => (s.cx c).stall.isSome)
    (stalls = false → Gives (.quantumEnd e) s fun t =>
      ∃ d : Fin 4, (s.cx (ctxOf e d)).st = .runnable ∧ t.g F.peStat_CUR e = 4 * e + d + 1) ∧
    (stalls = true → Gives (.quantumEnd e) s fun t => (t.en e).due = true ∧ t.regs = s.regs ∧ t.ctx = s.ctx)) ∧
  (∀ s f, s.clk.fsys = true → bestFired s.disp.fired = some f →
    let e := s.g F.dispCfg_ENG f.entry
    let d := s.g F.dispCfg_DOM f.entry
    let c := ctxOf e d
    let x := s.cx c
    s.hasCtx e d = true → bitN (s.g F.domStat_RSTBUSY) d = false → Gives .dispatchIssue s fun t =>
      t.disp.fired = s.disp.fired.erase f ∧
      (x.st = .idle → x.next = none → s.halted (ctxEng c) = false → (t.cx c).next = some f) ∧
      (x.busy = true → x.entry = f.entry → t.g F.dispStat_COAL d = min (2 ^ F.dispStat_COAL.w - 1) (s.g F.dispStat_COAL d + 1)) ∧
      (x.busy = true → x.entry ≠ f.entry → x.next = none → x.queue = [] → (t.cx c).queue = [f])) ∧
  (∀ s (c : Fin 16) f, (s.cx c).next = some f → (s.cx c).st = .idle → s.halted (ctxEng c) = false → s.clk.fsys = true →
    s.hasCtx (ctxEng c) (ctxDom c) = true →
    Gives (.recipeStart c) s fun t => (t.cx c).st = .runnable ∧ (t.cx c).pc = s.g F.dispStart_START f.entry ∧ (t.cx c).next = none ∧
      (t.cx c).v = (((Vector.replicate 16 (0 : Word)).set 0 (BitVec.ofNat 32 (s.g F.dispStart_ARG f.entry))).set 1
        (BitVec.ofNat 32 f.evt)).set 2 f.data ∧ (t.cx c).z = false ∧ (t.cx c).n = false ∧ (t.cx c).c = false ∧
      (t.cx c).o = false) ∧
  (∀ s p (d : Dom) (w : Word) (i : Fin 32), s.accepts p d .dispSwtrig 0 w.toNat = true → w.toNat = 2 ^ i.val →
    s.g F.dispCfg_EN i = 1 → s.g F.dispCfg_EVT i = 3 → s.g F.dispCfg_DIV i = 0 →
    s.hasCtx (s.g F.dispCfg_ENG i) (s.g F.dispCfg_DOM i) = true →
    (d.val = s.g F.dispCfg_DOM i ∨ d.val = s.ownPe (s.g F.dispCfg_ENG i)) → Gives (.softwareTrigger p d w) s fun t =>
      t.disp.fired = s.disp.fired ++ [{ entry := i, pri := s.g F.dispCfg_PRI i, evt := 3, data := 0, tick := s.tick }]) ∧
  (∀ s (x : Dom) t0 (i : Fin 32), kvGet s.disp.armed x = some t0 → s.clk.fsys = true → t0 ≤ s.time → s.g F.dispCfg_EN i = 1 →
    s.g F.dispCfg_EVT i = 4 → s.g F.dispCfg_DOM i = x.val → s.g F.dispCfg_DIV i = 0 → s.hasCtx (s.g F.dispCfg_ENG i) x = true →
    Gives (.timeMatch x) s fun t => kvGet t.disp.armed x = none ∧ t.b F.dispStat_TMFIRED x = true ∧
      ∃ f, f ∈ t.disp.fired ∧ f.entry = i.val ∧ f.evt = 4 ∧ f.data = BitVec.ofNat 32 t0 ∧ f.tick = s.tick) ∧
  (∀ s p (d : Dom) (w : Word), s.accepts p d .dispTmLo d w.toNat = true → Gives (.timeMatchArm p d d w) s fun t =>
    kvGet t.disp.armed d = some (s.heldHi p (RegId.dispTmHi.addr d) * 2 ^ 32 + w.toNat)) ∧
  (∀ s p (d : Dom) (e : Fin 4) (x : Dom), let c := ctxOf e x
    (s.accepts p d .peCmd e (x + at' 4 1) = true → (s.cx c).busy = true → Gives (.kill p d e x) s fun t =>
      (t.cx c).st = .idle ∧ t.waitOf (c.val + 1) = none ∧ (t.cx c).endslice = false) ∧
    (s.accepts p d .peCmd e (x + at' 4 2) = true → (s.cx c).busy = true → Gives (.endslice p d e x) s fun t =>
      (t.cx c).endslice = true ∧ (t.cx c).st = (s.cx c).st) ∧
    (s.accepts p d .peCmd e (x + at' 4 3) = true → (s.cx c).st = .held → Gives (.resume p d e x) s fun t => (t.cx c).st = .idle) ∧
    (s.accepts p d .peCmd e (x + at' 4 4) = true → Gives (.flush p d e x) s fun t => (t.cx c).queue = []))

/-! ### Power PWM generators (13) -/

/-- The generators (13 R502-R522): a period end notes its length, bakes class P and counts periods, or stops the generator; a mid point
bakes; compares, comparator, dead times and blanking move the switches as their mode says, with the on-time noted; trips turn the
gates off at once; TRG and SYNC reach their receivers; proof cycles keep a line that passes and report one that fails. -/
def Obligations.GeneratorsComplete : Prop :=
  ∀ s (n : Fin 6), s.clk.fsys = true →
    let p := s.pw n
    let ca := s.eCa n
    let ton (pos : Nat) := min 0x1FFFFF (p.onAcc + pos - p.riseAt)
    let off (t : State) (pos : Nat) := (t.pw n).m = false ∧ (t.pw n).mainHi = false ∧
      t.g F.pwmTon_TON n = if p.tonDone then s.g F.pwmTon_TON n else ton pos
    let tripped (t : State) (src : Nat) := t.b F.pwmStat_TRIPACT n = true ∧ t.b F.pwmStat_DRIVE n = false ∧
      t.b F.pwmStat_TRIP n = true ∧ bitN (t.g F.pwmStat_TRIPSRC n) src = true
    (∀ len, s.counting n = true → s.staged = [] →
      (s.b F.pwmCtl_RUN n = true → Gives (.pwmPeriodStart n len) s fun t => t.g F.pwmTper_TPER n = len.toNat ∧
        (t.pw n).pcount = p.pcount + 1 ∧ (s.b F.pwmCtl_SYNCIN n = true → s.eMode n = 0 → t.b F.pwmStat_SYNCMISS n = true)) ∧
      (s.b F.pwmCtl_RUN n = false → Gives (.pwmPeriodStart n len) s fun t => t.g F.pwmTper_TPER n = len.toNat ∧
        (t.pw n).run = false ∧ t.b F.pwmStat_DRIVE n = false ∧ (t.pw n).m = false)) ∧
    (∀ len v q d, s.counting n = true → s.b F.pwmCtl_RUN n = true → s.b F.pwmCtl_UPD n = false → s.parityBad = [] →
      s.b F.bakeCtl_HOLD (s.ownStr n) = false → v < 2 ^ F.pwmPer_PER.w →
      s.staged = [⟨RegId.pwmPer.addr n, F.pwmPer_PER.lo, F.pwmPer_PER.w, 1, v, q, d, false, [], none⟩] → Gives (.pwmPeriodStart n len) s fun t =>
        t.g F.pwmPer_PER n = v ∧ (t.pw n).per0 = v) ∧
    (∀ v q d, s.counting n = true → s.b F.pwmCtl_UPD n = true → s.eMode n = 0 → p.midDone = false → s.parityBad = [] →
      s.b F.bakeCtl_HOLD (s.ownStr n) = false → v < 2 ^ F.pwmCa_CA.w → (s.st n).nff = s.litOf n →
      s.staged = [⟨RegId.pwmCa.addr n, F.pwmCa_CA.lo, F.pwmCa_CA.w, 1, v, q, d, false, [], none⟩] → Gives (.pwmMidPoint n) s fun t =>
        t.g F.pwmCa_CA n = v ∧ (t.pw n).midDone = true) ∧
    (s.counting n = true → s.eMode n = 0 → p.m = false → p.rose = false → p.fell = false → p.midDone = false → 0 < s.eCb n → s.eCb n < ca →
      ca < p.per0 → Gives (.pwmCompare n true) s fun t => (t.pw n).m = true ∧ (t.pw n).syncHi = false ∧ (t.pw n).riseAt = s.eCb n ∧
        (s.g F.pwmDt_DTR n = 0 → (t.pw n).mainHi = true) ∧ (s.g F.pwmDt_DTR n ≠ 0 → (t.pw n).mainPend = true)) ∧
    (s.counting n = true → p.m = true → ca < p.per0 →
      (s.eMode n ≠ 2 → Gives (.pwmCompare n false) s fun t => off t ca) ∧
      (s.eMode n = 2 → ca ≠ 0 → Gives (.pwmCompare n false) s fun t => off t (p.per0 - ca))) ∧
    (s.counting n = true → p.mainPend = true → Gives (.deadTimeEnd n true) s fun t => (t.pw n).mainHi = true ∧
      (t.pw n).mainPend = false ∧ (t.pw n).blank = (s.g F.pwmBlk_LEN n != 0)) ∧
    (s.counting n = true → p.syncPend = true → Gives (.deadTimeEnd n false) s fun t => (t.pw n).syncHi = true ∧
      (t.pw n).syncPend = false) ∧
    (∀ (x : Bool) (c : BitVec 16), s.counting n = true →
      (p.blank = true → s.eMode n ≠ 1 → Gives (.cmpChange n x c) s fun t => (t.pw n).cmp = x ∧ (t.pw n).m = p.m) ∧
      (p.blank = false → x = true → p.m = true → 32 * (c.toNat + 2) < p.per0 →
        ((s.eMode n = 0 ∧ s.ePk n = true) ∨ (s.eMode n = 2 ∧ s.eCb n ≤ 32 * c.toNat ∧ ca ≠ 0 ∧ 32 * c.toNat + ca < p.per0)) →
        Gives (.cmpChange n x c) s fun t => (t.pw n).cmp = true ∧ off t (32 * (c.toNat + 2))) ∧
      (p.blank = false → x = false → p.m = false → p.fell = true → s.eMode n = 1 → ca + s.eCb n ≤ 32 * c.toNat →
        32 * (c.toNat + 2) < p.per0 → p.per0 < 2 ^ 21 → s.staged = [] →
        Gives (.cmpChange n x c) s fun t => t.g F.pwmTper_TPER n = 32 * (c.toNat + 2))) ∧
    (∀ c : BitVec 16, p.blank = true → s.eMode n = 0 → p.ilim = false → Gives (.blankingClose n c) s fun t => (t.pw n).blank = false ∧
      (s.counting n = true → s.ePk n = true → p.cmp = true → p.m = true → 32 * (c.toNat + 2) < p.per0 → (t.pw n).m = false)) ∧
    (∀ pos, s.pins.vddio = true → s.running = true → s.pins.tripn = true → s.b F.pwmTripcfg_EXTEN n = true →
      Gives (.tripnTrip true pos) s fun t => t.pins.tripn = false ∧ tripped t 0 ∧ t.fltBit 24 = true) ∧
    (∀ pos, s.pins.vddio = true → Gives (.tripnTrip false pos) s fun t => t.pins.tripn = true ∧ t.pwm = s.pwm ∧ t.regs = s.regs) ∧
    (∀ pos, s.running = true → p.ilim = false → (p.blank = false ∨ s.b F.pwmBlk_ILIM n = false) →
      Gives (.currentLimitTrip n true pos) s fun t => (t.pw n).ilim = true ∧ tripped t 1 ∧
        (s.b F.pwmTripcfg_ILIMLAT n = true → t.b F.strStat_ILIMF n = true ∧ t.fltBit (32 + n) = true)) ∧
    (∀ pos, Gives (.currentLimitTrip n false pos) s fun t => (t.pw n).ilim = false ∧ t.regs = s.regs) ∧
    (∀ pos, s.running = true → p.ovp = false → Gives (.ovpTrip n true pos) s fun t => (t.pw n).ovp = true ∧ tripped t 2 ∧
      bitN (t.pw n).latched 2 = true ∧ t.b F.strStat_OVPF n = true ∧ t.fltBit (38 + n) = true) ∧
    (∀ pos, Gives (.ovpTrip n false pos) s fun t => (t.pw n).ovp = false ∧ t.regs = s.regs) ∧
    (s.counting n = true → p.trgOn = true → p.trgSent = false → Gives (.trgEvent n) s fun t => (t.pw n).trgSent = true ∧
      ∀ (x : Fin 2) (j : Fin 8), s.b F.adcInjctl_EN x = true → s.frozen (6 + s.serves x) = false →
        s.g F.adcInj_TRIG (8 * x + j) = n + 1 → ⟨x, j, n + 1, p.pcount, s.time⟩ ∈ (t.tab x).pend) ∧
    (∀ len, s.counting n = true → s.eMode n = 0 → p.syncSent = false → p.phase0 < p.per0 → s.staged = [] →
      Gives (.syncPulse n len) s fun t => (t.pw n).syncSent = true ∧
        (s.b F.pwmCtl_SYNCIN (nextGen n) = true → s.counting (nextGen n) = true → (s.pw (nextGen n)).waitSync = false →
          s.eMode (nextGen n) = 0 → t.g F.pwmTper_TPER (nextGen n) = len.toNat)) ∧
    (∀ (line mono : Bool) (span : BitVec 6), s.b F.pwmStat_FROZEN n = false →
      let fail := if line then F.pwmProofstat_FAIL1 else F.pwmProofstat_FAIL0
      let spanF := if line then F.pwmProofstat_SPAN1 else F.pwmProofstat_SPAN0
      ((mono = false ∨ span.toNat < 33) → Gives (.proofCycleDone n line mono span) s fun t => t.g spanF n = span.toNat ∧
        t.b fail n = true ∧ t.b F.pwmStat_PROOFF n = true) ∧
      (mono = true → 33 ≤ span.toNat → s.b fail n = false → s.b F.pwmStat_LINE n ≠ line → p.run = true →
        Gives (.proofCycleDone n line mono span) s fun t => t.g spanF n = span.toNat ∧ t.b fail n = false ∧
          t.b F.pwmStat_READY n = true)) ∧
    (s.running = true → s.b F.pwmStat_COARSE n = false → s.b F.pwmStat_FROZEN n = false → Gives (.coarseEntry n) s fun t =>
      t.b F.pwmStat_COARSE n = true ∧ t.fltBit (25 + n) = true) ∧
    (s.b F.pwmStat_FROZEN n = false → p.run = true → Gives (.proofIntervalElapsed n) s fun t => (t.pw n).intDone = true) ∧
    (∀ low, Gives (.bootstrapLockout n low) s fun t => (t.pw n).bstLow = low ∧ (low = true → t.b F.pwmStat_DRIVE n = false))

/-! ### String channels, pixels and the scan grid (14, 15) -/

/-- Strings and pixels (14 R537-R549; 15 R570-R578; 17 R657): VIN is the supply in 62.5 mV; the loop unit computes IEFF, its integrator
and its output from the used sample, without feed-forward, ramp, handover or open detection here, and stages CA; a dimming edge follows
DUTY; a wrap takes the latched values; an edge moves its switch and the lit count; open and short detections are reported. -/
def Obligations.StringsAndPixelsComplete : Prop :=
  (∀ s v (i : Fin 6), s.pwr.mode = .run ∨ s.pwr.mode = .startup → s.pwr.rails = true → Gives (.supplyMonitorSample v) s fun t =>
    t.g F.strVmon_VIN i = min 1023 ((4 * v.toNat + 125) / 250)) ∧
  (∀ s (i : Fin 6) meas, s.live = true → s.b F.pwmStat_FROZEN i = false → (s.st i).sample = some meas →
    ((s.st i).sampleOld = true ∨ s.sampleVoid i = false) → s.fb i = false → s.b F.strCtl_FFEN i = false →
    kvGet s.domRamps (s.ownStr i) = none → (s.st i).judge = false → (s.st i).slewK = 0 → s.b F.strDet_OPENEN i = false →
    let ieff := ieffStep (s.g F.strMeas_IEFF i) (s.g F.strIref_IREF i) (s.g F.strIref_RAMP i)
    let e : Int := if s.g F.pwmCtl_MODE i = 2 then (meas : Int) - ieff else (ieff : Int) - meas
    let d : Int := s.g F.strLoop_KP i * (e - (s.st i).eprev) + s.g F.strLoop_KI i * e
    let upi := clampI (s.g F.strDmin_DMIN i * 65536) (s.g F.strDmax_DMAX i * 65536)
      ((s.st i).upi + d * (2 : Int) ^ (16 - s.g F.strLoop_SHIFT i))
    Gives (.loopUpdate i) s fun t => t.g F.strMeas_IEFF i = ieff ∧ (t.st i).upi = upi ∧ (t.st i).eprev = e ∧
      t.g F.strOut_U i = (upi / 65536).toNat ∧ (t.st i).sample = none ∧
      (s.b F.pwmCtl_CASRC i = true → s.g F.pwmCtl_MODE i ≠ 0 → (s.pw i).run = true →
        t.gStaged F.pwmCa_CA i = (upi / 65536).toNat)) ∧
  (∀ s (i : Fin 6), s.live = true → s.b F.strDim_DEN i = true → Gives (.dimPeriodEdge i) s fun t =>
    (t.st i).dimOn = (if (s.st i).dimOn then decide (1024 ≤ s.g F.strDim_DUTY i) else decide (0 < s.g F.strDim_DUTY i)) ∧
      t.b F.strStat_ACTIVE i = t.strActive i) ∧
  (∀ s (i : Fin 6), s.clk.fsys = true → s.b F.bypStat_DRIVEN i = true →
    Gives (.pixelCounterWrap i) s fun t => (t.by i).c0 = s.tick ∧ (t.by i).wait = false ∧ ((s.by i).wait = true →
      (t.by i).useD = (s.by i).latD ∧ (t.by i).per = (s.by i).latPer ∧ (t.by i).usePh = (s.by i).latPh)) ∧
  (∀ s (i : Fin 6) e rest, (s.by i).edges = e :: rest → s.clk.fsys = true → s.b F.bypStat_DRIVEN i = true → e.k < 16 →
    Gives (.bypassEdge i) s fun t => (t.by i).edges = rest ∧
      (bitN (t.by i).sw e.k = true ↔ e.opening = true ∧ s.shut i e.k = false) ∧
      (∀ k, k ≠ e.k → bitN (t.by i).sw k = bitN (s.by i).sw k) ∧ t.g F.strOut_LIT i = t.litCount i (t.by i).sw) ∧
  (∀ s (i : Fin 6) (k : Fin 16), s.clk.fsys = true → s.detects i k = true → Gives (.pixelOpenDetect i k) s fun t =>
    t.b F.bypStat_OPEN i = true ∧ t.fltBit (62 + i) = true ∧
      (s.b F.bypDet_AUTOEN i = true → bitN (t.g F.bypAutobyp_MASK i) k = true)) ∧
  (∀ s (i : Fin 6) (k : Fin 16), s.clk.fsys = true → s.detects i k = true → s.b F.bypDet_SHORTEN i = true →
    bitN (s.g F.bypShortpx_MASK i) k = false → 1600 ≤ cmpOf (nthD (s.by i).useD k) (s.by i).per →
    (Gives (.pixelShortSample i k false) s fun t => kvD (t.by i).low k 0 = 0 ∧ t.regs = s.regs) ∧
    (kvD (s.by i).low k 0 < 3 → Gives (.pixelShortSample i k true) s fun t =>
      kvD (t.by i).low k 0 = kvD (s.by i).low k 0 + 1 ∧ t.regs = s.regs) ∧
    (3 ≤ kvD (s.by i).low k 0 → Gives (.pixelShortSample i k true) s fun t => bitN (t.g F.bypShortpx_MASK i) k = true ∧
      t.b F.bypStat_SHORT i = true ∧ t.fltBit (68 + i) = true)) ∧
  (∀ s (i : Fin 6) p, kvGet s.tlm.sel i = some p → s.detects i (p % 16) = true →
    1600 ≤ cmpOf (nthD (s.by i).useD (p % 16)) (s.by i).per → (s.by i).x1.all (fun q => q + 640 < s.tick) = true →
      Gives (.pixelEvent i) s fun t => kvD t.tlm.event i false = true ∧
      ∀ (x : Fin 2) (j : Fin 8), s.b F.adcInjctl_EN x = true → s.frozen (6 + s.serves x) = false →
        s.g F.adcInj_TRIG (8 * x + j) = 8 + i → ⟨x, j, 8 + i, p, s.time⟩ ∈ (t.tab x).pend)

/-- The scan grid (15 R579-R589): a frame starts at its boundary with row 0, the next slots follow, and each slot goes through discharge,
precharge, drive and blank; a drive slot lights the columns that have an on-time, each until its own end; samples and over-currents are
noted; FSYNC edges are absorbed near a boundary, which shows LOCK (log 82, the model's reading), and slip otherwise; a lost or silent FSYNC
ends the lock. -/
def Obligations.ScanGridCompletes : Prop :=
  ∀ s, s.clk.fsys = true → s.frozen 8 = false →
    let running := s.b F.gridStat_RUN = true
    let row := s.g F.gridStat_ROWN
    let framed (t : State) := t.grid.start = s.tick ∧ t.g F.gridStat_ROWN = 0 ∧ t.grid.phase = 0 ∧ t.b F.gridStat_FRAME = true ∧
      t.b F.gridStat_RUN = true ∧ t.grid.use = s.grid.lat.getD s.grid.use
    let lost (t : State) := t.b F.gridStat_LOL = true ∧ t.b F.gridStat_LOCK = false ∧ t.b F.gridStat_LOSTLOCK = true ∧ t.fltBit 76 = true
    let dE := (s.grid.stop - s.tick) + (s.tick - s.grid.stop)
    let dS := s.tick - s.grid.start
    let isEdge := s.pins.vddio = true ∧ s.g F.gridCtl_SRC = 1 ∧ s.b F.padCfg_FSYNCOUT = false
    (s.gridActive = true → running → s.staged = [] → s.grid.samples = [] → Gives .scanFrameStart s fun t => framed t ∧
      t.g F.gridFcnt_COUNT = (s.g F.gridFcnt_COUNT + 1) % 2 ^ F.gridFcnt_COUNT.w) ∧
    (running → s.grid.resync = none → row < 15 → Gives .scanSlotStart s fun t => t.g F.gridStat_ROWN = row + 1 ∧
      t.grid.phase = 0 ∧ t.grid.sinks = 0 ∧ t.grid.rowOn = false) ∧
    (∀ e, running → s.grid.resync = some e → s.gridActive = true → s.staged = [] → s.grid.samples = [] →
      Gives .scanSlotStart s fun t => framed t ∧ t.grid.stop = e) ∧
    (running → s.grid.phase = 0 → Gives .scanPhaseEnd s fun t => t.grid.phase = if s.tdrv < 160 then 3 else 1) ∧
    (running → s.grid.phase = 1 → bitN s.rowsOut row = false → s.clk.release = false → s.flt.thermal = false →
      s.b F.pwrStat_VCC5OK = true → Gives .scanPhaseEnd s fun t => t.grid.phase = 2 ∧ t.grid.rowOn = true ∧
        ∀ c, c < 24 → (bitN t.grid.sinks c = true ↔ bitN s.colsOut c = false ∧ s.colOn c ≠ 0)) ∧
    (running → s.grid.phase = 2 → Gives .scanPhaseEnd s fun t => t.grid.phase = 3 ∧ t.grid.sinks = 0 ∧ t.grid.rowOn = false) ∧
    (∀ c : Fin 24, s.grid.phase = 2 → bitN s.grid.sinks c = true → Gives (.columnSinkOff c) s fun t =>
      bitN t.grid.sinks c = false ∧ ∀ k, k ≠ c.val → bitN t.grid.sinks k = bitN s.grid.sinks k) ∧
    (∀ (c : Fin 24) mv, s.grid.phase = 2 → bitN s.grid.sinks c = true → 320 ≤ s.colOn c → s.b F.gridDet_DETEN = true →
      Gives (.headroomSample c mv) s fun t => t.grid.samples = s.grid.samples ++ [(24 * row + c,
        if mv.toNat < 350 then 1 else if 250 * s.g F.gridDet_HRSHORT < mv.toNat then 2 else 0)] ∧
        (kvGet s.tlm.sel 6 = some (96 + (24 * row + c)) → kvD t.tlm.event 6 false = true)) ∧
    (s.grid.phase = 2 → s.grid.rowOn = true → s.b F.gridDet_DETEN = true → Gives .rowOvercurrent s fun t =>
      t.grid.rowOn = false ∧ t.grid.sinks = 0 ∧ t.b F.gridStat_ROWF = true ∧
        (kvD s.grid.late row 0 = 3 → bitN (t.g F.gridRowoff_ROW) row = true ∧ t.fltBit 74 = true)) ∧
    (isEdge → running → s.b F.gridStat_LOL = false → s.grid.resync.isSome = true → Gives .fsyncEdge s fun t =>
      t.grid.resync = some (s.tick + s.tf) ∧ t.g F.gridSyncslip_CONSEC = 0 ∧ t.grid.last = some s.tick) ∧
    (isEdge → running → s.b F.gridStat_LOL = false → s.grid.resync = none →
      (16 * min dE dS ≤ 2 * s.tf → Gives .fsyncEdge s fun t => t.g F.gridSyncslip_CONSEC = 0 ∧ t.grid.last = some s.tick ∧
        t.b F.gridStat_LOCK = true ∧ (dS ≤ dE → t.grid.stop = s.tick + s.tf) ∧ (dE < dS → t.grid.next = some (s.tick + s.tf))) ∧
      (2 * s.tf < 16 * min dE dS → s.g F.gridSyncslip_CONSEC < 3 → Gives .fsyncEdge s fun t => t.b F.gridStat_SLIP = true ∧
        t.g F.gridSyncslip_CONSEC = s.g F.gridSyncslip_CONSEC + 1 ∧
        (s.b F.gridCtl_SLIP = false → t.grid.resync = some (s.tick + s.tf) ∧ t.grid.sinks = 0)) ∧
      (2 * s.tf < 16 * min dE dS → 3 ≤ s.g F.gridSyncslip_CONSEC → Gives .fsyncEdge s lost)) ∧
    (isEdge → s.b F.gridStat_RUN = false → s.grid.starting = true → s.gridActive = true → s.staged = [] → s.grid.samples = [] →
      Gives .fsyncEdge s fun t => framed t ∧ t.b F.gridStat_LOCK = true) ∧
    (s.g F.gridCtl_SRC = 1 → s.b F.padCfg_FSYNCOUT = false → s.b F.gridStat_LOL = false → running → Gives .fsyncTimeout s lost) ∧
    (Gives (.fsyncEdge false) s fun t => t.pins.fsync = (if s.pins.vddio then false else s.pins.fsync) ∧ t.grid = s.grid ∧
      t.regs = s.regs) ∧
    exec .fsyncOutputPulseEnd s = .next { s with pins := { s.pins with fsyncOut := false } }

/-! ### Converters and telemetry (16, 17) -/

/-- Triggers and tables (16 R611-R618): a selected TRIGIN edge triggers its entries; the oldest trigger of an entry becomes a request; a
software trigger reaches the entries with TRIG 15; the first request starts, injected before regular; a delay ends; a converter sleeps
and wakes; a shared conversion falls due, or is skipped. -/
def Obligations.ConversionsAreRequested : Prop :=
  ∀ s (x : Fin 2),
    let h := s.serves x
    let triggered (t : State) (code mark : Nat) (p : Nat → Bool) := ∀ j : Fin 8, p j = true → s.b F.adcInjctl_EN x = true →
      s.frozen (6 + h) = false → s.g F.adcInj_TRIG (8 * x + j) = code → (⟨x, j, code, mark, s.time⟩ : AdcReq) ∈ (t.tab x).pend
    let ready := s.adcRuns x = true ∧ (s.cv x).conv = none ∧ (s.cv x).seg = none ∧ s.adcSt x = 0
    (∀ rising, s.pins.vddio = true → s.live = true → bitN (s.g F.adcTrigcfg_EDGE) (if rising then 0 else 1) = true →
      Gives (.triginEdge rising) s fun t => t.pins.trigin = rising ∧ t.b F.adcTrigcfg_EDGEF = true ∧ triggered t 7 0 (fun _ => true)) ∧
    (∀ (j : Fin 8) r, (s.tab x).pend.find? (fun q => q.j == j.val) = some r → s.adcRuns h = true → (s.cv h).reqs = [] →
      (s.cv h).seg = none → Gives (.injectedRequest x j) s fun t => (t.tab x).pend = (s.tab x).pend.erase r ∧ (t.cv h).reqs = [r]) ∧
    (∀ (j : Fin 8) r, (s.tab x).pend.find? (fun q => q.j == j.val) = some r → s.adcRuns h = true → r ∈ (s.cv h).reqs →
      Gives (.injectedRequest x j) s fun t => (t.cv h).reqs = (s.cv h).reqs ∧ t.b F.adcInjstat_INJOVR x = true) ∧
    (∀ p (d : Dom) (w : Word), s.accepts p d .adcInjsw x w.toNat = true → Gives (.adcSoftwareTrigger p d x w) s fun t =>
      t.done p = true ∧ t.posted.length = 1 ∧ Gives (.postedWriteEffect p) t fun u => u.posted = [] ∧ triggered u 15 0 (bitN w.toNat)) ∧
    (∀ r rest, ready → s.b F.adcStat_AWAKE x = true → (s.cv x).reqs = r :: rest → Gives (.conversionStart x) s fun t =>
      (t.cv x).reqs = rest ∧ ∃ c, (t.cv x).conv = some c ∧ c.kind = .inj ∧ c.tab = r.tab ∧ c.j = r.j ∧ c.t = s.time ∧
        c.src = s.g F.adcInj_SRC (8 * r.tab + r.j)) ∧
    (∀ y : Fin 2, ready → s.b F.adcStat_AWAKE x = true → (s.cv x).reqs = [] → (s.cv x).refLeft = 0 → s.shr.due = false →
      s.regNext x = some y → Gives (.conversionStart x) s fun t => (t.tab y).ready = false ∧ ∃ c, (t.cv x).conv = some c ∧
        c.kind = .reg ∧ c.tab = y ∧ c.j = s.g F.adcRegstat_POS y ∧ c.src = s.g F.adcTbl_SRC (64 * y + c.j) ∧ c.t = s.time) ∧
    ((s.tab x).delay = true → s.adcRuns h = true → Gives (.regularDelayEnd x) s fun t => (t.tab x).delay = false ∧
      (t.tab x).ready = true ∧ (t.tab x).rep = 0 ∧ t.g F.adcRegstat_POS x =
        if s.g F.adcRegctl_LAST x ≤ s.g F.adcRegstat_POS x then 0 else s.g F.adcRegstat_POS x + 1) ∧
    (s.b F.adcCtl_PD x = true → (s.cv x).conv = none → (s.cv x).hold = false → (s.cv x).cal = false → s.clk.fsys = true →
      Gives (.adcPowerDown x) s fun t => t.b F.adcStat_AWAKE x = false) ∧
    (ready → s.b F.adcStat_AWAKE x = false → Gives (.adcWakeUp x) s fun t => t.b F.adcStat_AWAKE x = true ∧
      (∀ r rest, (s.cv x).reqs = r :: rest → ∃ c, (t.cv x).conv = some c ∧ c.tab = r.tab ∧ c.j = r.j)) ∧
    (s.g F.adcShrcfg_INT ≠ 0 → s.live = true →
      (s.adcSt 0 = 0 → s.adcSt 1 = 0 → Gives .sharedConversionDue s fun t => t.shr.due = true) ∧
      (s.shr.mode = 0 → s.adcSt x = 3 → s.adcSt (1 - x) = 0 → Gives .sharedConversionDue s fun t =>
        (t.cv (1 - x)).refLeft = 4 ∧ t.shr.mode = 2)) ∧
    (s.shr.due = true → Gives .sharedConversionSkip s fun t => t.shr.due = false ∧ (t.cv x).hold = false ∧
      t.b F.adcShrflag_SKIP = true ∧ Counts F.adcShrflag_SKIPCNT s t)

/-- Results, calibration and failover (16 R619-R633; 17 R668, R669): a conversion leaves its corrected result in its mailbox, whole, and
an injected segment sets its DONE bit; CAL, RESTORE and FAIL act when their posted write takes effect; measured factors in range are
kept and others reported; the energies gather; a lifetime counter takes what is loaded. -/
def Obligations.ConversionsComplete : Prop :=
  ∀ s (x : Fin 2),
    let v (c : Conv) (raw : BitVec 12) := adcCorrect raw.toNat c.calofs c.calgain c.corr
    let own (c : Conv) (k : Nat) := c.tab < 2 ∧ c.src < 64 ∧
      ∀ o, s.srcOwner c.src = some o → o = s.ownAdc (2 * c.tab + k)
    let word (t : State) (r : RegId) (i : Nat) (c : Conv) (raw : BitVec 12) := bitN (t.rd r i).toNat 31 = true ∧
      (t.rd r i).toNat % 4096 = v c raw ∧ bitsN (t.rd r i).toNat 12 6 = c.src
    let effect (i : Instr) (p : Port) (P : State → Prop) := Gives i s fun t => t.done p = true ∧ Gives (.postedWriteEffect p) t P
    let st := s.adcSt x
    (∀ raw c, (s.cv x).conv = some c → c.kind = .reg → c.j < 64 → own c 0 → s.clk.fsys = true → Gives (.conversionEnd x raw) s fun t =>
      (t.cv x).conv = none ∧ word t .adcRes (64 * c.tab + c.j) c raw) ∧
    (∀ raw c, (s.cv x).conv = some c → c.kind = .inj → c.j < 8 → own c 1 → s.clk.fsys = true → Gives (.conversionEnd x raw) s fun t =>
      (t.cv x).conv = none ∧ word t .adcIres (8 * c.tab + c.j) c raw ∧
        (c.last = true → bitN (t.rd .adcInjstat c.tab).toNat c.j = true)) ∧
    (∀ p (d : Dom) park, s.accepts p d .adcCmd x (1 + (if park then 8 else 0) + at' 8 0xAD) = true → st ≠ 1 → st ≠ 2 →
      (park = true → s.adcSt (1 - x) = 0 ∧ (s.tab x).hosted = false) → effect (.cal p d x park) p fun u =>
        u.adcSt x = (if park && st != 3 then 2 else 1) ∧ (u.cv x).cal = true ∧ u.b F.adcStat_AWAKE x = true) ∧
    (∀ p (d : Dom), s.accepts p d .adcCmd x (2 + at' 8 0xAD) = true →
      (st = 3 → effect (.restore p d x) p fun u => (u.cv x).refLeft = 16 ∧ (u.cv x).refN = 16) ∧
      (st ≠ 3 → effect (.restore p d x) p fun u => u.b F.adcStat_CMDREF x = true ∧ u.adcSt x = st)) ∧
    (∀ p (d : Dom), s.accepts p d .adcCmd x (3 + at' 8 0xAD) = true → s.shr.back = false → st = 0 → s.adcSt (1 - x) = 0 →
      effect (.fail p d x) p fun u => u.adcSt x = 3 ∧ u.b F.adcStat_FOVER x = true ∧ u.fltBit (79 + x) = true) ∧
    (∀ (ofs : BitVec 16) (gain : BitVec 17), (s.cv x).calRun = true → s.clk.fsys = true →
      let inRange := -128 ≤ ofs.toInt ∧ ofs.toInt ≤ 128 ∧ 0x7800 ≤ gain.toNat ∧ gain.toNat ≤ 0x8800
      (inRange → Gives (.adcCalibrationDone x ofs gain) s fun t => t.g F.adcCalofs_CALOFS x = wrap 12 ofs.toInt ∧
        t.g F.adcCalgain_CALGAIN x = gain.toNat ∧ t.b F.adcStat_CALDONE x = true ∧ (t.cv x).cal = false) ∧
      (¬ inRange → Gives (.adcCalibrationDone x ofs gain) s fun t => t.rd .adcCalofs x = s.rd .adcCalofs x ∧
        t.b F.adcStat_CALERR x = true ∧ t.fltBit 82 = true ∧ (t.cv x).cal = false)) ∧
    (∀ i : Fin 6, s.live = true → Gives .energyAccumulate s fun t => kvD t.tlm.cnt (486 + i) 0 = kvD s.tlm.cnt (486 + i) 0 +
      if s.b F.strStat_ACTIVE i then s.g F.strVmon_VSTR i * s.g F.strMeas_ILED i * s.g F.tlmGrpCal_ILSB i else 0) ∧
    (∀ p (d : Dom) (w : Word), s.accepts p d .tlmOtLo 0 w.toNat = true → kvD s.tlm.otsel (otselKey p d) 0 ≤ 492 →
      Gives (.tlmCounterLoad p d w) s fun t => t.counter (kvD s.tlm.otsel (otselKey p d) 0)
        = s.heldHi p (RegId.tlmOtHi.addr 0) % 65536 * 2 ^ 32 + w.toNat)

/-! ### Faults, hearth mode, the debug port (18, 20) -/

/-- Faults and hearth mode (18 R683-R704): a level fault follows its condition (its end clears the bit: log 12); thermal shutdown turns the
outputs off at once; a clear by D0, or by the domain that a fault is charged to, ends the faults whose condition is gone and keeps the
others, and names of other domains' faults are recorded; a release ends the containment of a domain with no fault left, and one that names
another domain is recorded; ENTER makes hearth entry due, and EXIT is taken only with no other cause, after an entry ramp. -/
def Obligations.FaultsAndHearthComplete : Prop :=
  (∀ s, Gives (.dieHot true) s fun t => t.flt.hot = true ∧ (s.running = true → 15 ∈ t.flt.level ∧
    (s.clk.fsys = true → 15 ∉ s.flt.level → t.fltBit 15 = true))) ∧
  (∀ s, Gives (.dieHot false) s fun t => t.flt.hot = false ∧ 15 ∉ t.flt.level ∧ (15 ∈ s.flt.level → t.fltBit 15 = false)) ∧
  (∀ s, Gives .thermalShutdown s fun t => t.flt.thermal = true ∧ (∀ i : Fin 6, t.b F.pwmStat_DRIVE i = false) ∧ t.grid.sinks = 0 ∧
    t.grid.rowOn = false ∧ (s.running = true → 21 ∈ t.flt.level ∧
      (s.clk.fsys = true → 21 ∉ s.flt.level → t.fltBit 21 = true))) ∧
  (∀ s, Gives .thermalShutdownEnd s fun t => t.flt.thermal = false ∧ 21 ∉ t.flt.level ∧ (21 ∈ s.flt.level → t.fltBit 21 = false)) ∧
  (∀ s p (d : Dom) (k : Fin 4) (w : Word), s.accepts p d .fltStat k w.toNat = true →
    let may (n : Nat) := p = .u2d ∨ d = 0 ∨ (fltFixed n = false ∧ s.charged n = d.val)
    Gives (.faultClear p d k w) s fun t => t.done p = true ∧ ∀ b, b < 32 → fltRsv (32 * k + b) = false →
      (bitN w.toNat b = true → may (32 * k + b) → 32 * k.val + b ∉ s.flt.level → t.fltBit (32 * k + b) = false) ∧
      ((bitN w.toNat b = false ∨ ¬ may (32 * k + b) ∨ 32 * k.val + b ∈ s.flt.level) →
        t.fltBit (32 * k + b) = s.fltBit (32 * k + b)) ∧
      (bitN w.toNat b = true → ¬ may (32 * k + b) → s.fltBit (32 * k + b) = true → t.b F.domViol_VALID d = true)) ∧
  (∀ s p (d x : Dom) (rel : BitVec 4), s.accepts p d .fltDctl 0 (rel.toNat + at' 8 0x5A) = true → bitN rel.toNat x = true →
    (d = 0 ∨ x = d) → bitN s.flt.dcont x = true →
    (s.flt.react.any (fun q => bitN q.2 2 && s.charged q.1 == x.val) = false → Gives (.domainRelease p d rel) s fun t =>
      bitN t.flt.dcont x = false ∧ bitN t.flt.release x = true) ∧
    (s.flt.react.any (fun q => bitN q.2 2 && s.charged q.1 == x.val) = true → Gives (.domainRelease p d rel) s fun t =>
      bitN t.flt.dcont x = true ∧ t.b F.fltGstat_RELREF = true)) ∧
  (∀ s p (d x : Dom) (rel : BitVec 4), s.accepts p d .fltDctl 0 (rel.toNat + at' 8 0x5A) = true → bitN rel.toNat x = true →
    p ≠ .u2d → d ≠ 0 → x ≠ d → Gives (.domainRelease p d rel) s fun t =>
      bitN t.flt.dcont x = bitN s.flt.dcont x ∧ t.b F.domViol_VALID d = true) ∧
  (∀ s p (d : Dom) (k : Fin 8), s.accepts p d .hearthCmd 0 (1 + at' 4 k + at' 8 0x4E) = true → Gives (.enter p d k) s fun t =>
    t.hearth.cmd = true ∧ t.hearth.cmdPreset = k ∧ (s.hearthOn = false → t.hearth.due = true)) ∧
  (∀ s p (d : Dom), s.accepts p d .hearthCmd 0 (2 + at' 8 0x4E) = true →
    (s.causes % 8 = 0 → s.g F.hearthStat_STATE = 2 → Gives (.exit p d) s fun t => t.hearth.exitDue = true ∧ t.hearth.cmd = false) ∧
    (s.causes % 8 ≠ 0 → Gives (.exit p d) s fun t => t.g F.hearthStat_REFUSE = 2 ∧ t.hearth = s.hearth) ∧
    (s.causes % 8 = 0 → (s.g F.hearthStat_STATE = 1 ∨ s.g F.hearthStat_STATE = 3) → Gives (.exit p d) s fun t =>
      t.g F.hearthStat_REFUSE = 3 ∧ t.hearth = s.hearth) ∧
    (s.causes % 8 = 0 → s.hearthOn = false → Gives (.exit p d) s fun t => t.g F.hearthStat_REFUSE = 4 ∧ t.hearth = s.hearth))

/-- The debug port (20 R746-R761): a request with a wrong CRC executes nothing; ATTACH is taken outside FIELD_LOCKED and is a tamper event
there; while attached, READ and WRITE reach registers and DETACH ends every halt, freeze and breakpoint; halts, steps, breakpoints and
the trace act as named. -/
def Obligations.DebugPortCompletes : Prop :=
  ∀ s, s.live = true → s.pins.vddio = true → s.posted = [] → s.cyc.accs = [] → s.sec.u2dOff = false →
    let sound (cmd : Nat) (a : Addr) (w : Word) (crc : Byte) := crc8 (u2dBody cmd a w) = crc.toNat ∧ a.toNat % 4 = 0
    let attached := s.b F.u2dStat_ATT = true
    (∀ i cmd a w crc, (cmd = 1 ∧ i = .attach a w crc) ∨ (cmd = 2 ∧ i = .detach a w crc) ∨ (cmd = 3 ∧ i = .u2dRead a w crc) ∨
        (cmd = 4 ∧ i = .u2dWrite a w crc) ∨ (cmd = 5 ∧ i = .u2dStatus a w crc) → crc8 (u2dBody cmd a w) ≠ crc.toNat →
      Gives i s fun t => t.b F.u2dStat_CRCERR = true ∧ t.dbg.resp = some (s.u2dStatusByte 8, 0) ∧ t.mem = s.mem) ∧
    (∀ a crc, sound 1 a 0x648 crc → s.lcState ≠ 2 → Gives (.attach a 0x648 crc) s fun t => t.b F.u2dStat_ATT = true ∧
      t.b F.u2dStat_ATTF = true ∧ t.dbg.resp = some (t.u2dStatusByte 0, (s.rd .devId).toNat)) ∧
    (∀ a crc, sound 1 a 0x648 crc → s.lcState = 2 → Gives (.attach a 0x648 crc) s fun t =>
      t.b F.u2dStat_ATT = s.b F.u2dStat_ATT ∧ t.fltBit 85 = true ∧ t.dbg.resp = some (t.u2dStatusByte 11, 0)) ∧
    (∀ a crc, sound 2 a 0 crc → attached → Gives (.detach a 0 crc) s fun t => t.b F.u2dStat_ATT = false ∧
      t.g F.u2dHalt_HALT = 0 ∧ t.g F.dbgFrz_FRZ = 0 ∧ ∀ e : Fin 4, t.b F.u2dBp_EN e = false) ∧
    (∀ a crc n, sound 3 a 0 crc → attached → n < 6 → a.toNat = RegId.gpioCfg.addr n → Gives (.u2dRead a 0 crc) s fun t =>
      t.dbg.resp = some (s.u2dStatusByte 0, (s.rd .gpioCfg n).toNat)) ∧
    (∀ a w crc n, sound 4 a w crc → attached → s.lcState ≠ 4 → n < 6 → a.toNat = RegId.gpioCfg.addr n →
      Gives (.u2dWrite a w crc) s fun t => t.dbg.resp = some (s.u2dStatusByte 0, 0) ∧
        t.g F.gpioCfg_OUT n = bitsN w.toNat 8 1 ∧ t.g F.gpioCfg_EDGE n = bitsN w.toNat 9 2) ∧
    (∀ a crc, sound 5 a 0 crc → Gives (.u2dStatus a 0 crc) s fun t =>
      t.dbg.resp = some (s.u2dStatusByte 0, s.u2dStatWord) ∧ t.regs = s.regs) ∧
    exec .lineReset s = .next { s with dbg := { s.dbg with resp := none } } ∧
    (∀ (mask : BitVec 4) (e : Fin 4), attached → s.lcState ≠ 4 → Gives (.engineHalt mask) s fun t =>
      t.halted e = bitN mask.toNat e ∧ (s.halted e = false → bitN mask.toNat e = true → t.b F.u2dStat_HALTF = true)) ∧
    (∀ (c : Fin 16) w s1 i, s.dbg.step = some c.val → s.halted (ctxEng c) = true → (s.cx c).st = .runnable → s.mayRun c = true →
      s.fetch c = (.word w, s1) → decodeRecipe (ctxEng c) w = some i → ((runOp i c s1).cx c).stall = none →
      exec (.engineStep c) s = .next { runOp i c s1 with dbg := { (runOp i c s1).dbg with step := none } }) ∧
    (∀ c : Fin 16, attached → s.lcState ≠ 4 → s.dbg.step = none → s.halted (ctxEng c) = true → (s.cx c).st = .idle →
      Gives (.engineStep c) s fun t => t.b F.u2dStat_STEPREF = true ∧ t.cx c = s.cx c) ∧
    (∀ (e : Fin 4) (k : Fin 4) c, s.engsReady = s → s.cur e = some c → s.mayRun c = true → s.halted e = false →
      s.b F.u2dBp_EN k = true → bitN (s.g F.u2dBp_MASK k) e = true → s.g F.u2dBp_PC k = (s.cx c).pc →
      Gives (.breakpointHit e) s fun t => t.halted e = true ∧ t.b F.u2dStat_HALTF = true ∧ (t.cx c).pc = (s.cx c).pc) ∧
    (∀ x rest, attached → s.dbg.trace = x :: rest → Gives .tracePop s fun t => t.dbg.trace = rest ∧
      t.rd .u2dTrw1 = BitVec.ofNat 32 x.2)
end

