-- ==== Sys2Proof/Laws/State.lean ====
section
/-!
SUPPORT. What each named update of the state leaves alone: one equation per field, for the rewriter.
-/

namespace Sys2Proof.Machine

/-- `State.wr` changes `regs` alone. -/
@[simp] theorem State.wr_keeps (s : State) (r : RegId) (i : Nat) (w : Word) :
   (s.wr r i w).pending = s.pending ∧ (s.wr r i w).free = s.free ∧ (s.wr r i w).time = s.time ∧
    (s.wr r i w).tick = s.tick ∧ (s.wr r i w).mem = s.mem ∧ (s.wr r i w).ecc = s.ecc ∧ (s.wr r i w).img = s.img ∧
    (s.wr r i w).staged = s.staged ∧ (s.wr r i w).cyc = s.cyc ∧ (s.wr r i w).posted = s.posted ∧ (s.wr r i w).holdHi = s.holdHi ∧
    (s.wr r i w).snaps = s.snaps ∧ (s.wr r i w).parityBad = s.parityBad ∧ (s.wr r i w).acc = s.acc ∧
    (s.wr r i w).pwr = s.pwr ∧ (s.wr r i w).clk = s.clk ∧ (s.wr r i w).pins = s.pins ∧ (s.wr r i w).flt = s.flt ∧
    (s.wr r i w).domRamps = s.domRamps ∧ (s.wr r i w).domRst = s.domRst ∧ (s.wr r i w).hearth = s.hearth ∧
    (s.wr r i w).disp = s.disp ∧ (s.wr r i w).pwm = s.pwm ∧ (s.wr r i w).str = s.str ∧ (s.wr r i w).byp = s.byp ∧
    (s.wr r i w).px = s.px ∧ (s.wr r i w).grid = s.grid ∧ (s.wr r i w).adcTab = s.adcTab ∧
    (s.wr r i w).adcCv = s.adcCv ∧ (s.wr r i w).shr = s.shr ∧ (s.wr r i w).tlm = s.tlm ∧ (s.wr r i w).rack = s.rack ∧
    (s.wr r i w).ctx = s.ctx ∧ (s.wr r i w).eng = s.eng ∧ (s.wr r i w).spi = s.spi ∧ (s.wr r i w).net = s.net ∧
    (s.wr r i w).store = s.store ∧ (s.wr r i w).spare = s.spare ∧ (s.wr r i w).memc = s.memc ∧
    (s.wr r i w).nv = s.nv ∧ (s.wr r i w).sec = s.sec ∧ (s.wr r i w).dbg = s.dbg ∧ (s.wr r i w).slice = s.slice := by
  repeat' constructor

/-- `State.p` changes `regs` alone. -/
@[simp] theorem State.p_keeps (s : State) (f : Fld) (i v : Nat) :
   (s.p f i v).pending = s.pending ∧ (s.p f i v).free = s.free ∧ (s.p f i v).time = s.time ∧
    (s.p f i v).tick = s.tick ∧ (s.p f i v).mem = s.mem ∧ (s.p f i v).ecc = s.ecc ∧ (s.p f i v).img = s.img ∧
    (s.p f i v).staged = s.staged ∧ (s.p f i v).cyc = s.cyc ∧ (s.p f i v).posted = s.posted ∧ (s.p f i v).holdHi = s.holdHi ∧
    (s.p f i v).snaps = s.snaps ∧ (s.p f i v).parityBad = s.parityBad ∧ (s.p f i v).acc = s.acc ∧
    (s.p f i v).pwr = s.pwr ∧ (s.p f i v).clk = s.clk ∧ (s.p f i v).pins = s.pins ∧ (s.p f i v).flt = s.flt ∧
    (s.p f i v).domRamps = s.domRamps ∧ (s.p f i v).domRst = s.domRst ∧ (s.p f i v).hearth = s.hearth ∧
    (s.p f i v).disp = s.disp ∧ (s.p f i v).pwm = s.pwm ∧ (s.p f i v).str = s.str ∧ (s.p f i v).byp = s.byp ∧
    (s.p f i v).px = s.px ∧ (s.p f i v).grid = s.grid ∧ (s.p f i v).adcTab = s.adcTab ∧ (s.p f i v).adcCv = s.adcCv ∧
    (s.p f i v).shr = s.shr ∧ (s.p f i v).tlm = s.tlm ∧ (s.p f i v).rack = s.rack ∧ (s.p f i v).ctx = s.ctx ∧
    (s.p f i v).eng = s.eng ∧ (s.p f i v).spi = s.spi ∧ (s.p f i v).net = s.net ∧ (s.p f i v).store = s.store ∧
    (s.p f i v).spare = s.spare ∧ (s.p f i v).memc = s.memc ∧ (s.p f i v).nv = s.nv ∧ (s.p f i v).sec = s.sec ∧
    (s.p f i v).dbg = s.dbg ∧ (s.p f i v).slice = s.slice := by
  repeat' constructor

/-- `State.pb` changes `regs` alone. -/
@[simp] theorem State.pb_keeps (s : State) (f : Fld) (i : Nat) (v : Bool) :
   (s.pb f i v).pending = s.pending ∧ (s.pb f i v).free = s.free ∧ (s.pb f i v).time = s.time ∧
    (s.pb f i v).tick = s.tick ∧ (s.pb f i v).mem = s.mem ∧ (s.pb f i v).ecc = s.ecc ∧ (s.pb f i v).img = s.img ∧
    (s.pb f i v).staged = s.staged ∧ (s.pb f i v).cyc = s.cyc ∧ (s.pb f i v).posted = s.posted ∧ (s.pb f i v).holdHi = s.holdHi ∧
    (s.pb f i v).snaps = s.snaps ∧ (s.pb f i v).parityBad = s.parityBad ∧ (s.pb f i v).acc = s.acc ∧
    (s.pb f i v).pwr = s.pwr ∧ (s.pb f i v).clk = s.clk ∧ (s.pb f i v).pins = s.pins ∧ (s.pb f i v).flt = s.flt ∧
    (s.pb f i v).domRamps = s.domRamps ∧ (s.pb f i v).domRst = s.domRst ∧ (s.pb f i v).hearth = s.hearth ∧
    (s.pb f i v).disp = s.disp ∧ (s.pb f i v).pwm = s.pwm ∧ (s.pb f i v).str = s.str ∧ (s.pb f i v).byp = s.byp ∧
    (s.pb f i v).px = s.px ∧ (s.pb f i v).grid = s.grid ∧ (s.pb f i v).adcTab = s.adcTab ∧
    (s.pb f i v).adcCv = s.adcCv ∧ (s.pb f i v).shr = s.shr ∧ (s.pb f i v).tlm = s.tlm ∧ (s.pb f i v).rack = s.rack ∧
    (s.pb f i v).ctx = s.ctx ∧ (s.pb f i v).eng = s.eng ∧ (s.pb f i v).spi = s.spi ∧ (s.pb f i v).net = s.net ∧
    (s.pb f i v).store = s.store ∧ (s.pb f i v).spare = s.spare ∧ (s.pb f i v).memc = s.memc ∧
    (s.pb f i v).nv = s.nv ∧ (s.pb f i v).sec = s.sec ∧ (s.pb f i v).dbg = s.dbg ∧ (s.pb f i v).slice = s.slice := by
  repeat' constructor

/-- `State.setBits` changes `regs` alone. -/
@[simp] theorem State.setBits_keeps (s : State) (r : RegId) (i m : Nat) :
   (s.setBits r i m).pending = s.pending ∧ (s.setBits r i m).free = s.free ∧ (s.setBits r i m).time = s.time ∧
    (s.setBits r i m).tick = s.tick ∧ (s.setBits r i m).mem = s.mem ∧ (s.setBits r i m).ecc = s.ecc ∧
    (s.setBits r i m).img = s.img ∧ (s.setBits r i m).staged = s.staged ∧ (s.setBits r i m).cyc = s.cyc ∧
    (s.setBits r i m).posted = s.posted ∧
    (s.setBits r i m).holdHi = s.holdHi ∧ (s.setBits r i m).snaps = s.snaps ∧
    (s.setBits r i m).parityBad = s.parityBad ∧ (s.setBits r i m).acc = s.acc ∧ (s.setBits r i m).pwr = s.pwr ∧
    (s.setBits r i m).clk = s.clk ∧ (s.setBits r i m).pins = s.pins ∧ (s.setBits r i m).flt = s.flt ∧
    (s.setBits r i m).domRamps = s.domRamps ∧ (s.setBits r i m).domRst = s.domRst ∧
    (s.setBits r i m).hearth = s.hearth ∧ (s.setBits r i m).disp = s.disp ∧ (s.setBits r i m).pwm = s.pwm ∧
    (s.setBits r i m).str = s.str ∧ (s.setBits r i m).byp = s.byp ∧ (s.setBits r i m).px = s.px ∧
    (s.setBits r i m).grid = s.grid ∧ (s.setBits r i m).adcTab = s.adcTab ∧ (s.setBits r i m).adcCv = s.adcCv ∧
    (s.setBits r i m).shr = s.shr ∧ (s.setBits r i m).tlm = s.tlm ∧ (s.setBits r i m).rack = s.rack ∧
    (s.setBits r i m).ctx = s.ctx ∧ (s.setBits r i m).eng = s.eng ∧ (s.setBits r i m).spi = s.spi ∧
    (s.setBits r i m).net = s.net ∧ (s.setBits r i m).store = s.store ∧ (s.setBits r i m).spare = s.spare ∧
    (s.setBits r i m).memc = s.memc ∧ (s.setBits r i m).nv = s.nv ∧ (s.setBits r i m).sec = s.sec ∧
    (s.setBits r i m).dbg = s.dbg ∧ (s.setBits r i m).slice = s.slice := by
  repeat' constructor

/-- `State.clrBits` changes `regs` alone. -/
@[simp] theorem State.clrBits_keeps (s : State) (r : RegId) (i m : Nat) :
   (s.clrBits r i m).pending = s.pending ∧ (s.clrBits r i m).free = s.free ∧ (s.clrBits r i m).time = s.time ∧
    (s.clrBits r i m).tick = s.tick ∧ (s.clrBits r i m).mem = s.mem ∧ (s.clrBits r i m).ecc = s.ecc ∧
    (s.clrBits r i m).img = s.img ∧ (s.clrBits r i m).staged = s.staged ∧ (s.clrBits r i m).cyc = s.cyc ∧
    (s.clrBits r i m).posted = s.posted ∧
    (s.clrBits r i m).holdHi = s.holdHi ∧ (s.clrBits r i m).snaps = s.snaps ∧
    (s.clrBits r i m).parityBad = s.parityBad ∧ (s.clrBits r i m).acc = s.acc ∧ (s.clrBits r i m).pwr = s.pwr ∧
    (s.clrBits r i m).clk = s.clk ∧ (s.clrBits r i m).pins = s.pins ∧ (s.clrBits r i m).flt = s.flt ∧
    (s.clrBits r i m).domRamps = s.domRamps ∧ (s.clrBits r i m).domRst = s.domRst ∧
    (s.clrBits r i m).hearth = s.hearth ∧ (s.clrBits r i m).disp = s.disp ∧ (s.clrBits r i m).pwm = s.pwm ∧
    (s.clrBits r i m).str = s.str ∧ (s.clrBits r i m).byp = s.byp ∧ (s.clrBits r i m).px = s.px ∧
    (s.clrBits r i m).grid = s.grid ∧ (s.clrBits r i m).adcTab = s.adcTab ∧ (s.clrBits r i m).adcCv = s.adcCv ∧
    (s.clrBits r i m).shr = s.shr ∧ (s.clrBits r i m).tlm = s.tlm ∧ (s.clrBits r i m).rack = s.rack ∧
    (s.clrBits r i m).ctx = s.ctx ∧ (s.clrBits r i m).eng = s.eng ∧ (s.clrBits r i m).spi = s.spi ∧
    (s.clrBits r i m).net = s.net ∧ (s.clrBits r i m).store = s.store ∧ (s.clrBits r i m).spare = s.spare ∧
    (s.clrBits r i m).memc = s.memc ∧ (s.clrBits r i m).nv = s.nv ∧ (s.clrBits r i m).sec = s.sec ∧
    (s.clrBits r i m).dbg = s.dbg ∧ (s.clrBits r i m).slice = s.slice := by
  repeat' constructor

/-- `State.incSat` changes `regs` alone. -/
@[simp] theorem State.incSat_keeps (s : State) (f : Fld) (i : Nat) :
   (s.incSat f i).pending = s.pending ∧ (s.incSat f i).free = s.free ∧ (s.incSat f i).time = s.time ∧
    (s.incSat f i).tick = s.tick ∧ (s.incSat f i).mem = s.mem ∧ (s.incSat f i).ecc = s.ecc ∧
    (s.incSat f i).img = s.img ∧ (s.incSat f i).staged = s.staged ∧ (s.incSat f i).cyc = s.cyc ∧ (s.incSat f i).posted = s.posted ∧
    (s.incSat f i).holdHi = s.holdHi ∧ (s.incSat f i).snaps = s.snaps ∧ (s.incSat f i).parityBad = s.parityBad ∧
    (s.incSat f i).acc = s.acc ∧ (s.incSat f i).pwr = s.pwr ∧ (s.incSat f i).clk = s.clk ∧
    (s.incSat f i).pins = s.pins ∧ (s.incSat f i).flt = s.flt ∧ (s.incSat f i).domRamps = s.domRamps ∧
    (s.incSat f i).domRst = s.domRst ∧ (s.incSat f i).hearth = s.hearth ∧ (s.incSat f i).disp = s.disp ∧
    (s.incSat f i).pwm = s.pwm ∧ (s.incSat f i).str = s.str ∧ (s.incSat f i).byp = s.byp ∧ (s.incSat f i).px = s.px ∧
    (s.incSat f i).grid = s.grid ∧ (s.incSat f i).adcTab = s.adcTab ∧ (s.incSat f i).adcCv = s.adcCv ∧
    (s.incSat f i).shr = s.shr ∧ (s.incSat f i).tlm = s.tlm ∧ (s.incSat f i).rack = s.rack ∧
    (s.incSat f i).ctx = s.ctx ∧ (s.incSat f i).eng = s.eng ∧ (s.incSat f i).spi = s.spi ∧
    (s.incSat f i).net = s.net ∧ (s.incSat f i).store = s.store ∧ (s.incSat f i).spare = s.spare ∧
    (s.incSat f i).memc = s.memc ∧ (s.incSat f i).nv = s.nv ∧ (s.incSat f i).sec = s.sec ∧
    (s.incSat f i).dbg = s.dbg ∧ (s.incSat f i).slice = s.slice := by
  repeat' constructor

/-- `State.incMod` changes `regs` alone. -/
@[simp] theorem State.incMod_keeps (s : State) (f : Fld) (i : Nat) :
   (s.incMod f i).pending = s.pending ∧ (s.incMod f i).free = s.free ∧ (s.incMod f i).time = s.time ∧
    (s.incMod f i).tick = s.tick ∧ (s.incMod f i).mem = s.mem ∧ (s.incMod f i).ecc = s.ecc ∧
    (s.incMod f i).img = s.img ∧ (s.incMod f i).staged = s.staged ∧ (s.incMod f i).cyc = s.cyc ∧ (s.incMod f i).posted = s.posted ∧
    (s.incMod f i).holdHi = s.holdHi ∧ (s.incMod f i).snaps = s.snaps ∧ (s.incMod f i).parityBad = s.parityBad ∧
    (s.incMod f i).acc = s.acc ∧ (s.incMod f i).pwr = s.pwr ∧ (s.incMod f i).clk = s.clk ∧
    (s.incMod f i).pins = s.pins ∧ (s.incMod f i).flt = s.flt ∧ (s.incMod f i).domRamps = s.domRamps ∧
    (s.incMod f i).domRst = s.domRst ∧ (s.incMod f i).hearth = s.hearth ∧ (s.incMod f i).disp = s.disp ∧
    (s.incMod f i).pwm = s.pwm ∧ (s.incMod f i).str = s.str ∧ (s.incMod f i).byp = s.byp ∧ (s.incMod f i).px = s.px ∧
    (s.incMod f i).grid = s.grid ∧ (s.incMod f i).adcTab = s.adcTab ∧ (s.incMod f i).adcCv = s.adcCv ∧
    (s.incMod f i).shr = s.shr ∧ (s.incMod f i).tlm = s.tlm ∧ (s.incMod f i).rack = s.rack ∧
    (s.incMod f i).ctx = s.ctx ∧ (s.incMod f i).eng = s.eng ∧ (s.incMod f i).spi = s.spi ∧
    (s.incMod f i).net = s.net ∧ (s.incMod f i).store = s.store ∧ (s.incMod f i).spare = s.spare ∧
    (s.incMod f i).memc = s.memc ∧ (s.incMod f i).nv = s.nv ∧ (s.incMod f i).sec = s.sec ∧
    (s.incMod f i).dbg = s.dbg ∧ (s.incMod f i).slice = s.slice := by
  repeat' constructor

/-- `State.modCx` changes `ctx` alone. -/
@[simp] theorem State.modCx_keeps (s : State) (c : Fin 16) (f : Ctx → Ctx) :
   (s.modCx c f).pending = s.pending ∧ (s.modCx c f).free = s.free ∧ (s.modCx c f).time = s.time ∧
    (s.modCx c f).tick = s.tick ∧ (s.modCx c f).mem = s.mem ∧ (s.modCx c f).ecc = s.ecc ∧
    (s.modCx c f).regs = s.regs ∧ (s.modCx c f).img = s.img ∧ (s.modCx c f).staged = s.staged ∧ (s.modCx c f).cyc = s.cyc ∧
    (s.modCx c f).posted = s.posted ∧ (s.modCx c f).holdHi = s.holdHi ∧ (s.modCx c f).snaps = s.snaps ∧
    (s.modCx c f).parityBad = s.parityBad ∧ (s.modCx c f).acc = s.acc ∧ (s.modCx c f).pwr = s.pwr ∧
    (s.modCx c f).clk = s.clk ∧ (s.modCx c f).pins = s.pins ∧ (s.modCx c f).flt = s.flt ∧
    (s.modCx c f).domRamps = s.domRamps ∧ (s.modCx c f).domRst = s.domRst ∧ (s.modCx c f).hearth = s.hearth ∧
    (s.modCx c f).disp = s.disp ∧ (s.modCx c f).pwm = s.pwm ∧ (s.modCx c f).str = s.str ∧ (s.modCx c f).byp = s.byp ∧
    (s.modCx c f).px = s.px ∧ (s.modCx c f).grid = s.grid ∧ (s.modCx c f).adcTab = s.adcTab ∧
    (s.modCx c f).adcCv = s.adcCv ∧ (s.modCx c f).shr = s.shr ∧ (s.modCx c f).tlm = s.tlm ∧
    (s.modCx c f).rack = s.rack ∧ (s.modCx c f).eng = s.eng ∧ (s.modCx c f).spi = s.spi ∧ (s.modCx c f).net = s.net ∧
    (s.modCx c f).store = s.store ∧ (s.modCx c f).spare = s.spare ∧ (s.modCx c f).memc = s.memc ∧
    (s.modCx c f).nv = s.nv ∧ (s.modCx c f).sec = s.sec ∧ (s.modCx c f).dbg = s.dbg ∧
    (s.modCx c f).slice = s.slice := by
  repeat' constructor

/-- `State.modEn` changes `eng` alone. -/
@[simp] theorem State.modEn_keeps (s : State) (e : Fin 4) (f : Eng → Eng) :
   (s.modEn e f).pending = s.pending ∧ (s.modEn e f).free = s.free ∧ (s.modEn e f).time = s.time ∧
    (s.modEn e f).tick = s.tick ∧ (s.modEn e f).mem = s.mem ∧ (s.modEn e f).ecc = s.ecc ∧
    (s.modEn e f).regs = s.regs ∧ (s.modEn e f).img = s.img ∧ (s.modEn e f).staged = s.staged ∧ (s.modEn e f).cyc = s.cyc ∧
    (s.modEn e f).posted = s.posted ∧ (s.modEn e f).holdHi = s.holdHi ∧ (s.modEn e f).snaps = s.snaps ∧
    (s.modEn e f).parityBad = s.parityBad ∧ (s.modEn e f).acc = s.acc ∧ (s.modEn e f).pwr = s.pwr ∧
    (s.modEn e f).clk = s.clk ∧ (s.modEn e f).pins = s.pins ∧ (s.modEn e f).flt = s.flt ∧
    (s.modEn e f).domRamps = s.domRamps ∧ (s.modEn e f).domRst = s.domRst ∧ (s.modEn e f).hearth = s.hearth ∧
    (s.modEn e f).disp = s.disp ∧ (s.modEn e f).pwm = s.pwm ∧ (s.modEn e f).str = s.str ∧ (s.modEn e f).byp = s.byp ∧
    (s.modEn e f).px = s.px ∧ (s.modEn e f).grid = s.grid ∧ (s.modEn e f).adcTab = s.adcTab ∧
    (s.modEn e f).adcCv = s.adcCv ∧ (s.modEn e f).shr = s.shr ∧ (s.modEn e f).tlm = s.tlm ∧
    (s.modEn e f).rack = s.rack ∧ (s.modEn e f).ctx = s.ctx ∧ (s.modEn e f).spi = s.spi ∧ (s.modEn e f).net = s.net ∧
    (s.modEn e f).store = s.store ∧ (s.modEn e f).spare = s.spare ∧ (s.modEn e f).memc = s.memc ∧
    (s.modEn e f).nv = s.nv ∧ (s.modEn e f).sec = s.sec ∧ (s.modEn e f).dbg = s.dbg ∧
    (s.modEn e f).slice = s.slice := by
  repeat' constructor

/-- `State.modPw` changes `pwm` alone. -/
@[simp] theorem State.modPw_keeps (s : State) (i : Fin 6) (f : Pwm → Pwm) :
   (s.modPw i f).pending = s.pending ∧ (s.modPw i f).free = s.free ∧ (s.modPw i f).time = s.time ∧
    (s.modPw i f).tick = s.tick ∧ (s.modPw i f).mem = s.mem ∧ (s.modPw i f).ecc = s.ecc ∧
    (s.modPw i f).regs = s.regs ∧ (s.modPw i f).img = s.img ∧ (s.modPw i f).staged = s.staged ∧ (s.modPw i f).cyc = s.cyc ∧
    (s.modPw i f).posted = s.posted ∧ (s.modPw i f).holdHi = s.holdHi ∧ (s.modPw i f).snaps = s.snaps ∧
    (s.modPw i f).parityBad = s.parityBad ∧ (s.modPw i f).acc = s.acc ∧ (s.modPw i f).pwr = s.pwr ∧
    (s.modPw i f).clk = s.clk ∧ (s.modPw i f).pins = s.pins ∧ (s.modPw i f).flt = s.flt ∧
    (s.modPw i f).domRamps = s.domRamps ∧ (s.modPw i f).domRst = s.domRst ∧ (s.modPw i f).hearth = s.hearth ∧
    (s.modPw i f).disp = s.disp ∧ (s.modPw i f).str = s.str ∧ (s.modPw i f).byp = s.byp ∧ (s.modPw i f).px = s.px ∧
    (s.modPw i f).grid = s.grid ∧ (s.modPw i f).adcTab = s.adcTab ∧ (s.modPw i f).adcCv = s.adcCv ∧
    (s.modPw i f).shr = s.shr ∧ (s.modPw i f).tlm = s.tlm ∧ (s.modPw i f).rack = s.rack ∧ (s.modPw i f).ctx = s.ctx ∧
    (s.modPw i f).eng = s.eng ∧ (s.modPw i f).spi = s.spi ∧ (s.modPw i f).net = s.net ∧
    (s.modPw i f).store = s.store ∧ (s.modPw i f).spare = s.spare ∧ (s.modPw i f).memc = s.memc ∧
    (s.modPw i f).nv = s.nv ∧ (s.modPw i f).sec = s.sec ∧ (s.modPw i f).dbg = s.dbg ∧
    (s.modPw i f).slice = s.slice := by
  repeat' constructor

/-- `State.modSt` changes `str` alone. -/
@[simp] theorem State.modSt_keeps (s : State) (i : Fin 6) (f : Str → Str) :
   (s.modSt i f).pending = s.pending ∧ (s.modSt i f).free = s.free ∧ (s.modSt i f).time = s.time ∧
    (s.modSt i f).tick = s.tick ∧ (s.modSt i f).mem = s.mem ∧ (s.modSt i f).ecc = s.ecc ∧
    (s.modSt i f).regs = s.regs ∧ (s.modSt i f).img = s.img ∧ (s.modSt i f).staged = s.staged ∧ (s.modSt i f).cyc = s.cyc ∧
    (s.modSt i f).posted = s.posted ∧ (s.modSt i f).holdHi = s.holdHi ∧ (s.modSt i f).snaps = s.snaps ∧
    (s.modSt i f).parityBad = s.parityBad ∧ (s.modSt i f).acc = s.acc ∧ (s.modSt i f).pwr = s.pwr ∧
    (s.modSt i f).clk = s.clk ∧ (s.modSt i f).pins = s.pins ∧ (s.modSt i f).flt = s.flt ∧
    (s.modSt i f).domRamps = s.domRamps ∧ (s.modSt i f).domRst = s.domRst ∧ (s.modSt i f).hearth = s.hearth ∧
    (s.modSt i f).disp = s.disp ∧ (s.modSt i f).pwm = s.pwm ∧ (s.modSt i f).byp = s.byp ∧ (s.modSt i f).px = s.px ∧
    (s.modSt i f).grid = s.grid ∧ (s.modSt i f).adcTab = s.adcTab ∧ (s.modSt i f).adcCv = s.adcCv ∧
    (s.modSt i f).shr = s.shr ∧ (s.modSt i f).tlm = s.tlm ∧ (s.modSt i f).rack = s.rack ∧ (s.modSt i f).ctx = s.ctx ∧
    (s.modSt i f).eng = s.eng ∧ (s.modSt i f).spi = s.spi ∧ (s.modSt i f).net = s.net ∧
    (s.modSt i f).store = s.store ∧ (s.modSt i f).spare = s.spare ∧ (s.modSt i f).memc = s.memc ∧
    (s.modSt i f).nv = s.nv ∧ (s.modSt i f).sec = s.sec ∧ (s.modSt i f).dbg = s.dbg ∧
    (s.modSt i f).slice = s.slice := by
  repeat' constructor

/-- `State.modBy` changes `byp` alone. -/
@[simp] theorem State.modBy_keeps (s : State) (i : Fin 6) (f : Byp → Byp) :
   (s.modBy i f).pending = s.pending ∧ (s.modBy i f).free = s.free ∧ (s.modBy i f).time = s.time ∧
    (s.modBy i f).tick = s.tick ∧ (s.modBy i f).mem = s.mem ∧ (s.modBy i f).ecc = s.ecc ∧
    (s.modBy i f).regs = s.regs ∧ (s.modBy i f).img = s.img ∧ (s.modBy i f).staged = s.staged ∧ (s.modBy i f).cyc = s.cyc ∧
    (s.modBy i f).posted = s.posted ∧ (s.modBy i f).holdHi = s.holdHi ∧ (s.modBy i f).snaps = s.snaps ∧
    (s.modBy i f).parityBad = s.parityBad ∧ (s.modBy i f).acc = s.acc ∧ (s.modBy i f).pwr = s.pwr ∧
    (s.modBy i f).clk = s.clk ∧ (s.modBy i f).pins = s.pins ∧ (s.modBy i f).flt = s.flt ∧
    (s.modBy i f).domRamps = s.domRamps ∧ (s.modBy i f).domRst = s.domRst ∧ (s.modBy i f).hearth = s.hearth ∧
    (s.modBy i f).disp = s.disp ∧ (s.modBy i f).pwm = s.pwm ∧ (s.modBy i f).str = s.str ∧ (s.modBy i f).px = s.px ∧
    (s.modBy i f).grid = s.grid ∧ (s.modBy i f).adcTab = s.adcTab ∧ (s.modBy i f).adcCv = s.adcCv ∧
    (s.modBy i f).shr = s.shr ∧ (s.modBy i f).tlm = s.tlm ∧ (s.modBy i f).rack = s.rack ∧ (s.modBy i f).ctx = s.ctx ∧
    (s.modBy i f).eng = s.eng ∧ (s.modBy i f).spi = s.spi ∧ (s.modBy i f).net = s.net ∧
    (s.modBy i f).store = s.store ∧ (s.modBy i f).spare = s.spare ∧ (s.modBy i f).memc = s.memc ∧
    (s.modBy i f).nv = s.nv ∧ (s.modBy i f).sec = s.sec ∧ (s.modBy i f).dbg = s.dbg ∧
    (s.modBy i f).slice = s.slice := by
  repeat' constructor

/-- `State.modTab` changes `adcTab` alone. -/
@[simp] theorem State.modTab_keeps (s : State) (x : Fin 2) (f : AdcTab → AdcTab) :
   (s.modTab x f).pending = s.pending ∧ (s.modTab x f).free = s.free ∧ (s.modTab x f).time = s.time ∧
    (s.modTab x f).tick = s.tick ∧ (s.modTab x f).mem = s.mem ∧ (s.modTab x f).ecc = s.ecc ∧
    (s.modTab x f).regs = s.regs ∧ (s.modTab x f).img = s.img ∧ (s.modTab x f).staged = s.staged ∧ (s.modTab x f).cyc = s.cyc ∧
    (s.modTab x f).posted = s.posted ∧ (s.modTab x f).holdHi = s.holdHi ∧ (s.modTab x f).snaps = s.snaps ∧
    (s.modTab x f).parityBad = s.parityBad ∧ (s.modTab x f).acc = s.acc ∧ (s.modTab x f).pwr = s.pwr ∧
    (s.modTab x f).clk = s.clk ∧ (s.modTab x f).pins = s.pins ∧ (s.modTab x f).flt = s.flt ∧
    (s.modTab x f).domRamps = s.domRamps ∧ (s.modTab x f).domRst = s.domRst ∧ (s.modTab x f).hearth = s.hearth ∧
    (s.modTab x f).disp = s.disp ∧ (s.modTab x f).pwm = s.pwm ∧ (s.modTab x f).str = s.str ∧
    (s.modTab x f).byp = s.byp ∧ (s.modTab x f).px = s.px ∧ (s.modTab x f).grid = s.grid ∧
    (s.modTab x f).adcCv = s.adcCv ∧ (s.modTab x f).shr = s.shr ∧ (s.modTab x f).tlm = s.tlm ∧
    (s.modTab x f).rack = s.rack ∧ (s.modTab x f).ctx = s.ctx ∧ (s.modTab x f).eng = s.eng ∧
    (s.modTab x f).spi = s.spi ∧ (s.modTab x f).net = s.net ∧ (s.modTab x f).store = s.store ∧
    (s.modTab x f).spare = s.spare ∧ (s.modTab x f).memc = s.memc ∧ (s.modTab x f).nv = s.nv ∧
    (s.modTab x f).sec = s.sec ∧ (s.modTab x f).dbg = s.dbg ∧ (s.modTab x f).slice = s.slice := by
  repeat' constructor

/-- `State.modCv` changes `adcCv` alone. -/
@[simp] theorem State.modCv_keeps (s : State) (x : Fin 2) (f : AdcCv → AdcCv) :
   (s.modCv x f).pending = s.pending ∧ (s.modCv x f).free = s.free ∧ (s.modCv x f).time = s.time ∧
    (s.modCv x f).tick = s.tick ∧ (s.modCv x f).mem = s.mem ∧ (s.modCv x f).ecc = s.ecc ∧
    (s.modCv x f).regs = s.regs ∧ (s.modCv x f).img = s.img ∧ (s.modCv x f).staged = s.staged ∧ (s.modCv x f).cyc = s.cyc ∧
    (s.modCv x f).posted = s.posted ∧ (s.modCv x f).holdHi = s.holdHi ∧ (s.modCv x f).snaps = s.snaps ∧
    (s.modCv x f).parityBad = s.parityBad ∧ (s.modCv x f).acc = s.acc ∧ (s.modCv x f).pwr = s.pwr ∧
    (s.modCv x f).clk = s.clk ∧ (s.modCv x f).pins = s.pins ∧ (s.modCv x f).flt = s.flt ∧
    (s.modCv x f).domRamps = s.domRamps ∧ (s.modCv x f).domRst = s.domRst ∧ (s.modCv x f).hearth = s.hearth ∧
    (s.modCv x f).disp = s.disp ∧ (s.modCv x f).pwm = s.pwm ∧ (s.modCv x f).str = s.str ∧ (s.modCv x f).byp = s.byp ∧
    (s.modCv x f).px = s.px ∧ (s.modCv x f).grid = s.grid ∧ (s.modCv x f).adcTab = s.adcTab ∧
    (s.modCv x f).shr = s.shr ∧ (s.modCv x f).tlm = s.tlm ∧ (s.modCv x f).rack = s.rack ∧ (s.modCv x f).ctx = s.ctx ∧
    (s.modCv x f).eng = s.eng ∧ (s.modCv x f).spi = s.spi ∧ (s.modCv x f).net = s.net ∧
    (s.modCv x f).store = s.store ∧ (s.modCv x f).spare = s.spare ∧ (s.modCv x f).memc = s.memc ∧
    (s.modCv x f).nv = s.nv ∧ (s.modCv x f).sec = s.sec ∧ (s.modCv x f).dbg = s.dbg ∧
    (s.modCv x f).slice = s.slice := by
  repeat' constructor

/-- `State.modGrid` changes `grid` alone. -/
@[simp] theorem State.modGrid_keeps (s : State) (f : Grid → Grid) :
   (s.modGrid f).pending = s.pending ∧ (s.modGrid f).free = s.free ∧ (s.modGrid f).time = s.time ∧
    (s.modGrid f).tick = s.tick ∧ (s.modGrid f).mem = s.mem ∧ (s.modGrid f).ecc = s.ecc ∧
    (s.modGrid f).regs = s.regs ∧ (s.modGrid f).img = s.img ∧ (s.modGrid f).staged = s.staged ∧ (s.modGrid f).cyc = s.cyc ∧
    (s.modGrid f).posted = s.posted ∧ (s.modGrid f).holdHi = s.holdHi ∧ (s.modGrid f).snaps = s.snaps ∧
    (s.modGrid f).parityBad = s.parityBad ∧ (s.modGrid f).acc = s.acc ∧ (s.modGrid f).pwr = s.pwr ∧
    (s.modGrid f).clk = s.clk ∧ (s.modGrid f).pins = s.pins ∧ (s.modGrid f).flt = s.flt ∧
    (s.modGrid f).domRamps = s.domRamps ∧ (s.modGrid f).domRst = s.domRst ∧ (s.modGrid f).hearth = s.hearth ∧
    (s.modGrid f).disp = s.disp ∧ (s.modGrid f).pwm = s.pwm ∧ (s.modGrid f).str = s.str ∧ (s.modGrid f).byp = s.byp ∧
    (s.modGrid f).px = s.px ∧ (s.modGrid f).adcTab = s.adcTab ∧ (s.modGrid f).adcCv = s.adcCv ∧
    (s.modGrid f).shr = s.shr ∧ (s.modGrid f).tlm = s.tlm ∧ (s.modGrid f).rack = s.rack ∧ (s.modGrid f).ctx = s.ctx ∧
    (s.modGrid f).eng = s.eng ∧ (s.modGrid f).spi = s.spi ∧ (s.modGrid f).net = s.net ∧
    (s.modGrid f).store = s.store ∧ (s.modGrid f).spare = s.spare ∧ (s.modGrid f).memc = s.memc ∧
    (s.modGrid f).nv = s.nv ∧ (s.modGrid f).sec = s.sec ∧ (s.modGrid f).dbg = s.dbg ∧
    (s.modGrid f).slice = s.slice := by
  repeat' constructor

/-- `State.modTlm` changes `tlm` alone. -/
@[simp] theorem State.modTlm_keeps (s : State) (f : Tlm → Tlm) :
   (s.modTlm f).pending = s.pending ∧ (s.modTlm f).free = s.free ∧ (s.modTlm f).time = s.time ∧
    (s.modTlm f).tick = s.tick ∧ (s.modTlm f).mem = s.mem ∧ (s.modTlm f).ecc = s.ecc ∧ (s.modTlm f).regs = s.regs ∧
    (s.modTlm f).img = s.img ∧ (s.modTlm f).staged = s.staged ∧ (s.modTlm f).cyc = s.cyc ∧ (s.modTlm f).posted = s.posted ∧
    (s.modTlm f).holdHi = s.holdHi ∧ (s.modTlm f).snaps = s.snaps ∧ (s.modTlm f).parityBad = s.parityBad ∧
    (s.modTlm f).acc = s.acc ∧ (s.modTlm f).pwr = s.pwr ∧ (s.modTlm f).clk = s.clk ∧ (s.modTlm f).pins = s.pins ∧
    (s.modTlm f).flt = s.flt ∧ (s.modTlm f).domRamps = s.domRamps ∧ (s.modTlm f).domRst = s.domRst ∧
    (s.modTlm f).hearth = s.hearth ∧ (s.modTlm f).disp = s.disp ∧ (s.modTlm f).pwm = s.pwm ∧
    (s.modTlm f).str = s.str ∧ (s.modTlm f).byp = s.byp ∧ (s.modTlm f).px = s.px ∧ (s.modTlm f).grid = s.grid ∧
    (s.modTlm f).adcTab = s.adcTab ∧ (s.modTlm f).adcCv = s.adcCv ∧ (s.modTlm f).shr = s.shr ∧
    (s.modTlm f).rack = s.rack ∧ (s.modTlm f).ctx = s.ctx ∧ (s.modTlm f).eng = s.eng ∧ (s.modTlm f).spi = s.spi ∧
    (s.modTlm f).net = s.net ∧ (s.modTlm f).store = s.store ∧ (s.modTlm f).spare = s.spare ∧
    (s.modTlm f).memc = s.memc ∧ (s.modTlm f).nv = s.nv ∧ (s.modTlm f).sec = s.sec ∧ (s.modTlm f).dbg = s.dbg ∧
    (s.modTlm f).slice = s.slice := by
  repeat' constructor

/-- `State.modNet` changes `net` alone. -/
@[simp] theorem State.modNet_keeps (s : State) (f : Net → Net) :
   (s.modNet f).pending = s.pending ∧ (s.modNet f).free = s.free ∧ (s.modNet f).time = s.time ∧
    (s.modNet f).tick = s.tick ∧ (s.modNet f).mem = s.mem ∧ (s.modNet f).ecc = s.ecc ∧ (s.modNet f).regs = s.regs ∧
    (s.modNet f).img = s.img ∧ (s.modNet f).staged = s.staged ∧ (s.modNet f).cyc = s.cyc ∧ (s.modNet f).posted = s.posted ∧
    (s.modNet f).holdHi = s.holdHi ∧ (s.modNet f).snaps = s.snaps ∧ (s.modNet f).parityBad = s.parityBad ∧
    (s.modNet f).acc = s.acc ∧ (s.modNet f).pwr = s.pwr ∧ (s.modNet f).clk = s.clk ∧ (s.modNet f).pins = s.pins ∧
    (s.modNet f).flt = s.flt ∧ (s.modNet f).domRamps = s.domRamps ∧ (s.modNet f).domRst = s.domRst ∧
    (s.modNet f).hearth = s.hearth ∧ (s.modNet f).disp = s.disp ∧ (s.modNet f).pwm = s.pwm ∧
    (s.modNet f).str = s.str ∧ (s.modNet f).byp = s.byp ∧ (s.modNet f).px = s.px ∧ (s.modNet f).grid = s.grid ∧
    (s.modNet f).adcTab = s.adcTab ∧ (s.modNet f).adcCv = s.adcCv ∧ (s.modNet f).shr = s.shr ∧
    (s.modNet f).tlm = s.tlm ∧ (s.modNet f).rack = s.rack ∧ (s.modNet f).ctx = s.ctx ∧ (s.modNet f).eng = s.eng ∧
    (s.modNet f).spi = s.spi ∧ (s.modNet f).store = s.store ∧ (s.modNet f).spare = s.spare ∧
    (s.modNet f).memc = s.memc ∧ (s.modNet f).nv = s.nv ∧ (s.modNet f).sec = s.sec ∧ (s.modNet f).dbg = s.dbg ∧
    (s.modNet f).slice = s.slice := by
  repeat' constructor

/-- `State.modRack` changes `rack` alone. -/
@[simp] theorem State.modRack_keeps (s : State) (f : Rack → Rack) :
   (s.modRack f).pending = s.pending ∧ (s.modRack f).free = s.free ∧ (s.modRack f).time = s.time ∧
    (s.modRack f).tick = s.tick ∧ (s.modRack f).mem = s.mem ∧ (s.modRack f).ecc = s.ecc ∧
    (s.modRack f).regs = s.regs ∧ (s.modRack f).img = s.img ∧ (s.modRack f).staged = s.staged ∧ (s.modRack f).cyc = s.cyc ∧
    (s.modRack f).posted = s.posted ∧ (s.modRack f).holdHi = s.holdHi ∧ (s.modRack f).snaps = s.snaps ∧
    (s.modRack f).parityBad = s.parityBad ∧ (s.modRack f).acc = s.acc ∧ (s.modRack f).pwr = s.pwr ∧
    (s.modRack f).clk = s.clk ∧ (s.modRack f).pins = s.pins ∧ (s.modRack f).flt = s.flt ∧
    (s.modRack f).domRamps = s.domRamps ∧ (s.modRack f).domRst = s.domRst ∧ (s.modRack f).hearth = s.hearth ∧
    (s.modRack f).disp = s.disp ∧ (s.modRack f).pwm = s.pwm ∧ (s.modRack f).str = s.str ∧ (s.modRack f).byp = s.byp ∧
    (s.modRack f).px = s.px ∧ (s.modRack f).grid = s.grid ∧ (s.modRack f).adcTab = s.adcTab ∧
    (s.modRack f).adcCv = s.adcCv ∧ (s.modRack f).shr = s.shr ∧ (s.modRack f).tlm = s.tlm ∧
    (s.modRack f).ctx = s.ctx ∧ (s.modRack f).eng = s.eng ∧ (s.modRack f).spi = s.spi ∧ (s.modRack f).net = s.net ∧
    (s.modRack f).store = s.store ∧ (s.modRack f).spare = s.spare ∧ (s.modRack f).memc = s.memc ∧
    (s.modRack f).nv = s.nv ∧ (s.modRack f).sec = s.sec ∧ (s.modRack f).dbg = s.dbg ∧
    (s.modRack f).slice = s.slice := by
  repeat' constructor

/-- `State.modSec` changes `sec` alone. -/
@[simp] theorem State.modSec_keeps (s : State) (f : Sec → Sec) :
   (s.modSec f).pending = s.pending ∧ (s.modSec f).free = s.free ∧ (s.modSec f).time = s.time ∧
    (s.modSec f).tick = s.tick ∧ (s.modSec f).mem = s.mem ∧ (s.modSec f).ecc = s.ecc ∧ (s.modSec f).regs = s.regs ∧
    (s.modSec f).img = s.img ∧ (s.modSec f).staged = s.staged ∧ (s.modSec f).cyc = s.cyc ∧ (s.modSec f).posted = s.posted ∧
    (s.modSec f).holdHi = s.holdHi ∧ (s.modSec f).snaps = s.snaps ∧ (s.modSec f).parityBad = s.parityBad ∧
    (s.modSec f).acc = s.acc ∧ (s.modSec f).pwr = s.pwr ∧ (s.modSec f).clk = s.clk ∧ (s.modSec f).pins = s.pins ∧
    (s.modSec f).flt = s.flt ∧ (s.modSec f).domRamps = s.domRamps ∧ (s.modSec f).domRst = s.domRst ∧
    (s.modSec f).hearth = s.hearth ∧ (s.modSec f).disp = s.disp ∧ (s.modSec f).pwm = s.pwm ∧
    (s.modSec f).str = s.str ∧ (s.modSec f).byp = s.byp ∧ (s.modSec f).px = s.px ∧ (s.modSec f).grid = s.grid ∧
    (s.modSec f).adcTab = s.adcTab ∧ (s.modSec f).adcCv = s.adcCv ∧ (s.modSec f).shr = s.shr ∧
    (s.modSec f).tlm = s.tlm ∧ (s.modSec f).rack = s.rack ∧ (s.modSec f).ctx = s.ctx ∧ (s.modSec f).eng = s.eng ∧
    (s.modSec f).spi = s.spi ∧ (s.modSec f).net = s.net ∧ (s.modSec f).store = s.store ∧
    (s.modSec f).spare = s.spare ∧ (s.modSec f).memc = s.memc ∧ (s.modSec f).nv = s.nv ∧ (s.modSec f).dbg = s.dbg ∧
    (s.modSec f).slice = s.slice := by
  repeat' constructor

/-- `State.modStore` changes `store` alone. -/
@[simp] theorem State.modStore_keeps (s : State) (f : Img → Img) :
   (s.modStore f).pending = s.pending ∧ (s.modStore f).free = s.free ∧ (s.modStore f).time = s.time ∧
    (s.modStore f).tick = s.tick ∧ (s.modStore f).mem = s.mem ∧ (s.modStore f).ecc = s.ecc ∧
    (s.modStore f).regs = s.regs ∧ (s.modStore f).img = s.img ∧ (s.modStore f).staged = s.staged ∧ (s.modStore f).cyc = s.cyc ∧
    (s.modStore f).posted = s.posted ∧ (s.modStore f).holdHi = s.holdHi ∧ (s.modStore f).snaps = s.snaps ∧
    (s.modStore f).parityBad = s.parityBad ∧ (s.modStore f).acc = s.acc ∧ (s.modStore f).pwr = s.pwr ∧
    (s.modStore f).clk = s.clk ∧ (s.modStore f).pins = s.pins ∧ (s.modStore f).flt = s.flt ∧
    (s.modStore f).domRamps = s.domRamps ∧ (s.modStore f).domRst = s.domRst ∧ (s.modStore f).hearth = s.hearth ∧
    (s.modStore f).disp = s.disp ∧ (s.modStore f).pwm = s.pwm ∧ (s.modStore f).str = s.str ∧
    (s.modStore f).byp = s.byp ∧ (s.modStore f).px = s.px ∧ (s.modStore f).grid = s.grid ∧
    (s.modStore f).adcTab = s.adcTab ∧ (s.modStore f).adcCv = s.adcCv ∧ (s.modStore f).shr = s.shr ∧
    (s.modStore f).tlm = s.tlm ∧ (s.modStore f).rack = s.rack ∧ (s.modStore f).ctx = s.ctx ∧
    (s.modStore f).eng = s.eng ∧ (s.modStore f).spi = s.spi ∧ (s.modStore f).net = s.net ∧
    (s.modStore f).spare = s.spare ∧ (s.modStore f).memc = s.memc ∧ (s.modStore f).nv = s.nv ∧
    (s.modStore f).sec = s.sec ∧ (s.modStore f).dbg = s.dbg ∧ (s.modStore f).slice = s.slice := by
  repeat' constructor

/-- `State.modMemc` changes `memc` alone. -/
@[simp] theorem State.modMemc_keeps (s : State) (f : MemC → MemC) :
   (s.modMemc f).pending = s.pending ∧ (s.modMemc f).free = s.free ∧ (s.modMemc f).time = s.time ∧
    (s.modMemc f).tick = s.tick ∧ (s.modMemc f).mem = s.mem ∧ (s.modMemc f).ecc = s.ecc ∧
    (s.modMemc f).regs = s.regs ∧ (s.modMemc f).img = s.img ∧ (s.modMemc f).staged = s.staged ∧ (s.modMemc f).cyc = s.cyc ∧
    (s.modMemc f).posted = s.posted ∧ (s.modMemc f).holdHi = s.holdHi ∧ (s.modMemc f).snaps = s.snaps ∧
    (s.modMemc f).parityBad = s.parityBad ∧ (s.modMemc f).acc = s.acc ∧ (s.modMemc f).pwr = s.pwr ∧
    (s.modMemc f).clk = s.clk ∧ (s.modMemc f).pins = s.pins ∧ (s.modMemc f).flt = s.flt ∧
    (s.modMemc f).domRamps = s.domRamps ∧ (s.modMemc f).domRst = s.domRst ∧ (s.modMemc f).hearth = s.hearth ∧
    (s.modMemc f).disp = s.disp ∧ (s.modMemc f).pwm = s.pwm ∧ (s.modMemc f).str = s.str ∧ (s.modMemc f).byp = s.byp ∧
    (s.modMemc f).px = s.px ∧ (s.modMemc f).grid = s.grid ∧ (s.modMemc f).adcTab = s.adcTab ∧
    (s.modMemc f).adcCv = s.adcCv ∧ (s.modMemc f).shr = s.shr ∧ (s.modMemc f).tlm = s.tlm ∧
    (s.modMemc f).rack = s.rack ∧ (s.modMemc f).ctx = s.ctx ∧ (s.modMemc f).eng = s.eng ∧ (s.modMemc f).spi = s.spi ∧
    (s.modMemc f).net = s.net ∧ (s.modMemc f).store = s.store ∧ (s.modMemc f).spare = s.spare ∧
    (s.modMemc f).nv = s.nv ∧ (s.modMemc f).sec = s.sec ∧ (s.modMemc f).dbg = s.dbg ∧
    (s.modMemc f).slice = s.slice := by
  repeat' constructor

/-- `State.modBank` changes `spare` alone. -/
@[simp] theorem State.modBank_keeps (s : State) (b : Fin 11) (f : Bank → Bank) :
   (s.modBank b f).pending = s.pending ∧ (s.modBank b f).free = s.free ∧ (s.modBank b f).time = s.time ∧
    (s.modBank b f).tick = s.tick ∧ (s.modBank b f).mem = s.mem ∧ (s.modBank b f).ecc = s.ecc ∧
    (s.modBank b f).regs = s.regs ∧ (s.modBank b f).img = s.img ∧ (s.modBank b f).staged = s.staged ∧ (s.modBank b f).cyc = s.cyc ∧
    (s.modBank b f).posted = s.posted ∧ (s.modBank b f).holdHi = s.holdHi ∧ (s.modBank b f).snaps = s.snaps ∧
    (s.modBank b f).parityBad = s.parityBad ∧ (s.modBank b f).acc = s.acc ∧ (s.modBank b f).pwr = s.pwr ∧
    (s.modBank b f).clk = s.clk ∧ (s.modBank b f).pins = s.pins ∧ (s.modBank b f).flt = s.flt ∧
    (s.modBank b f).domRamps = s.domRamps ∧ (s.modBank b f).domRst = s.domRst ∧ (s.modBank b f).hearth = s.hearth ∧
    (s.modBank b f).disp = s.disp ∧ (s.modBank b f).pwm = s.pwm ∧ (s.modBank b f).str = s.str ∧
    (s.modBank b f).byp = s.byp ∧ (s.modBank b f).px = s.px ∧ (s.modBank b f).grid = s.grid ∧
    (s.modBank b f).adcTab = s.adcTab ∧ (s.modBank b f).adcCv = s.adcCv ∧ (s.modBank b f).shr = s.shr ∧
    (s.modBank b f).tlm = s.tlm ∧ (s.modBank b f).rack = s.rack ∧ (s.modBank b f).ctx = s.ctx ∧
    (s.modBank b f).eng = s.eng ∧ (s.modBank b f).spi = s.spi ∧ (s.modBank b f).net = s.net ∧
    (s.modBank b f).store = s.store ∧ (s.modBank b f).memc = s.memc ∧ (s.modBank b f).nv = s.nv ∧
    (s.modBank b f).sec = s.sec ∧ (s.modBank b f).dbg = s.dbg ∧ (s.modBank b f).slice = s.slice := by
  repeat' constructor

/-- `State.result` changes `acc` alone. -/
@[simp] theorem State.result_keeps (s : State) (p : Port) (code data : Nat) :
   (s.result p code data).pending = s.pending ∧ (s.result p code data).free = s.free ∧
    (s.result p code data).time = s.time ∧ (s.result p code data).tick = s.tick ∧
    (s.result p code data).mem = s.mem ∧ (s.result p code data).ecc = s.ecc ∧ (s.result p code data).regs = s.regs ∧
    (s.result p code data).img = s.img ∧ (s.result p code data).staged = s.staged ∧ (s.result p code data).cyc = s.cyc ∧
    (s.result p code data).posted = s.posted ∧ (s.result p code data).holdHi = s.holdHi ∧
    (s.result p code data).snaps = s.snaps ∧ (s.result p code data).parityBad = s.parityBad ∧
    (s.result p code data).pwr = s.pwr ∧ (s.result p code data).clk = s.clk ∧ (s.result p code data).pins = s.pins ∧
    (s.result p code data).flt = s.flt ∧ (s.result p code data).domRamps = s.domRamps ∧
    (s.result p code data).domRst = s.domRst ∧ (s.result p code data).hearth = s.hearth ∧
    (s.result p code data).disp = s.disp ∧ (s.result p code data).pwm = s.pwm ∧ (s.result p code data).str = s.str ∧
    (s.result p code data).byp = s.byp ∧ (s.result p code data).px = s.px ∧ (s.result p code data).grid = s.grid ∧
    (s.result p code data).adcTab = s.adcTab ∧ (s.result p code data).adcCv = s.adcCv ∧
    (s.result p code data).shr = s.shr ∧ (s.result p code data).tlm = s.tlm ∧ (s.result p code data).rack = s.rack ∧
    (s.result p code data).ctx = s.ctx ∧ (s.result p code data).eng = s.eng ∧ (s.result p code data).spi = s.spi ∧
    (s.result p code data).net = s.net ∧ (s.result p code data).store = s.store ∧
    (s.result p code data).spare = s.spare ∧ (s.result p code data).memc = s.memc ∧
    (s.result p code data).nv = s.nv ∧ (s.result p code data).sec = s.sec ∧ (s.result p code data).dbg = s.dbg ∧
    (s.result p code data).slice = s.slice := by
  repeat' constructor

end Sys2Proof.Machine
end

