-- ==== Sys2Proof/Laws/Regs.lean ====
section
/-!
SUPPORT. Sparse tables, bit fields and the register file: a read after a write of the same place and of another.
-/

namespace Sys2Proof.Machine

/-! ### Sparse tables -/

@[simp] theorem kvGet_kvSet_same {α : Type} (l : List (Nat × α)) (k : Nat) (x : α) : kvGet (kvSet l k x) k = some x := by
  induction l with
  | nil => simp [kvSet, kvGet]
  | cons p t ih =>
    obtain ⟨a, v⟩ := p
    simp only [kvSet]
    split
    · simp [kvGet]
    · split
      · simp [kvGet]
      · rename_i h; simp [kvGet, ih, Ne.symm h]

theorem kvGet_kvSet_ne {α : Type} (l : List (Nat × α)) {j k : Nat} (x : α) (h : j ≠ k) :
    kvGet (kvSet l k x) j = kvGet l j := by
  induction l with
  | nil => simp [kvSet, kvGet, h.symm]
  | cons p t ih =>
    obtain ⟨a, v⟩ := p
    simp only [kvSet]
    split
    · simp [kvGet, h.symm]
    · split
      · rename_i h2; subst h2; simp [kvGet, h.symm]
      · simp [kvGet, ih]

/-- A table read after an entry is set. -/
theorem kvGet_kvSet {α : Type} (l : List (Nat × α)) (j k : Nat) (x : α) :
    kvGet (kvSet l k x) j = if j = k then some x else kvGet l j := by
  split
  · subst j; simp
  · exact kvGet_kvSet_ne l x (by assumption)

@[simp] theorem kvD_kvSet_same {α : Type} (l : List (Nat × α)) (k : Nat) (x d : α) : kvD (kvSet l k x) k d = x := by
  simp [kvD]

theorem kvD_kvSet_ne {α : Type} (l : List (Nat × α)) {j k : Nat} (x d : α) (h : j ≠ k) :
    kvD (kvSet l k x) j d = kvD l j d := by
  simp [kvD, kvGet_kvSet_ne l x h]

@[simp] theorem kvGet_kvDel_same {α : Type} (l : List (Nat × α)) (k : Nat) : kvGet (kvDel l k) k = none := by
  induction l with
  | nil => rfl
  | cons p t ih =>
    obtain ⟨a, v⟩ := p
    by_cases h : a = k
    · simpa [kvDel, h] using ih
    · simpa [kvDel, h, kvGet] using ih

/-! ### Fixed arrays -/

@[simp] theorem vget_vset_same {α : Type} {n : Nat} (v : Vector α n) (i : Fin n) (x : α) : vget (vset v i x) i = x := by
  simp [vget, vset, Vector.get, Fin.cast]

theorem vget_vset_ne {α : Type} {n : Nat} (v : Vector α n) {i j : Fin n} (x : α) (h : j ≠ i) :
    vget (vset v i x) j = vget v j := by
  have h' : i.val ≠ j.val := fun e => h (Fin.ext e.symm)
  simp [vget, vset, Vector.get, Fin.cast, h']

/-- An array read after an entry is set. -/
theorem vget_vset {α : Type} {n : Nat} (v : Vector α n) (i j : Fin n) (x : α) :
    vget (vset v i x) j = if j = i then x else vget v j := by
  split
  · subst j; simp
  · exact vget_vset_ne v x (by assumption)

/-! ### Bit fields -/

theorem bitsN_testBit (n lo w k : Nat) : (bitsN n lo w).testBit k = (decide (k < w) && n.testBit (lo + k)) := by
  simp [bitsN, Nat.testBit_mod_two_pow, Nat.testBit_div_two_pow, Nat.add_comm]

/-- Bit `k` of a word whose field is replaced. -/
theorem putN_testBit (n lo w v k : Nat) :
    (putN n lo w v).testBit k = if lo ≤ k ∧ k < lo + w then v.testBit (k - lo) else n.testBit k := by
  have hlow : n % 2 ^ lo < 2 ^ lo := Nat.mod_lt _ (by positivity)
  have hv : v % 2 ^ w < 2 ^ w := Nat.mod_lt _ (by positivity)
  have hm : n / 2 ^ lo % 2 ^ w < 2 ^ w := Nat.mod_lt _ (by positivity)
  have hn : n = 2 ^ lo * (2 ^ w * (n / 2 ^ lo / 2 ^ w) + n / 2 ^ lo % 2 ^ w) + n % 2 ^ lo := by
    rw [Nat.div_add_mod, Nat.div_add_mod]
  have hp : putN n lo w v = 2 ^ lo * (2 ^ w * (n / 2 ^ lo / 2 ^ w) + v % 2 ^ w) + n % 2 ^ lo := by
    unfold putN bitsN
    have : n - n / 2 ^ lo % 2 ^ w * 2 ^ lo = 2 ^ lo * (2 ^ w * (n / 2 ^ lo / 2 ^ w)) + n % 2 ^ lo := by
      have e := hn
      rw [Nat.mul_add] at e
      have : n / 2 ^ lo % 2 ^ w * 2 ^ lo = 2 ^ lo * (n / 2 ^ lo % 2 ^ w) := Nat.mul_comm _ _
      omega
    rw [this, Nat.mul_add]
    have : v % 2 ^ w * 2 ^ lo = 2 ^ lo * (v % 2 ^ w) := Nat.mul_comm _ _
    omega
  have split : ∀ a, a < 2 ^ w → ∀ j, (2 ^ lo * (2 ^ w * (n / 2 ^ lo / 2 ^ w) + a) + n % 2 ^ lo).testBit j =
      if j < lo then (n % 2 ^ lo).testBit j else if j - lo < w then a.testBit (j - lo)
        else (n / 2 ^ lo / 2 ^ w).testBit (j - lo - w) := by
    intro a ha j
    rw [Nat.testBit_two_pow_mul_add _ hlow, Nat.testBit_two_pow_mul_add _ ha]
  rw [hp, split _ hv]
  conv_rhs => rw [show n.testBit k = (2 ^ lo * (2 ^ w * (n / 2 ^ lo / 2 ^ w) + n / 2 ^ lo % 2 ^ w) + n % 2 ^ lo).testBit k from
    congrArg (fun x => Nat.testBit x k) hn, split _ hm]
  by_cases h1 : k < lo
  · simp [h1, Nat.not_le.mpr h1]
  · have h1' : lo ≤ k := Nat.not_lt.mp h1
    by_cases h2 : k - lo < w
    · have h3 : k < lo + w := by omega
      simp [h1, h1', h2, h3, Nat.testBit_mod_two_pow]
    · have h3 : ¬ k < lo + w := by omega
      simp [h1, h1', h2, h3]

/-- A field read after it is written. -/
theorem bitsN_putN_same (n lo w v : Nat) : bitsN (putN n lo w v) lo w = v % 2 ^ w := by
  apply Nat.eq_of_testBit_eq
  intro k
  rw [bitsN_testBit, putN_testBit, Nat.testBit_mod_two_pow]
  by_cases h : k < w
  · simp [h]
  · simp [h]

/-- A field read after a disjoint one is written. -/
theorem bitsN_putN_ne (n lo w v lo' w' : Nat) (h : lo' + w' ≤ lo ∨ lo + w ≤ lo') :
    bitsN (putN n lo w v) lo' w' = bitsN n lo' w' := by
  apply Nat.eq_of_testBit_eq
  intro k
  rw [bitsN_testBit, bitsN_testBit, putN_testBit]
  by_cases hk : k < w'
  · have : ¬ (lo ≤ lo' + k ∧ lo' + k < lo + w) := by omega
    simp [this]
  · simp [hk]

/-- A field inside a word keeps it a word. -/
theorem putN_lt (n lo w v m : Nat) (hn : n < 2 ^ m) (h : lo + w ≤ m) : putN n lo w v < 2 ^ m := by
  apply Nat.lt_pow_two_of_testBit
  intro k hk
  have : ¬ (lo ≤ k ∧ k < lo + w) := by omega
  rw [putN_testBit, if_neg this]
  exact Nat.testBit_lt_two_pow (lt_of_lt_of_le hn (Nat.pow_le_pow_right (by norm_num) hk))

/-! ### The register file -/

/-- A register read after one is written. -/
theorem rd_wr (s : State) (r r' : RegId) (i j : Nat) (w : Word) :
    (s.wr r i w).rd r' j = if r'.addr j = r.addr i then w else s.rd r' j := by
  simp only [State.rd, State.wr, kvD, kvGet_kvSet]
  split <;> simp

@[simp] theorem rd_wr_same (s : State) (r : RegId) (i : Nat) (w : Word) : (s.wr r i w).rd r i = w := by simp [rd_wr]

theorem rd_wr_ne (s : State) (r r' : RegId) (i j : Nat) (w : Word) (h : r'.addr j ≠ r.addr i) :
    (s.wr r i w).rd r' j = s.rd r' j := by simp [rd_wr, h]

/-- A field read after it is written. -/
theorem g_p_same (s : State) (f : Fld) (i v : Nat) (h : f.lo + f.w ≤ 32) : (s.p f i v).g f i = v % 2 ^ f.w := by
  have hlt := putN_lt (s.rd f.r i).toNat f.lo f.w v 32 (s.rd f.r i).isLt h
  simp only [State.g, State.p, rd_wr_same, BitVec.toNat_ofNat, Nat.mod_eq_of_lt hlt, bitsN_putN_same]

/-- A field of another register is unchanged. -/
theorem g_p_addr (s : State) (f f' : Fld) (i j v : Nat) (h : f'.r.addr j ≠ f.r.addr i) : (s.p f i v).g f' j = s.g f' j := by
  simp [State.g, State.p, rd_wr_ne, h]

/-- Another field of the same register is unchanged. -/
theorem g_p_field (s : State) (f f' : Fld) (i v : Nat) (hr : f'.r = f.r) (h32 : f.lo + f.w ≤ 32)
    (h : f'.lo + f'.w ≤ f.lo ∨ f.lo + f.w ≤ f'.lo) : (s.p f i v).g f' i = s.g f' i := by
  have hlt := putN_lt (s.rd f.r i).toNat f.lo f.w v 32 (s.rd f.r i).isLt h32
  simp only [State.g, State.p, hr, rd_wr_same, BitVec.toNat_ofNat, Nat.mod_eq_of_lt hlt, bitsN_putN_ne _ _ _ _ _ _ h]

/-- A flag read after it is written. -/
theorem b_pb_same (s : State) (f : Fld) (i : Nat) (v : Bool) (h : f.lo + f.w ≤ 32) (hw : f.w = 1) :
    (s.pb f i v).b f i = v := by
  cases v <;> simp [State.b, State.pb, g_p_same s f i _ h, hw]

/-! ### Repetition -/

/-- What every step of a repetition keeps, the repetition keeps. -/
theorem each_keeps {α σ β : Type} (π : σ → β) (l : List α) (f : α → σ → σ) (s : σ) (h : ∀ a t, π (f a t) = π t) :
    π (each l f s) = π s := by
  induction l generalizing s with
  | nil => rfl
  | cons a t ih => simp only [each, List.foldl] at ih ⊢; rw [ih, h]

end Sys2Proof.Machine
end

