-- ==== Sys2Proof/Laws/Access.lean ====
section
/-!
SUPPORT. What an access does, said once: an accepted write of a register, an empty posted-write buffer.
-/

namespace Sys2Proof.Machine

/-- With nothing posted there is nothing to drain. -/
theorem drain_empty (s : State) (p : Port) (h : s.posted = []) : s.drain p = s := by
  have hp : s.postHead p = s := by simp [State.postHead, h]
  simp [State.drain, each, upto, List.range, List.range.loop, hp]

/-- The parts of an accepted write. -/
theorem accepts_iff (s : State) (p : Port) (d : Nat) (r : RegId) (i w : Nat) :
    s.accepts p d r i w = true ↔ s.live = true ∧ p.isPort = true ∧ s.posted = [] ∧ s.gateCause p d false = 0 ∧
      s.writeRight p d r i .reg w = .ok true ∧ s.frozenWrite p r i .reg w = false ∧
      s.noSession p d (isExempt (.reg .reg r i)) = false ∧ (s.cycFor p).accs = [] := by
  simp [State.accepts, and_assoc]

/-- What a single access leaves for later bursts touches staged copies alone (log 14). -/
theorem loose_eq (s old : State) (p : Port) : ∃ l, s.loose old p = { s with staged := l } := ⟨_, rfl⟩

/-- The write that joins its cycle changes nothing else. -/
theorem noteWrite_eq (s old : State) (p : Port) (d : Nat) (r : RegId) (i : Nat) (v : View) (w : Nat) :
    ∃ c, s.noteWrite old p d r i v w = { s with cyc := c } := ⟨_, rfl⟩

/-- An accepted write of a register that lies in fSYS, is no rack port and holds no context state: it takes effect at once, with
outcome 0. -/
theorem writeCmd_accepts (s : State) (p : Port) (d : Dom) (r : RegId) (i w : Nat) (h : s.accepts p d r i w = true)
    (hd : decode (r.addr i) true = .reg .reg r i) (hp : postedReg r i = false)
    (hr : r ≠ .rackPush ∧ r ≠ .u2dCtxpc ∧ r ≠ .u2dCtxflg ∧ r ≠ .u2dCtxv ∧ r ≠ .u2dStep) :
    s.writeReg p d r i w = .next (((s.applyReg p d (r.addr i) r i .reg w).loose s p).result p 0 0) := by
  obtain ⟨hl, _, hpost, hg, hw, hf, hn, _⟩ := (accepts_iff ..).mp h
  obtain ⟨h1, h2, h3, h4, h5⟩ := hr
  simp [State.writeReg, State.writeCmd, hl, State.portWrite, hg, hd, hn, State.regWrite, h1, hw, State.u2dCtxBusy, h2, h3, h4, h5,
    hp, State.regEffect, drain_empty s p hpost, hf, State.portFlag]

/-- A command register and a word that puts no reserved value in its fields and no 1 beside them: every field is write-only and
bakes at once. -/
def plainCommand (r : RegId) (i w : Nat) : Bool :=
  (effFields r i).all (fun f => f.acc == .wo && f.ok.ok (bitsN w f.lo f.w)) && outside (effFields r i) w == 0
    && !isLive r && !isHeldHi r && r.fields.all (fun f => f.bake == .i)

/-- Write-only fields change nothing of the register. -/
theorem writeField_wo (s : State) (p : Port) (d : Nat) (r : RegId) (i w : Nat) (u : Upd) (l : List Field)
    (h : l.all (fun f => f.acc == .wo && f.ok.ok (bitsN w f.lo f.w)) = true) :
    l.foldl (s.writeField p d r i .reg w) u = u := by
  induction l generalizing u with
  | nil => rfl
  | cons f t ih =>
    simp only [List.all_cons, Bool.and_eq_true, beq_iff_eq] at h
    obtain ⟨⟨hacc, hok⟩, ht⟩ := h
    have : s.writeField p d r i .reg w u f = u := by simp [State.writeField, hacc, hok]
    simp only [List.foldl_cons, this]
    exact ih u ht

/-- The state that a write leaves before what it sets off: parity marks of the register are gone. -/
def State.unmarked (s : State) (r : RegId) (i : Nat) : State :=
  { s with parityBad := s.parityBad.filter (fun a => a % 2 ^ 24 != r.addr i) }

/-- A write of a command register is what the command sets off. -/
theorem applyReg_command (s : State) (p : Port) (d a : Nat) (r : RegId) (i w : Nat) (h : plainCommand r i w = true) :
    s.applyReg p d a r i .reg w =
      ((s.unmarked r i).noteWrite s p d r i .reg w).onWrite s p d a r i .reg w (s.rd r i).toNat true := by
  simp only [plainCommand, Bool.and_eq_true, Bool.not_eq_true', beq_iff_eq] at h
  obtain ⟨⟨⟨⟨hw, ho⟩, hl⟩, hh⟩, hb⟩ := h
  have hbake : ∀ c, c ≠ Bake.i → r.fields.any (fun f => f.bake == c) = false := by
    intro c hc
    rw [List.any_eq_false]
    intro f hf
    have := (List.all_eq_true.mp hb) f hf
    simp only [beq_iff_eq] at this
    simp [this, hc.symm]
  simp [State.applyReg, hl, hh, writeField_wo s p d r i w _ _ hw, reservedOnes, ho, State.bakeNow,
    hbake .p (by decide), hbake .f (by decide), hbake .k (by decide), State.unmarked, each]

/-- An accepted command word: its whole effect. -/
theorem writeReg_command (s : State) (p : Port) (d : Dom) (r : RegId) (i w : Nat) (h : s.accepts p d r i w = true)
    (hd : decode (r.addr i) true = .reg .reg r i) (hp : postedReg r i = false)
    (hr : r ≠ .rackPush ∧ r ≠ .u2dCtxpc ∧ r ≠ .u2dCtxflg ∧ r ≠ .u2dCtxv ∧ r ≠ .u2dStep) (hc : plainCommand r i w = true) :
    s.writeReg p d r i w =
      .next (((((s.unmarked r i).noteWrite s p d r i .reg w).onWrite s p d (r.addr i) r i .reg w (s.rd r i).toNat true).loose s
        p).result p 0 0) := by
  rw [writeCmd_accepts s p d r i w h hd hp hr, applyReg_command s p d _ r i w hc]

/-- The answer of a command, from its equation. -/
theorem gives_of {i : Instr} {s t : State} {P : State → Prop} (h : exec i s = .next t) (hp : P t) : Gives i s P := ⟨t, h, hp⟩

end Sys2Proof.Machine
end

