-- ==== Sys2Proof/Laws/Memory.lean ====
section
/-!
SUPPORT. The list of bytes: every operation keeps its canonical form; a read after a write of the same place and of another; memories
that read the same are equal.
-/

namespace Sys2Proof.Machine

theorem Memory.wfFrom_mono {lo lo' : Nat} {m : List Host.Cell} (hl : lo' ≤ lo) (h : Memory.wfFrom lo m = true) :
    Memory.wfFrom lo' m = true := by
  cases m with
  | nil => rfl
  | cons c t =>
    simp only [Memory.wfFrom, Bool.and_eq_true, decide_eq_true_eq] at h ⊢
    exact ⟨⟨hl.trans h.1.1, h.1.2⟩, h.2⟩

/-- Below its first address a memory reads 0. -/
theorem memGet_below {lo : Nat} {m : List Host.Cell} (h : Memory.wfFrom lo m = true) {a : Nat} (ha : a < lo) : memGet m a = 0 := by
  induction m generalizing lo with
  | nil => rfl
  | cons c t ih =>
    simp only [Memory.wfFrom, Bool.and_eq_true, decide_eq_true_eq] at h
    have : c.1 ≠ a := by omega
    simpa [memGet, this] using ih h.2 (by omega)

theorem Memory.wfFrom_memSet {lo : Nat} {m : List Host.Cell} (h : Memory.wfFrom lo m = true) {a : Nat} (ha : lo ≤ a) (b : Byte) :
    Memory.wfFrom lo (memSet m a b) = true := by
  induction m generalizing lo with
  | nil =>
    simp only [memSet]
    split_ifs with hb
    · rfl
    · simp only [Memory.wfFrom, Bool.and_eq_true, decide_eq_true_eq, bne_iff_ne, and_true]
      exact ⟨ha, hb⟩
  | cons c t ih =>
    obtain ⟨k, v⟩ := c
    simp only [Memory.wfFrom, Bool.and_eq_true, decide_eq_true_eq, bne_iff_ne] at h
    obtain ⟨⟨hk, hv⟩, ht⟩ := h
    simp only [memSet]
    split_ifs with h1 h2 h3 h4 <;> try simp only [Memory.wfFrom, Bool.and_eq_true, decide_eq_true_eq, bne_iff_ne]
    · exact ⟨⟨hk, hv⟩, ht⟩
    · exact ⟨⟨ha, h2⟩, ⟨h1, hv⟩, ht⟩
    · exact Memory.wfFrom_mono (by omega) ht
    · exact ⟨⟨hk, h4⟩, ht⟩
    · exact ⟨⟨hk, hv⟩, ih ht (by omega)⟩

theorem Memory.wf_memSet {m : List Host.Cell} (h : Memory.wf m = true) (a : Nat) (b : Byte) : Memory.wf (memSet m a b) = true :=
  Memory.wfFrom_memSet h (Nat.zero_le a) b

theorem Memory.wf_memSetWord {m : List Host.Cell} (h : Memory.wf m = true) (a w : Nat) : Memory.wf (memSetWord m a w) = true :=
  Memory.wf_memSet (Memory.wf_memSet (Memory.wf_memSet (Memory.wf_memSet h ..) ..) ..) ..

theorem Memory.wfFrom_filter {lo : Nat} {m : List Host.Cell} (h : Memory.wfFrom lo m = true) (p : Host.Cell → Bool) :
    Memory.wfFrom lo (m.filter p) = true := by
  induction m generalizing lo with
  | nil => rfl
  | cons c t ih =>
    simp only [Memory.wfFrom, Bool.and_eq_true, decide_eq_true_eq] at h
    by_cases hp : p c = true
    · simp only [List.filter_cons, hp, if_true, Memory.wfFrom, Bool.and_eq_true, decide_eq_true_eq]
      exact ⟨h.1, ih h.2⟩
    · simp only [List.filter_cons, hp, if_false, Bool.false_eq_true]
      exact Memory.wfFrom_mono (by omega) (ih h.2)

theorem Memory.wf_memZero {m : List Host.Cell} (h : Memory.wf m = true) (lo hi : Nat) : Memory.wf (memZero m lo hi) = true :=
  Memory.wfFrom_filter h _

theorem Memory.wf_mramOnly {m : List Host.Cell} (h : Memory.wf m = true) : Memory.wf (mramOnly m) = true :=
  Memory.wfFrom_filter h _

/-- Bytes written one after the other, as the image load writes them. -/
theorem Memory.wf_foldl_memSet {α : Type} {m : List Host.Cell} (h : Memory.wf m = true) (l : List α) (a : α → Nat) (b : α → Byte) :
    Memory.wf (l.foldl (fun m x => memSet m (a x) (b x)) m) = true := by
  induction l generalizing m with
  | nil => exact h
  | cons x t ih => exact ih (Memory.wf_memSet h ..)

theorem Memory.wf_writeMem {s : State} (h : Memory.wf s.mem = true) (a w : Nat) : Memory.wf (s.writeMem a w).mem = true := by
  unfold State.writeMem State.modMemc State.dropLine
  dsimp only
  split <;> exact Memory.wf_memSetWord h a w

theorem Memory.wf_scrub {s : State} (h : Memory.wf s.mem = true) (a : Nat) : Memory.wf (s.scrub a).mem = true := by
  unfold State.scrub
  dsimp only
  split
  · exact h
  · exact Memory.wf_memSetWord h ..

theorem memGet_memSet_same {m : List Host.Cell} (h : Memory.wf m = true) (a : Nat) (b : Byte) : memGet (memSet m a b) a = b := by
  have main : ∀ (m : List Host.Cell) (lo : Nat), Memory.wfFrom lo m = true → memGet (memSet m a b) a = b := by
    intro m
    induction m with
    | nil =>
      intro _ _
      simp only [memSet]
      split_ifs with hb
      · exact hb.symm
      · simp [memGet]
    | cons c t ih =>
      intro lo h
      obtain ⟨k, v⟩ := c
      simp only [Memory.wfFrom, Bool.and_eq_true, decide_eq_true_eq] at h
      simp only [memSet]
      split_ifs with h1 h2 h3 h4
      · have : k ≠ a := by omega
        rw [memGet, if_neg this, memGet_below h.2 (by omega), h2]
      · simp [memGet]
      · rw [h4, memGet_below h.2 (by omega)]
      · simp [memGet, h3]
      · simp [memGet, Ne.symm h3, ih _ h.2]
  exact main m 0 h

theorem memGet_memSet_ne (m : List Host.Cell) {a x : Nat} (b : Byte) (hx : x ≠ a) : memGet (memSet m a b) x = memGet m x := by
  induction m with
  | nil =>
    simp only [memSet]
    split_ifs with hb
    · rfl
    · simp [memGet, hx.symm]
  | cons c t ih =>
    obtain ⟨k, v⟩ := c
    simp only [memSet]
    split_ifs with h1 h2 h3 h4
    · rfl
    · simp [memGet, hx.symm]
    · simp [memGet, ← h3, hx.symm]
    · simp [memGet, ← h3, hx.symm]
    · simp [memGet, ih]

/-- A word write leaves every byte outside its four. -/
theorem memGet_memSetWord_out (m : List Host.Cell) {a x : Nat} (w : Nat) (hx : x < a ∨ a + 4 ≤ x) :
    memGet (memSetWord m a w) x = memGet m x := by
  unfold memSetWord
  rw [memGet_memSet_ne _ _ (by omega), memGet_memSet_ne _ _ (by omega), memGet_memSet_ne _ _ (by omega), memGet_memSet_ne _ _ (by omega)]

/-- A word reads back as it was written. -/
theorem memWord_memSetWord {m : List Host.Cell} (h : Memory.wf m = true) (a w : Nat) : memWord (memSetWord m a w) a = w % 2 ^ 32 := by
  have h1 := Memory.wf_memSet h a (BitVec.ofNat 8 w)
  have h2 := Memory.wf_memSet h1 (a + 1) (BitVec.ofNat 8 (w / 2 ^ 8))
  have h3 := Memory.wf_memSet h2 (a + 2) (BitVec.ofNat 8 (w / 2 ^ 16))
  unfold memWord memSetWord
  rw [memGet_memSet_same h3, memGet_memSet_ne _ (x := a) _ (by omega), memGet_memSet_ne _ (x := a) _ (by omega),
    memGet_memSet_ne _ (x := a) _ (by omega), memGet_memSet_same h, memGet_memSet_ne _ (x := a + 1) _ (by omega),
    memGet_memSet_ne _ (x := a + 1) _ (by omega), memGet_memSet_same h1, memGet_memSet_ne _ (x := a + 2) _ (by omega),
    memGet_memSet_same h2]
  simp only [BitVec.toNat_ofNat]
  omega

/-- A range of zeros, the rest as before. -/
theorem memGet_memZero {m : List Host.Cell} (lo hi x : Nat) :
    memGet (memZero m lo hi) x = if lo ≤ x ∧ x < hi then 0 else memGet m x := by
  unfold memZero
  induction m with
  | nil => simp [memGet]
  | cons c t ih =>
    obtain ⟨k, v⟩ := c
    by_cases hk : k < lo ∨ hi ≤ k
    · have hp : (decide (k < lo) || decide (hi ≤ k)) = true := by simpa using hk
      simp only [List.filter_cons, hp, if_true, memGet]
      by_cases hx : k = x
      · subst hx
        simp only [if_true]
        rw [if_neg (by omega)]
      · simp only [hx, if_false, ih]
    · have hp : (decide (k < lo) || decide (hi ≤ k)) = false := by simpa using hk
      simp only [List.filter_cons, hp, memGet, ih, Bool.false_eq_true, if_false]
      by_cases hx : k = x
      · subst hx
        rw [if_pos (by omega), if_pos (by omega)]
      · simp only [hx, if_false]

theorem Memory.wf_reset : Memory.wf State.reset.mem = true := rfl

/-- Two memories in canonical form that read the same are the same list. -/
theorem Memory.ext {m n : List Host.Cell} (hm : Memory.wf m = true) (hn : Memory.wf n = true)
    (h : ∀ a, memGet m a = memGet n a) : m = n := by
  have main : ∀ (m n : List Host.Cell) (lo : Nat), Memory.wfFrom lo m = true → Memory.wfFrom lo n = true →
      (∀ a, memGet m a = memGet n a) → m = n := by
    intro m
    induction m with
    | nil =>
      intro n lo _ hn h
      cases n with
      | nil => rfl
      | cons c t =>
        simp only [Memory.wfFrom, Bool.and_eq_true, bne_iff_ne] at hn
        have := h c.1
        simp [memGet] at this
        exact absurd this.symm hn.1.2
    | cons c t ih =>
      intro n lo hm hn h
      cases n with
      | nil =>
        simp only [Memory.wfFrom, Bool.and_eq_true, bne_iff_ne] at hm
        have := h c.1
        simp [memGet] at this
        exact absurd this hm.1.2
      | cons c' t' =>
        obtain ⟨k, v⟩ := c
        obtain ⟨k', v'⟩ := c'
        simp only [Memory.wfFrom, Bool.and_eq_true, bne_iff_ne, decide_eq_true_eq] at hm hn
        have hk : k = k' := by
          rcases lt_trichotomy k k' with hlt | heq | hgt
          · have hd := h k
            simp only [memGet, if_true, if_neg (show ¬ k' = k by omega), memGet_below hn.2 (show k < k' + 1 by omega)] at hd
            exact absurd hd hm.1.2
          · exact heq
          · have hd := h k'
            simp only [memGet, if_true, if_neg (show ¬ k = k' by omega), memGet_below hm.2 (show k' < k + 1 by omega)] at hd
            exact absurd hd.symm hn.1.2
        subst hk
        have hv : v = v' := by simpa [memGet] using h k
        subst hv
        congr 1
        refine ih t' (k + 1) hm.2 hn.2 (fun a => ?_)
        by_cases ha : k = a
        · subst ha
          rw [memGet_below hm.2 (by omega), memGet_below hn.2 (by omega)]
        · simpa [memGet, ha] using h a
  exact main m n 0 hm hn h

end Sys2Proof.Machine
end

