-- ==== Sys2Proof/Laws/Reactions.lean ====
section
/-!
SUPPORT. What the operations that the blocks share leave alone, said once: interrupts, captures, the trace, fault reactions and the
outputs that follow them keep memory, the queues, ports, racks, engines and stores.
-/

namespace Sys2Proof.Machine

/-- The state that no interrupt, capture, trace entry or fault reaction touches. -/
structure Quiet (s t : State) : Prop where
  pending : t.pending = s.pending
  free : t.free = s.free
  time : t.time = s.time
  tick : t.tick = s.tick
  mem : t.mem = s.mem
  ecc : t.ecc = s.ecc
  img : t.img = s.img
  staged : t.staged = s.staged
  cyc : t.cyc = s.cyc
  posted : t.posted = s.posted
  holdHi : t.holdHi = s.holdHi
  snaps : t.snaps = s.snaps
  parityBad : t.parityBad = s.parityBad
  acc : t.acc = s.acc
  pwr : t.pwr = s.pwr
  pins : t.pins = s.pins
  domRamps : t.domRamps = s.domRamps
  domRst : t.domRst = s.domRst
  pwm : t.pwm = s.pwm
  px : t.px = s.px
  adcTab : t.adcTab = s.adcTab
  adcCv : t.adcCv = s.adcCv
  shr : t.shr = s.shr
  rack : t.rack = s.rack
  eng : t.eng = s.eng
  spi : t.spi = s.spi
  net : t.net = s.net
  store : t.store = s.store
  spare : t.spare = s.spare
  memc : t.memc = s.memc
  nv : t.nv = s.nv
  sec : t.sec = s.sec
  slice : t.slice = s.slice

theorem Quiet.refl (s : State) : Quiet s s := by constructor <;> rfl

theorem Quiet.trans {s t u : State} (a : Quiet s t) (b : Quiet t u) : Quiet s u := by
  cases a; cases b; constructor <;> simp_all only

theorem Quiet.each {α : Type} {l : List α} {f : α → State → State} (h : ∀ a s, Quiet s (f a s)) (s : State) :
    Quiet s (Machine.each l f s) := by
  induction l generalizing s with
  | nil => exact .refl s
  | cons a t ih => exact (h a s).trans (ih (f a s))

theorem Quiet.wr (s : State) (r : RegId) (i : Nat) (w : Word) : Quiet s (s.wr r i w) := by constructor <;> rfl
theorem Quiet.p (s : State) (f : Fld) (i v : Nat) : Quiet s (s.p f i v) := by constructor <;> rfl
theorem Quiet.pb (s : State) (f : Fld) (i : Nat) (v : Bool) : Quiet s (s.pb f i v) := by constructor <;> rfl
theorem Quiet.setBits (s : State) (r : RegId) (i m : Nat) : Quiet s (s.setBits r i m) := by constructor <;> rfl
theorem Quiet.clrBits (s : State) (r : RegId) (i m : Nat) : Quiet s (s.clrBits r i m) := by constructor <;> rfl
theorem Quiet.incSat (s : State) (f : Fld) (i : Nat) : Quiet s (s.incSat f i) := by constructor <;> rfl
theorem Quiet.modCx (s : State) (c : Fin 16) (f : Ctx → Ctx) : Quiet s (s.modCx c f) := by constructor <;> rfl
theorem Quiet.modSt (s : State) (i : Fin 6) (f : Str → Str) : Quiet s (s.modSt i f) := by constructor <;> rfl
theorem Quiet.modBy (s : State) (i : Fin 6) (f : Byp → Byp) : Quiet s (s.modBy i f) := by constructor <;> rfl

/-! ### Interrupts and captures -/

theorem Quiet.fireEntry (s : State) (i evt : Nat) (src : Option Nat) (data : Word) : Quiet s (s.fireEntry i evt src data) := by
  unfold State.fireEntry
  dsimp only
  split
  · exact .refl s
  split
  · exact .pb ..
  split
  · exact .pb ..
  split <;> split <;> (constructor <;> rfl)

theorem Quiet.fireEvent (s : State) (evt : Nat) (src : Option Nat) (data : Word) : Quiet s (s.fireEvent evt src data) :=
  .each (fun i s => .fireEntry s i evt src data) s

theorem Quiet.evWake (s : State) (kind sel : Nat) (d : Option Nat) : Quiet s (s.evWake kind sel d) := by
  refine .each (fun c s => ?_) s
  split
  · split
    · exact .modCx ..
    · exact .refl s
  · exact .refl s

/-- An interrupt source that becomes pending (05 R146) fires dispatcher entries and wakes contexts, and changes nothing else. -/
theorem Quiet.pendIrq (s : State) (n : Nat) : Quiet s (s.pendIrq n) := by
  unfold State.pendIrq
  split
  · exact .refl s
  split
  · exact .refl s
  · exact ((Quiet.setBits ..).trans (.fireEvent ..)).trans (.evWake ..)

theorem Quiet.flagIrq (s : State) (f : Fld) (i irq : Nat) : Quiet s (s.flagIrq f i irq) := (Quiet.pb ..).trans (.pendIrq ..)

theorem Quiet.violate (s : State) (d port addr cause : Nat) : Quiet s (s.violate d port addr cause) := by
  unfold State.violate
  dsimp only
  refine .trans ?_ (.pendIrq ..)
  split
  · exact .pb ..
  · exact .wr ..

theorem Quiet.regEvent (s : State) (d : Nat) (flag : Fld) (port addr kind : Nat) : Quiet s (s.regEvent d flag port addr kind) := by
  unfold State.regEvent
  dsimp only
  refine .trans ?_ (.pendIrq ..)
  split
  · exact (Quiet.pb ..).trans (.pb ..)
  · exact (Quiet.pb ..).trans (.wr ..)

theorem Quiet.rsvw (s : State) (d port addr : Nat) : Quiet s (s.rsvw d port addr) := .regEvent ..
theorem Quiet.lockv (s : State) (d port addr : Nat) : Quiet s (s.lockv d port addr) := .regEvent ..
theorem Quiet.wrcoll (s : State) (d port addr : Nat) : Quiet s (s.wrcoll d port addr) := .regEvent ..
theorem Quiet.buserr (s : State) (d port addr code : Nat) : Quiet s (s.buserr d port addr code) := .regEvent ..

theorem Quiet.trace (s : State) (ty a b c : Nat) : Quiet s (s.trace ty a b c) := by
  unfold State.trace
  dsimp only
  split
  · split
    · constructor <;> rfl
    split <;> (constructor <;> rfl)
  · exact .refl s

/-! ### The outputs -/

theorem Quiet.countOn (s : State) : Quiet s s.countOn := by
  unfold State.countOn
  dsimp only
  split
  · exact .refl s
  · constructor <;> rfl

theorem Quiet.softStart (s : State) (i : Fin 6) : Quiet s (s.softStart i) :=
  (((Quiet.p ..).trans (.p ..)).trans (.modSt ..)).trans (.pb ..)

theorem Quiet.refreshStr (s : State) (dim : Bool) (i : Fin 6) : Quiet s (s.refreshStr dim i) := by
  unfold State.refreshStr
  dsimp only
  refine (Quiet.countOn s).trans ?_
  split
  · exact (Quiet.pb ..).trans (.softStart ..)
  split
  · exact (((Quiet.pb ..).trans (.modSt ..)).trans (.pb ..)).trans (.p ..)
  · exact .pb ..

theorem Quiet.refreshGate (s : State) (i : Fin 6) : Quiet s (s.refreshGate i) := by
  unfold State.refreshGate
  split
  · exact .pb ..
  · exact .refl s

theorem Quiet.setSw (s : State) (i : Fin 6) (sw : Nat) : Quiet s (s.setSw i sw) := by
  unfold State.setSw
  dsimp only
  refine (Quiet.countOn s).trans ?_
  split
  · exact ((((Quiet.modBy ..).trans (.p ..)).trans (.p ..)).trans (.p ..)).trans (.modSt ..)
  · exact (Quiet.modBy ..).trans (.p ..)

theorem Quiet.refreshStack (s : State) (i : Fin 6) : Quiet s (s.refreshStack i) := by
  unfold State.refreshStack
  dsimp only
  split
  · exact (((Quiet.pb ..).trans (.pb ..)).trans (.modBy ..)).trans (.setSw ..)
  split
  · exact (((Quiet.pb ..).trans (.pb ..)).trans (.modBy ..)).trans (.setSw ..)
  · exact (Quiet.pb ..).trans (.pb ..)

theorem Quiet.gridBlank (s : State) : Quiet s s.gridBlank := (Quiet.countOn s).trans (by constructor <;> rfl)

theorem Quiet.gridStop (s : State) : Quiet s s.gridStop :=
  ((Quiet.pb ..).trans (.gridBlank _)).trans (by constructor <;> rfl)

theorem Quiet.refreshGrid (s : State) : Quiet s s.refreshGrid := by
  unfold State.refreshGrid
  split
  · exact .refl s
  split
  · exact .gridStop s
  · exact .refl s

/-- Following every enable and lockout changes registers, string and stack records and the grid's outputs. -/
theorem Quiet.outputs (s : State) : Quiet s s.outputs := by
  have h : Quiet s ((Machine.each strs (fun i s => ((s.refreshStr false i).refreshGate i).refreshStack i) s).refreshGrid) :=
    .trans (.each (fun i s => ((Quiet.refreshStr s false i).trans (.refreshGate ..)).trans (.refreshStack ..)) s) (.refreshGrid _)
  unfold State.outputs
  dsimp only
  split
  · exact h.trans (by constructor <;> rfl)
  · exact h

/-! ### Faults -/

theorem Quiet.latchFault (s : State) (n chans : Nat) : Quiet s (s.latchFault n chans) := by
  unfold State.latchFault
  split
  · exact .refl s
  · constructor <;> rfl

theorem Quiet.containDomain (s : State) (d : Nat) : Quiet s (s.containDomain d) := by
  unfold State.containDomain
  split
  · exact .refl s
  · constructor <;> rfl

theorem Quiet.hearthCause (s : State) : Quiet s s.hearthCause := by constructor <;> rfl

theorem Quiet.fltCapture (s : State) (n d react : Nat) : Quiet s (s.fltCapture n d react) := by
  unfold State.fltCapture
  split
  · exact .pb ..
  · exact .wr ..

theorem Quiet.fltCount (s : State) (cls : Nat) : Quiet s (s.fltCount cls) := by
  unfold State.fltCount
  split <;> exact .incSat ..

theorem Quiet.fltNotify (s : State) (cls d : Nat) : Quiet s (s.fltNotify cls d) := by
  unfold State.fltNotify
  split
  · exact .flagIrq ..
  · exact .flagIrq ..
  · exact (Quiet.setBits ..).trans (.pendIrq ..)
  · exact .flagIrq ..

theorem Quiet.fltReact (s : State) (n react chans d : Nat) : Quiet s (s.fltReact n react chans d) := by
  unfold State.fltReact
  dsimp only
  split
  · exact .trans (by constructor <;> rfl) (.outputs _)
  · exact .trans (by constructor <;> rfl) (.containDomain ..)
  · exact .trans (by constructor <;> rfl) (.hearthCause _)
  · constructor <;> rfl

/-- Raising a fault (18 R691, with its reaction) keeps all the state that `Quiet` names. -/
theorem Quiet.raiseOn (s : State) (n chans : Nat) : Quiet s (s.raiseOn n chans) := by
  unfold State.raiseOn
  split
  · exact .refl s
  split
  · exact .latchFault ..
  have h := ((((Quiet.setBits s .fltStat (n / 32) (2 ^ (n % 32))).trans (.fltCapture _ n (s.charged n) (s.fltReactOf n))).trans
    (.fltCount _ (fltClass n))).trans (.trace _ 5 n (fltClass n + 4 * s.fltReactOf n) 0)).trans
    (.fltNotify _ (fltClass n) (s.charged n))
  dsimp only
  split
  · exact h
  · exact h.trans (.fltReact ..)

theorem Quiet.raise (s : State) (n : Nat) : Quiet s (s.raise n) := .raiseOn ..

theorem Quiet.levelOn (s : State) (n : Nat) : Quiet s (s.levelOn n) := by
  unfold State.levelOn
  split
  · exact .refl s
  · exact .trans (by constructor <;> rfl) (.raise ..)

theorem Quiet.endFault (s : State) (n : Nat) : Quiet s (s.endFault n) := by constructor <;> rfl

theorem Quiet.levelOff (s : State) (n : Nat) : Quiet s (s.levelOff n) := by
  unfold State.levelOff
  split
  · constructor <;> rfl
  · exact .refl s

theorem Quiet.clearFault (s : State) (n : Nat) : Quiet s (s.clearFault n) := by
  unfold State.clearFault
  split
  · exact .refl s
  split
  · exact .refl s
  · exact .endFault ..

end Sys2Proof.Machine
end

