-- ==== Sys2Proof/Laws/Recipe.lean ====
section
/-!
SUPPORT. What an engine that comes to an instruction does, said once: the context stays granted and RUNNABLE until the instruction says
otherwise.
-/

namespace Sys2Proof.Machine

/-- The context that may execute is the granted one, and it is RUNNABLE. -/
theorem execCtx_some {s : State} {e : Fin 4} {c : Fin 16} (h : s.execCtx e = some c) :
    s.cur e = some c ∧ (s.cx c).st = .runnable ∧ ((s.cx c).stall = none ∨ (s.cx c).slot = true) ∧ s.live = true := by
  unfold State.execCtx at h
  split at h
  · rename_i k hk
    split at h
    · rename_i hc
      cases h
      simp only [Bool.and_eq_true, State.mayRun, beq_iff_eq, Bool.or_eq_true, Option.isNone_iff_eq_none] at hc
      obtain ⟨⟨⟨⟨hl, hr⟩, hs⟩, -⟩, -⟩ := hc
      exact ⟨hk, hr, hs, hl⟩
    · cases h
  · cases h

/-- A fetch that gives the word changes at most the order of the cached lines. -/
theorem fetch_word {s s1 : State} {c : Fin 16} {w : Word} (h : s.fetch c = (.word w, s1)) : ∃ g, s1 = { s with eng := g } := by
  unfold State.fetch at h
  split at h
  · cases h; exact ⟨s.eng, rfl⟩
  · dsimp only at h
    split at h
    · cases h
    · split at h
      · have := congrArg Prod.snd h
        exact ⟨_, this.symm⟩
      · split at h <;> cases h

/-- An engine that comes to an instruction: its context is granted, RUNNABLE and not stalled for want of a slot. -/
theorem Comes.granted {s s1 : State} {e : Fin 4} {i : Instr} {c : Fin 16} (h : Comes s e i c s1) :
    s1.cur e = some c ∧ (s1.cx c).st = .runnable ∧ ((s1.cx c).stall = none ∨ (s1.cx c).slot = true) := by
  obtain ⟨hx, -, w, hf, -⟩ := h
  obtain ⟨hc, hr, hs, -⟩ := execCtx_some hx
  obtain ⟨g, rfl⟩ := fetch_word hf
  exact ⟨hc, hr, hs⟩

/-- An instruction that leaves the engines alone, and after which its context is still granted and RUNNABLE: the whole effect of the
command. -/
theorem runOn_comes {s s1 : State} {e : Fin 4} {i : Instr} {c : Fin 16} (f : Fin 16 → State → State) (h : Comes s e i c s1)
    (hc : (f c s1).cur e = some c) (hr : ((f c s1).cx c).st = .runnable) (he : (f c s1).eng = s1.eng) :
    s.runOn e i f = .next (f c s1) := by
  obtain ⟨hx, hq, w, hf, hd⟩ := h
  have hdue : ((f c s1).en e).due = false := by rw [State.en, he]; exact hq
  have hready : (f c s1).engReady e = f c s1 := by simp [State.engReady, hc, hr, hdue]
  simp [State.runOn, hx, hf, hd, hready]

/-- A change of contexts leaves the grants of the engines. -/
@[simp] theorem modCx_cur (s : State) (c : Fin 16) (f : Ctx → Ctx) (e : Fin 4) : (s.modCx c f).cur e = s.cur e := rfl

@[simp] theorem modCx_cx (s : State) (c k : Fin 16) (f : Ctx → Ctx) :
    (s.modCx c f).cx k = if k = c then f (s.cx c) else s.cx k := by
  simp [State.cx, State.modCx, vget_vset]

/-- Two changes of one context are one. -/
@[simp] theorem modCx_modCx (s : State) (c : Fin 16) (f g : Ctx → Ctx) : (s.modCx c f).modCx c g = s.modCx c (fun x => g (f x)) := by
  have h : vset (vset s.ctx c (f (s.cx c))) c (g (f (s.cx c))) = vset s.ctx c (g (f (s.cx c))) := by
    simp [vset, Vector.set]
  have h2 : (s.modCx c f).cx c = f (s.cx c) := by simp
  show { s with ctx := vset (vset s.ctx c (f (s.cx c))) c (g ((s.modCx c f).cx c)) } = _
  rw [h2, h]; rfl

/-- A change of a context is what it makes of that context. -/
theorem modCx_congr {s : State} {c : Fin 16} {f g : Ctx → Ctx} (h : f (s.cx c) = g (s.cx c)) : s.modCx c f = s.modCx c g := by
  simp [State.modCx, h]

/-- A result with flags, as one change of the context. -/
theorem alu_eq (s : State) (c : Fin 16) (rd : Reg) (r : Word) (cy ov : Option Bool) :
    s.alu c rd r cy ov = s.modCx c (fun x => (x.flagsOf r (cy.getD x.c) (ov.getD x.o)).takes rd r) := by
  simp [State.alu, State.flags, State.setRd, State.adv, pcNext, Ctx.takes, Ctx.flagsOf, Ctx.setV]
  rfl

end Sys2Proof.Machine
end

