-- ==== Sys2Proof/Machine/PinStates.lean ====
section
/-!
DEFINITION. The states of the output and bidirectional pins and of the regulators (02 R36, R37, R39, R49, R51, R787; 03 R63), as they
follow from the state. No command reads them: they are what the X648 shows outside.
-/

namespace Sys2Proof.Machine

/-- What the X648 does at a digital pin. Hi-Z: it neither drives nor pulls the pin (02 R36). -/
inductive PinState where
  | hiZ
  | pullDown
  | pullUp
  | low
  | high
  deriving DecidableEq, Repr

/-- A pin driven to a level. -/
def PinState.level (b : Bool) : PinState := if b then .high else .low

/-- A row switch: Hi-Z, off with its discharge to GND, or on (02 R36; 15 R580). -/
inductive RowState where
  | hiZ
  | discharge
  | on
  deriving DecidableEq, Repr

/-- A column pin: its sink off, precharged, or its sink on (15 R580). -/
inductive ColState where
  | off
  | precharge
  | sink
  deriving DecidableEq, Repr

/-- A regulator: off, holding the retention voltage, or on (02 R36, R37; 03 R63). -/
inductive Rail where
  | off
  | retained
  | on
  deriving DecidableEq, Repr

/-- No supply, or a standby state: no pin is driven or pulled (02 R36, R37). -/
def State.pinsDead (s : State) : Bool := s.pwr.mode == .off || s.asleep

/-- A digital pin whose cell is supplied: VDDIO is good and the X648 is neither off nor in standby (02 R36, R37, R49, R787). -/
def State.ioPin (s : State) (x : PinState) : PinState := if s.pinsDead || !s.pins.vddio then .hiZ else x

/-- MAIN in force for string `i`: that of the topology hearth mode supplies, else PPWMs_CTL.MAIN (14 R535; 18 R694). -/
def State.mainLow (s : State) (i : Fin 6) : Bool :=
  if s.hearthOn && bitN s.hearth.strs i then kvD s.hearth.topo i 0 != 0 else s.b F.pwmCtl_MAIN i

/-- HGs and LGs: the main and the synchronous switch, by MAIN; Hi-Z where the generator drives no gate (13 R509, R522; 14 R535). -/
def State.hgPin (s : State) (i : Fin 6) : PinState :=
  if s.b F.pwmStat_DRIVE i then .level (if s.mainLow i then (s.pw i).syncHi else (s.pw i).mainHi) else .hiZ
def State.lgPin (s : State) (i : Fin 6) : PinState :=
  if s.b F.pwmStat_DRIVE i then .level (if s.mainLow i then (s.pw i).mainHi else (s.pw i).syncHi) else .hiZ

/-- The bypass switch between BYs_k and BYs_(k+1) is open (02 R30, R36; 15 R570). -/
def State.bypassOpen (s : State) (i : Fin 6) (k : Fin 16) : Bool := bitN (s.by i).sw k.val

/-- ROWrr. -/
def State.rowPin (s : State) (r : Fin 16) : RowState :=
  if s.pinsDead || s.inReset then .hiZ
  else if s.b F.gridStat_RUN && s.grid.rowOn && s.g F.gridStat_ROWN == r.val then .on else .discharge

/-- COLcc. -/
def State.colPin (s : State) (c : Fin 24) : ColState :=
  if s.pinsDead || s.inReset then .off
  else if bitN s.grid.sinks c then .sink
  else if s.b F.gridStat_RUN && s.grid.phase == 1 then .precharge else .off

/-- SDO is driven only while CSN is low, from release on (02 R36; 07 R238, R239). Within a frame command it carries `Spi.sdo`. -/
def State.sdoDriven (s : State) : Bool := s.running && s.pins.vddio && s.pins.csnLow

/-- INTA and INTB, open-drain (02 R36; 05 R149). -/
def State.intaPin (s : State) : PinState := if s.intPinLow 1 then .low else .hiZ
def State.intbPin (s : State) : PinState := if s.intPinLow 2 then .low else .hiZ

/-- RESETN: driven low in the device resets that the X648 starts, otherwise an input with its pull-up (02 R36; 03 R68, R75, R76). -/
def State.resetnPin (s : State) : PinState :=
  if s.pinsDead then .hiZ else if s.inReset && s.pins.resetnLow then .low else .pullUp

/-- The PHY drives TRX_P and TRX_N in its transmit opportunities; elsewhere they are Hi-Z, with the energy detector behind them in
network-wake standby (02 R33, R36, R37). -/
def State.phyOnPins (s : State) : Bool := s.running && s.b F.netStat_PHYON
def State.energyDetector (s : State) : Bool := s.pwr.mode == .standby .network

/-- FSYNC: the output pulse of the scan grid, or an input with its pull-down (02 R36, R61). -/
def State.fsyncPin (s : State) : PinState :=
  s.ioPin (if s.b F.padCfg_FSYNCOUT then .level s.pins.fsyncOut else .pullDown)

/-- GPIOn: its function, or an input with the pull that it has (02 R36, R51, R60). -/
def State.gpioPin (s : State) (n : Fin 6) : PinState :=
  s.ioPin (
    if s.gpioDriven n.val then .level (s.gpioOut n.val)
    else match s.g F.gpioCfg_PULL n.val with
      | 1 => .pullDown
      | 2 => .pullUp
      | _ => .hiZ)

/-- DIO between transactions, and TRIGIN and DCK (02 R36, R787). -/
def State.dioPin (s : State) : PinState := s.ioPin .pullUp
def State.triginPin (s : State) : PinState := s.ioPin .pullDown
def State.dckPin (s : State) : PinState := s.ioPin .pullDown

/-- The crystal oscillator runs where the crystal is selected (02 R36; 04 R107). -/
def State.xoutRuns (s : State) : Bool := !s.pinsDead && !s.inReset && s.b F.clkCfg_XTALEN

/-- The regulators (02 R36, R37; 03 R63). -/
def State.vcc5Rail (s : State) : Rail := if s.pins.vcc5On && s.running then .on else .off
def State.vdd11Rail (s : State) : Rail :=
  match s.pwr.mode with
  | .off | .standby .deep => .off
  | .standby _ => .retained
  | _ => .on
def State.avddRail (s : State) : Rail := if s.pinsDead then .off else .on
def State.vrefRail (s : State) : Rail := if s.pinsDead then .off else .on

end Sys2Proof.Machine
end

