-- ==== Sys2Proof/Tests/Slice0.lean ====
section
/-!
SUPPORT. Own tests: words, worked cases and CRCs that the spec gives; ill-formed commands; for every statement of
Certificates/Slice0/Obligations.lean, states and operands that meet the hypotheses of each of its clauses together, with what the
command then does. A list holds, for one clause, its hypotheses and then the outcome.
-/

namespace Sys2Proof.Tests

open Sys2Proof Sys2Proof.Machine

set_option Elab.async false

/-- Every one holds. -/
def ok (l : List Bool) : Bool := l.all id

/-- The outcome is a next state with the property. -/
def gives (o : Host.Outcome State Fault Refusal) (p : State → Bool) : Bool :=
  match o with
  | .next t => p t
  | _ => false

/-- The state after a command. -/
def after (o : Host.Outcome State Fault Refusal) (s : State) : State :=
  match o with
  | .next t => t
  | _ => s

/-- A released X648 whose clocks run and whose pins are supplied; no free value is in its registers. -/
def run0 : State :=
  { State.reset with
    regs := [(0x3104, 1)], pwr := { mode := .run }, clk := { fsys := true }, pins := { State.reset.pins with vddio := true } }

/-- A staged copy written over SPI. -/
def stg (f : Fld) (i v : Nat) : Staged := ⟨f.r.addr i, f.lo, f.w, 1, v, .spi, 0, false, [], none⟩

/-! ### What the spec gives as numbers -/

/-- 12 R466, R470: `fade v12, v6, v7`, `sliceend 0x83`, `pop v0, 28`, and words written out from the formats; words with a reserved field, opcode or value. -/
theorem test_recipe_words : ok [
    decodeRecipe 0 0x42C67000 == some (.fade 0 12 6 7),
    decodeRecipe 1 0x60000083 == some (.sliceend 1 0 false 0x83),
    decodeRecipe 2 0x510E0000 == some (.pop 2 0 28 false 0),
    decodeRecipe 3 0x01123000 == some (.add 3 1 2 3),
    decodeRecipe 0 0x10120FFF == some (.addi 0 1 2 0x0FFF),
    decodeRecipe 0 0x301FFFFF == some (.b 0 1 0xFFFFF),
    decodeRecipe 0 0x54042807 == some (.waitev 0 0 1 5 7), decodeRecipe 0 0x5405A807 == none,
    decodeRecipe 0 0x64300005 == some (.rds 0 3 5),
    decodeRecipe 0 0x63000000 == some (.nop 0),
    decodeRecipe 0 0x01123001 == none, decodeRecipe 0 0x30F00000 == none, decodeRecipe 0 0x50D00000 == none,
    decodeRecipe 0 0x64300007 == none, decodeRecipe 0 0x00000000 == none] = true := by decide +kernel

/-- 07 R246: four zero bytes give 0x59. -/
theorem test_crc8 : crc8 [0, 0, 0, 0] = 0x59 := by decide +kernel

/-- FIPS 197, appendix B; SP 800-38B, appendix D.1, example 2 (log 3). -/
theorem test_aes : beNat (aesEnc (beBytes 16 0x2B7E151628AED2A6ABF7158809CF4F3C) (beBytes 16 0x3243F6A8885A308D313198A2E0370734)) =
    0x3925841D02DC09FBDC118597196A0B32 := by decide +kernel
theorem test_cmac : cmac 0x2B7E151628AED2A6ABF7158809CF4F3C (beBytes 16 0x6BC1BEE22E409F96E93D7E117393172A) =
    0x070A16B46B4D4144F79BDD9DD04A287C := by decide +kernel

/-- 16 R619: the worked case of a raw code of 2049. -/
theorem test_adc_correct : adcCorrect 2049 12 0x8148 (0xFFD + 0x7E00 * 2 ^ 16) = 2039 := by decide +kernel

/-- 12 R485 (worked case): LUT takes 0x1A80 to 0x0934 between 2258 and 2454. -/
theorem test_lut : lutStep 0x1A80 2258 2454 = 0x0934 := by decide +kernel

/-- Ill-formed commands: a port that is none, operands that no word of a recipe encodes, more words than a message has. -/
theorem test_ill_formed : ok [
    !Instr.wf (.registerWrite .dma 0 0 0), !Instr.wf (.push 0 13 0 false 0), !Instr.wf (.pop 0 15 0 false 0),
    !Instr.wf (.b 0 15 0), !Instr.wf (.waitev 0 0 0 96 0), !Instr.wf (.waitev 0 0 1 32 0), !Instr.wf (.waitev 0 0 2 1 0),
    !Instr.wf (.rds 0 0 7), !Instr.wf (.regrd 65), !Instr.wf (.regwr 65), Instr.wf (.registerWrite .spi 0 0 0)] = true := by
  decide +kernel

/-! ### The whole machine -/

theorem test_step : ok [
    gives (step { run0 with pending := [.vddioLoss, .lineReset] }) (fun t => t.pending == [.lineReset] && !t.pins.vddio),
    gives (step run0) (fun t => t.tick == 1 && t.time == 1 && t.pending == [])] = true := by decide +kernel

theorem test_reset : ok [
    State.reset.rd .gpioCfg 3 == 0x10, State.reset.rd .gridFrate == 300, State.reset.g F.strDmax_DMAX 2 == State.reset.g F.strDmax_DMAX 5,
    State.reset.rd .rstCause == 1, Memory.wf State.reset.mem] = true := by decide +kernel

/-- A state with a staged copy that is in order, at a generator that takes it. -/
def mid : State := { (run0.pb F.pwmCtl_UPD 2 true).modPw 2 (fun p => { p with run := true, per0 := 6400 }) with
  staged := [stg F.pwmCa_CA 2 5000] }

theorem test_staged_ok : mid.stagedOk := by
  intro e he
  have : e = stg F.pwmCa_CA 2 5000 := by simpa [mid] using he
  subst this
  exact ⟨.pwmCa, 2, (effFields .pwmCa 2)[0], by decide, by decide, by decide, by decide, by decide, by decide, by decide⟩

theorem test_output_event : (Instr.pwmMidPoint 2).ofOutputs = true ∧ ok [gives (exec (.pwmMidPoint 2) mid) fun t =>
    t.g F.pwmCa_CA 2 == 5000 && t.staged == []] = true := by decide +kernel

theorem test_no_store : (Instr.sliceBoundary).stores = false ∧ gives (exec .sliceBoundary run0) (fun t => t.mem == []) = true := by
  decide +kernel

/-! ### Power, reset, standby and pins -/

/-- The start-up sequence with the steps `p`. -/
def boot (p : Pwr) : State := { State.reset with pwr := { p with mode := .startup } }

theorem test_ResetsRecordTheirCause : ok [
    gives (exec .powerOnReset run0) fun t => t.rd .rstCause == 1 && t.pwr.mode == .startup && !t.pwr.warm,
    gives (exec .brownOut run0) fun t => t.rd .rstCause == 3 && t.pwr.mode == .startup,
    gives (exec .vbatBelowVret run0) fun t => t.rd .rstCause == 0 && t.pwr.mode == .off,
    run0.pwr.mode == .run, gives (exec .resetnAssert run0) fun t => t.rd .rstCause == 5 && t.pwr.mode == .resetLow &&
      gives (exec .resetnRelease t) fun u => u.pwr.mode == .startup && u.pwr.warm && u.pins.resetnLow,
    gives (exec .deviceWatchdogReset run0) fun t => t.rd .rstCause == 9 && t.g F.dwdtStat_COUNT == 1 && t.pwr.warm,
    gives (exec .startupOverdue (boot {})) fun t => t.rd .rstCause == 25 && t.g F.dwdtStat_COUNT == 1,
    gives (exec .dwdtHeartbeat { run0 with tick := 9 }) fun t => t.pwr.dwStart == 9] = true := by decide +kernel

theorem test_DeviceResetClearsState : ok [
    gives (exec .brownOut { run0 with mem := [(0x840000, 1), (0xC00010, 2)], staged := [stg F.pwmCa_CA 2 5], pending := [.ack] }) fun t =>
      t.mem == [(0xC00010, 2)] && t.staged == [] && t.pending == [.ack] && !t.clk.fsys] = true := by decide +kernel

theorem test_StartUpStepsComplete : ok [
    gives (exec .lfrcStable (boot {})) fun t => t.pwr.lfrc && t.pins.hselPull,
    gives (exec (.hselMeasurementDone 38) (boot { lfrc := true })) fun t => t.g F.pinStrap_HSELCODE == 2 && t.b F.pinStrap_HSELVALID,
    gives (exec (.hselMeasurementDone 0) (boot { lfrc := true })) fun t => !t.b F.pinStrap_HSELVALID && t.pwr.hsel,
    gives (exec .vdd11AvddInRegulation (boot { lfrc := true })) fun t => t.pwr.rails && t.b F.pwrStat_AVDDOK,
    gives (exec .hfrcStable (boot { rails := true })) fun t => t.pwr.hfrc,
    gives (exec .fuseLoadDone (boot { hfrc := true })) fun t => t.pwr.fuses,
    gives (exec .pllLock (boot { fuses := true })) fun t => t.pwr.pll && t.clk.fsys && t.b F.clkStat_PLLLOCK,
    gives (exec .sramInitDone { boot { pll := true } with mem := [(5, 1), (0xC00000, 7)], clk := { fsys := true } }) fun t => t.mem == [(0xC00000, 7)] && t.pwr.sram,
    gives (exec .vrefSettled (boot { rails := true })) fun t => t.pwr.vref && t.b F.pwrStat_VREFOK] = true := by decide +kernel

theorem test_ReleaseCompletes : ok [
    gives (exec (.release true 450) (({ boot { verified := true, calA := true, calB := true, hsel := true, sram := true } with
        clk := { fsys := true } }).pb F.pwrStat_NOIMG 0 true))
      fun t => t.pwr.mode == .run && !t.pins.resetnLow && t.pins.intRouted && t.pins.vcc5On && t.b F.pwrStat_BOOTDONE &&
        t.b F.pinStrap_TESTHI && t.g F.bootTime_USEC == 450 &&
        gives (exec .vcc5InRegulation t) fun u => u.b F.pwrStat_VCC5OK && u.pwr.vcc5Seen,
    gives (exec (.release false) { boot { verified := true, loaded := true, calA := true, calB := true, hsel := true, sram := true } with clk := { fsys := true } })
      fun t => t.pwr.mode == .run && t.b F.pinStrap_HENRST] = true := by decide +kernel

/-- VCC5 has been seen. -/
def vcc : State := { run0.pb F.pwrStat_VCC5OK 0 true with pwr := { run0.pwr with vcc5Seen := true }, pins := { run0.pins with vcc5On := true } }

theorem test_SupplyChangesAreReported : ok [
    !run0.b F.pwrStat_VBATLOW, !run0.clk.release, run0.flt.level == [],
    gives (exec (.vbatLowChange true) run0) fun t => t.b F.pwrStat_VBATLOW && t.b F.pwrStat_VBATLOWF && t.fltBit 2,
    gives (exec (.vbatLowChange true) { run0 with clk := {} }) fun t => t.b F.pwrStat_VBATLOW && !t.b F.pwrStat_VBATLOWF &&
      bitN t.pwr.flags F.pwrStat_VBATLOWF.lo,
    gives (exec (.vbatLowChange false) (run0.pb F.pwrStat_VBATLOW 0 true)) fun t => !t.b F.pwrStat_VBATLOW && t.b F.pwrStat_VBATLOWF,
    gives (exec (.vbatHighChange true) run0) fun t => t.b F.pwrStat_VBATHI && t.b F.pwrStat_VBATHIF && t.fltBit 3,
    gives (exec (.vcc5UvChange false) vcc) fun t => !t.b F.pwrStat_VCC5OK && t.b F.pwrStat_VCC5F && t.fltBit 4,
    gives (exec (.avddChange false) (run0.pb F.pwrStat_AVDDOK 0 true)) fun t => !t.b F.pwrStat_AVDDOK && t.b F.pwrStat_AVDDF && t.fltBit 6,
    gives (exec .vddioLoss run0) fun t => !t.pins.vddio && t.pins.tripn && t.b F.pwrStat_VDDIOF && t.fltBit 5 &&
      gives (exec .vddioGood t) fun u => u.pins.vddio && u.b F.pwrStat_VDDIOF] = true := by decide +kernel

theorem test_ControlInputsAct : ok [
    gives (exec (.henRequest true) run0) fun t => !t.pins.hen && t.hearth.due,
    run0.g F.gpioCfg_FUNC 5 == 0, gives (exec (.gpioEdge 5 true) (run0.p F.gpioCfg_EDGE 5 1)) fun t => bitN t.pins.gpio 5 && t.rbit .gpioEdge 0 5,
    gives (exec (.gpioEdge 0 false) { run0.p F.gpioCfg_EDGE 0 2 with pins := { run0.pins with gpio := 63 } }) fun t =>
      t.pins.gpio == 62 && t.rbit .gpioEdge 0 0,
    !run0.frozen 10, !run0.justServed, gives (exec .hostWatchdogExpiry { run0 with pwr := { run0.pwr with hwRun := true } }) fun t =>
      !t.pwr.hwRun && t.b F.hwdtStat_EXPIRED && t.fltBit 0 && t.hearth.due] = true := by decide +kernel

theorem test_StandbyCommandsComplete : ok [
    run0.accepts .spi 0 .pwrCmd 0 0xC701, !run0.hearthOn, !run0.hearth.due, !run0.anyEnabled, !run0.b F.clkStat_AONBK, !run0.wakeActive .spi .network,
    gives (exec (.deepStandby .spi 0) run0) fun t => t.pwr.entry == some .deep && t.done .spi && t.quiet &&
      gives (exec .standbyEntry t) (fun u => u.pwr.mode == .standby .deep && !u.clk.fsys && !u.b F.pwrStat_AVDDOK) &&
      gives (exec .standbyEntryTimeout t) (fun u => u.pwr.entry == none && u.g F.pwrStat_REFUSE == 5) &&
      gives (exec .standbyEntryTimeout { t with hearth := { t.hearth with due := true } }) fun u => u.g F.pwrStat_REFUSE == 2,
    run0.accepts .net 0 .pwrCmd 0 0xC702 == false, run0.accepts .spi 0 .pwrCmd 0 0xC702,
    gives (exec (.retentionStandby .spi 0) run0) fun t => t.pwr.entry == some .retention,
    run0.accepts .spi 0 .pwrCmd 0 0xC703, gives (exec (.networkWakeStandby .spi 0) run0) fun t => t.pwr.entry == some .network,
    gives (exec (.deepStandby .spi 0) { run0 with hearth := { run0.hearth with due := true } }) fun t => t.pwr.entry == none && t.g F.pwrStat_REFUSE == 2,
    let s := { run0 with pins := { run0.pins with wake := true } }
    s.wakeActive .spi .deep && gives (exec (.deepStandby .spi 0) s) fun t => t.pwr.entry == none && t.g F.pwrStat_REFUSE == 3,
    gives (exec (.networkWakeStandby .spi 0) (run0.pb F.netStat_COORD 0 true)) fun t => t.pwr.entry == none && t.g F.pwrStat_REFUSE == 4,
    (run0.pb F.clkStat_AONBK 0 true).accepts .spi 0 .pwrCmd 0 0xC702,
    gives (exec (.retentionStandby .spi 0) (run0.pb F.clkStat_AONBK 0 true)) fun t => t.pwr.entry == none && t.g F.pwrStat_REFUSE == 6] = true := by
  decide +kernel

/-- In standby with every source enabled. -/
def sby (k : Standby) : State :=
  { (((run0.pb F.pwrWakecfg_PINEN 0 true).pb F.pwrWakecfg_TMREN 0 true).pb F.pwrWakecfg_CSNEN 0 true).p F.pwrWktmr_COUNT 0 5 with
    pwr := { run0.pwr with mode := .standby k }, clk := {} }

theorem test_WakeUpCompletes : ok [
    gives (exec .wakePin (sby .deep)) fun t => t.pwr.mode == .startup && !t.pwr.warm && t.rd .rstCause == 33,
    gives (exec .wakePin (sby .retention)) fun t => t.pwr.mode == .waking .retention && t.pwr.wake == 1,
    gives (exec .wakeTimerExpiry (sby .network)) fun t => t.pwr.mode == .waking .network && t.pwr.wake == 2,
    gives (exec .csnWake (sby .retention)) fun t => t.pwr.wake == 4 && t.spi.wakeDiscard,
    gives (exec .energyDetect (sby .network)) fun t => t.pwr.mode == .waking .network && t.pwr.wake == 8 &&
      gives (exec (.wakeComplete 3) t) fun u => u.pwr.mode == .run && u.clk.fsys && u.time == 15000 && u.rd .pwrWakesrc == 8] = true := by
  decide +kernel

theorem test_HostWatchdogWritesComplete : ok [
    (run0.pb F.hwdtCfg_EN 0 true).accepts .spi 0 .hwdtSvc 0 0xC3,
    gives (exec (.hwdtSvcWrite .spi 0 0xC3) { run0.pb F.hwdtCfg_EN 0 true with tick := 7 }) fun t => t.pwr.hwRun && t.pwr.hwStart == 7 && t.done .spi,
    run0.accepts .spi 0 .hwdtSvc 0 0xC4,
    gives (exec (.hwdtSvcWrite .spi 0 0xC4) run0) fun t => t.b F.hwdtStat_BADSVC && t.fltBit 1 && t.pwr.hwStart == 0,
    run0.accepts .spi 0 .hwdtCfg 0 0x103FF,
    gives (exec (.hwdtCfgWrite .spi 0 0x103FF) run0) fun t => t.g F.hwdtCfg_TIMEOUT == 1023 && t.b F.hwdtCfg_EN && t.pwr.hwRun] = true := by
  decide +kernel

theorem test_ClockEventsComplete :
    let x := { run0.pb F.clkCfg_XTALEN 0 true with clk := { fsys := true, qual := true } }
    ok [gives (exec .xtalQualified (x.p F.clkCfg_REFSEL 0 1)) fun t => t.b F.clkStat_XTALOK && t.b F.clkStat_SLEWING && t.b F.clkStat_REFACT &&
        t.refCond && gives (exec .referenceSlewDone t) fun u => !u.b F.clkStat_SLEWING && u.b F.clkStat_REFACT,
      gives (exec .xtalQualifyTimeout x) fun t => t.b F.clkStat_XTALFAIL && t.fltBit 16,
      gives (exec .crystalMonitorFail (x.pb F.clkStat_XTALOK 0 true)) fun t => t.b F.clkStat_XTALFAIL && t.fltBit 16 && !t.b F.clkStat_REFACT,
      gives (exec .crystalMonitorFail ((x.pb F.clkStat_XTALOK 0 true).pb F.clkStat_REFACT 0 true)) fun t =>
        !t.b F.clkStat_REFACT && t.b F.clkStat_SLEWING && !t.b F.netStat_PHYON,
      gives (exec .pllUnlock (run0.pb F.pwmStat_DRIVE 5 true)) fun t => !t.clk.fsys && t.clk.release && t.clk.latched == [(17, 0)] &&
        !t.b F.pwmStat_DRIVE 5 && gives (exec .pllRelock t) fun u => u.clk.fsys && u.clk.relocked && u.clk.latched == [] && u.fltBit 17,
      gives (exec .fpwmStop run0) fun t => t.clk.release && t.clk.latched == [(18, 0)],
      gives (exec (.frequencyWindowEnd 119999) run0) fun t => t.g F.clkFmeas_COUNT == 119999 && t.clk.release,
      gives (exec (.frequencyWindowEnd 200001) run0) fun t => t.fltBit 19,
      gives (exec (.frequencyWindowEnd 119999) (run0.pb F.clkStat_AONBK 0 true)) fun t => t.g F.clkFmeas_COUNT == 0 && !t.clk.release,
      gives (exec .clockGlitch run0) fun t => t.fltBit 19 && t.b F.secStat_CLK && t.b F.secStat_KEYSOFF,
      gives (exec .lfrcFail run0) fun t => t.b F.clkStat_AONBK && t.b F.clkStat_LFRCFAIL && t.fltBit 20,
      gives (exec .lfrcFail (sby .retention)) fun t => t.pwr.lfrcDead] = true := by decide +kernel

/-! ### Registers and domains -/

/-- A posted write of PPWM2_TRG, while the generator runs. -/
def trgWrite : Posted := ⟨.spi, 0, RegId.pwmTrg.addr 2, 0x2ABCDE⟩
def posting : State := { run0.modPw 2 (fun p => { p with run := true }) with posted := [trgWrite] }

/-- Port 1 has written GPIO_CFG5 in this fSYS cycle. -/
def crossed : State :=
  { run0 with cyc := ⟨0, [1], [⟨1, RegId.gpioCfg.addr 5, 0, 0x100, 2 ^ 32 - 1, 0x100⟩], [(RegId.gpioCfg.addr 5, 0)], 0⟩ }

theorem test_RegisterWritesTakeEffect : ok [
    run0.accepts .spi 0 .gpioCfg 5 0x6E4, bitsN 0x6E4 0 3 ≤ 4, bitsN 0x6E4 4 2 ≤ 2,
    gives (exec (.registerWrite .spi 0 (RegId.gpioCfg.loc 5) 0x6E4) run0) fun t => t.done .spi && t.rd .gpioCfg 5 == 0x6E4 && t.rd .gpioCfg 4 == 0x10,
    run0.accepts .u2d 0 .ownStr 0 0x1234, gives (exec (.registerWrite .u2d 0 (RegId.ownStr.loc 0) 0x1234) run0) fun t => t.done .u2d &&
      t.rd .ownStr == 0 && stagedVal t.staged 0x1000 4 == some 3 && stagedVal t.staged 0x1000 12 == some 1,
    run0.accepts .spi 0 .gpioCfg 2 0x300 .set, gives (exec (.setAliasWrite .spi 0 (RegId.gpioCfg.loc 2) 0x300) run0) fun t =>
      t.g F.gpioCfg_OUT 2 == 1 && t.accepts .spi 0 .gpioCfg 2 0x100 .clr && t.accepts .spi 0 .gpioCfg 2 0x500 .tgl &&
      gives (exec (.clearAliasWrite .spi 0 (RegId.gpioCfg.loc 2) 0x100) t) (fun u => u.g F.gpioCfg_OUT 2 == 0 && u.g F.gpioCfg_EDGE 2 == 1) &&
      gives (exec (.toggleAliasWrite .spi 0 (RegId.gpioCfg.loc 2) 0x500) t) (fun u => u.g F.gpioCfg_OUT 2 == 0 && u.g F.gpioCfg_EDGE 2 == 3),
    run0.accepts .spi 0 .intEn 2 1 (.bit 31), run0.irqOwner 95 == some 0,
    gives (exec (.bitAliasWrite .spi 0 (RegId.intEn.loc 2) 31 true) run0) fun t => t.done .spi && t.rbit .intEn 2 31,
    run0.accepts .spi 0 .netTfloorLo 0 9, gives (exec (.netTfloorWrite .spi 0 9) run0) fun t => t.net.ht == 9 && t.rd .netTfloorLo == 9,
    gives (exec (.wideLoWrite .spi 0 (RegId.netTfloorLo.loc 0) 9) { run0 with holdHi := [(holdKey .spi (RegId.netTfloorHi.addr 0), 7)] }) fun t =>
      t.net.ht == 7 * 2 ^ 32 + 9 && t.rd .netTfloorHi == 7,
    posting.writeRight .spi 0 .pwmTrg 2 .reg 0x2ABCDE == .ok true, (posting.pw 2).run,
    gives (exec (.postedWriteEffect .spi) posting) fun t => t.posted == [] && stagedVal t.staged trgWrite.addr 0 == some 0xBCDE &&
      stagedVal t.staged trgWrite.addr 16 == some 2 && stagedVal t.staged trgWrite.addr 18 == some 10,
    gives (exec (.registerWrite .spi 0 (RegId.gpioCfg.loc 5) 0) crossed) fun t => t.done .spi && t.g F.gpioCfg_OUT 5 == 1 && t.b F.regStat_WRCOLL] = true := by decide +kernel

theorem test_RegisterCommandsComplete : ok [
    gives (exec (.rcRead .spi 0 (RegId.regCap.loc 0)) (run0.rsvw 0 0 5)) fun t => !t.b F.regCap_VALID 0 && t.done .spi,
    run0.accepts .spi 0 .bakeCtl 0 1, gives (exec (.bakeHoldWrite .spi 0 0 true) run0) fun t => t.b F.bakeCtl_HOLD 0 &&
      gives (exec (.bakeHoldWrite .spi 0 0 false) t) fun u => !u.b F.bakeCtl_HOLD 0,
    run0.accepts .spi 0 .lockCtl 0 5, gives (exec (.lockSet .spi 0 5) run0) fun t => t.rd .lockCtl == 5,
    run0.accepts .spi 2 .snapReq 0 0, gives (exec (.snapReq .spi 2 0) { run0 with time := 2 ^ 33 + 5 }) fun t =>
      t.snap (bankOf .spi 2) == ⟨2, 0, true, 2, 5⟩,
    let s := { run0 with net := { run0.net with trays := [(2, [⟨3, 9, 0, []⟩, ⟨4, 7, 0, []⟩])] } }
    gives (exec (.snapReq .spi 2 2) s) fun t =>
      (t.snap (bankOf .spi 2)).lo == 7,
    run0.accepts .spi 3 .snapReq 0 4, covered .gpioCfg 1,
    gives (exec (.parityCheck (RegId.gpioCfg.loc 1) true true) run0) fun t => t.g F.regPar_ADDR == 0x114 && t.fltBit 88 && t.stagedBad 0x114,
    gives (exec (.tmrVote 0x50 5 1 4) run0) fun t => t.rd .lockCtl == 5 && t.b F.regTmr_TMRFIX && t.fltBit 10,
    gives (exec (.tmrVote 0x50 5 5 5) (run0.wr .lockCtl 0 2)) fun t => t.rd .lockCtl == 2] = true := by decide +kernel

theorem test_RefusedWritesAreRecorded : ok [
    run0.gateCause .net 1 false == 4, gives (exec (.registerWrite .net 1 0x110 0) run0) fun t => !t.done .net && t.b F.domViol_VALID 1,
    let s := run0.p F.lcStat_STATE 0 2
    s.noSession .spi 0 false && gives (exec (.registerWrite .spi 0 0x110 0) s) fun t => (kvD t.acc 0 {}).code == 13,
    decode 0x112 true == .bad 2, gives (exec (.registerWrite .spi 1 0x112 0) run0) fun t => (kvD t.acc 0 {}).code == 2 && t.b F.regStat_BUSERR 1,
    run0.writeRight .spi 1 .gpioCfg 0 .reg 0 == .no 3 4, gives (exec (.registerWrite .spi 1 0x110 0) run0) fun t => (kvD t.acc 0 {}).code == 4 &&
      t.rd .domViol 1 == BitVec.ofNat 32 (0x110 + 3 * 2 ^ 27 + 2 ^ 31) && t.rbit .intPend 5 9,
    let s := { run0.pb F.lockCtl_OWN_LOCK 0 true with tick := 1 }
    s.frozenWrite .spi .ownStr 0 .reg 1 && gives (exec (.registerWrite .spi 0 0x1000 1) s) fun t => (kvD t.acc 0 {}).code == 6 &&
      t.b F.regStat_LOCKV 0 && t.staged == []] = true := by decide +kernel

theorem test_DomainResetsComplete : ok [
    run0.accepts .spi 1 .domRst 0 (2 + 0xD500), gives (exec (.domainReset .spi 1 2) run0) fun t => t.g F.domStat_RSTBUSY == 2,
    run0.accepts .spi 1 .domRst 0 (6 + 0xD500), gives (exec (.domainReset .spi 1 6) run0) fun t => t.g F.domStat_RSTBUSY == 0 &&
      t.rd .domViol 1 == BitVec.ofNat 32 (0x1064 + 6 * 2 ^ 27 + 2 ^ 31),
    gives (exec (.domainResetComplete 2) { run0.p F.domStat_RSTBUSY 0 4 with domRst := [(2, 3)] }) fun t => t.g F.domStat_RSTBUSY == 0 &&
      t.domRst == [] && t.rbit .intPend 8 14] = true := by decide +kernel

/-! ### Recipe instructions -/

/-- Context 0 runs on engine 0 at 0x40, where the words of the cached line are `w`; `f` sets its registers. -/
def atWord (w : Word) (f : Ctx → Ctx) : State :=
  { (run0.p F.peStat_CUR 0 1).modCx 0 (fun x => f { x with st := .runnable, pc := 0x40 }) with
    eng := run0.eng.map (fun e => { e with cache := [(2, [⟨2, List.replicate 8 (some w.toNat)⟩])] }) }

/-- v1 = a, v2 = b. -/
def regs (a b : Word) (x : Ctx) : Ctx := x.setVs [(1, a), (2, b)]

/-- Engine 0 comes to the instruction. -/
def comes (s : State) (i : Instr) : Bool :=
  (s.engReady 0).execCtx 0 == some 0 &&
    match (s.engReady 0).fetch 0 with
    | (.word w, s1) => decodeRecipe 0 w == some i && !(s1.en 0).due
    | _ => false

theorem test_comes (s : State) (i : Instr) (h : comes s i = true) : ∃ s1, Comes s 0 i 0 s1 := by
  simp only [comes, Bool.and_eq_true, beq_iff_eq] at h
  obtain ⟨hc, hf⟩ := h
  split at hf
  · rename_i w s1 he
    simp only [Bool.and_eq_true, beq_iff_eq, Bool.not_eq_true'] at hf
    exact ⟨s1, hc, hf.2, w, he, hf.1⟩
  · cases hf

/-- The word of an instruction of engine 0. -/
def wordOf (i : Instr) : Word := ((encodeRecipe i).getD (0, 0)).2

/-- An instruction of engine 0 runs with v1 = a, v2 = b, C = V = 0, and leaves the property. -/
def runs (i : Instr) (a b : Word) (p : Ctx → Bool) : Bool :=
  let s := atWord (wordOf i) (regs a b)
  comes s i && gives (exec i s) (fun t => p (t.cx 0))

/-- v3, Z, N, C, V, and the next word. -/
def leaves (w : Word) (z n c v : Bool) (x : Ctx) : Bool :=
  vget x.v 3 == w && x.z == z && x.n == n && x.c == c && x.o == v && x.pc == 0x44

theorem test_RegisterArithmeticResults : ok [
    runs (.add 0 3 1 2) 0xFFFFFFFF 1 (leaves 0 true false true false), runs (.sub 0 3 1 2) 0x80000000 1 (leaves 0x7FFFFFFF false false false true),
    runs (.and 0 3 1 2) 0xFF00 0x0FF0 (leaves 0x0F00 false false false false), runs (.or 0 3 1 2) 0 0 (leaves 0 true false false false),
    runs (.xor 0 3 1 2) 0x80000000 1 (leaves 0x80000001 false true false false), runs (.shl 0 3 1 2) 0x80000001 33 (leaves 2 false false true false),
    runs (.shr 0 3 1 2) 3 1 (leaves 1 false false true false), runs (.sar 0 3 1 2) 0x80000000 31 (leaves 0xFFFFFFFF false true false false),
    runs (.mul 0 3 1 2) 0x10000 0x10000 (leaves 0 true false false true), runs (.mulq 0 3 1 2) 0x7FFFFFFF 0x7FFFFFFF (leaves 0x7FFFFFFF false false false true),
    runs (.mulq 0 3 1 2) 0x4000 0xFFFFC000 (leaves 0xFFFFE000 false true false false), runs (.min 0 3 1 2) 0xFFFFFFFF 1 (leaves 0xFFFFFFFF false true false false),
    runs (.max 0 3 1 2) 0xFFFFFFFF 1 (leaves 1 false false false false), runs (.adds 0 3 1 2) 0x7FFFFFFF 1 (leaves 0x7FFFFFFF false false false true),
    runs (.subs 0 3 1 2) 0x80000000 1 (leaves 0x80000000 false true false true)] = true := by decide +kernel

theorem test_ImmediateArithmeticResults : ok [
    runs (.addi 0 3 1 0xFFFF) 0 0 (leaves 0xFFFFFFFF false true false false), runs (.andi 0 3 1 0xFFFF) 0xFFFFFFFF 0 (leaves 0xFFFF false false false false),
    runs (.ori 0 3 1 0x8000) 0 0 (leaves 0x8000 false false false false), runs (.xori 0 3 1 1) 1 0 (leaves 0 true false false false),
    runs (.shli 0 3 1 31) 3 0 (leaves 0x80000000 false true true false), runs (.shri 0 3 1 0) 3 0 (leaves 3 false false false false),
    runs (.sari 0 3 1 1) 0x80000001 0 (leaves 0xC0000000 false true true false), runs (.movi 0 3 0x8000) 0 0 (leaves 0xFFFF8000 false false false false),
    runs (.movhi 0 1 0x1234) 0xABCD 0 (fun x => vget x.v 1 == 0x1234ABCD), runs (.cmp 0 1 2) 1 2 (leaves 0 false true true false),
    runs (.cmpi 0 1 0xFFFF) 0x7FFFFFFF 0 (leaves 0 false true true true)] = true := by decide +kernel

theorem test_BranchesAndSpecialValues : ok [
    runs (.b 0 0 0xFFFFF) 0 0 (fun x => x.pc == 0x3C), runs (.b 0 1 5) 0 0 (fun x => x.pc == 0x44),
    runs (.call 0 4) 0 0 (fun x => x.pc == 0x50 && vget x.v 15 == 0x44), runs (.jr 0 1) 0xFF020007 0 (fun x => x.pc == 4),
    runs (.callr 0 1) 0x100 0 (fun x => x.pc == 0x100 && vget x.v 15 == 0x44), runs (.loop 0 1 0xFFFE) 0 0 (fun x => vget x.v 1 == 0xFFFFFFFF && x.pc == 0x38),
    runs (.loop 0 1 0xFFFE) 1 0 (fun x => x.pc == 0x44 && !x.z), runs (.nop 0) 0 0 (leaves 0 false false false false),
    runs (.rds 0 3 0) 0 0 (leaves 0 false false false false), runs (.rds 0 3 6) 0 0 (leaves 0 false false false false),
    runs (.rds 0 3 1) 0 0 (leaves 0 false false false false), runs (.rds 0 3 2) 0 0 (fun x => x.pc == 0x44), runs (.rds 0 3 3) 0 0 (fun x => vget x.v 3 == 0),
    runs (.rds 0 3 4) 0 0 (fun x => x.pc == 0x44), runs (.rds 0 3 5) 0 0 (fun x => x.pc == 0x44)] = true := by decide +kernel

theorem test_ConditionsAfterCompare : ok [
    runs (.cmp 0 1 2) 0x80000000 1 (fun x => x.cond 3 && !x.cond 7 && x.cond 13), runs (.cmp 0 1 2) 1 0xFFFFFFFF (fun x => x.cond 6 && x.cond 7)] = true := by
  decide +kernel

/-- Data SRAM holds a word at 0x840010. -/
def withData (i : Instr) (a b : Word) : State :=
  { atWord (wordOf i) (regs a b) with mem := memSetWord [] 0x840010 0xDEADBEEF }

theorem test_LoadsAndStores : ok [
    let i := Instr.ldw 0 3 1 0xFFFC; let s := withData i 0xFF840014 0
    comes s i && s.dataFor 0 0x840010 && s.slotFree 0 && gives (exec i s) fun t => vget (t.cx 0).v 3 == 0xDEADBEEF,
    let i := Instr.ldh 0 3 1 2; let s := withData i 0x840010 0
    comes s i && gives (exec i s) fun t => vget (t.cx 0).v 3 == 0xDEAD,
    let i := Instr.ldb 0 3 1 3; let s := withData i 0x840010 0
    comes s i && s.dataFor 0 0x840013 && gives (exec i s) fun t => vget (t.cx 0).v 3 == 0xDE,
    let i := Instr.stw 0 2 1 0; let s := withData i 0x840010 0x01020304
    comes s i && gives (exec i s) fun t => t.mem == memSetWord [] 0x840010 0x01020304 && (t.cx 0).pc == 0x44,
    let i := Instr.sth 0 2 1 2; let s := withData i 0x840010 0x01020304
    comes s i && gives (exec i s) fun t => t.mem == memSetWord [] 0x840010 0x0304BEEF,
    let i := Instr.stb 0 2 1 1; let s := withData i 0x840010 0x01020304
    comes s i && gives (exec i s) fun t => t.mem == memSetWord [] 0x840010 0xDEAD04EF] = true := by decide +kernel

theorem test_MisalignedAccessTakesAlign : ok [
    let i := Instr.ldw 0 3 1 0; let s := withData i 0x840012 0
    comes s i && !s.b F.peExc_VALID 0 && gives (exec i s) fun t => t.rd .peExc 0 == BitVec.ofNat 32 (6 + 16 + 2 ^ 31) && t.rd .peExcaddr 0 == 0x840012 &&
      t.rd .peExcpc 0 == 0x40 && (t.cx 0).st == .idle,
    let i := Instr.stw 0 2 1 0; let s := withData i 0x840011 7
    comes s i && gives (exec i s) fun t => t.mem == s.mem && t.b F.peExc_VALID 0] = true := by decide +kernel

/-- A reference to `n` pixel words of tray 5 from word `p`. -/
def pref (p n : Nat) : Word := BitVec.ofNat 32 (p + n * 2 ^ 9 + 5 * 2 ^ 18)

/-- Tray 5 holds two pixel words from word 3 on, and two more from word 7 on. -/
def withTray (i : Instr) (v1 v2 v3 : Word) : State :=
  { atWord (wordOf i) (fun x => x.setVs [(1, v1), (2, v2), (3, v3)]) with
    mem := memSetWord (memSetWord (memSetWord [] (trayBase 5 + 36) 0x11110000) (trayBase 5 + 40) 0x4222) (trayBase 5 + 44) 0x80003333 }

theorem test_PixelInstructions : ok [
    let i := Instr.pxr 0 3 1; let s := withTray i (pref 3 1) 0 0
    comes s i && s.trayOwner 5 == 0 && gives (exec i s) fun t => vget (t.cx 0).v 3 == 0x1111,
    let i := Instr.pxw 0 1 2; let s := withTray i (pref 3 2) 0xABCD1234 0
    comes s i && s.runFor 0 (pref 3 2) ⟨3, 2, 5⟩ && gives (exec i s) fun t => memWord t.mem (trayBase 5 + 36) == 0x12340000 &&
      memWord t.mem (trayBase 5 + 40) == 0x1234 && memWord t.mem (trayBase 5 + 44) == 0x80003333,
    let i := Instr.fade 0 1 2 3; let s := withTray i (pref 3 2) 0x1100 0x11
    comes s i && gives (exec i s) fun t => memWord t.mem (trayBase 5 + 36) == 0x11000000 && memWord t.mem (trayBase 5 + 40) == 0x4233 && !(t.cx 0).z,
    let i := Instr.blend 0 1 2 3; let s := withTray i (pref 3 2) (pref 6 2) 256
    comes s i && prefOf (pref 6 2) == some ⟨6, 2, 5⟩ && gives (exec i s) fun t => memWord t.mem (trayBase 5 + 36) == 0x33330000 &&
      memWord t.mem (trayBase 5 + 40) == 0x8000,
    let i := Instr.lut 0 1 2; let s := withTray i (pref 3 2) 0x840000 0
    comes s i && (List.range 65).all (fun k => s.memOwner ((0x840000 + 2 * k) / 4 * 4) == 0) && gives (exec i s) fun t =>
      memWord t.mem (trayBase 5 + 36) == 0 && memWord t.mem (trayBase 5 + 40) == 0x4000] = true := by decide +kernel

theorem test_PixelArithmeticStaysInRange : ok [
    fadeStep 100 16383 0xC000 == 0xC064, fadeStep 0 5 0x4003 == 0x4000, blendStep 1 0 1 == 1, blendStep 128 0x4000 0x8000 / 16384 == 1,
    blendStep 129 0x4000 0x8000 / 16384 == 2] = true := by decide +kernel

/-- Rack 28 takes pushes and pops of recipes; `q` waits on it. -/
def withRack (i : Instr) (q : List Desc) : State :=
  let s := (atWord (wordOf i) (fun x => x.setVs [(1, 0x100), (2, 7), (3, 8), (4, 9)])).pb F.rackCfg_EN 28 true
  { s with rack := { s.rack with q := if q.isEmpty then [] else [(28, q)] } }

/-- Semaphore 3 as `f` sets it. -/
def withSem (i : Instr) (f : State → State) : State := f (atWord (wordOf i) id)
def held (a : Nat) (s : State) : State := (s.pb F.semStat_HELD 3 true).p F.semStat_HOLDER 3 a
def counts (n : Nat) (s : State) : State := (s.pb F.semCfg_MODE 3 true).p F.semStat_COUNT 3 n

theorem test_RackAndSemaphoreInstructions : ok [
    let i := Instr.push 0 1 28 false 0; let s := withRack i []
    comes s i && s.ownRack 28 == 0 && s.prod 28 < 17 && s.rackEn 28 && !s.rackFull 28 && descOk (descOf [0x100, 7, 8, 9]) &&
      gives (exec i s) fun t => t.rq 28 == [descCommit (descOf [0x100, 7, 8, 9]) 0] && (t.cx 0).wst == 1 && (t.cx 0).z,
    let i := Instr.pop 0 12 28 true 5; let s := withRack i [{ w0 := 0x100, w1 := 7, w2 := 8, w3 := 9 }]
    comes s i && s.cons 28 < 17 && gives (exec i s) fun t => t.rq 28 == [] && vget (t.cx 0).v 12 == 0x80000100 && vget (t.cx 0).v 15 == 9,
    let i := Instr.take 0 3 false 0; let s := withSem i id
    comes s i && s.ownSem 3 == 0 && gives (exec i s) fun t => t.b F.semStat_HELD 3 && t.g F.semStat_HOLDER 3 == 1 && (t.cx 0).wst == 1,
    let i := Instr.take 0 3 true 1; let s := withSem i (counts 1)
    comes s i && gives (exec i s) fun t => t.g F.semStat_COUNT 3 == 0 && (t.cx 0).wst == 1,
    let i := Instr.give 0 3; let s := withSem i (held 1)
    comes s i && gives (exec i s) fun t => !t.b F.semStat_HELD 3 && (t.cx 0).z && (t.cx 0).pc == 0x44,
    let i := Instr.give 0 3; let s := withSem i (fun s => (counts 1 s).p F.semCfg_MAX 3 2)
    comes s i && gives (exec i s) fun t => t.g F.semStat_COUNT 3 == 2] = true := by decide +kernel

theorem test_RackAndSemaphoreOtherOutcomes : ok [
    let i := Instr.pop 0 12 28 true 5; let s := withRack i []
    comes s i && gives (exec i s) fun t => (t.cx 0).st == .waiting && (t.waitOf 1).isSome,
    let i := Instr.pop 0 0 28 false 0; let s := withRack i []
    comes s i && gives (exec i s) fun t => (t.cx 0).wst == 5 && (t.cx 0).pc == 0x44,
    let i := Instr.take 0 3 true 1; let s := withSem i (counts 0)
    comes s i && gives (exec i s) fun t => (t.cx 0).st == .waiting,
    let i := Instr.take 0 3 false 1; let s := withSem i (fun s => s.wr .ownSemLo 0 0x40)
    comes s i && s.ownSem 3 != 0 && gives (exec i s) fun t => (t.cx 0).wst == 6,
    let i := Instr.give 0 3; let s := withSem i (fun s => s.wr .ownSemLo 0 0x40)
    comes s i && gives (exec i s) fun t => t.rd .peExc 0 == BitVec.ofNat 32 (4 + 16 + 2 ^ 31) && t.b F.domViol_VALID 0] = true := by decide +kernel

theorem test_EventsSliceEndAndTraps : ok [
    let i := Instr.waitev 0 3 0 95 1; let s := (withSem i id).setBits .intPend 2 (2 ^ 31)
    comes s i && !s.evForeign 0 0 95 && s.evPresent 0 0 95 0 && gives (exec i s) fun t => (t.cx 0).wst == 1 && (t.cx 0).pc == 0x44,
    let i := Instr.waitev 0 3 0 95 1; let s := withSem i id
    comes s i && !s.evPresent 0 0 95 0 && gives (exec i s) fun t => (t.cx 0).st == .waiting && (t.cx 0).ev.isSome,
    let i := Instr.sliceend 0 0 false 0xFF; let s := { withSem i id with tick := 9 }
    comes s i && gives (exec i s) fun t => (t.cx 0).st == .suspended && (t.cx 0).ended == 9,
    let i := Instr.sliceend 0 1 true 0; let s := { atWord (wordOf i) (regs 0xFF05 0) with mem := memSetWord [] (trayBase 5) 1 }
    comes s i && trayOk 5 && s.trayOwner 5 == 0 && (s.trayHeader 2 5).1 == 1 && s.ownGroup 0 == 0 && gives (exec i s) fun t =>
      (t.cx 0).st == .suspended && (t.cx 0).offer.any (·.tray == 5),
    let i := Instr.endRecipe 0; let s := withSem i id
    comes s i && gives (exec i s) fun t => (t.cx 0).st == .idle,
    let i := Instr.trap 0; let s := withSem i id
    comes s i && gives (exec i s) fun t => t.rd .peExc 0 == BitVec.ofNat 32 (7 + 16 + 2 ^ 31) && (t.cx 0).st == .idle,
    let i := Instr.trap 0; let s := withSem i (fun s => s.pb F.peCtl_EXCSTOP 0 true)
    comes s i && gives (exec i s) fun t => (t.cx 0).st == .held,
    let i := Instr.fence 0; let s := withSem i id
    comes s i && gives (exec i s) fun t => (t.cx 0).pc == 0x44,
    let s := atWord 0xFF000000 id
    decodeRecipe 0 0xFF000000 == none && gives (exec (.illegalInstruction 0) s) fun t => t.rd .peExc 0 == BitVec.ofNat 32 (1 + 16 + 2 ^ 31)] = true := by
  decide +kernel

/-- Context 5, agent 6, waits for `what` of domain 1. -/
def waiting (what : WaitFor) (f : Ctx → Ctx) : State :=
  { run0.modCx 5 f with rack := { run0.rack with waits := [⟨6, 1, what, 0, 9⟩] } }

theorem test_WaitsEnd : ok [
    let s := waiting .slot (fun x => { x with st := .runnable, stall := some 0x20000000, pc := 0x80 })
    (s.waitOf 6).isSome && gives (exec (.quotaStallTimeout 5) s) (fun t => (t.cx 5).wst == 3 && (t.cx 5).pc == 0x84 && t.waitOf 6 == none) &&
      !s.noSlot 1 && gives (exec (.inflightSlotGrant 6) s) (fun t => t.waitOf 6 == none && (t.cx 5).slot) &&
      s.slotHead.all (·.agent != 7) && gives (exec (.inflightSlotGrant 7) s) fun t => t == s,
    let s := { run0 with rack := { run0.rack with waits := [⟨18, 1, .slot, 0, 9⟩] } }
    gives (exec (.inflightSlotGrant 18) s) fun t => t.rack.waits == [] && t.rack.given == [(18, 1)],
    let s := run0.modCx 5 (fun x => { x with st := .waiting, ev := some { kind := 2, sel := 0, val := 7, start := 0, tmo := 9 } })
    gives (exec (.waitevTimeout 5) s) (fun t => (t.cx 5).wst == 3 && (t.cx 5).ev == none) &&
      gives (exec (.waitevTimeReached 5) { s with time := 7 }) fun t => (t.cx 5).wst == 1 && (t.cx 5).z] = true := by decide +kernel

/-! ### Slice boundary, SPI, sessions, keys -/

theorem test_SliceBoundaryCompletes : ok [
    run0.live, !run0.frozen 9, gives (exec .sliceBoundary { run0 with time := 77 }) fun t =>
      t.slice.k == 1 && t.slice.last == 77 && t.slice.j == 1 && t.pins.slicePulse && t.g F.peSliceno_K == 1,
    let s := { run0 with staged := [⟨RegId.ownHot.addr 0, 6, 2, 0, 2, .spi, 0, false, [], none⟩] }
    gives (exec .sliceBoundary s) fun t => t.ownHot 3 == 2,
    let s := { run0.pb F.bakeCtl_HOLD 0 true with staged := [⟨RegId.ownHot.addr 0, 6, 2, 0, 2, .spi, 0, false, [], none⟩] }
    gives (exec .sliceBoundary s) fun t => t.ownHot 3 == 0,
    gives (exec .gpioSlicePulseEnd run0) fun t => !t.pins.slicePulse] = true := by decide +kernel

/-- Group 2 shows tray 5, group 6 as well. -/
def lit : State :=
  { run0 with px := { live := [(2, ⟨5, 0, 0⟩), (6, ⟨5, 16, 0⟩)], buf := [(2, [0x4005, 0x8000, 0x1234]), (6, [0x8000, 0x0100])] } }

theorem test_LatchPointFormsDuties : ok [!lit.hearthOn && lit.tlm.age.all (·.1 < 480) && !lit.domDark 0 && lit.ownGroup 2 == 0,
    gives (exec .latchPoint lit) fun t => kvD t.px.d 32 0 == 0 && kvD t.px.d 33 0 == 16383 && kvD t.px.d 96 0 == 16383 &&
      kvD t.px.d 34 0 == min 16383 ((0x1234 * t.g F.tlmPixB_F 34 + 2048) / 4096)] = true := by
  decide +kernel

/-- A frame of bytes; a frame with a command word, data words with their CRCs, and padding. -/
def frame (l : List Nat) : SpiFrame := { sdi := l.map (BitVec.ofNat 8), odd := 0, cut := false, quick := false }
def withCrc (w : Nat) : List Nat := beBytes 4 w ++ [crc8 (beBytes 4 w)]
def cmdFrame (w : Nat) (ds : List Nat) (pad : Nat) : SpiFrame := frame (withCrc w ++ ds.flatMap withCrc ++ List.replicate pad 0)

theorem test_SpiFramesComplete : run0.spiReady = true ∧ ok [
    let f := cmdFrame 0 [] 0
    wholeFrame f 0 5 && gives (exec (.spiStatus f) run0) fun t => t.spi.seq == 1 && t.spi.sdo.length == 5 && bitsN t.spi.status.toNat 27 5 == 0,
    let f := cmdFrame (2 ^ 30 + 2 ^ 24 + 0x114) [0x300, 0x500] 0
    wholeFrame f 1 15 && frameDataOk f 0 && frameDataOk f 1 && cmdWords (frCmd f) == 2 && cmdAddr (frCmd f) == RegId.gpioCfg.addr 1 &&
      run0.accepts .spi 0 .gpioCfg 1 0 && run0.sessionOpenFor && gives (exec (.spiWrite f) run0) fun t =>
        bitsN t.spi.status.toNat 18 5 == 2 && t.g F.gpioCfg_OUT 1 == 1 && t.g F.gpioCfg_EDGE 1 == 1 && t.g F.gpioCfg_EDGE 2 == 2,
    let f := cmdFrame (3 * 2 ^ 30 + 2 ^ 24 + 0x114) [0x300, 0x500] 0
    wholeFrame f 3 15 && gives (exec (.spiWritef f) run0) fun t => t.g F.gpioCfg_OUT 1 == 1 && t.g F.gpioCfg_EDGE 1 == 2 && t.g F.gpioCfg_OUT 2 == 0,
    let f := cmdFrame (2 * 2 ^ 30 + 0x114) [] 7
    wholeFrame f 2 12 && gives (exec (.spiRead f []) run0) fun t =>
      (t.spi.sdo.drop 5).map (·.toNat) == [0xA5, 0x3C, 0, 0, 0, 0x10, crc8 [0, 0, 0, 0x10]]] = true := by decide +kernel

theorem test_SpiCrcErrorsAreReported : ok [
    let f := frame [0x41, 0, 1, 0x14, 0, 0, 0]
    !frCrc f && frOp f == 1 && gives (exec (.spiWrite f) run0) fun t => bitsN t.spi.status.toNat 27 5 == 24 && t.rbit .spiStat 0 0,
    let f := frame (withCrc (2 ^ 30 + 0x114) ++ [0, 0, 3, 0, 0])
    wholeFrame f 1 10 && !frameDataOk f 0 && run0.gateCause .spi 0 false == 0 && gives (exec (.spiWrite f) run0) fun t =>
      bitsN t.spi.status.toNat 27 5 == 25 && t.rbit .spiStat 0 1,
    let f := { frame [0x41, 0, 1, 0x14, 0, 0, 0] with cut := true, unpowered := true }
    gives (exec (.spiWrite f) run0) fun t => t.spi.owed.isSome && t.spi.status == run0.spi.status && t.rbit .spiStat 0 0] = true := by decide +kernel

/-- Slots 1 and 2 hold active keys of every use; KEY_ATTR asks for version 9. -/
def keyed : State :=
  (((run0.setSlot 2 { key := 12345, st := 1, use := 31, ver := 3 }).setSlot 1 { key := 777, st := 1, use := 31, ver := 3 }).p
    F.keyAttr_VER 0 9).p F.keyAttr_USE 0 3

/-- A D0 challenge of slot 2 waits for its response, the CMAC of 0xDEAD, 0xBEEF and the unique number 0 under key 12345. -/
def asked : State := (((keyed.pb F.spiSessstat_CHAL 0 true).p F.spiSessstat_KSEL 0 2).wr .spiChalHi 0 0xDEAD).wr .spiChalLo 0 0xBEEF
def askedAnswer : Nat := 11859886012991049205
def answering (r : Nat) : State := { asked with holdHi := [(holdKey .spi (RegId.spiRespHi.addr 0), r / 2 ^ 32)] }

theorem test_SessionsComplete : ok [
    keyed.accepts .spi 0 .spiSesscmd 0 33 && keyed.usable 2 0 && gives (exec (.sessionOpen .spi 0 2) keyed) fun t => t.sec.spiReq == some 2 &&
      gives (exec .sessionChallengeReady t) fun _ => true,
    asked.accepts .spi 0 .spiRespLo 0 (askedAnswer % 2 ^ 32) &&
      gives (exec (.sessionResponse .spi 0 (BitVec.ofNat 32 askedAnswer)) (answering askedAnswer)) fun t =>
        t.b F.spiSessstat_SESS && !t.b F.spiSessstat_CHAL && t.accepts .spi 0 .spiSesscmd 0 2 &&
          gives (exec (.sessionClose .spi 0) t) fun u => !u.b F.spiSessstat_SESS,
    gives (exec (.sessionResponse .spi 0 (BitVec.ofNat 32 (askedAnswer + 1))) (answering askedAnswer)) fun t =>
      !t.b F.spiSessstat_SESS && t.b F.spiSessstat_LOCKOUT && t.g F.spiSessstat_RESULT == 2 &&
        gives (exec .sessionLockoutEnd t) fun u => !u.b F.spiSessstat_LOCKOUT,
    run0.accepts .spi 0 .spiCtl 0 1 && gives (exec (.spiCounterClear .spi 0) (run0.wr .spiErrcnt 0 7)) fun t => t.rd .spiErrcnt == 0] = true := by
  decide +kernel

/-- KEY_DATA and the tag that unwraps it into slot 1 under slot 2. -/
def wrapped : State :=
  let s := keyed.wr .keyData 1 99
  let g := 17808232210051367787
  (s.wr .keyTagHi 0 (BitVec.ofNat 32 (g / 2 ^ 32))).wr .keyTagLo 0 (BitVec.ofNat 32 g)

theorem test_KeyCommandsComplete : ok [
    keyed.accepts .spi 0 .keyCmd 0 (1 + 16 * 2 + 256 + 0x4B0000) && gives (exec (.load .spi 0 2 false 1) (keyed.wr .keyData 3 77)) fun t =>
      t.b F.keyStat_BUSY && t.sec.job == some ⟨1, 2, { key := 77, st := 1, use := 3, ver := 9 }⟩ &&
        gives (exec .keyCommandDone t) fun u => u.slot 2 == { key := 77, st := 1, use := 3, ver := 9 } && u.rd .keyData 3 == 0,
    wrapped.accepts .spi 0 .keyCmd 0 (1 + 16 + 512 + 4096 + 0x4B0000) && wrapped.usable 2 3 && gives (exec (.load .spi 0 1 true 2) wrapped) fun t =>
      t.b F.keyStat_BUSY && t.sec.job.any (fun j => j.slot == 1 && j.new.ver == 9),
    keyed.accepts .spi 0 .keyCmd 0 (2 + 16 * 2 + 0x4B0000) && gives (exec (.revoke .spi 0 2) keyed) fun t =>
      t.sec.job == some ⟨2, 2, { key := 0, st := 2, use := 31, ver := 3 }⟩] = true := by decide +kernel

/-- State 2, a challenge for state 3 under slot 2. -/
def lcAsked : State :=
  let s := (keyed.wr .lcChalHi 0 0xDEAD).wr .lcChalLo 0 0xBEEF
  { s with sec := { s.sec with lcOpen := some (3, 2) } }
def lcAnswer : Nat := 18050274133654456461

theorem test_LifeCycleCompletes : ok [
    run0.lcState == 0 && run0.accepts .spi 0 .lcCmd 0 (1 + 0x6C00) && lcAuth 0 1 == 1 && gives (exec (.lcChangeRequest .spi 0 1 0) run0) fun t =>
      t.sec.lcJob == some 1 && t.b F.memLardstat_WIPING && gives (exec .lcChangeDone t) fun u => u.lcState == 1 && u.nv.lc2 == 1,
    let s := (keyed.p F.lcStat_STATE 0 2).pb F.spiSessstat_SESS 0 true
    s.accepts .spi 0 .lcCmd 0 (3 + 32 + 0x6C00) && lcAuth s.lcState 3 == 2 && s.usable 2 4 && gives (exec (.lcChangeRequest .spi 0 3 2) s) fun t =>
      t.sec.lcReq == some (3, 2) && gives (exec .lcChallengeReady t) fun u => u.sec.lcOpen == some (3, 2),
    let s := { lcAsked with holdHi := [(holdKey .spi (RegId.lcRespHi.addr 0), lcAnswer / 2 ^ 32)] }
    s.accepts .spi 0 .lcRespLo 0 (lcAnswer % 2 ^ 32) && gives (exec (.lcResponse .spi 0 (BitVec.ofNat 32 lcAnswer)) s) fun t =>
      t.sec.lcJob == some 3 && gives (exec .lcChangeDone t) fun u => u.lcState == 3 && u.slot 2 == {},
    let s := { lcAsked with holdHi := [(holdKey .spi (RegId.lcRespHi.addr 0), lcAnswer / 2 ^ 32)] }
    gives (exec (.lcResponse .spi 0 (BitVec.ofNat 32 (lcAnswer + 1))) s) fun t => t.b F.lcStat_LOCKOUT && t.g F.lcStat_RESULT == 4 &&
      gives (exec .lcLockoutEnd t) fun u => !u.b F.lcStat_LOCKOUT,
    gives (exec .vddGlitch run0) fun t => t.fltBit 22 && t.b F.secStat_VDD && t.g F.secStat_TAMPCNT == 1] = true := by decide +kernel

/-! ### The network port -/

/-- The port runs as a follower; slot 0 holds the key of D0; racks 0-11 are enabled. -/
def net0 : State :=
  let s := run0.setSlot 0 { key := 12345, st := 1, use := 31, ver := 3 }
  let s := ((s.pb F.netStat_PHYON 0 true).pb F.netStat_PLCAOK 0 true).wr .netMacLo 0 0x11223344
  let s := { s with net := { s.net with plca := 3, beacon := some (55, 66) } }
  let s := (s.p F.domPorten_NET 0 15).p F.netTimecfg_ROLE 0 0
  (upto 12).foldl (fun s n => s.pb F.rackCfg_EN n true) s

theorem test_PhyAndBeaconsComplete : ok [
    gives (exec .phyReady ((run0.pb F.netCfg_PHYEN 0 true).pb F.clkStat_REFACT 0 true)) fun t =>
      t.b F.netStat_PHYON && (t.b F.netStat_COORD == (t.plcaId == 0)),
    net0.live && net0.plcaId == 3 && gives (exec .beaconReceive { net0 with time := 9, tick := 8 }) fun t => t.net.beacon == some (9, 8),
    gives (exec .beaconTransmit { net0 with net := { net0.net with plca := 16 }, time := 9, tick := 8 }) fun t => t.net.beacon == some (9, 8),
    gives (exec .plcaBeaconLoss net0) fun t => t.net.beacon == none && !t.b F.netStat_PLCAOK && t.b F.netStat_PLCACHG,
    gives (exec .timeHoldover (net0.p F.netTstat_STATE 0 2)) fun t => t.g F.netTstat_STATE == 3 && t.b F.netStat_TCHG,
    run0.accepts .spi 0 .netCtl 0 1 && gives (exec (.netCounterClear .spi 0) (run0.wr .netCnt1 0 7)) fun t => t.rd .netCnt1 == 0] = true := by
  decide +kernel

/-- A message of another node to `net0`: its frame before padding; the bytes of a frame. -/
def host : State := net0.wr .netMacLo 0 0x99
def part (ty : Nat) (ack : Bool) (seq : Nat) (pay : List Nat) : List Nat := (host.newFrame ty 0 ack seq net0.mac pay).1
def bytes (l : List Nat) : List Byte := l.map (BitVec.ofNat 8)
/-- REGRD of GPIO_CFG2, sequence number 77: its tag is that of key 12345, its counter 1. -/
def readIn2 : List Nat := [
  2, 0, 17, 34, 51, 68, 2, 0, 0, 0, 0, 153, 136, 181, 17, 0, 0, 77, 0, 0, 0, 0, 0, 0, 0, 0, 0, 1,
  0, 6, 0, 0, 1, 24, 0, 1, 110, 198, 66, 235, 131, 168, 159, 208, 0, 0, 0, 0, 0, 0, 0, 0, 0, 0, 0, 0,
  0, 0, 0, 0, 116, 140, 160, 209]
def freshAt (h w : Nat) : State := { net0 with net := { net0.net with h := [(0, h)], win := [(0, w)] } }

theorem test_FramesAreReceived : ok [
    let f := readIn2.set 20 9
    net0.forMe f && !net0.frameOk f && gives (exec (.frameReceive (bytes f) true) net0) fun t => t.g F.netCnt0_RXDROP == 1,
    gives (exec (.frameReceive (bytes readIn2) true) net0) fun t => t.net.rx == [(readIn2, true)] && t.rq 4 == [],
    let s := { net0 with net := { net0.net with rx := List.replicate 4 (readIn2, true) } }
    s.forMe readIn2 && s.frameOk readIn2 && gives (exec (.frameReceive (bytes readIn2) true) s) fun t =>
      t.g F.netCnt0_RXDROP == 1 && t.b F.netStat_RXOVF && t.net.rx.length == 4,
    let s := net0.setSlot 0 { key := 12, st := 1, use := 31, ver := 3 }
    s.frameOk readIn2 && nth8 readIn2 14 / 16 == 1 && nth8 readIn2 15 % 32 == 0 && 42 + zPlen readIn2 ≤ readIn2.length &&
      gives (exec (.frameReceive (bytes readIn2) false) s) fun t => t.g F.netCnt1_AUTHFAIL == 1 && t.b F.netStat_AUTHFAIL && t.rq 4 == [],
    net0.authentic readIn2 && net0.admits readIn2 && zRctr readIn2 == 1 && gives (exec (.frameReceive (bytes readIn2) false) net0) fun t =>
      (t.rq 4).map (·.body) == [readIn2] && kvD t.net.h 0 0 == 1 && bitN (kvD t.net.win 0 0) 0,
    (freshAt 32 1).admits readIn2 && gives (exec (.frameReceive (bytes readIn2) false) (freshAt 32 1)) fun t =>
      (t.rq 4).map (·.body) == [readIn2] && kvD t.net.h 0 0 == 32 && bitN (kvD t.net.win 0 0) 31,
    gives (exec (.frameReceive (bytes readIn2) false) (freshAt 33 1)) fun t => t.g F.netCnt1_REPLAY == 1 && t.b F.netStat_REPLAY && t.rq 4 == []] = true := by
  decide +kernel

/-- A message waits in rack `k` of D0. -/
def inRack (s : State) (k : Nat) (f : List Nat) : State := { s with rack := { s.rack with q := [(k, [{ w0 := 2, body := f }])] } }
def readMsg : State := inRack net0 4 (part 1 false 77 (beBytes 4 (RegId.gpioCfg.addr 2) ++ [0, 1]))
def writeMsg : State := inRack net0 4 (part 2 true 78 (beBytes 4 (RegId.gpioCfg.addr 2) ++ [0, 1] ++ beBytes 4 0x300))

theorem test_RegisterMessagesComplete : ok [
    let s1 := (readMsg.takeMsg 1).2
    (readMsg.takeMsg 1).1.any (·.1 == 0) && s1.portsCalm && s1.rackOpen 8 && s1.accepts .net 0 .gpioCfg 2 0 && gives (exec (.regrd 0) readMsg) fun t =>
      (t.newest 0).any fun a => zType a == 6 && zSeq a == 77 && zPay a == [1, 0, 0, 0, 0, 1, 0, 0, 0, 0x10],
    let s1 := (writeMsg.takeMsg 2).2
    (writeMsg.takeMsg 2).1.any (·.1 == 0) && s1.portsCalm && s1.rackOpen 8 && gives (exec (.regwr 0) writeMsg) fun t =>
      t.g F.gpioCfg_OUT 2 == 1 && t.g F.gpioCfg_EDGE 2 == 1 && (t.newest 0).any fun a => zPay a == [2, 0, 0, 0, 0, 1]] = true := by decide +kernel

theorem test_TrayMessagesComplete :
    let f (c : Nat) := part 3 false 79 ([c, 0] ++ beBytes 2 5 ++ beBytes 2 2 ++ beBytes 8 1000 ++ [0x12, 0x34, 0x56, 0x78])
    let s (c : Nat) := inRack net0 4 (f c)
    ok [((s 0x82).takeMsg 3).1.isSome && ((((s 0x82).takeMsg 3).2).trayRefusal 0 (zPay (f 0x82))).1 == 0 && payOk 3 (zPay (f 0x82)) && tCommit (zPay (f 0x82)) &&
        gives (exec .tray (s 0x82)) fun t => pixelAt t.mem (trayBase 0x82 + 42) == 0x1234 && pixelAt t.mem (trayBase 0x82 + 44) == 0x5678 &&
          (kvD t.net.trays 0 []).map (fun q => (q.hot, q.ptime)) == [(2, 1000)],
      !tCommit (zPay (f 2)) && gives (exec .tray (s 2)) fun t => kvD t.net.trays 0 [] == []] = true := by decide +kernel

/-- A TIME message of the master: its time, its reception at 50000, 40 ticks after the beacon. -/
def timeMsg (tt now : Nat) : State :=
  let f := (host.newFrame 4 0 false 7 (net0.macOf .netMcastHi .netMcastLo 0) ([0x80, 0, 0, 5] ++ beBytes 8 tt)).1
  { net0 with time := now, rack := { net0.rack with q := [(4, [{ w0 := 2, w1 := 1, w2 := 50000, w3 := 40, body := f }])] } }

/-- An interrupt of D1 asserts and has no EVENT out; `out` has one out, repeated `r` times. -/
def asserted : State := (((net0.p F.intCfg_ROUTE 1 3).wr .netHostLo 1 5).setBits .intPend 5 (2 ^ 9)).setBits .intEn 5 (2 ^ 9)
def out (r : Nat) : State := { asserted with net := { asserted.net with evOut := [(1, ⟨3, [1, 2], r⟩)] } }
def ackMsg (q : Nat) : State := inRack (out 0) 5 (host.newFrame 6 1 false q net0.mac [5, 0, 0, 0, 0, 0]).1

theorem test_TimeAndAckMessagesComplete : ok [
    ((timeMsg 40 100000).takeMsg 4).1.isSome && gives (exec .time (timeMsg 40 100000)) fun t =>
      t.rd .netTofs == 49960 && t.time == 50040 && t.g F.netTstat_STATE == 1 && t.net.slew == 0,
    gives (exec .time (timeMsg 49990 100000)) fun t => t.rd .netTofs == 10 && t.time == 100000 && t.net.slew == -10,
    ((ackMsg 3).takeMsg 6).1.isSome && gives (exec .ack (ackMsg 3)) fun t => kvGet t.net.evOut 1 == none,
    gives (exec .ack (ackMsg 4)) fun t => (kvGet t.net.evOut 1).isSome] = true := by decide +kernel

theorem test_EventsAreSent : ok [
    asserted.rackOpen 9 && asserted.canSend && asserted.evRoute 1 && asserted.asserting 1 73 && gives (exec (.eventSend 1) asserted) fun t =>
      (t.newest 1).any fun f => zType f == 5 && zDom f == 1 && (zPay f).take 12 == [0, 0, 2, 0, 0, 0, 0, 0, 0, 0, 0, 0],
    let s := { asserted with net := { asserted.net with evLost := 2 } }
    bitN s.net.evLost 1 && gives (exec (.eventRenew 1) s) fun t => (kvGet t.net.evOut 1).any (·.reps == 0),
    gives (exec (.eventRetry 1) (out 0)) fun t =>
      (kvGet t.net.evOut 1).any (·.reps == 1) && t.newest 1 == some [1, 2] && t.g F.netCnt2_TXRETRY == 1,
    gives (exec (.eventRetry 1) (out (asserted.g F.netEvcfg_RETRY))) fun t =>
      kvGet t.net.evOut 1 == none && bitN t.net.evLost 1 && t.b F.netStat_EVLOST] = true := by decide +kernel

/-- The egress rack of D1 holds an ACK that has collided `k` times. -/
def leaving (k : Nat) : State :=
  { net0 with net := { net0.net with tries := [(1, k)] }
              rack := { net0.rack with q := [(9, [{ w0 := 3, body := (host.newFrame 6 1 false 5 net0.mac [5, 0, 0, 0, 0, 0]).1 }])] } }

theorem test_FramesAreTransmitted : ok [
    (leaving 0).egressPick.1 == some 1 && (leaving 0).canSend && (leaving 0).rackCalm 9 && gives (exec (.transmitOpportunity false) (leaving 0)) fun t =>
      t.net.sent.length == 1 && t.rq 9 == [],
    gives (exec (.transmitOpportunity true) (leaving 0)) fun t => t.g F.netCnt2_TXRETRY == 1 && (t.rq 9).length == 1 && kvD t.net.tries 1 0 == 1,
    gives (exec (.transmitOpportunity true) (leaving 3)) fun t => t.rq 9 == [] && t.b F.netStat_TXDROP && t.g F.rackRet_LAST 9 == 5,
    (leaving 0).rackCalm 9 && gives (exec (.egressAckTimeout 1) (leaving 0)) fun t => t.rq 9 == [] && t.b F.netStat_TXDROP,
    let s := { leaving 0 with rack := { (leaving 0).rack with q := [(9, { w0 := 3, body := [] } :: (leaving 0).rq 9)] } }
    s.rackCalm 9 && gives (exec (.egressAckTimeout 1) s) fun t => t.rq 9 == [{ w0 := 3, body := [] }] && t.b F.netStat_TXDROP,
    gives (exec (.timeTransmit true) (net0.p F.netTimecfg_ROLE 0 1)) fun t =>
      t.g F.netCnt2_TXRETRY == 1 && t.net.sent == [] && t.net.timeTries == 1,
    gives (exec .timeTransmit (net0.p F.netTimecfg_ROLE 0 1)) fun t => t.net.sent.any fun f => zType f == 4 && (zPay f).take 2 == [128, 3]] = true := by
  decide +kernel

/-! ### Racks, semaphores, COPY -/

/-- Every rack enabled; words pushed into a rack by SPI for D0. -/
def racks : State := (upto 32).foldl (fun s n => s.pb F.rackCfg_EN n true) run0
def pushed (n : Fin 32) (l : List Word) (s : State) : State := l.foldl (fun s w => after (exec (.rackPush .spi 0 n w) s) s) s
def popped (l : List Desc) : State := { racks with rack := { racks.rack with q := [(20, l)] } }

theorem test_RackCommandsComplete : ok [
    racks.accepts .spi 0 .rackPush 0 5 && racks.prod 0 < 17 && gives (exec (.rackPush .spi 0 0 5) racks) fun t =>
      kvD t.rack.part (prKey 0 0 0) [] == [5],
    let s := pushed 0 [0x100, 7, 8] racks
    s.accepts .spi 0 .rackPush 0 5 && s.rackOpen 0 && descOk (descOf [0x100, 7, 8, 5]) && gives (exec (.rackPush .spi 0 0 5) s) fun t =>
      t.rq 0 == [descCommit (descOf [0x100, 7, 8, 5]) 0] && kvD t.rack.part (prKey 0 0 0) [] == [],
    let s := (pushed 0 [0x100, 7, 8] run0).pb F.rackCfg_EN 0 false
    !s.rackEn 0 && gives (exec (.rackPush .spi 0 0 5) s) fun t => t.rq 0 == [] && t.b F.rackStat_PUSHFULL 0,
    let s := popped [{ w0 := 0x100, w1 := 7 }]
    s.cons 20 < 17 && s.accepts .spi 0 .rackPop 20 0 && s.rackEn 20 && s.rackCalm 20 && gives (exec (.rackPop .spi 0 20) s) fun t =>
      t.rq 20 == [] && (kvD t.acc 0 {}).data == 0x80000100,
    (popped []).rq 20 == [] && gives (exec (.rackPop .spi 0 20) (popped [])) fun t => (kvD t.acc 0 {}).data.toNat / 2 ^ 30 == 1] = true := by decide +kernel

theorem test_RackCommandsComplete_partitions :
    let s0 := racks.pb F.rackCfg_EN 20 false
    ok [s0.accepts .spi 0 .rackCfg 20 1 && s0.partOk 20 && gives (exec (.rackEnable .spi 0 20 1) s0) fun t => t.rackEn 20,
      let s := s0.p F.rackPart_BASE 20 0
      !s.partOk 20 && gives (exec (.rackEnable .spi 0 20 1) s) fun t => !t.rackEn 20 && t.b F.rackGstat_OVERLAP,
      s0.accepts .spi 0 .rackPart 20 0x02000000 && gives (exec (.rackPartWrite .spi 0 20 0x02000000) s0) fun t => t.g F.rackPart_SIZE 20 == 512,
      gives (exec (.rackPartWrite .spi 0 20 0x100100) racks) fun t => t.rd .rackPart 20 == racks.rd .rackPart 20 && t.b F.rackGstat_PARTERR] = true := by
  decide +kernel

/-- Semaphore 3 counts 1 of 2, is held by an agent, and has a waiter, agent 6. -/
def counting (n : Nat) : State := ((run0.pb F.semCfg_MODE 3 true).p F.semStat_COUNT 3 n).p F.semCfg_MAX 3 2
def heldBy (a : Nat) : State := (run0.pb F.semStat_HELD 3 true).p F.semStat_HOLDER 3 a
def awaited : State :=
  let s := heldBy (agentOf .spi 0)
  { s with rack := { s.rack with waits := [⟨6, 1, .take 3, 0, 9⟩] } }
def data (t : State) : Word := (kvD t.acc 0 {}).data

theorem test_SemaphoresAndWaitsComplete : ok [
    run0.accepts .spi 0 .semTake 3 0 && gives (exec (.semTake .spi 0 3) (counting 1)) fun t => t.g F.semStat_COUNT 3 == 0 && data t == 0x80000000,
    gives (exec (.semTake .spi 0 3) run0) fun t => t.b F.semStat_HELD 3 && t.g F.semStat_HOLDER 3 == agentOf .spi 0,
    gives (exec (.semTake .spi 0 3) (counting 0)) fun t => data t == 0x40000000, gives (exec (.semTake .spi 0 3) (heldBy 7)) fun t => data t == 0x40000000,
    run0.accepts .spi 0 .semGive 3 1 && run0.semWaiters 3 == [] && gives (exec (.semGive .spi 0 3) (counting 1)) fun t => t.g F.semStat_COUNT 3 == 2,
    gives (exec (.semGive .spi 0 3) (heldBy (agentOf .spi 0))) fun t => !t.b F.semStat_HELD 3,
    gives (exec (.semGive .spi 0 3) (heldBy 7)) fun t => t.b F.semStat_HELD 3 && t.b F.semStat_BADGIVE 3,
    awaited.accepts .spi 0 .semGive 3 1 && gives (exec (.semGive .spi 0 3) awaited) fun t =>
      t.b F.semStat_HELD 3 && t.g F.semStat_HOLDER 3 == 6 && t.rack.waits == [] && (t.cx 5).wst == 1 && (t.cx 5).st == .runnable,
    run0.semIdle 3 && gives (exec (.semConfigWrite .spi 0 3 0x70001) run0) fun t => t.b F.semCfg_MODE 3 && t.g F.semCfg_MAX 3 == 7,
    !(heldBy 7).semIdle 3 && gives (exec (.semConfigWrite .spi 0 3 0x70001) (heldBy 7)) fun t => t.b F.semStat_BADGIVE 3,
    (awaited.waitOf 6).isSome && gives (exec (.waitTimeout 6) awaited) fun t => t.waitOf 6 == none && t.g F.dlkCnt_TIMEOUT == 1 && (t.cx 5).wst == 3,
    let s := { run0 with rack := { run0.rack with waits := [⟨18, 0, .take 3, 0, 9⟩], copy := some ⟨28, { w0 := 1 }, 0, false⟩ } }
    gives (exec (.waitTimeout 18) s) fun t => t.rack.copy == none && t.g F.rackRet_LAST 28 == 3,
    let s := { run0 with rack := { run0.rack with waits := [⟨17, 0, .push 8 { w0 := 3 }, 0, 9⟩] } }
    gives (exec (.waitTimeout 17) s) fun t => t.b F.netStat_TXDROP && t.rack.waits == [],
    let s := { ((heldBy 7).pb F.semStat_HELD 4 true).p F.semStat_HOLDER 4 6 with
      rack := { run0.rack with waits := [⟨6, 1, .take 3, 0, 9⟩, ⟨7, 2, .take 4, 0, 9⟩] } }
    gives (exec .deadlockScan s) fun t => t.rack.waits == [⟨6, 1, .take 3, 0, 9⟩] && t.g F.dlkCnt_DEADLOCK == 1 && (t.cx 6).wst == 4] = true := by
  decide +kernel

/-- Rack 28, which the burst engine takes from, holds a COPY of `k` words in Data SRAM. -/
def copyOf (k : Nat) : Desc := { w0 := 1, w1 := 0x840010, w2 := 0x840100, w3 := k }
def copying : State :=
  { racks.p F.rackCfg_CONS 28 18 with mem := memSetWord [] 0x840010 0xDEADBEEF, rack := { racks.rack with q := [(28, [copyOf 2])] } }

theorem test_CopyMovesItsWords : ok [
    copying.copyPick.1 == some 28 && copying.copyPick.2.rackCalm 28 && copying.gateCause .dma 0 false == 0 && copying.ownRack 28 == 0 &&
      copyCount (copyOf 2) == 2 && copying.memOwner 0x840010 == 0 && gives (exec (.copyExecute 1) copying) fun t =>
        memWord t.mem 0x840100 == 0xDEADBEEF && t.mem.length == 8 && t.rq 28 == [] && t.rack.copy == some ⟨28, copyOf 2, 1, false⟩,
    let s := { copying with rack := { copying.rack with q := [], copy := some ⟨28, copyOf 2, 0, false⟩ } }
    copySrc (copyOf 2) 0 == 0x840010 && gives (exec (.copyExecute 1) s) fun t =>
      memWord t.mem 0x840100 == 0xDEADBEEF && t.rack.copy == some ⟨28, copyOf 2, 1, false⟩,
    let s := { copying with rack := { copying.rack with q := [], copy := some ⟨28, copyOf 1, 0, false⟩ } }
    copyCount (copyOf 1) == 1 && gives (exec (.copyExecute 1) s) fun t =>
      memWord t.mem 0x840100 == 0xDEADBEEF && t.rack.copy == none && t.g F.rackRet_LAST 28 == 1] = true := by decide +kernel

/-! ### Memory, image store, engines -/

def dataMem : List Host.Cell := memSetWord (memSetWord [] 0x840010 0xDEADBEEF) 0x840014 0x12345678

/-- The word at `a` is read with the check pattern `e`; bank `b` of the sweep comes to word `w`, read with `e`. -/
def errAt (a e : Nat) : State :=
  { run0 with mem := dataMem, ecc := [(a, e)], memc := { run0.memc with wb := [a] }, pwr := { run0.pwr with sram := true } }
def sweepAt (b w e : Nat) : State :=
  let s := errAt (bankBase b + 4 * w) e
  { s with memc := { s.memc with wb := [], ptr := [(b, w)] } }

theorem test_MemoryMaintenanceCompletes : ok [
    syndFix (synd 8) && Memory.wf (errAt 0 0).mem && gives (exec (.eccWriteBack 0x840010) (errAt 0x840010 8)) fun t =>
      t.memc.wb == [] && kvD t.ecc 0x840010 0 == 0 && memWord t.mem 0x840010 == 0xDEADBEEF ^^^ dataFlip (8 ^^^ 2 ^ (synd 8 % 64)),
    gives (exec (.crumbSweepRead 7 0) (sweepAt 7 4 0)) fun t => kvD t.memc.ptr 7 0 == 5 && t.g F.memEccstat_CORR == 0,
    syndFix (synd 16) && bankWords 7 == 8192 && gives (exec (.crumbSweepRead 7 16) (sweepAt 7 8191 0)) fun t =>
      kvD t.memc.ptr 7 0 == 0 && t.g F.memEccstat_CORR == 1 && t.memc.wb == [0x847FFC] && t.b F.memEccstat_CE,
    synd 24 != 0 && !syndFix (synd 24) && gives (exec (.crumbSweepRead 3 24) (sweepAt 3 9 0)) fun t => t.b F.memEccstat_UE && t.fltBit 92,
    let s := { errAt (bankBase 7 + 388) 8 with spare := vset run0.spare 7 { copying := some (3, 0) } }
    gives (exec (.rowSpareComplete 7) s) fun t => (t.bank 7).used == 1 && (t.bank 7).lastRow == 3 && t.fltBit 13 && kvD t.ecc (bankBase 7 + 388) 0 == 0,
    let s := { run0 with mem := memSetWord dataMem 0xB00010 77, memc := { run0.memc with wipe := 2 } }
    gives (exec .larderWipeDone s) fun t => t.mem == dataMem && t.b F.memLardstat_WIPED && t.memc.wipe == 0] = true := by decide +kernel

/-- A committed tray of context 3 has not been fetched. -/
def offered : State :=
  { run0 with mem := memSetWord [] (trayBase 5 + 36) 0x11112222 }.modCx 3 (fun x => { x with offer := some { tray := 5, groups := 1, bases := [0], tick := 0 } })

set_option maxRecDepth 20000 in
theorem test_MemoryMaintenanceCompletes_fill : ok [
    offered.fills 3 { tray := 5, groups := 1, bases := [0], tick := 0 } && gives (exec (.fetchAheadFillDone 3) offered) fun t =>
      (t.cx 3).offer.any fun o => o.filled] = true := by decide +kernel

def writing : State := { (run0.wr .imgSrc 0 0x840010).wr .imgDst 0 0xF8 with mem := dataMem }
/-- An operation of the image store runs. -/
def imgJob (op bank : Nat) (loading : Bool) : State :=
  { run0 with store := { run0.store with job := some { op := op, bank := bank, dst := 0, words := [], key := [], loading := loading } } }

theorem test_ImageStoreCompletes : ok [
    let s := writing
    s.accepts .spi 0 .imgCmd 0 (imgWord 1 true 2) && srcOk 0x840014 && s.store.active == none && gives (exec (.program .spi 0 true 2) s) fun t =>
      t.store.job == some ⟨1, 1, 0xF8, [0xDEADBEEF, 0x12345678], [], false⟩ && gives (exec .programDone t) fun u =>
        memWord u.mem 0xD000F8 == 0xDEADBEEF && memWord u.mem 0xD000FC == 0x12345678 && u.g F.imgStat_RESULT == 1,
    run0.accepts .spi 0 .imgCmd 0 (imgWord 4 true 0) && gives (exec (.invalidate .spi 0 true) run0) fun t =>
      t.store.job.any fun j => j.op == 4 && j.bank == 1 && j.words == [0],
    run0.accepts .spi 0 .imgCmd 0 (imgWord 2 false 0) && gives (exec (.verify .spi 0 false) run0) fun t => t.store.job.any (·.op == 2),
    gives (exec (.verifyDone []) (imgJob 2 0 false)) fun t => t.g F.imgStat_RESULT == 5 && t.store.job == none && !t.b F.imgStat_AVALID,
    run0.accepts .spi 0 .imgCmd 0 (imgWord 3 false 0) && gives (exec (.swap .spi 0 false) run0) fun t => t.store.job.any (·.op == 3),
    gives (exec (.verifyDone []) (imgJob 3 0 false)) fun t => t.g F.imgStat_RESULT == 5 && t.store.job == none,
    gives (exec .shadowLoadDone (imgJob 3 1 true)) fun t => t.b F.imgStat_SWAPPEND && t.store.job == none && t.store.target == 1,
    let s := run0.pb F.imgStat_SWAPPEND 0 true
    s.accepts .spi 0 .imgCmd 0 (imgWord 5 false 0) && gives (exec (.cancel .spi 0) s) fun t => !t.b F.imgStat_SWAPPEND && t.g F.imgStat_RESULT == 9] = true := by
  decide +kernel

/-- An image without sections, SEQ 1, whose tag is that of key 12345 in slot 2, in the banks of the list; a part about to verify them. -/
def imageIn (banks : List Nat) : List Host.Cell :=
  banks.foldl (fun m b => ([(0, 0x584D4731), (4, 0x01000001), (8, 1), (0xC, 0x100), (0x10, 2), (0x14, 0x648), (0xE0, 0xB16E80AB), (0xE4, 0x2144DF1C),
    (0xF0, 0x76E64956), (0xF4, 0x3D7EE0D3), (0xF8, 0xECB44BA1), (0xFC, 0xFF970B09)] : List (Nat × Nat)).foldl (fun m q =>
      memSetWord m (imgBase b + q.1) q.2) m) []
def booting (banks : List Nat) : State := { keyed with mem := imageIn banks, clk := { fsys := true }, pwr := { mode := .startup, pll := true, sram := true } }

theorem test_ImageStoreCompletes_boot : ok [
    gives (exec (.imageVerificationDone []) (booting [])) fun t => t.pwr.verified && t.store.active == none && t.b F.pwrStat_NOIMG && t.fltBit 8,
    let s := { booting [] with pwr := { mode := .startup, pll := true, sram := true, verified := true }, store := { run0.store with active := some 0 } }
    gives (exec .imageLoadDone s) fun t => t.pwr.loaded] = true := by decide +kernel

theorem test_ImageStoreCompletes_bankA : gives (exec (.imageVerificationDone []) (booting [0])) (fun t => t.store.active == some 0) = true := by
  decide +kernel

theorem test_ImageStoreCompletes_bankB : gives (exec (.imageVerificationDone []) (booting [1])) (fun t => t.store.active == some 1) = true := by
  decide +kernel

theorem test_ImageStoreCompletes_swap :
    let s := { run0 with mem := imageIn [1], store := { run0.store with job := some ⟨3, 1, 0, [], [(2, 12345)], false⟩ } }
    gives (exec (.verifyDone []) s) (fun t => t.store.job.any (·.loading)) = true := by decide +kernel

def fired (e : Nat) : Fired := { entry := e, pri := 0, evt := 3, data := 5, tick := 0 }
def dispatching (f : Ctx → Ctx) : State := { run0.modCx 0 f with disp := { fired := [fired 2, fired 4] } }
def entry7 (evt : Nat) : State := (run0.p F.dispCfg_EN 7 1).p F.dispCfg_EVT 7 evt
def ctx0 (st : CtxSt) : State := run0.modCx 0 (fun x => { x with st := st, queue := [fired 2] })

theorem test_EnginesAndDispatcherComplete : ok [
    let s := { run0 with mem := memSetWord [] 0x8000A8 0xAABB, eng := run0.eng.map (fun e => { e with fill := some 5 }) }
    gives (exec (.icacheFill 2 true) s) fun t => (t.en 2).fill == none && t.b F.peStat_CERR 2 &&
      (t.cached 2 160).any fun l => (l.words.getD 2 none).any (· == 0xAABB),
    let s := { atWord 0x63000000 id with mem := memSetWord [] 0x800048 0xAABB }
    s.hitLine 0 == some 2 && gives (exec (.icacheFill 0 true) s) fun t => t.b F.peStat_CERR 0 &&
      (t.cached 0 64).any fun l => (l.words.getD 2 none).any (· == 0xAABB),
    run0.accepts .spi 0 .peCtl 2 3 && gives (exec (.icacheInvalidate .spi 0 2 true) run0) fun t => (t.en 2).cache == [] && t.b F.peCtl_EXCSTOP 2,
    let s := (run0.wr .ownPe 0 0xF00).modCx 1 (fun x => { x with st := .runnable })
    s.peMask 0 == 15 && !s.halted 0 && s.runnable 0 == [1] && gives (exec (.quantumEnd 0) s) fun t => t.g F.peStat_CUR 0 == 2,
    let s := (atWord 0x63000000 fun x => { x with stall := some 0x63000000 }).wr .ownPe 0 0xF00
    s.peMask 0 == 15 && !s.halted 0 && s.runnable 0 == [0] && gives (exec (.quantumEnd 0) s) fun t => (t.en 0).due && t.regs == s.regs,
    bestFired (dispatching id).disp.fired == some (fired 2) && run0.hasCtx 0 0 && gives (exec .dispatchIssue (dispatching id)) fun t =>
      t.disp.fired == [fired 4] && (t.cx 0).next == some (fired 2),
    gives (exec .dispatchIssue (dispatching fun x => { x with st := .runnable, entry := 2 })) fun t => t.g F.dispStat_COAL 0 == 1,
    gives (exec .dispatchIssue (dispatching fun x => { x with st := .runnable, entry := 3 })) fun t => (t.cx 0).queue == [fired 2],
    gives (exec (.recipeStart 0) (run0.modCx 0 fun x => { x with next := some (fired 2) })) fun t =>
      (t.cx 0).st == .runnable && (t.cx 0).v.toList.take 3 == [0, 3, 5],
    (entry7 3).accepts .spi 0 .dispSwtrig 0 128 && gives (exec (.softwareTrigger .spi 0 128) (entry7 3)) fun t => t.disp.fired.any (·.entry == 7),
    gives (exec (.timeMatch 0) { entry7 4 with time := 50, disp := { armed := [(0, 40)] } }) fun t =>
      kvGet t.disp.armed 0 == none && t.disp.fired.any fun f => f.entry == 7 && f.data == 40 && f.tick == 0,
    run0.accepts .spi 0 .dispTmLo 0 77 && gives (exec (.timeMatchArm .spi 0 0 77) run0) fun t => kvGet t.disp.armed 0 == some 77,
    run0.accepts .spi 0 .peCmd 0 16 && gives (exec (.kill .spi 0 0 0) (ctx0 .runnable)) fun t => (t.cx 0).st == .idle,
    run0.accepts .spi 0 .peCmd 0 32 && gives (exec (.endslice .spi 0 0 0) (ctx0 .waiting)) fun t => (t.cx 0).st == .waiting && (t.cx 0).endslice,
    run0.accepts .spi 0 .peCmd 0 48 && gives (exec (.resume .spi 0 0 0) (ctx0 .held)) fun t => (t.cx 0).st == .idle,
    run0.accepts .spi 0 .peCmd 0 64 && gives (exec (.flush .spi 0 0 0) (ctx0 .held)) fun t => (t.cx 0).queue == []] = true := by decide +kernel

/-! ### Generators -/

/-- Generator 2 runs with a period of 6400, as `f` sets it; with compares. -/
def gen (f : Pwm → Pwm) : State := (run0.pb F.pwmCtl_RUN 2 true).modPw 2 (fun p => f { p with run := true, per0 := 6400 })
def comparing (ca cb : Nat) (s : State) : State := (s.p F.pwmCa_CA 2 ca).p F.pwmCb_CB 2 cb
def peaked : State := (comparing 3000 100 (gen fun p => { p with m := true })).pb F.pwmCtl_PKEN 2 true
/-- A trip of generator 2 by source `src`. -/
def tripped (src : Nat) (t : State) : Bool := t.b F.pwmStat_TRIPACT 2 && !t.b F.pwmStat_DRIVE 2 && t.b F.pwmStat_TRIP 2 && bitN (t.g F.pwmStat_TRIPSRC 2) src

theorem test_GeneratorsComplete_periods : ok [
    (gen id).counting 2 && gives (exec (.pwmPeriodStart 2 777) ((gen id).pb F.pwmCtl_SYNCIN 2 true)) fun t =>
      t.g F.pwmTper_TPER 2 == 777 && (t.pw 2).pcount == 1 && t.b F.pwmStat_SYNCMISS 2,
    ((gen id).pb F.pwmCtl_RUN 2 false).counting 2 && gives (exec (.pwmPeriodStart 2 777) ((gen id).pb F.pwmCtl_RUN 2 false)) fun t => !(t.pw 2).run,
    gives (exec (.pwmPeriodStart 2 777) { gen id with staged := [stg F.pwmPer_PER 2 5000] }) fun t => t.g F.pwmPer_PER 2 == 5000 && (t.pw 2).per0 == 5000,
    mid.counting 2 && (mid.st 2).nff == mid.litOf 2 && gives (exec (.pwmMidPoint 2) mid) fun t => t.g F.pwmCa_CA 2 == 5000 && (t.pw 2).midDone,
    let s := comparing 3000 100 (gen id)
    s.eMode 2 == 0 && s.eCa 2 == 3000 && s.eCb 2 == 100 && gives (exec (.pwmCompare 2 true) s) fun t => (t.pw 2).m && (t.pw 2).riseAt == 100 && (t.pw 2).mainPend,
    let s := (comparing 3000 100 (gen id)).p F.pwmDt_DTR 2 0
    gives (exec (.pwmCompare 2 true) s) fun t => (t.pw 2).mainHi,
    let s := comparing 3000 100 (gen fun p => { p with m := true, riseAt := 100 })
    gives (exec (.pwmCompare 2 false) s) fun t => !(t.pw 2).m && t.g F.pwmTon_TON 2 == 2900,
    let s := (comparing 3000 100 (gen fun p => { p with m := true, riseAt := 100 })).p F.pwmCtl_MODE 2 2
    s.eMode 2 == 2 && gives (exec (.pwmCompare 2 false) s) fun t => !(t.pw 2).m && t.g F.pwmTon_TON 2 == 3300,
    gives (exec (.deadTimeEnd 2 true) (gen fun p => { p with mainPend := true })) fun t => (t.pw 2).mainHi && !(t.pw 2).mainPend,
    gives (exec (.deadTimeEnd 2 false) (gen fun p => { p with syncPend := true })) fun t => (t.pw 2).syncHi && !(t.pw 2).syncPend] = true := by decide +kernel

theorem test_GeneratorsComplete_comparator : ok [
    peaked.ePk 2 && peaked.counting 2 && gives (exec (.cmpChange 2 true 10) peaked) fun t => !(t.pw 2).m && t.g F.pwmTon_TON 2 == 384,
    gives (exec (.cmpChange 2 true 10) (peaked.modPw 2 fun p => { p with blank := true })) fun t => (t.pw 2).m && (t.pw 2).cmp,
    let s := (comparing 3000 100 (gen fun p => { p with m := true })).p F.pwmCtl_MODE 2 2
    s.eCb 2 ≤ 32 * 4 && gives (exec (.cmpChange 2 true 4) s) fun t => !(t.pw 2).m && t.g F.pwmTon_TON 2 == 192,
    let s := (comparing 1000 100 (gen fun p => { p with fell := true, cmp := true })).p F.pwmCtl_MODE 2 1
    s.eMode 2 == 1 && s.eCa 2 + s.eCb 2 ≤ 3200 && gives (exec (.cmpChange 2 false 100) s) fun t => t.g F.pwmTper_TPER 2 == 3264,
    gives (exec (.blankingClose 2 10) (peaked.modPw 2 fun p => { p with blank := true, cmp := true })) fun t => !(t.pw 2).blank && !(t.pw 2).m,
    let s := (peaked.pb F.pwmTripcfg_EXTEN 2 true).pb F.pwmStat_DRIVE 2 true
    s.pins.tripn && s.running && gives (exec (.tripnTrip true (Vector.replicate 6 50)) s) fun t => tripped 0 t && t.fltBit 24 &&
      gives (exec (.tripnTrip false (Vector.replicate 6 50)) t) fun u => u.pins.tripn,
    let s := peaked.pb F.pwmTripcfg_ILIMLAT 2 true
    gives (exec (.currentLimitTrip 2 true 50) s) fun t => (t.pw 2).ilim && tripped 1 t && t.b F.strStat_ILIMF 2 && t.fltBit 34 &&
      gives (exec (.currentLimitTrip 2 false 50) t) fun u => !(u.pw 2).ilim,
    gives (exec (.ovpTrip 2 true 50) peaked) fun t => tripped 2 t && bitN (t.pw 2).latched 2 && t.b F.strStat_OVPF 2 && t.fltBit 40 &&
      gives (exec (.ovpTrip 2 false 50) t) fun u => !(u.pw 2).ovp] = true := by decide +kernel

theorem test_GeneratorsComplete_events : ok [
    let s := ((gen fun p => { p with trgOn := true, pcount := 9 }).pb F.adcInjctl_EN 1 true).p F.adcInj_TRIG 11 3
    s.counting 2 && !s.frozen (6 + s.serves 1) && gives (exec (.trgEvent 2) s) fun t => (t.tab 1).pend == [⟨1, 3, 3, 9, 0⟩],
    let s := ((gen id).modPw 3 fun p => { p with run := true }).pb F.pwmCtl_SYNCIN 3 true
    s.counting 3 && !(s.pw 3).waitSync && gives (exec (.syncPulse 2 999) s) fun t => (t.pw 2).syncSent && t.g F.pwmTper_TPER 3 == 999,
    let s := gen id
    !s.b F.pwmStat_FROZEN 2 && gives (exec (.proofCycleDone 2 true true 32) s) fun t => t.b F.pwmProofstat_FAIL1 2 && t.b F.pwmStat_PROOFF 2,
    let s := gen id
    !s.b F.pwmStat_LINE 2 && gives (exec (.proofCycleDone 2 true true 33) s) fun t => !t.b F.pwmProofstat_FAIL1 2 && t.b F.pwmStat_READY 2,
    gives (exec (.coarseEntry 2) (gen id)) fun t => t.b F.pwmStat_COARSE 2 && t.fltBit 27,
    gives (exec (.proofIntervalElapsed 2) (gen id)) fun t => (t.pw 2).intDone,
    gives (exec (.bootstrapLockout 2 true) peaked) fun t => (t.pw 2).bstLow && !t.b F.pwmStat_DRIVE 2] = true := by decide +kernel

/-! ### Strings, pixels, the scan grid -/

/-- String 1 regulates with a sample of 100; its switches are driven. -/
def loop1 : State :=
  let s := (((run0.modSt 1 fun x => { x with sample := some 100, sampleOld := true, upi := 1000 * 65536, eprev := 5 }).p F.strIref_IREF 1 400).p F.strIref_RAMP 1 50).p F.strMeas_IEFF 1 300
  let s := ((((s.p F.strDmax_DMAX 1 5000).p F.strLoop_KP 1 3).p F.strLoop_KI 1 2).p F.strLoop_SHIFT 1 10).pb F.pwmCtl_CASRC 1 true
  ((s.pb F.strCtl_FFEN 1 false).pb F.strDet_OPENEN 1 false |>.p F.pwmCtl_MODE 1 1).modPw 1 fun p => { p with run := true }
def driven (f : Byp → Byp) : State := ((run0.pb F.bypStat_DRIVEN 1 true).pb F.strStat_ACTIVE 1 true).modBy 1 f
def short (n : Nat) : State := (driven fun b => { b with useD := [0, 0, 0, 16383], per := 5000, low := [(3, n)] }).pb F.bypDet_SHORTEN 1 true

theorem test_StringsAndPixelsComplete : ok [
    gives (exec (.supplyMonitorSample 12000) { run0 with pwr := { run0.pwr with rails := true } }) fun t => t.g F.strVmon_VIN 4 == 192,
    !loop1.fb 1 && !loop1.b F.strCtl_FFEN 1 && (loop1.st 1).slewK == 0 && !loop1.b F.strDet_OPENEN 1 && gives (exec (.loopUpdate 1) loop1) fun t =>
      t.g F.strMeas_IEFF 1 == 350 && (t.st 1).eprev == 250 && (t.st 1).upi == 65615040 && t.g F.strOut_U 1 == 1001 && t.gStaged F.pwmCa_CA 1 == 1001,
    let s := (run0.pb F.strDim_DEN 1 true).p F.strDim_DUTY 1 500
    gives (exec (.dimPeriodEdge 1) s) fun t => !(t.st 1).dimOn && t.b F.strStat_ACTIVE 1 == t.strActive 1,
    let s := { driven (fun b => { b with wait := true, latD := [5], latPer := 1000, latPh := [9] }) with tick := 88 }
    gives (exec (.pixelCounterWrap 1) s) fun t => (t.by 1).c0 == 88 && (t.by 1).useD == [5] && (t.by 1).per == 1000 && (t.by 1).usePh == [9],
    let s := driven fun b => { b with sw := 8, edges := [⟨0, 2, true⟩, ⟨9, 2, false⟩] }
    gives (exec (.bypassEdge 1) s) fun t => (t.by 1).edges == [⟨9, 2, false⟩] && (t.by 1).sw == 12 && t.g F.strOut_LIT 1 == 2,
    let s := (driven id).pb F.bypDet_AUTOEN 1 true
    s.detects 1 3 && gives (exec (.pixelOpenDetect 1 3) s) fun t => t.b F.bypStat_OPEN 1 && t.fltBit 63 && bitN (t.g F.bypAutobyp_MASK 1) 3,
    1600 ≤ cmpOf 16383 5000 && gives (exec (.pixelShortSample 1 3 false) (short 2)) fun t => kvD (t.by 1).low 3 0 == 0,
    (short 2).detects 1 3 && gives (exec (.pixelShortSample 1 3 true) (short 2)) fun t => kvD (t.by 1).low 3 0 == 3 && !t.b F.bypStat_SHORT 1,
    gives (exec (.pixelShortSample 1 3 true) (short 3)) fun t => bitN (t.g F.bypShortpx_MASK 1) 3 && t.b F.bypStat_SHORT 1 && t.fltBit 69,
    let s := { ((short 0).pb F.adcInjctl_EN 1 true).p F.adcInj_TRIG 10 9 with tlm := { sel := [(1, 19)] } }
    gives (exec (.pixelEvent 1) s) fun t => kvD t.tlm.event 1 false && (t.tab 1).pend == [⟨1, 2, 9, 19, 0⟩]] = true := by decide +kernel

/-- The grid runs, as `f` sets it; its drive phase, before and after it began; with FSYNC, `c` slips on, at a tick. -/
def grid (f : Grid → Grid) : State := (((run0.pb F.gridCtl_EN 0 true).pb F.gridStat_RUN 0 true).pb F.pwrStat_VCC5OK 0 true).modGrid f
def precharged : State := grid fun g => { g with phase := 1, stop := 533333, use := [(96, 16000), (99, 8000)], cols := List.replicate 24 100 }
def drives : State := (precharged.modGrid fun g => { g with phase := 2, sinks := 9, rowOn := true, codes := [(0, 100)] }).pb F.gridDet_DETEN 0 true
def fsync (c tick : Nat) : State :=
  { ((grid fun g => { g with stop := 533333 }).p F.gridCtl_SRC 0 1).p F.gridSyncslip_CONSEC 0 c with tick := tick }
/-- A frame began; the lock was lost. -/
def framed (s t : State) : Bool := t.grid.start == s.tick && t.g F.gridStat_ROWN == 0 && t.grid.phase == 0 && t.b F.gridStat_FRAME
def lostLock (t : State) : Bool := t.b F.gridStat_LOL && !t.b F.gridStat_LOCK && t.b F.gridStat_LOSTLOCK && t.fltBit 76

theorem test_ScanGridCompletes : ok [
    let s := { grid (fun g => { g with lat := some [(3, 4)] }) with tick := 5 }
    s.gridActive && !s.frozen 8 && gives (exec .scanFrameStart s) fun t => framed s t && t.grid.use == [(3, 4)] && t.g F.gridFcnt_COUNT == 1,
    gives (exec .scanSlotStart ((grid id).p F.gridStat_ROWN 0 14)) fun t => t.g F.gridStat_ROWN == 15 && t.grid.phase == 0,
    gives (exec .scanSlotStart (grid fun g => { g with resync := some 99 })) fun t => framed (grid id) t && t.grid.stop == 99,
    gives (exec .scanPhaseEnd (grid id)) fun t => t.grid.phase == if (grid id).tdrv < 160 then 3 else 1,
    precharged.colOn 3 != 0 && gives (exec .scanPhaseEnd precharged) fun t => t.grid.phase == 2 && t.grid.rowOn && t.grid.sinks == 9,
    gives (exec .scanPhaseEnd drives) fun t => t.grid.phase == 3 && t.grid.sinks == 0 && !t.grid.rowOn,
    gives (exec (.columnSinkOff 3) drives) fun t => t.grid.sinks == 1,
    let s := { drives with tlm := { sel := [(6, 99)] } }
    320 ≤ s.colOn 3 && gives (exec (.headroomSample 3 349) s) fun t => t.grid.samples == [(3, 1)] && kvD t.tlm.event 6 false,
    gives (exec .rowOvercurrent (drives.modGrid fun g => { g with late := [(0, 3)] })) fun t =>
      !t.grid.rowOn && t.grid.sinks == 0 && t.b F.gridStat_ROWF && bitN (t.g F.gridRowoff_ROW) 0 && t.fltBit 74,
    gives (exec .fsyncOutputPulseEnd (grid id)) fun t => !t.pins.fsyncOut] = true := by decide +kernel

theorem test_ScanGridCompletes_fsync : ok [
    let s := fsync 1 533000
    16 * 333 ≤ 2 * s.tf && gives (exec .fsyncEdge s) fun t => t.g F.gridSyncslip_CONSEC == 0 && t.grid.next == some (533000 + s.tf),
    gives (exec .fsyncEdge (fsync 1 300)) fun t => t.grid.stop == 300 + t.tf && t.b F.gridStat_LOCK,
    gives (exec .fsyncEdge ((fsync 1 266000).modGrid fun g => { g with resync := some 7 })) fun t =>
      t.grid.resync == some (266000 + t.tf) && t.g F.gridSyncslip_CONSEC == 0,
    let s := { fsync 1 5 with pins := { run0.pins with fsync := true } }
    gives (exec (.fsyncEdge false) s) fun t => !t.pins.fsync && t.grid == s.grid,
    let s := fsync 1 266000
    2 * s.tf < 16 * 266000 && gives (exec .fsyncEdge s) fun t =>
      t.b F.gridStat_SLIP && t.g F.gridSyncslip_CONSEC == 2 && t.grid.resync == some (266000 + s.tf),
    gives (exec .fsyncEdge (fsync 3 266000)) lostLock, gives (exec .fsyncTimeout (fsync 0 0)) lostLock,
    let s := ((fsync 0 5).pb F.gridStat_RUN 0 false).modGrid fun g => { g with starting := true }
    s.gridActive && gives (exec .fsyncEdge s) fun t => framed s t && t.b F.gridStat_LOCK] = true := by decide +kernel

/-! ### Converters, faults, hearth mode, the debug port -/

/-- Entry 3 of table 1 has the trigger code `c`; a request of it; a conversion of converter 1 for table 1. -/
def triggers (c : Nat) : State := (run0.pb F.adcInjctl_EN 1 true).p F.adcInj_TRIG 11 c
def request : AdcReq := ⟨1, 3, 7, 0, 0⟩
def converting (k : ConvKind) (src : Nat) : State :=
  run0.modCv 1 fun c => { c with conv := some { kind := k, tab := 1, j := 5, trig := 0, mark := 0, src := src, t := 3, calofs := 0, calgain := 0x8000, corr := 0x80000000, rack := 0, sen := false, last := true } }
def awake (s : State) : State := s.pb F.adcStat_AWAKE 1 true

theorem test_ConversionsAreRequested : ok [
    let s := (triggers 7).p F.adcTrigcfg_EDGE 0 1
    s.live && gives (exec (.triginEdge true) s) fun t => t.pins.trigin && t.b F.adcTrigcfg_EDGEF && (t.tab 1).pend == [request],
    let s := (triggers 7).modTab 1 fun t => { t with pend := [request] }
    s.serves 1 == 1 && s.adcRuns 1 && gives (exec (.injectedRequest 1 3) s) fun t => (t.tab 1).pend == [] && (t.cv 1).reqs == [request],
    let s := ((triggers 7).modTab 1 fun t => { t with pend := [request] }).modCv 1 fun c => { c with reqs := [request] }
    gives (exec (.injectedRequest 1 3) s) fun t => (t.cv 1).reqs == [request] && t.b F.adcInjstat_INJOVR 1,
    (triggers 15).accepts .spi 0 .adcInjsw 1 8 && gives (exec (.adcSoftwareTrigger .spi 0 1 8) (triggers 15)) fun t => t.posted.length == 1 &&
      gives (exec (.postedWriteEffect .spi) t) fun u => u.posted == [] && (u.tab 1).pend == [⟨1, 3, 15, 0, 0⟩],
    let s := awake ((triggers 7).modCv 1 fun c => { c with reqs := [request] })
    s.adcSt 1 == 0 && gives (exec (.conversionStart 1) s) fun t => (t.cv 1).reqs == [] && (t.cv 1).conv.any fun c => c.kind == .inj && c.tab == 1 && c.j == 3,
    let s := awake (run0.modTab 1 fun t => { t with run := true, ready := true })
    s.regNext 1 == some 1 && gives (exec (.conversionStart 1) s) fun t => !(t.tab 1).ready && (t.cv 1).conv.any fun c => c.kind == .reg && c.tab == 1,
    gives (exec (.regularDelayEnd 1) (run0.modTab 1 fun t => { t with run := true, delay := true })) fun t => !(t.tab 1).delay && (t.tab 1).ready,
    gives (exec (.adcPowerDown 1) ((awake run0).pb F.adcCtl_PD 1 true)) fun t => !t.b F.adcStat_AWAKE 1,
    let s := ((triggers 7).modCv 1 fun c => { c with reqs := [request] }).pb F.adcStat_AWAKE 1 false
    gives (exec (.adcWakeUp 1) s) fun t => t.b F.adcStat_AWAKE 1 && (t.cv 1).conv.isSome,
    gives (exec .sharedConversionDue (run0.p F.adcShrcfg_INT 0 5)) fun t => t.shr.due &&
      gives (exec .sharedConversionSkip t) fun u => !u.shr.due && u.b F.adcShrflag_SKIP && u.g F.adcShrflag_SKIPCNT == 1,
    let s := (run0.p F.adcShrcfg_INT 0 5).p F.adcStat_STATE 1 3
    gives (exec .sharedConversionDue s) fun t => (t.cv 0).refLeft == 4 && t.shr.mode == 2] = true := by decide +kernel

/-- A posted command of converter 1, taken and then in effect. -/
def effect (i : Instr) (s : State) (p : State → Bool) : Bool := gives (exec i s) fun t => gives (exec (.postedWriteEffect .spi) t) p

theorem test_ConversionsComplete : ok [
    run0.srcOwner 30 == none && gives (exec (.conversionEnd 1 1234) (converting .reg 30)) fun t => (t.cv 1).conv == none &&
      bitsN (t.rd .adcRes 69).toNat 12 6 == 30 && (t.rd .adcRes 69).toNat % 4096 == adcCorrect 1234 0 0x8000 0x80000000,
    (run0.srcOwner 8).all (· == run0.ownAdc 3) && gives (exec (.conversionEnd 1 1234) (converting .inj 8)) fun t =>
      bitN (t.rd .adcIres 13).toNat 31 && bitN (t.rd .adcInjstat 1).toNat 5,
    run0.accepts .spi 0 .adcCmd 1 (1 + 8 + at' 8 0xAD) && run0.adcSt 0 == 0 && !(run0.tab 1).hosted && effect (.cal .spi 0 1 true) run0 fun u =>
      u.adcSt 1 == 2 && (u.cv 1).cal && u.b F.adcStat_AWAKE 1,
    effect (.cal .spi 0 1 false) run0 fun u => u.adcSt 1 == 1,
    run0.accepts .spi 0 .adcCmd 1 (2 + at' 8 0xAD) && effect (.restore .spi 0 1) (run0.p F.adcStat_STATE 1 3) fun u => (u.cv 1).refLeft == 16 && (u.cv 1).refN == 16,
    effect (.restore .spi 0 1) run0 fun u => u.b F.adcStat_CMDREF 1 && u.adcSt 1 == 0,
    run0.accepts .spi 0 .adcCmd 1 (3 + at' 8 0xAD) && effect (.fail .spi 0 1) run0 fun u => u.adcSt 1 == 3 && u.b F.adcStat_FOVER 1 && u.fltBit 80,
    let s := run0.modCv 1 fun c => { c with cal := true, calRun := true }
    gives (exec (.adcCalibrationDone 1 (BitVec.ofInt 16 (-128)) 0x8800) s) (fun t => t.g F.adcCalofs_CALOFS 1 == 0xF80 && t.g F.adcCalgain_CALGAIN 1 == 0x8800 &&
        t.b F.adcStat_CALDONE 1 && !(t.cv 1).cal) && gives (exec (.adcCalibrationDone 1 129 0x8100) s) fun t => t.b F.adcStat_CALERR 1 && t.fltBit 82,
    let s := (((run0.pb F.strStat_ACTIVE 2 true).p F.strVmon_VSTR 2 10).p F.strMeas_ILED 2 20).p F.tlmGrpCal_ILSB 2 3
    gives (exec .energyAccumulate s) fun t => kvD t.tlm.cnt 488 0 == 600,
    run0.accepts .spi 0 .tlmOtLo 0 77 && gives (exec (.tlmCounterLoad .spi 0 77) run0) fun t => t.counter 0 == 77] = true := by decide +kernel

theorem test_FaultsAndHearthComplete : ok [
    run0.running && gives (exec (.dieHot true) run0) fun t => t.flt.hot && t.fltBit 15 && t.flt.level == [15] &&
      gives (exec (.dieHot false) t) fun u => !u.flt.hot && !u.fltBit 15 && u.flt.level == [],
    gives (exec .thermalShutdown (run0.pb F.pwmStat_DRIVE 2 true)) fun t => t.flt.thermal && t.fltBit 21 && !t.b F.pwmStat_DRIVE 2 &&
      gives (exec .thermalShutdownEnd t) fun u => !u.flt.thermal && !u.fltBit 21,
    let s := run0.raise 40
    s.fltBit 40 && s.accepts .spi 0 .fltStat 1 256 && !fltRsv 40 && gives (exec (.faultClear .spi 0 1 256) s) fun t => !t.fltBit 40,
    (run0.levelOn 15).accepts .spi 0 .fltStat 0 0x8000 && gives (exec (.faultClear .spi 0 0 0x8000) (run0.levelOn 15)) fun t => t.fltBit 15,
    let s := run0.raise 40
    s.accepts .spi 1 .fltStat 1 256 && s.charged 40 != 1 && gives (exec (.faultClear .spi 1 1 256) s) fun t => t.fltBit 40 && t.b F.domViol_VALID 1,
    let s := { run0 with flt := { run0.flt with dcont := 2 } }
    s.accepts .spi 2 .fltDctl 0 (2 + at' 8 0x5A) && gives (exec (.domainRelease .spi 2 2) s) fun t => bitN t.flt.dcont 1 && t.b F.domViol_VALID 2,
    let s := { run0 with flt := { run0.flt with dcont := 2 } }
    s.accepts .spi 0 .fltDctl 0 (2 + at' 8 0x5A) && gives (exec (.domainRelease .spi 0 2) s) fun t => !bitN t.flt.dcont 1 && bitN t.flt.release 1,
    let s := { run0 with flt := { run0.flt with dcont := 1, react := [(100, 4)] } }
    s.charged 100 == 0 && gives (exec (.domainRelease .spi 0 1) s) fun t => bitN t.flt.dcont 0 && t.b F.fltGstat_RELREF,
    run0.accepts .spi 0 .hearthCmd 0 (1 + at' 4 5 + at' 8 0x4E) && gives (exec (.enter .spi 0 5) run0) fun t =>
      t.hearth.cmd && t.hearth.cmdPreset == 5 && t.hearth.due,
    run0.accepts .spi 0 .hearthCmd 0 (2 + at' 8 0x4E) && gives (exec (.exit .spi 0) (run0.p F.hearthStat_STATE 0 2)) fun t => t.hearth.exitDue,
    run0.causes % 8 == 0 && !run0.hearthOn && gives (exec (.exit .spi 0) run0) fun t => t.g F.hearthStat_REFUSE == 4,
    let s := run0.p F.hearthStat_STATE 0 3
    s.causes % 8 == 0 && gives (exec (.exit .spi 0) s) fun t => t.g F.hearthStat_REFUSE == 3,
    let s := { run0 with pins := { run0.pins with hen := false } }
    s.causes % 8 != 0 && gives (exec (.exit .spi 0) s) fun t => t.g F.hearthStat_REFUSE == 2] = true := by decide +kernel

/-- The CRC of a request; a port that is attached; the address of GPIO_CFG2; a breakpoint of engine 0 at 0x40. -/
def crcOf (cmd : Nat) (a : Addr) (w : Word) : Byte := BitVec.ofNat 8 (crc8 (u2dBody cmd a w))
def attached : State := run0.pb F.u2dStat_ATT 0 true
def cfg2 : Addr := BitVec.ofNat 24 (RegId.gpioCfg.addr 2)
def breaking : State :=
  (((attached.p F.u2dBp_PC 1 0x40).p F.u2dBp_MASK 1 1).pb F.u2dBp_EN 1 true).modCx 0 (fun x => { x with st := .runnable, pc := 0x40 }) |>.p F.peStat_CUR 0 1
/-- Engine 0 is halted at a NOP, which it is to step over. -/
def stepping : State :=
  { breaking.p F.u2dHalt_HALT 0 1 with
    eng := breaking.eng.map (fun e => { e with cache := [(2, [⟨2, List.replicate 8 (some 0x63000000)⟩])] }), dbg := { breaking.dbg with step := some 0 } }

theorem test_DebugPortCompletes : ok [
    run0.live && run0.posted == [] && !run0.sec.u2dOff && crc8 (u2dBody 1 0 0x648) == (crcOf 1 0 0x648).toNat && gives (exec (.attach 0 0x648 (crcOf 1 0 0x648)) run0) fun t =>
      t.b F.u2dStat_ATT && t.b F.u2dStat_ATTF && t.dbg.resp == some (t.u2dStatusByte 0, (run0.rd .devId).toNat),
    gives (exec (.attach 0 0x648 (crcOf 1 0 0x648 + 1)) run0) fun t => t.b F.u2dStat_CRCERR && !t.b F.u2dStat_ATT,
    gives (exec (.attach 0 0x648 (crcOf 1 0 0x648)) (run0.p F.lcStat_STATE 0 2)) fun t => !t.b F.u2dStat_ATT && t.fltBit 85,
    gives (exec (.detach 0 0 (crcOf 2 0 0)) ((attached.p F.u2dHalt_HALT 0 5).pb F.u2dBp_EN 1 true)) fun t =>
      !t.b F.u2dStat_ATT && t.g F.u2dHalt_HALT == 0 && !t.b F.u2dBp_EN 1,
    gives (exec (.u2dRead cfg2 0 (crcOf 3 cfg2 0)) attached) fun t => t.dbg.resp == some (attached.u2dStatusByte 0, 0x10),
    gives (exec (.u2dWrite cfg2 0x300 (crcOf 4 cfg2 0x300)) attached) fun t => t.g F.gpioCfg_OUT 2 == 1 && t.g F.gpioCfg_EDGE 2 == 1,
    gives (exec (.u2dStatus 0 0 (crcOf 5 0 0)) attached) fun t => t.dbg.resp.isSome,
    gives (exec .lineReset attached) fun t => t.dbg.resp == none,
    gives (exec (.engineHalt 5) attached) fun t => t.halted 0 && !t.halted 1 && t.b F.u2dStat_HALTF &&
      gives (exec (.engineStep 1) t) fun u => u.b F.u2dStat_STEPREF,
    breaking.engsReady == breaking && breaking.cur 0 == some 0 && breaking.mayRun 0 && !breaking.halted 0 && gives (exec (.breakpointHit 0) breaking) fun t =>
      t.halted 0 && t.b F.u2dStat_HALTF && (t.cx 0).pc == 0x40,
    stepping.halted 0 && stepping.mayRun 0 && gives (exec (.engineStep 0) stepping) fun t => (t.cx 0).pc == 0x44 && t.dbg.step == none,
    gives (exec .tracePop { attached with dbg := { attached.dbg with trace := [(5, 7), (6, 8)] } }) fun t =>
      t.dbg.trace == [(6, 8)] && t.rd .u2dTrw1 == 7] = true := by decide +kernel

end Sys2Proof.Tests
end

section
/-!
PROOF. Control inputs (02 R48, R52; 03 R77, R92): which registers an interrupt and a fault of a fixed reaction write, when hearth entry
becomes due, and from these the answers of HEN_REQUEST, GPIO_EDGE and HOST_WATCHDOG_EXPIRY.
-/

namespace Sys2Proof.Machine

/-! ### Single bits -/

theorem bitN_eq_testBit (n i : Nat) : bitN n i = n.testBit i := by
  simp [bitN, Nat.testBit_eq_decide_div_mod_eq, Bool.beq_eq_decide_eq]

/-- A one-bit field read after it is written. -/
theorem bitN_putN_same (n i : Nat) (v : Bool) : bitN (putN n i 1 (if v then 1 else 0)) i = v := by
  rw [bitN_eq_testBit, putN_testBit]
  cases v <;> simp

/-- A bit of a register read after it is set. -/
theorem rbit_setBits_same (s : State) (r : RegId) (i : Nat) {k : Nat} (hk : k < 32) :
    (s.setBits r i (2 ^ k)).rbit r i k = true := by
  have hlt : 2 ^ k % 2 ^ 32 = 2 ^ k := Nat.mod_eq_of_lt (Nat.pow_lt_pow_right (by decide) hk)
  simp only [State.rbit, State.setBits, rd_wr_same, bitN_eq_testBit, BitVec.toNat_or, BitVec.toNat_ofNat, hlt, Nat.testBit_or,
    Nat.testBit_two_pow_self, Bool.or_true]

theorem rd_pb_ne (s : State) (f : Fld) (i : Nat) (v : Bool) {r : RegId} {j : Nat} (h : r.addr j ≠ f.r.addr i) :
    (s.pb f i v).rd r j = s.rd r j := rd_wr_ne _ _ _ _ _ _ h

/-- A one-bit field written over two states that agree on its register and on the one read. -/
theorem rd_pb_congr {s t : State} {f : Fld} {i : Nat} {v : Bool} {r : RegId} {j : Nat} (hf : s.rd f.r i = t.rd f.r i)
    (hr : s.rd r j = t.rd r j) : (s.pb f i v).rd r j = (t.pb f i v).rd r j := by
  simp only [State.pb, State.p, rd_wr, hf, hr]

/-! ### Interrupts (05 R145, R146) -/

/-- An interrupt set and the dispatcher leave the clocks alone, and every register outside their blocks. -/
structure IrqFrame (s t : State) : Prop where
  clk : t.clk = s.clk
  rd : ∀ r j, r.addr j / 0x1000 ∉ [0x2, 0x9] → t.rd r j = s.rd r j

theorem IrqFrame.refl (s : State) : IrqFrame s s := ⟨rfl, fun _ _ _ => rfl⟩

theorem IrqFrame.trans {s t u : State} (a : IrqFrame s t) (b : IrqFrame t u) : IrqFrame s u :=
  ⟨b.clk.trans a.clk, fun r j h => (b.rd r j h).trans (a.rd r j h)⟩

theorem IrqFrame.each {α : Type} {l : List α} {f : α → State → State} (h : ∀ a s, IrqFrame s (f a s)) (s : State) :
    IrqFrame s (Machine.each l f s) := by
  induction l generalizing s with
  | nil => exact .refl s
  | cons a t ih => exact (h a s).trans (ih (f a s))

/-- A write of a register of either block. -/
theorem IrqFrame.wr (s : State) {r : RegId} {i : Nat} (w : Word) (h : r.addr i / 0x1000 ∈ [0x2, 0x9]) : IrqFrame s (s.wr r i w) :=
  ⟨rfl, fun r' j hj => rd_wr_ne s r r' i j w (fun e => hj (e ▸ h))⟩

theorem State.own2_lt (s : State) (r : RegId) (j : Nat) : s.own2 r j < 4 := Nat.mod_lt _ (by decide)

theorem State.ownRack_lt (s : State) (n : Nat) : s.ownRack n < 4 := by
  unfold State.ownRack
  split
  · omega
  split <;> exact s.own2_lt ..

/-- The owner of a source is one of the four domains. -/
theorem State.irqOwner_lt {s : State} {n d : Nat} : s.irqOwner n = some d → d < 4 := by
  unfold State.irqOwner
  repeat' refine iteInduction (motive := fun o => o = some d → d < 4) (fun _ => ?_) (fun _ => ?_)
  all_goals rintro ⟨⟩
  exacts [s.own2_lt .., s.own2_lt .., s.own2_lt .., s.own2_lt .., s.ownRack_lt _, s.own2_lt .., s.own2_lt ..,
    Nat.mod_lt _ (by decide), s.own2_lt .., s.own2_lt .., by decide]

/-- Numbers above 95 name no source. -/
theorem State.irqOwner_none (s : State) {n : Nat} (h : 96 ≤ n) : s.irqOwner n = none := by
  unfold State.irqOwner
  iterate 10 rw [if_neg (by omega)]
  rw [if_neg (by simp; omega), if_neg (by omega)]

theorem State.lt_of_irqOwner {s : State} {n d : Nat} (h : s.irqOwner n = some d) : n < 96 := by
  by_contra hn
  simp [s.irqOwner_none (Nat.le_of_not_lt hn)] at h

theorem IrqFrame.badEvt (s : State) {d : Nat} (hd : d < 4) : IrqFrame s (s.badEvt d) :=
  .wr s _ (by simp [F.dispStat_BADEVT, RegId.addr, RegId.place]; omega)

theorem IrqFrame.fireEntry (s : State) (i evt : Nat) (src : Option Nat) (data : Word) :
    IrqFrame s (s.fireEntry i evt src data) := by
  have hd : s.g F.dispCfg_DOM i < 4 := Nat.mod_lt _ (by decide)
  unfold State.fireEntry
  dsimp only
  split
  · exact .refl s
  split
  · exact .badEvt s hd
  split
  · exact .badEvt s hd
  · split <;> split <;> exact ⟨rfl, fun _ _ _ => rfl⟩

theorem IrqFrame.evWake (s : State) (kind sel : Nat) (d : Option Nat) : IrqFrame s (s.evWake kind sel d) := by
  refine .each (fun c s => ?_) s
  split
  · split
    · exact ⟨rfl, fun _ _ _ => rfl⟩
    · exact .refl s
  · exact .refl s

theorem IrqFrame.pendIrq (s : State) (n : Nat) : IrqFrame s (s.pendIrq n) := by
  unfold State.pendIrq
  split
  · exact .refl s
  next d hd =>
    have hlt := State.irqOwner_lt hd
    have hn := State.lt_of_irqOwner hd
    split
    · exact .refl s
    · have hset : IrqFrame s (s.setBits .intPend (3 * d + n / 32) (2 ^ (n % 32))) :=
        .wr s _ (by simp [RegId.addr, RegId.place]; omega)
      exact (hset.trans (.each (fun i s => .fireEntry s i _ _ _) _)).trans (.evWake ..)

/-- A flag set with its interrupt, read through registers outside the interrupt sets and the dispatcher. -/
theorem rd_flagIrq (s : State) (f : Fld) (i irq : Nat) (r : RegId) (j : Nat) (h : r.addr j / 0x1000 ∉ [0x2, 0x9]) :
    (s.flagIrq f i irq).rd r j = (s.pb f i true).rd r j := (IrqFrame.pendIrq ..).rd r j h

@[simp] theorem flagIrq_clk (s : State) (f : Fld) (i irq : Nat) : (s.flagIrq f i irq).clk = s.clk := (IrqFrame.pendIrq ..).clk

/-! ### Faults of a fixed reaction (18 R683, R691) -/

/-- The sources with a fixed reaction. -/
theorem fltFixed_cases {n : Nat} (h : fltFixed n = true) :
    n = 0 ∨ n = 11 ∨ n = 17 ∨ n = 18 ∨ n = 19 ∨ n = 21 ∨ n = 22 ∨ n = 81 ∨ n = 85 ∨ n = 86 ∨ n = 87 := by
  simp only [fltFixed, Bool.or_eq_true, Bool.and_eq_true, beq_iff_eq, decide_eq_true_eq] at h
  omega

theorem fltFixed_lt {n : Nat} (h : fltFixed n = true) : n < 128 := by
  have := fltFixed_cases h
  omega

/-- A source with a fixed reaction is of class F3, is charged to D0 and is not reserved. -/
theorem fixed_source {n : Nat} (h : fltFixed n = true) :
    fltClass n = 3 ∧ fltRsv n = false ∧ ∀ s : State, s.charged n = 0 ∧ s.fltReactOf n = 3 := by
  refine ⟨?_, ?_, fun s => ⟨?_, by simp [State.fltReactOf, h]⟩⟩ <;>
    rcases fltFixed_cases h with rfl | rfl | rfl | rfl | rfl | rfl | rfl | rfl | rfl | rfl | rfl <;> rfl

theorem rd_fltCapture (s : State) (n d react : Nat) (r : RegId) (j : Nat) (h : r.addr j ≠ RegId.fltCap.addr d) :
    (s.fltCapture n d react).rd r j = s.rd r j := by
  unfold State.fltCapture
  split <;> exact rd_wr_ne _ _ _ _ _ _ h

theorem rd_fltCount (s : State) (cls : Nat) (r : RegId) (j : Nat) (h : r.addr j ≠ RegId.fltCnt.addr 0) :
    (s.fltCount cls).rd r j = s.rd r j := by
  unfold State.fltCount
  split <;> exact rd_wr_ne _ _ _ _ _ _ h

theorem rd_trace (s : State) (ty a b c : Nat) (r : RegId) (j : Nat) (h : r.addr j ≠ RegId.u2dTrstat.addr 0) :
    (s.trace ty a b c).rd r j = s.rd r j := by
  unfold State.trace
  dsimp only
  split
  · split
    · rfl
    split <;> exact rd_wr_ne _ _ _ _ _ _ h
  · rfl

/-- The registers that record a fault charged to D0: its capture, the counts and the trace's count of lost entries. -/
def faultRecords : List Nat := [RegId.fltCap.addr 0, RegId.fltCnt.addr 0, RegId.u2dTrstat.addr 0]

theorem faultRecords_blocks : ∀ a ∈ faultRecords, a / 0x1000 ∈ [0x2, 0x9, 0x10, 0x12] := by decide

/-- The records of a fault charged to D0 leave every other register. -/
theorem rd_faultRecords (s : State) (n react cls ty a b c : Nat) (r : RegId) (j : Nat) (h : r.addr j ∉ faultRecords) :
    (((s.fltCapture n 0 react).fltCount cls).trace ty a b c).rd r j = s.rd r j := by
  simp only [faultRecords, List.mem_cons, List.not_mem_nil, or_false, not_or] at h
  obtain ⟨hcap, hcnt, htr⟩ := h
  rw [rd_trace _ _ _ _ _ _ _ htr, rd_fltCount _ _ _ _ hcnt, rd_fltCapture _ _ _ _ _ _ hcap]

/-- What a fault of a fixed reaction writes beside interrupts, dispatcher and records: its bit, and ENTERED, which notifies of
class F3. -/
theorem rd_raise_fixed {s : State} {n : Nat} (hs : s.clk.fsys = true) (hn : fltFixed n = true) {r : RegId} {j : Nat}
    (hirq : r.addr j / 0x1000 ∉ [0x2, 0x9]) (hrec : r.addr j ∉ faultRecords) :
    (s.raise n).rd r j = ((s.setBits .fltStat (n / 32) (2 ^ (n % 32))).pb F.hearthStat_ENTERED 0 true).rd r j := by
  obtain ⟨hcls, hrsv, h⟩ := fixed_source hn
  obtain ⟨hchg, hreact⟩ := h s
  have notify : ∀ t : State, (t.fltNotify 3 0).rd r j = (t.pb F.hearthStat_ENTERED 0 true).rd r j :=
    fun t => rd_flagIrq t F.hearthStat_ENTERED 0 87 r j hirq
  have react : ∀ (t : State) c, (t.fltReact n 3 c 0).rd r j = t.rd r j := fun _ _ => rfl
  calc (s.raise n).rd r j
      = (((((s.setBits .fltStat (n / 32) (2 ^ (n % 32))).fltCapture n 0 3).fltCount 3).trace 5 n 15 0).pb
          F.hearthStat_ENTERED 0 true).rd r j := by
        simp only [State.raise, State.raiseOn, hrsv, hs, hcls, hchg, hreact, Bool.not_true, Bool.false_eq_true, if_false]
        split
        · exact notify _
        · exact (react _ _).trans (notify _)
    _ = _ := rd_pb_congr (rd_faultRecords _ _ _ _ _ _ _ _ .hearthStat 0 (by decide)) (rd_faultRecords _ _ _ _ _ _ _ _ r j hrec)

/-- The fault bits lie apart from all else that raising a fault writes. -/
theorem fltStat_apart : ∀ k : Fin 4, RegId.fltStat.addr k / 0x1000 ∉ [0x2, 0x9] ∧ RegId.fltStat.addr k ∉ faultRecords ∧
    RegId.fltStat.addr k ≠ RegId.hearthStat.addr 0 := by decide

theorem fltStat_block : ∀ k : Fin 4, RegId.fltStat.addr k / 0x1000 ∈ [0x2, 0x9, 0x10, 0x12] := by decide

/-- The bit of a fault of a fixed reaction is set. -/
theorem fltBit_raise_fixed {s : State} {n : Nat} (hs : s.clk.fsys = true) (hn : fltFixed n = true) : (s.raise n).fltBit n = true := by
  have hk : n / 32 < 4 := Nat.div_lt_of_lt_mul (fltFixed_lt hn)
  obtain ⟨hirq, hrec, hst⟩ := fltStat_apart ⟨n / 32, hk⟩
  rw [State.fltBit, State.rbit, rd_raise_fixed hs hn hirq hrec, rd_pb_ne _ _ _ _ hst]
  exact rbit_setBits_same s .fltStat (n / 32) (Nat.mod_lt n (by decide))

/-- A fault of a fixed reaction, which only asks for hearth mode, leaves its STATE. -/
theorem hearthState_raise_fixed {s : State} {n : Nat} (hs : s.clk.fsys = true) (hn : fltFixed n = true) :
    (s.raise n).g F.hearthStat_STATE = s.g F.hearthStat_STATE := by
  have hk : n / 32 < 4 := Nat.div_lt_of_lt_mul (fltFixed_lt hn)
  obtain ⟨_, _, hst⟩ := fltStat_apart ⟨n / 32, hk⟩
  have hrd := rd_raise_fixed hs hn (r := .hearthStat) (j := 0) (by decide) (by decide)
  calc (s.raise n).g F.hearthStat_STATE
      = ((s.setBits .fltStat (n / 32) (2 ^ (n % 32))).pb F.hearthStat_ENTERED 0 true).g F.hearthStat_STATE :=
        congrArg (fun w : Word => bitsN w.toNat 0 2) hrd
    _ = (s.setBits .fltStat (n / 32) (2 ^ (n % 32))).g F.hearthStat_STATE :=
        g_p_field _ F.hearthStat_ENTERED F.hearthStat_STATE 0 _ rfl (by decide) (by decide)
    _ = s.g F.hearthStat_STATE :=
        congrArg (fun w : Word => bitsN w.toNat 0 2) (rd_wr_ne s .fltStat .hearthStat (n / 32) 0 _ hst.symm)

/-- A register of a block that holds neither interrupts nor faults nor the trace keeps its word. -/
theorem rd_raise_fixed_apart {s : State} {n : Nat} (hs : s.clk.fsys = true) (hn : fltFixed n = true) {r : RegId} {j : Nat}
    (h : r.addr j / 0x1000 ∉ [0x2, 0x9, 0x10, 0x12]) : (s.raise n).rd r j = s.rd r j := by
  have apart : ∀ {a}, a / 0x1000 ∈ [0x2, 0x9, 0x10, 0x12] → r.addr j ≠ a := fun ha e => h (e ▸ ha)
  have hk : n / 32 < 4 := Nat.div_lt_of_lt_mul (fltFixed_lt hn)
  have hirq : r.addr j / 0x1000 ∉ [0x2, 0x9] := fun hm => h (List.mem_append_left [0x10, 0x12] hm)
  have hrec : r.addr j ∉ faultRecords := fun hm => apart (faultRecords_blocks _ hm) rfl
  calc (s.raise n).rd r j
      = ((s.setBits .fltStat (n / 32) (2 ^ (n % 32))).pb F.hearthStat_ENTERED 0 true).rd r j := rd_raise_fixed hs hn hirq hrec
    _ = (s.setBits .fltStat (n / 32) (2 ^ (n % 32))).rd r j := rd_pb_ne _ _ _ _ (apart (by decide))
    _ = s.rd r j := rd_wr_ne _ _ _ _ _ _ (apart (fltStat_block ⟨n / 32, hk⟩))

/-! ### Hearth causes (18 R692, R693) -/

/-- With hearth mode off, an active cause makes its entry due. -/
theorem hearthCause_due {s : State} (hst : s.g F.hearthStat_STATE = 0) (hc : s.causes ≠ 0) : s.hearthCause.hearth.due = true := by
  simp [State.hearthCause, hst, hc]

theorem causes_of_expired {s : State} (h : s.b F.hwdtStat_EXPIRED = true) : s.causes ≠ 0 := by
  simp only [State.causes, h, if_true]; omega

theorem causes_of_hen {s : State} (hr : s.running = true) (h : s.pins.hen = false) : s.causes ≠ 0 := by
  simp only [State.causes, hr, h, Bool.not_false, Bool.and_self, if_true]; omega

/-! ### The three events -/

/-- HEN (02 R48). -/
theorem henRequest_acts (s : State) (low : Bool) (hv : s.pins.vddio = true) :
    Gives (.henRequest low) s fun t =>
      t.pins.hen = !low ∧ (low = true → s.pwr.mode = .run → s.g F.hearthStat_STATE = 0 → t.hearth.due = true) := by
  refine ⟨{ s with pins := { s.pins with hen := !low } }.hearthCause, ?_, rfl, ?_⟩
  · change execHenRequest low s = _
    simp [execHenRequest, hv]
  · intro hlow hrun hst
    refine hearthCause_due hst (causes_of_hen ?_ ?_)
    · simp [State.running, hrun]
    · simp [hlow]

/-- GPIOn has a new level. -/
def State.withGpio (s : State) (n : Fin 6) (level : Bool) : State :=
  { s with pins := { s.pins with gpio := putN s.pins.gpio n.val 1 (if level then 1 else 0) } }

/-- A selected edge sets its flag, with IRQ21, on the state with the new level. -/
theorem gpioEdge_eq {s : State} {n : Fin 6} {rising : Bool} (hv : s.pins.vddio = true) (hrun : s.pwr.mode = .run)
    (hclk : s.clk.fsys = true) (hfunc : s.g F.gpioCfg_FUNC n.val = 0)
    (hsel : bitN (s.g F.gpioCfg_EDGE n.val) (if rising then 0 else 1) = true) (hedge : bitN s.pins.gpio n.val ≠ rising) :
    exec (.gpioEdge n rising) s = .next (((s.withGpio n rising).setBits .gpioEdge 0 (2 ^ n.val)).pendIrq 21) := by
  change execGpioEdge n rising s = _
  have hsel' : (if rising then bitN (s.g F.gpioCfg_EDGE n.val) 0 else bitN (s.g F.gpioCfg_EDGE n.val) 1) = true := by
    cases rising <;> exact hsel
  simp [execGpioEdge, hv, State.running, hrun, hclk, hfunc, hsel', hedge, State.withGpio]

/-- A selected edge of a GPIO input (02 R52). -/
theorem gpioEdge_acts (s : State) (n : Fin 6) (rising : Bool) (hv : s.pins.vddio = true) (hrun : s.pwr.mode = .run)
    (hclk : s.clk.fsys = true) (hfunc : s.g F.gpioCfg_FUNC n.val = 0)
    (hsel : bitN (s.g F.gpioCfg_EDGE n.val) (if rising then 0 else 1) = true) (hedge : bitN s.pins.gpio n.val ≠ rising) :
    Gives (.gpioEdge n rising) s fun t => bitN t.pins.gpio n.val = rising ∧ t.rbit .gpioEdge 0 n.val = true := by
  refine gives_of (gpioEdge_eq hv hrun hclk hfunc hsel hedge) ⟨?_, ?_⟩
  · rw [(Quiet.pendIrq ..).pins]
    exact bitN_putN_same ..
  · rw [State.rbit, (IrqFrame.pendIrq ..).rd _ _ (by decide)]
    exact rbit_setBits_same (s.withGpio n rising) .gpioEdge 0 (by omega)

/-- The host watchdog has expired: its count stops and EXPIRED is set; an expiry in hearth mode takes no part in the choice of a
preset (03 R77, R92). -/
def State.hostExpired (s : State) : State :=
  { s with
    pwr := { s.pwr with hwRun := false }
    hearth := { s.hearth with
      wdtLate := s.hearth.wdtLate || (s.g F.hearthStat_STATE = 1 || s.g F.hearthStat_STATE = 2) } }.flagIrq F.hwdtStat_EXPIRED 0 93

@[simp] theorem hostExpired_clk (s : State) : s.hostExpired.clk = s.clk := by rw [State.hostExpired, flagIrq_clk]

@[simp] theorem hostExpired_hwRun (s : State) : s.hostExpired.pwr.hwRun = false := by rw [State.hostExpired, (Quiet.flagIrq ..).pwr]

@[simp] theorem hostExpired_EXPIRED (s : State) : s.hostExpired.b F.hwdtStat_EXPIRED = true := by
  rw [State.hostExpired, State.b, State.g, rd_flagIrq _ _ _ _ _ _ (by decide)]
  exact b_pb_same _ F.hwdtStat_EXPIRED 0 true (by decide) rfl

@[simp] theorem hostExpired_hearthState (s : State) : s.hostExpired.g F.hearthStat_STATE = s.g F.hearthStat_STATE := by
  rw [State.hostExpired, State.g, rd_flagIrq _ _ _ _ _ _ (by decide), rd_pb_ne _ _ _ _ (by decide)]
  rfl

/-- An expiry that is neither held by a debug freeze nor met by a service (03 R92; 20 R759) raises FLT0 and its hearth cause. -/
theorem hostWatchdogExpiry_eq {s : State} (hrun : s.pwr.mode = .run) (hw : s.pwr.hwRun = true) (hfz : s.frozen 10 = false)
    (hsv : s.justServed = false) : exec .hostWatchdogExpiry s = .next (s.hostExpired.raise 0).hearthCause := by
  change execHostWatchdogExpiry s = _
  simp [execHostWatchdogExpiry, State.running, hrun, hw, hfz, hsv, State.hostExpired]

/-- The expiry of the host watchdog (03 R77). -/
theorem hostWatchdogExpiry_acts (s : State) (hrun : s.pwr.mode = .run) (hw : s.pwr.hwRun = true) (hfz : s.frozen 10 = false)
    (hsv : s.justServed = false) (hclk : s.clk.fsys = true) :
    Gives .hostWatchdogExpiry s fun t =>
      t.pwr.hwRun = false ∧ t.b F.hwdtStat_EXPIRED = true ∧ t.fltBit 0 = true ∧
        (s.g F.hearthStat_STATE = 0 → t.hearth.due = true) := by
  have hclk1 : s.hostExpired.clk.fsys = true := by simpa using hclk
  have hexp : (s.hostExpired.raise 0).b F.hwdtStat_EXPIRED = true := by
    rw [State.b, State.g, rd_raise_fixed_apart hclk1 (by decide) (by decide)]
    exact hostExpired_EXPIRED s
  refine gives_of (hostWatchdogExpiry_eq hrun hw hfz hsv) ⟨?_, hexp, fltBit_raise_fixed hclk1 (by decide), fun hst => ?_⟩
  · rw [((Quiet.raise ..).trans (.hearthCause _)).pwr, hostExpired_hwRun]
  · refine hearthCause_due ?_ (causes_of_expired hexp)
    rw [hearthState_raise_fixed hclk1 (by decide), hostExpired_hearthState, hst]

/-- Settles O13: one clause for each of HEN, a GPIO edge and the expiry of the host watchdog. -/
theorem controlInputsAct : Obligations.ControlInputsAct :=
  ⟨henRequest_acts, gpioEdge_acts, hostWatchdogExpiry_acts⟩

end Sys2Proof.Machine
end

section
/-!
PROOF. The power view of the state: the power and reset logic, the pins that reset and standby drive, device time, whether fSYS runs, and
the status registers of 02 and 03. Interrupts, faults, outputs and ports leave it as it is.
-/

namespace Sys2Proof.Machine

/-- The status registers of 02 and 03 but CLK_STAT: no write of a port is staged for them. -/
def statusRegs : List RegId :=
  [.pinStrap, .pwrStat, .rstCause, .pwrWakecfg, .pwrWktmr, .pwrWakesrc, .hwdtCfg, .hwdtStat, .dwdtStat, .bootTime]

/-- The pins that reset and standby drive. -/
def Pins.driven (p : Pins) : Bool × Bool × Bool := (p.resetnLow, p.intRouted, p.vcc5On)

/-- What the power and reset logic shows: its state, the pins it drives, device time, fSYS and PLLLOCK, the words of the status registers,
and whether no staged copy waits for one of these registers. -/
structure PowerView where
  pwr : Pwr
  time : Nat
  fsys : Bool
  pins : Bool × Bool × Bool
  lock : Bool
  words : List Word
  clean : Bool

/-- No staged copy waits for a register of the view. -/
def noneStaged (l : List Staged) : Bool := l.all (fun e => (RegId.clkStat :: statusRegs).all (fun r => e.addr != r.addr 0))

/-- The power view of a state. -/
def State.pview (s : State) : PowerView where
  pwr := s.pwr
  time := s.time
  fsys := s.clk.fsys
  pins := s.pins.driven
  lock := s.b F.clkStat_PLLLOCK
  words := statusRegs.map (fun r => s.rd r)
  clean := noneStaged s.staged

section
variable {s t : State}

theorem pwr_of_pview (h : t.pview = s.pview) : t.pwr = s.pwr := congrArg PowerView.pwr h
theorem time_of_pview (h : t.pview = s.pview) : t.time = s.time := congrArg PowerView.time h
theorem fsys_of_pview (h : t.pview = s.pview) : t.clk.fsys = s.clk.fsys := congrArg PowerView.fsys h
theorem lock_of_pview (h : t.pview = s.pview) : t.b F.clkStat_PLLLOCK = s.b F.clkStat_PLLLOCK := congrArg PowerView.lock h
theorem resetnLow_of_pview (h : t.pview = s.pview) : t.pins.resetnLow = s.pins.resetnLow := congrArg (·.pins.1) h
theorem intRouted_of_pview (h : t.pview = s.pview) : t.pins.intRouted = s.pins.intRouted := congrArg (·.pins.2.1) h
theorem vcc5On_of_pview (h : t.pview = s.pview) : t.pins.vcc5On = s.pins.vcc5On := congrArg (·.pins.2.2) h

theorem rd_of_pview (h : t.pview = s.pview) {r : RegId} (hr : r ∈ statusRegs) : t.rd r = s.rd r := by
  have hw : statusRegs.map (fun r => t.rd r) = statusRegs.map (fun r => s.rd r) := congrArg PowerView.words h
  exact List.map_inj_left.mp hw r hr

theorem g_of_pview (h : t.pview = s.pview) {f : Fld} (hf : f.r ∈ statusRegs) : t.g f = s.g f := by
  rw [State.g, State.g, rd_of_pview h hf]

theorem b_of_pview (h : t.pview = s.pview) {f : Fld} (hf : f.r ∈ statusRegs) : t.b f = s.b f := by
  rw [State.b, State.b, g_of_pview h hf]

end

/-! ### Writes of registers -/

/-- An address that is of no register of the view. -/
def offView (a : Nat) : Bool := (RegId.clkStat :: statusRegs).all (fun r => r.addr 0 != a)

theorem offView_iff {a : Nat} : offView a = true ↔ RegId.clkStat.addr 0 ≠ a ∧ ∀ r ∈ statusRegs, r.addr 0 ≠ a := by
  simp [offView]

/-- The blocks from 0x4000 on lie behind the view, whatever the index. -/
theorem offView_of_base {r : RegId} (h : 0x4000 ≤ r.place.base) (i : Nat) : offView (r.addr i) = true := by
  have hle : 0x4000 ≤ r.addr i := by simp only [RegId.addr]; omega
  have low : ∀ q ∈ RegId.clkStat :: statusRegs, q.addr 0 < 0x4000 := by decide
  exact List.all_eq_true.mpr fun q hq => bne_iff_ne.mpr fun e => absurd (low q hq) (by omega)

theorem pview_wr_off (s : State) {r : RegId} {i : Nat} (w : Word) (h : offView (r.addr i) = true) : (s.wr r i w).pview = s.pview := by
  obtain ⟨hclk, hst⟩ := offView_iff.mp h
  have hb : (s.wr r i w).b F.clkStat_PLLLOCK = s.b F.clkStat_PLLLOCK := by
    rw [State.b, State.b, State.g, State.g, rd_wr_ne s r F.clkStat_PLLLOCK.r i 0 w hclk]
  have hw : statusRegs.map (fun q => (s.wr r i w).rd q) = statusRegs.map (fun q => s.rd q) :=
    List.map_congr_left fun q hq => rd_wr_ne _ _ _ _ _ _ (hst q hq)
  simp only [State.pview, hb, hw]
  rfl

theorem pview_wr (s : State) (r : RegId) (i : Nat) (w : Word) (h : 0x4000 ≤ r.place.base) : (s.wr r i w).pview = s.pview :=
  pview_wr_off s w (offView_of_base h i)
theorem pview_p (s : State) (f : Fld) (i v : Nat) (h : 0x4000 ≤ f.r.place.base) : (s.p f i v).pview = s.pview := pview_wr _ _ _ _ h
theorem pview_pb (s : State) (f : Fld) (i : Nat) (v : Bool) (h : 0x4000 ≤ f.r.place.base) : (s.pb f i v).pview = s.pview :=
  pview_p _ _ _ _ h
theorem pview_setBits (s : State) (r : RegId) (i m : Nat) (h : 0x4000 ≤ r.place.base) : (s.setBits r i m).pview = s.pview :=
  pview_wr _ _ _ _ h
theorem pview_clrBits (s : State) (r : RegId) (i m : Nat) (h : 0x4000 ≤ r.place.base) : (s.clrBits r i m).pview = s.pview :=
  pview_wr _ _ _ _ h
theorem pview_incSat (s : State) (f : Fld) (i : Nat) (h : 0x4000 ≤ f.r.place.base) : (s.incSat f i).pview = s.pview := pview_p _ _ _ _ h
theorem pview_incMod (s : State) (f : Fld) (i : Nat) (h : 0x4000 ≤ f.r.place.base) : (s.incMod f i).pview = s.pview := pview_p _ _ _ _ h

/-- A write of a field of CLK_STAT other than PLLLOCK. -/
theorem pview_p_clkStat (s : State) (f : Fld) (v : Nat) (hr : f.r = .clkStat) (h32 : f.lo + f.w ≤ 32)
    (hf : 3 ≤ f.lo ∨ f.lo + f.w ≤ 2) : (s.p f 0 v).pview = s.pview := by
  have hb : (s.p f 0 v).b F.clkStat_PLLLOCK = s.b F.clkStat_PLLLOCK := by
    rw [State.b, State.b, g_p_field s f F.clkStat_PLLLOCK 0 v hr.symm h32 (hf.symm.elim .inr .inl)]
  have off : ∀ q ∈ statusRegs, q.addr 0 ≠ f.r.addr 0 := by rw [hr]; decide
  have hw : statusRegs.map (fun q => (s.p f 0 v).rd q) = statusRegs.map (fun q => s.rd q) :=
    List.map_congr_left fun q hq => rd_wr_ne _ _ _ _ _ _ (off q hq)
  simp only [State.pview, hb, hw]
  rfl

theorem pview_pb_clkStat (s : State) (f : Fld) (v : Bool) (hr : f.r = .clkStat) (h32 : f.lo + f.w ≤ 32)
    (hf : 3 ≤ f.lo ∨ f.lo + f.w ≤ 2) : (s.pb f 0 v).pview = s.pview := pview_p_clkStat _ _ _ hr h32 hf

/-! ### Records outside the view -/

/-- Repeating an operation that keeps the view keeps it. -/
theorem pview_each {α : Type} {l : List α} {f : α → State → State} (h : ∀ a t, (f a t).pview = t.pview) (s : State) :
    (each l f s).pview = s.pview := each_keeps State.pview l f s h

section
variable (s : State)

theorem pview_modCx (c : Fin 16) (f : Ctx → Ctx) : (s.modCx c f).pview = s.pview := by rfl
theorem pview_modEn (e : Fin 4) (f : Eng → Eng) : (s.modEn e f).pview = s.pview := by rfl
theorem pview_modPw (i : Fin 6) (f : Pwm → Pwm) : (s.modPw i f).pview = s.pview := by rfl
theorem pview_modSt (i : Fin 6) (f : Str → Str) : (s.modSt i f).pview = s.pview := by rfl
theorem pview_modBy (i : Fin 6) (f : Byp → Byp) : (s.modBy i f).pview = s.pview := by rfl
theorem pview_modTlm (f : Tlm → Tlm) : (s.modTlm f).pview = s.pview := by rfl
theorem pview_modTab (x : Fin 2) (f : AdcTab → AdcTab) : (s.modTab x f).pview = s.pview := by rfl
theorem pview_modCv (x : Fin 2) (f : AdcCv → AdcCv) : (s.modCv x f).pview = s.pview := by rfl
theorem pview_modGrid (f : Grid → Grid) : (s.modGrid f).pview = s.pview := by rfl
theorem pview_modNet (f : Net → Net) : (s.modNet f).pview = s.pview := by rfl
theorem pview_modStore (f : Img → Img) : (s.modStore f).pview = s.pview := by rfl
theorem pview_modRack (f : Rack → Rack) : (s.modRack f).pview = s.pview := by rfl
theorem pview_modSec (f : Sec → Sec) : (s.modSec f).pview = s.pview := by rfl
theorem pview_modMemc (f : MemC → MemC) : (s.modMemc f).pview = s.pview := by rfl

/-- An update of records outside the view. -/
theorem pview_mk (pending free tick mem ecc cyc posted holdHi snaps parityBad acc flt domRamps domRst hearth disp pwm str byp px grid
    adcTab adcCv shr tlm rack ctx eng spi net store spare memc nv sec dbg slice) :
    (State.mk pending free s.time tick mem ecc s.regs s.img s.staged cyc posted holdHi snaps parityBad acc s.pwr s.clk s.pins flt domRamps
      domRst hearth disp pwm str byp px grid adcTab adcCv shr tlm rack ctx eng spi net store spare memc nv sec dbg slice).pview =
        s.pview := by rfl

end

/-! ### Interrupts (05 R146) and the trace (20 R761) -/

theorem pview_fireEntry (s : State) (i evt : Nat) (src : Option Nat) (data : Word) : (s.fireEntry i evt src data).pview = s.pview := by
  simp (disch := decide) only [State.fireEntry, State.badEvt, apply_ite State.pview, pview_pb, pview_mk, ite_self]

theorem pview_fireEvent (s : State) (evt : Nat) (src : Option Nat) (data : Word) : (s.fireEvent evt src data).pview = s.pview :=
  pview_each (fun i s => pview_fireEntry s i evt src data) s

theorem pview_evWake (s : State) (kind sel : Nat) (d : Option Nat) : (s.evWake kind sel d).pview = s.pview := by
  refine pview_each (fun c s => ?_) s
  split
  · simp only [apply_ite State.pview, pview_modCx, ite_self]
  · rfl

/-- A bit of an interrupt set that some domain owns lies off the view. -/
theorem offView_intPend {d n : Nat} (hd : d < 4) (hn : n < 96) : offView (RegId.intPend.addr (3 * d + n / 32)) = true := by
  have low : ∀ q ∈ RegId.clkStat :: statusRegs, q.addr 0 / 0x1000 ≠ 2 := by decide
  have hblk : RegId.intPend.addr (3 * d + n / 32) / 0x1000 = 2 := by simp only [RegId.addr, RegId.place]; omega
  exact List.all_eq_true.mpr fun q hq => bne_iff_ne.mpr fun e => low q hq (e ▸ hblk)

theorem pview_pendIrq (s : State) (n : Nat) : (s.pendIrq n).pview = s.pview := by
  unfold State.pendIrq
  split
  · rfl
  next d hd =>
    split
    · rfl
    · rw [pview_evWake, pview_fireEvent]
      exact pview_wr_off s _ (offView_intPend (State.irqOwner_lt hd) (State.lt_of_irqOwner hd))

theorem pview_flagIrq (s : State) (f : Fld) (i irq : Nat) (h : 0x4000 ≤ f.r.place.base) : (s.flagIrq f i irq).pview = s.pview :=
  (pview_pendIrq ..).trans (pview_pb _ _ _ _ h)

theorem pview_trace (s : State) (ty a b c : Nat) : (s.trace ty a b c).pview = s.pview := by
  simp (disch := decide) only [State.trace, apply_ite State.pview, pview_incSat, pview_mk, ite_self]

/-! ### Outputs -/

theorem pview_countOn (s : State) : s.countOn.pview = s.pview := by
  simp only [State.countOn, apply_ite State.pview, pview_modTlm, ite_self]

theorem pview_softStart (s : State) (i : Fin 6) : (s.softStart i).pview = s.pview := by
  simp (disch := decide) only [State.softStart, pview_pb, pview_modSt, pview_p]

theorem pview_refreshStr (s : State) (dim : Bool) (i : Fin 6) : (s.refreshStr dim i).pview = s.pview := by
  simp (disch := decide) only [State.refreshStr, apply_ite State.pview, pview_softStart, pview_p, pview_pb, pview_modSt, pview_countOn,
    ite_self]

theorem pview_refreshGate (s : State) (i : Fin 6) : (s.refreshGate i).pview = s.pview := by
  simp (disch := decide) only [State.refreshGate, apply_ite State.pview, pview_pb, ite_self]

theorem pview_setSw (s : State) (i : Fin 6) (sw : Nat) : (s.setSw i sw).pview = s.pview := by
  simp (disch := decide) only [State.setSw, apply_ite State.pview, pview_modSt, pview_p, pview_modBy, pview_countOn, ite_self]

theorem pview_refreshStack (s : State) (i : Fin 6) : (s.refreshStack i).pview = s.pview := by
  simp (disch := decide) only [State.refreshStack, apply_ite State.pview, pview_setSw, pview_modBy, pview_pb, ite_self]

theorem pview_gridBlank (s : State) : s.gridBlank.pview = s.pview := by
  simp only [State.gridBlank, pview_mk, pview_countOn]

theorem pview_gridStop (s : State) : s.gridStop.pview = s.pview := by
  simp (disch := decide) only [State.gridStop, pview_mk, pview_gridBlank, pview_pb]

theorem pview_refreshGrid (s : State) : s.refreshGrid.pview = s.pview := by
  simp only [State.refreshGrid, apply_ite State.pview, pview_gridStop, ite_self]

theorem pview_outputs (s : State) : s.outputs.pview = s.pview := by
  have hstr : ∀ (i : Fin 6) (t : State), (((t.refreshStr false i).refreshGate i).refreshStack i).pview = t.pview := fun i t => by
    rw [pview_refreshStack, pview_refreshGate, pview_refreshStr]
  simp only [State.outputs, apply_ite State.pview, pview_mk, pview_refreshGrid, pview_each hstr, ite_self]

/-! ### Faults (18 R685-R691) -/

theorem pview_latchFault (s : State) (n chans : Nat) : (s.latchFault n chans).pview = s.pview := by
  unfold State.latchFault
  split <;> rfl

theorem pview_containDomain (s : State) (d : Nat) : (s.containDomain d).pview = s.pview := by
  simp only [State.containDomain, apply_ite State.pview, pview_mk, ite_self]

theorem pview_hearthCause (s : State) : s.hearthCause.pview = s.pview := rfl

theorem pview_fltCapture (s : State) (n d react : Nat) : (s.fltCapture n d react).pview = s.pview := by
  simp (disch := decide) only [State.fltCapture, apply_ite State.pview, pview_pb, pview_wr, ite_self]

theorem pview_fltCount (s : State) (cls : Nat) : (s.fltCount cls).pview = s.pview := by
  unfold State.fltCount
  split <;> exact pview_incSat _ _ _ (by decide)

theorem pview_fltNotify (s : State) (cls d : Nat) : (s.fltNotify cls d).pview = s.pview := by
  unfold State.fltNotify
  split
  · exact pview_flagIrq _ _ _ _ (by decide)
  · exact pview_flagIrq _ _ _ _ (by decide)
  · rw [pview_pendIrq, pview_setBits _ _ _ _ (by decide)]
  · exact pview_flagIrq _ _ _ _ (by decide)

theorem pview_fltReact (s : State) (n react chans d : Nat) : (s.fltReact n react chans d).pview = s.pview := by
  unfold State.fltReact
  dsimp only
  split <;> simp only [pview_outputs, pview_containDomain, pview_hearthCause, pview_mk]

theorem pview_raiseOn (s : State) (n chans : Nat) : (s.raiseOn n chans).pview = s.pview := by
  simp (disch := decide) only [State.raiseOn, apply_ite State.pview, pview_latchFault, pview_fltReact, pview_fltNotify, pview_trace,
    pview_fltCount, pview_fltCapture, pview_setBits, ite_self]

theorem pview_raise (s : State) (n : Nat) : (s.raise n).pview = s.pview := pview_raiseOn ..

theorem pview_levelOn (s : State) (n : Nat) : (s.levelOn n).pview = s.pview := by
  simp only [State.levelOn, apply_ite State.pview, pview_raise, pview_mk, ite_self]

theorem pview_endFault (s : State) (n : Nat) : (s.endFault n).pview = s.pview := by
  simp (disch := decide) only [State.endFault, pview_hearthCause, pview_mk, pview_clrBits]

theorem pview_levelOff (s : State) (n : Nat) : (s.levelOff n).pview = s.pview := by
  simp only [State.levelOff, apply_ite State.pview, pview_endFault, pview_mk, ite_self]

end Sys2Proof.Machine
end

section
/-!
PROOF. Operations that bake staged copies, and keep the power view where none of these waits for a register of it: the loop unit, the
generators, racks and semaphores.
-/

namespace Sys2Proof.Machine

/-! ### Staged copies and bakes (06 R197-R203) -/

/-- What happens keeps the power view wherever no staged copy waits for one of its registers. -/
structure Keeps (s t : State) : Prop where
  pview : noneStaged s.staged = true → t.pview = s.pview

theorem Keeps.of_eq {s t : State} (h : t.pview = s.pview) : Keeps s t := ⟨fun _ => h⟩

theorem Keeps.refl (s : State) : Keeps s s := .of_eq rfl

theorem Keeps.trans {s t u : State} (a : Keeps s t) (b : Keeps t u) : Keeps s u := ⟨fun h =>
  have ht : noneStaged t.staged = true := (congrArg PowerView.clean (a.pview h)).trans h
  (b.pview ht).trans (a.pview h)⟩

theorem Keeps.ite {s t u : State} {c : Prop} [Decidable c] (a : Keeps s t) (b : Keeps s u) : Keeps s (if c then t else u) := by
  split
  · exact a
  · exact b

theorem Keeps.each {α : Type} {l : List α} {f : α → State → State} (h : ∀ a s, Keeps s (f a s)) (s : State) :
    Keeps s (Machine.each l f s) := by
  induction l generalizing s with
  | nil => exact .refl s
  | cons a t ih => exact (h a s).trans (ih (f a s))

theorem noneStaged_iff {l : List Staged} :
    noneStaged l = true ↔ ∀ e ∈ l, ∀ r ∈ RegId.clkStat :: statusRegs, e.addr ≠ r.addr 0 := by
  simp only [noneStaged, List.all_eq_true, bne_iff_ne]

theorem noneStaged_filter {l : List Staged} (h : noneStaged l = true) (p : Staged → Bool) : noneStaged (l.filter p) = true :=
  noneStaged_iff.mpr fun e he => noneStaged_iff.mp h e (List.mem_of_mem_filter he)

/-- Staged copies replaced by others that wait for no register of the view. -/
theorem Keeps.restaged (s : State) {l : List Staged} (h : noneStaged s.staged = true → noneStaged l = true) (m : List Nat) :
    Keeps s { s with staged := l, parityBad := m } := by
  refine ⟨fun hs => ?_⟩
  change ({ s.pview with clean := noneStaged l } : PowerView) = s.pview
  rw [h hs, ← hs]
  rfl

theorem Keeps.unstage (s : State) (sel : Staged → Bool) : Keeps s (s.unstage sel) :=
  .restaged s (fun h => noneStaged_filter h _) s.parityBad

/-- The index that a place gives an address leads back to it. -/
theorem addr_of_index {r : RegId} {a i : Nat} (h : r.place.index a = some i) : r.addr i = a := by
  unfold Place.index at h
  split at h
  · cases h
  next hlo =>
    simp only [Option.ite_none_right_eq_some, Bool.and_eq_true, decide_eq_true_eq, beq_iff_eq, Option.some.injEq] at h
    obtain ⟨⟨⟨-, hj⟩, he⟩, rfl⟩ := h
    have hle : r.place.s1 * (if r.place.n1 ≤ 1 then 0 else (a - r.place.base) / r.place.s1) ≤ a - r.place.base := by
      split
      · simp
      · exact Nat.mul_div_le _ _
    rw [RegId.addr, Nat.mul_comm _ r.place.n2, Nat.mul_add_div (by omega), Nat.mul_add_mod, Nat.div_eq_of_lt hj, Nat.mod_eq_of_lt hj,
      Nat.add_zero, ← he]
    omega

theorem addr_of_findIn {a : Nat} {l : List RegId} {r : RegId} {i : Nat} (h : findIn a l = some (r, i)) : r.addr i = a := by
  induction l with
  | nil => cases h
  | cons q t ih =>
    simp only [findIn] at h
    split at h
    next j hj =>
      obtain ⟨rfl, rfl⟩ := Prod.mk.inj (Option.some.inj h)
      exact addr_of_index hj
    · exact ih h

/-- The register found at an address has that address. -/
theorem addr_of_findReg {a : Nat} {r : RegId} {i : Nat} (h : findReg a = some (r, i)) : r.addr i = a := addr_of_findIn h

theorem pview_putAt (s : State) {a : Nat} (lo w v : Nat) (h : offView a = true) : (s.putAt a lo w v).pview = s.pview := by
  unfold State.putAt
  split
  next r i hr => exact pview_wr_off _ _ (by rw [addr_of_findReg hr]; exact h)
  · rfl

/-- What every step of a repetition over its members keeps, the repetition keeps. -/
theorem each_keeps_mem {α σ β : Type} (π : σ → β) (l : List α) (f : α → σ → σ) (s : σ) (h : ∀ a ∈ l, ∀ t, π (f a t) = π t) :
    π (each l f s) = π s := by
  induction l generalizing s with
  | nil => rfl
  | cons a t ih =>
    exact (ih (f a s) fun b hb => h b (List.mem_cons_of_mem _ hb)).trans (h a List.mem_cons_self s)

/-- A bake writes registers for which copies were staged alone. -/
theorem Keeps.bake (s : State) (sel : Staged → Bool) : Keeps s (s.bake sel) := by
  refine ⟨fun hs => ?_⟩
  unfold State.bake
  dsimp only
  have off : ∀ e ∈ s.staged, offView e.addr = true := fun e he =>
    List.all_eq_true.mpr fun r hr => bne_iff_ne.mpr (noneStaged_iff.mp hs e he r hr).symm
  refine (each_keeps_mem State.pview _ _ _ fun e he t => ?_).trans ((Keeps.restaged s (fun h => noneStaged_filter h _) _).pview hs)
  split
  · rfl
  · exact pview_putAt _ _ _ _ (off e (List.mem_of_mem_filter he))

theorem noneStaged_stagePut {l : List Staged} {e : Staged} (he : offView e.addr = true) (h : noneStaged l = true) :
    noneStaged (stagePut e l) = true := by
  refine noneStaged_iff.mpr fun x hx => ?_
  rcases List.mem_append.mp hx with hx | hx
  · exact noneStaged_iff.mp h x (List.mem_of_mem_filter hx)
  · obtain rfl := List.mem_singleton.mp hx
    exact fun r hr => (bne_iff_ne.mp (List.all_eq_true.mp he r hr)).symm

/-- A block stages a copy for one of its own registers. -/
theorem Keeps.stageBlk (s : State) (f : Fld) (i v : Nat) (h : 0x4000 ≤ f.r.place.base) : Keeps s (s.stageBlk f i v) :=
  .restaged s (noneStaged_stagePut (offView_of_base h i)) _

/-! ### The loop unit and the generators (13, 14) -/

theorem pview_uffOf (s : State) (i : Fin 6) (n : Nat) : (s.uffOf i n).2.pview = s.pview := by
  unfold State.uffOf
  dsimp only [State.fresh]
  repeat' split
  all_goals rfl

theorem pview_handover (s : State) (i : Fin 6) (seed : Nat) (edge : Bool) : (s.handover i seed edge).pview = s.pview := by
  simp (disch := decide) only [State.handover, pview_pb, pview_modSt, pview_uffOf]

theorem pview_endFallback (s : State) (i : Fin 6) : (s.endFallback i).pview = s.pview := by
  simp (disch := decide) only [State.endFallback, pview_handover, pview_modSt, pview_p, pview_pb]

theorem Keeps.stageCa (s : State) (i : Fin 6) (v : Nat) : Keeps s (s.stageCa i v) := by
  unfold State.stageCa
  dsimp only
  exact .ite (.stageBlk _ _ _ _ (by decide)) ((Keeps.stageBlk _ _ _ _ (by decide)).trans (.bake ..))

theorem Keeps.ffPoint (s : State) (i : Fin 6) : Keeps s (s.ffPoint i) := by
  unfold State.ffPoint
  dsimp only
  refine .ite (.of_eq (pview_modSt ..)) ?_
  have h2 : ∀ (f : Str → Str) (u : Nat), Keeps s (((s.uffOf i (s.litOf i)).2.modSt i f).p F.strOut_U i u) := fun f u =>
    .of_eq (by rw [pview_p _ _ _ _ (by decide), pview_modSt, pview_uffOf])
  exact .ite ((h2 ..).trans (.stageCa ..)) (h2 ..)

theorem Keeps.startDuty (s old : State) (i : Fin 6) : Keeps s (s.startDuty old i) := by
  unfold State.startDuty
  dsimp only
  refine .ite (.refl s) ?_
  have h1 : ∀ f : Str → Str, Keeps s ((s.uffOf i (s.st i).nff).2.modSt i f) := fun f => .of_eq (by rw [pview_modSt, pview_uffOf])
  exact .ite ((h1 _).trans (.stageCa ..)) (h1 _)

theorem Keeps.pPoint (s : State) (n : Fin 6) (sel : Staged → Bool) : Keeps s (s.pPoint n sel) := (Keeps.ffPoint s n).trans (.bake ..)

theorem pview_modeBaked (s : State) (n : Fin 6) (old : Nat) : (s.modeBaked n old).pview = s.pview := by
  simp only [State.modeBaked, apply_ite State.pview, pview_handover, ite_self]

theorem pview_tripRelease (s : State) (n : Fin 6) (len : Nat) : (s.tripRelease n len).pview = s.pview := by
  simp (disch := decide) only [State.tripRelease, apply_ite State.pview, pview_pb, pview_modPw, ite_self]

theorem pview_driveAt (s : State) (n : Fin 6) : (s.driveAt n).pview = s.pview := pview_pb _ _ _ _ (by decide)

theorem pview_mRise (s : State) (n : Fin 6) (pos : Nat) : (s.mRise n pos).pview = s.pview := by
  simp only [State.mRise, State.mainRise, apply_ite State.pview, pview_modPw, ite_self]

theorem pview_mFall (s : State) (n : Fin 6) (pos : Nat) : (s.mFall n pos).pview = s.pview := by
  simp (disch := decide) only [State.mFall, apply_ite State.pview, pview_modPw, pview_p, ite_self]

theorem pview_periodBegin (s : State) (n : Fin 6) (len : Nat) : (s.periodBegin n len).pview = s.pview := by
  simp only [State.periodBegin, apply_ite State.pview, pview_mRise, pview_mFall, pview_modPw, ite_self]

theorem Keeps.pwmStart (s : State) (n : Fin 6) : Keeps s (s.pwmStart n) := by
  have hp : ∀ f : Pwm → Pwm, Keeps s ((s.modPw n f).pPoint n (pOf n)) := fun f => (Keeps.of_eq (pview_modPw s n f)).trans (.pPoint ..)
  have hd : ∀ (t : State) (old : Nat), ((((t.modeBaked n old).tripRelease n 0).driveAt n).periodBegin n 0).pview = t.pview := fun t old => by
    rw [pview_periodBegin, pview_driveAt, pview_tripRelease, pview_modeBaked]
  exact (hp _).trans (.of_eq (hd _ _))

theorem Keeps.runBaked (s : State) (n : Fin 6) : Keeps s (s.runBaked n) :=
  .ite (.ite (.refl s) (.ite (.of_eq (pview_modPw ..)) (.pwmStart s n))) (.of_eq (pview_modPw ..))

theorem pview_swapLines (s : State) (n : Fin 6) : (s.swapLines n).pview = s.pview := by
  simp (disch := decide) only [State.swapLines, pview_modPw, pview_incMod, pview_pb]

theorem pview_swapIdle (s : State) (n : Fin 6) : (s.swapIdle n).pview = s.pview := by
  simp (disch := decide) only [State.swapIdle, State.linesDue, apply_ite State.pview, pview_pb, pview_swapLines, ite_self]

theorem pview_coarseEnter (s : State) (n : Fin 6) : (s.coarseEnter n).pview = s.pview := by
  simp (disch := decide) only [State.coarseEnter, pview_raise, pview_modPw, pview_pb]

theorem pview_proofsAtRelease (s : State) : s.proofsAtRelease.pview = s.pview :=
  pview_each (fun n s => by simp only [apply_ite State.pview, pview_coarseEnter, pview_modPw, ite_self]) s

theorem pview_startProofs (s : State) : s.startProofs.pview = s.pview := pview_each (fun _ s => pview_modPw s ..) s

/-! ### Racks and semaphores (09) -/

theorem pview_granted (s : State) (w : Wait) (regs : List (Nat × Word)) : (s.granted w regs).pview = s.pview := by
  simp only [State.granted, State.leaveWait, apply_ite State.pview, pview_modCx, pview_modRack, ite_self]

theorem pview_semTake (s : State) (n agent dom : Nat) : (s.semTake n agent dom).2.pview = s.pview := by
  simp (disch := decide) only [State.semTake, apply_ite Prod.snd, apply_ite State.pview, pview_p, pview_pb, ite_self]

theorem pview_semServe (s : State) (n : Nat) : (s.semServe n).pview = s.pview := by
  unfold State.semServe
  split
  · rfl
  · simp only [apply_ite State.pview, pview_granted, pview_semTake, ite_self]

theorem pview_semFree (s : State) (n : Nat) : (s.semFree n).pview = s.pview := by
  simp (disch := decide) only [State.semFree, pview_semServe, pview_p, pview_pb]

theorem pview_semGive (s : State) (n agent dom : Nat) : (s.semGive n agent dom).2.pview = s.pview := by
  simp (disch := decide) only [State.semGive, apply_ite Prod.snd, apply_ite State.pview, pview_semServe, pview_p, pview_pb, pview_semFree,
    ite_self]

theorem pview_semFreeAll (s : State) (agent : Nat) : (s.semFreeAll agent).pview = s.pview :=
  pview_each (fun n s => by simp only [apply_ite State.pview, pview_semFree, ite_self]) s

theorem pview_rackFlag (s : State) (f : Fld) (n : Nat) (h : 0x4000 ≤ f.r.place.base) : (s.rackFlag f n).pview = s.pview :=
  pview_flagIrq _ _ _ _ h

theorem pview_setRq (s : State) (n : Nat) (l : List Desc) : (s.setRq n l).pview = s.pview := pview_modRack ..

theorem pview_rackClean (s : State) (n k : Nat) : (s.rackClean n k).pview = s.pview := by
  induction k generalizing s with
  | zero => rfl
  | succ k ih =>
    unfold State.rackClean
    split
    · rfl
    next d rest _ =>
      have hfix : ∀ l : List Nat, (each l (fun _ s => s.incSat F.rackGstat_ECCFIX) s).pview = s.pview := fun l =>
        pview_each (fun _ s => pview_incSat _ _ _ (by decide)) s
      simp (disch := decide) only [apply_ite State.pview, ih, pview_raise, pview_rackFlag, pview_setRq, hfix, ite_self]

theorem pview_rackAppend (s : State) (n : Nat) (d : Desc) : (s.rackAppend n d).pview = s.pview := by
  simp only [State.rackAppend, pview_evWake, apply_ite State.pview, pview_pendIrq, pview_setRq, ite_self]

theorem pview_rackServe (s : State) (n k : Nat) : (s.rackServe n k).pview = s.pview := by
  induction k generalizing s with
  | zero => rfl
  | succ k ih =>
    have h0 : (if (s.popWaiter n).isSome then s.rackClean n ((s.rq n).length + 1) else s).pview = s.pview := by
      simp only [apply_ite State.pview, pview_rackClean, ite_self]
    unfold State.rackServe
    dsimp only
    generalize (if (s.popWaiter n).isSome then s.rackClean n ((s.rq n).length + 1) else s) = s0 at h0 ⊢
    split
    · rfl
    split
    · simp only [ih, pview_granted, State.holdPop, pview_modRack, pview_setRq, h0]
    split
    · split
      · exact h0
      split
      · simp only [ih, pview_granted, pview_rackAppend, h0]
      · exact h0
    · exact h0

theorem pview_rackCommit (s : State) (n : Nat) (d : Desc) : (s.rackCommit n d).pview = s.pview := by
  rw [State.rackCommit, pview_rackServe, pview_rackAppend]

theorem pview_streamPush (s : State) (n : Nat) (d : Desc) : (s.streamPush n d).pview = s.pview := by
  simp (disch := decide) only [State.streamPush, apply_ite State.pview, pview_rackFlag, pview_rackCommit, pview_setRq, ite_self]

theorem pview_dropParts (s : State) (sel : Nat → Bool) : (s.dropParts sel).pview = s.pview :=
  (pview_each (fun _ s => pview_rackFlag _ _ _ (by decide)) _).trans (pview_modRack ..)

theorem pview_retire (s : State) (n : Nat) (d : Desc) (status erridx : Nat) : (s.retire n d status erridx).pview = s.pview := by
  unfold State.retire
  dsimp only
  rw [pview_rackFlag _ _ _ (by split <;> decide)]
  simp (disch := decide) only [pview_incMod, pview_p]

theorem pview_copyEnd (s : State) (status erridx : Nat) : (s.copyEnd status erridx).pview = s.pview := by
  unfold State.copyEnd
  split
  · rfl
  · simp only [pview_retire, apply_ite State.pview, pview_semGive, pview_modRack, ite_self]

theorem pview_netAbort (s : State) (what : WaitFor) : (s.netAbort what).pview = s.pview := by
  unfold State.netAbort
  dsimp only
  split <;> simp (disch := decide) only [pview_mk, pview_flagIrq]

/-- An abort as ABORTED, which leaves a wait for a slot to the reset or the bake that caused it (05 R158, R143). -/
theorem pview_abortWait (s : State) (w : Wait) : (s.abortWait w 2).pview = s.pview := by
  have hslot : ∀ t : State, t.slotAbort w 2 = t := fun t => if_pos rfl
  unfold State.abortWait
  dsimp only
  split
  · split <;> simp only [State.leaveWait, pview_modCx, pview_modRack]
  · simp only [apply_ite State.pview, hslot, pview_copyEnd, pview_netAbort, State.leaveWait, pview_modRack, ite_self]

end Sys2Proof.Machine
end

section
/-!
PROOF. The power view under hearth mode, keys and tamper events, memory, engines, telemetry, the scan grid and the converters.
-/

namespace Sys2Proof.Machine

/-! ### Hearth mode and ramps (18 R693-R702; 05 R159) -/

theorem pview_hearthState (s : State) (st : Nat) : (s.hearthState st).pview = s.pview := by
  simp (disch := decide) only [State.hearthState, apply_ite State.pview, pview_trace, pview_p, ite_self]

theorem pview_rampReg (s : State) (k n : Nat) : (s.rampReg k n).pview = s.pview := by
  simp (disch := decide) only [State.rampReg, pview_p]

theorem pview_hearthFallback (s : State) : s.hearthFallback.pview = s.pview :=
  pview_each (fun i t => by simp (disch := decide) only [apply_ite State.pview, pview_pb, ite_self]) s

theorem pview_entryRamp (s : State) (start : List (Nat × Nat)) (c : Nat × Nat × Preset) : (s.entryRamp start c).pview = s.pview := by
  have htopo : ∀ (i : Fin 6) (t : State), (t.topoRestart i).pview = t.pview := fun i t => by
    rw [State.topoRestart, pview_softStart, pview_pb _ _ _ _ (by decide)]
  simp (disch := decide) only [State.entryRamp, pview_outputs, pview_hearthFallback, pview_each htopo, apply_ite State.pview, pview_raise,
    pview_p, pview_rampReg, pview_hearthState, pview_mk, ite_self]

theorem pview_enterHearth (s : State) (start : List (Nat × Nat)) (c : Nat × Nat × Preset) :
    (s.enterHearth start c).pview = s.pview := by
  rw [State.enterHearth, pview_flagIrq _ _ _ _ (by decide), pview_entryRamp]

theorem pview_hearthOff (s : State) : s.hearthOff.pview = s.pview := by
  have hstr : ∀ (i : Fin 6) (t : State), (if !t.fb i then t else if t.b F.strStat_ACTIVE i then t.endFallback i
      else ((t.pb F.strStat_FALLBACK i false).p F.strEvcnt_CONSEC i 0).modSt i (fun x => { x with fbOver := false, fbGood := 0 })).pview
        = t.pview := fun i t => by
    simp (disch := decide) only [apply_ite State.pview, pview_endFallback, pview_modSt, pview_p, pview_pb, ite_self]
  simp only [State.hearthOff, pview_each hstr, pview_outputs, pview_mk, pview_hearthState]

theorem pview_hearthStep (s : State) : s.hearthStep.pview = s.pview := by
  simp (disch := decide) only [State.hearthStep, apply_ite State.pview, pview_outputs, pview_hearthState, pview_flagIrq, pview_hearthOff,
    pview_hearthFallback, State.rampReg, pview_mk, pview_p, ite_self]

theorem pview_exitStart (s : State) : s.exitStart.pview = s.pview := by
  simp (disch := decide) only [State.exitStart, pview_outputs, pview_hearthFallback, pview_flagIrq, pview_rampReg, pview_hearthState,
    pview_mk]

theorem pview_hearthBoundary (s : State) (dark fresh : Bool) : (s.hearthBoundary dark fresh).pview = s.pview := by
  unfold State.hearthBoundary
  dsimp only
  repeat' split
  all_goals simp only [pview_enterHearth, pview_hearthStep, pview_exitStart, pview_entryRamp, pview_mk]

theorem pview_stepIeff (s : State) (d : Nat) (r : DomRamp) : (s.stepIeff d r).pview = s.pview :=
  pview_each (fun i t => by simp (disch := decide) only [apply_ite State.pview, pview_p, ite_self]) s

theorem pview_domBoundary (s : State) (d : Nat) : (s.domBoundary d).pview = s.pview := by
  unfold State.domBoundary
  dsimp only
  split
  · split
    · rfl
    split
    · rfl
    split
    · simp only [apply_ite State.pview, State.setDark, State.domRampStart, pview_mk, pview_stepIeff, ite_self]
    · rfl
  split
  · simp only [apply_ite State.pview, State.domRampStart, pview_mk, ite_self]
  · split
    · simp only [apply_ite State.pview, pview_mk, ite_self]
    · rfl

/-! ### Keys, the session, tamper events (19) -/

theorem pview_sessionEnd (s : State) : s.sessionEnd.pview = s.pview := by
  simp (disch := decide) only [State.sessionEnd, pview_modSec, pview_wr]

theorem pview_keyRegsClear (s : State) : s.keyRegsClear.pview = s.pview := by
  have hdata : ∀ (i : Nat) (t : State), (t.wr .keyData i 0).pview = t.pview := fun i t => pview_wr _ _ _ _ (by decide)
  simp (disch := decide) only [State.keyRegsClear, pview_wr, pview_each hdata]

theorem pview_keyDependent (s : State) : s.keyDependent.pview = s.pview := by
  simp (disch := decide) only [State.keyDependent, pview_mk, pview_modSec, pview_pb, pview_wr, pview_keyRegsClear, pview_sessionEnd]

theorem pview_wipeLarder (s : State) (cause : Nat) : (s.wipeLarder cause).pview = s.pview := by
  simp (disch := decide) only [State.wipeLarder, pview_mk, pview_pb]

theorem pview_keyEnd (s : State) (result : Nat) : (s.keyEnd result).pview = s.pview := by
  simp (disch := decide) only [State.keyEnd, pview_flagIrq, pview_keyRegsClear, pview_modSec, pview_pb, pview_p]

theorem pview_lcEnd (s : State) (result : Nat) : (s.lcEnd result).pview = s.pview := by
  simp (disch := decide) only [State.lcEnd, pview_flagIrq, pview_modSec, pview_pb, pview_p]

theorem tamperFlag_base (n : Nat) : 0x4000 ≤ (tamperFlag n).r.place.base := by
  unfold tamperFlag
  repeat' split
  all_goals decide

theorem pview_tamper (s : State) (n : Nat) : (s.tamper n).pview = s.pview := by
  unfold State.tamper
  simp (disch := decide) only [pview_raise, pview_flagIrq _ _ _ _ (tamperFlag_base n), pview_p, pview_mk, pview_modSec, pview_pb,
    pview_keyDependent, apply_ite State.pview, pview_lcEnd, pview_keyEnd, pview_wipeLarder, ite_self]

/-! ### Memory (10) -/

theorem pview_eccFixed (s : State) (a y : Nat) : (s.eccFixed a y).pview = s.pview := by
  simp (disch := decide) only [State.eccFixed, pview_modMemc, pview_flagIrq, pview_wr, pview_incSat]

theorem pview_ueCapture (s : State) (req a : Nat) : (s.ueCapture req a).pview = s.pview := by
  simp (disch := decide) only [State.ueCapture, apply_ite State.pview, pview_pb, pview_wr, ite_self]

theorem pview_ueFault (s : State) (req a : Nat) : (s.ueFault req a).pview = s.pview := by
  simp only [State.ueFault, apply_ite State.pview, pview_tamper, pview_raise, ite_self]

theorem pview_readMem (s : State) (req a : Nat) : (s.readMem req a).2.2.pview = s.pview := by
  unfold State.readMem
  dsimp only
  split
  · rfl
  split
  · simp (disch := decide) only [apply_ite State.pview, pview_incSat, pview_eccFixed, ite_self]
  split
  · rw [pview_raise, pview_pb _ _ _ _ (by decide)]
  · rw [pview_ueFault, pview_ueCapture]

/-- A fold that carries a state beside what it gathers. -/
theorem pview_foldl_snd {α β : Type} (l : List α) (f : β × State → α → β × State) (h : ∀ p a, (f p a).2.pview = p.2.pview)
    (p : β × State) : (l.foldl f p).2.pview = p.2.pview := by
  induction l generalizing p with
  | nil => rfl
  | cons a t ih => exact (ih (f p a)).trans (h p a)

theorem pview_fetchTray (s : State) (req tray groups : Nat) (bases : List Nat) :
    (s.fetchTray req tray groups bases).2.pview = s.pview := by
  refine (pview_foldl_snd _ _ (fun p j => ?_) _).trans (pview_each (fun j t => pview_readMem ..) s)
  dsimp only
  split
  · exact (pview_each (fun g t => pview_raise ..) _).trans (pview_readMem ..)
  · exact pview_readMem ..

/-! ### Engines (11) -/

theorem pview_ungrant (s : State) (e : Fin 4) : (s.ungrant e).pview = s.pview := by
  unfold State.ungrant
  split
  · simp (disch := decide) only [pview_p, pview_modCx]
  · rfl

theorem pview_grant (s : State) (e : Fin 4) : (s.grant e).pview = s.pview := by
  unfold State.grant
  dsimp only
  split
  · simp (disch := decide) only [pview_p, pview_modCx, pview_modEn]
  · rfl

theorem pview_engReady (s : State) (e : Fin 4) : (s.engReady e).pview = s.pview := by
  unfold State.engReady
  split <;> simp only [apply_ite State.pview, pview_grant, pview_ungrant, ite_self]

theorem pview_startNext (s : State) (c : Fin 16) : (s.startNext c).pview = s.pview := by
  unfold State.startNext
  dsimp only
  split
  · split <;> rfl
  · rfl

theorem pview_endCtx (s : State) (c : Fin 16) (drop held : Bool) : (s.endCtx c drop held).pview = s.pview := by
  simp only [State.endCtx, pview_engReady, pview_startNext, apply_ite State.pview, pview_semFreeAll, pview_dropParts, pview_modCx,
    State.dropWait, pview_modRack, State.ungrantOf, pview_ungrant, ite_self]

theorem pview_dropDispatch (s : State) (d : Nat) : (s.dropDispatch d).pview = s.pview := pview_incSat _ _ _ (by decide)

theorem pview_flushAll (s : State) (c : Fin 16) : (s.flushAll c).pview = s.pview := by
  have hq : ∀ (_ : Fired) (t : State), (t.dropDispatch (ctxDom c)).pview = t.pview := fun _ t => pview_dropDispatch ..
  simp only [State.flushAll, State.flushQueue, pview_modCx, pview_each hq, apply_ite State.pview, pview_dropDispatch, ite_self]

/-! ### Telemetry (17) -/

theorem pview_tlmRecord (s : State) (g tag w1 w2 w3 : Nat) : (s.tlmRecord g tag w1 w2 w3).pview = s.pview := by
  simp (disch := decide) only [State.tlmRecord, apply_ite State.pview, pview_incSat, pview_flagIrq, pview_streamPush, ite_self]

theorem pview_stringRecords (s : State) : s.stringRecords.pview = s.pview :=
  pview_each (fun i t => by simp only [apply_ite State.pview, pview_tlmRecord, pview_modTlm, ite_self]) s

theorem pview_agePixels (s : State) : s.agePixels.pview = s.pview :=
  pview_each (fun e t => by simp (disch := decide) only [apply_ite State.pview, pview_pb, pview_modTlm, ite_self]) s

theorem pview_tlmStep (s : State) (g : Nat) : (s.tlmStep g).pview = s.pview := by
  unfold State.tlmStep
  split <;> simp only [apply_ite State.pview, State.tlmAdvance, pview_modTlm, ite_self]

/-! ### The scan grid (15) -/

theorem pview_pixelFault (s : State) (p : Nat) (short : Bool) : (s.pixelFault p short).pview = s.pview := by
  cases short <;>
    simp (disch := decide) only [State.pixelFault, pview_raise, pview_incSat, apply_ite State.pview, pview_pb, pview_wr, pview_flagIrq,
      if_true, if_false, Bool.false_eq_true, ite_self]

theorem pview_endCell (s : State) (rows cols : List Nat) (p kind : Nat) : (s.endCell rows cols p kind).pview = s.pview := by
  simp only [State.endCell, apply_ite State.pview, pview_modGrid, pview_pixelFault, ite_self]

theorem pview_endRows (s : State) : s.endRows.2.pview = s.pview :=
  (pview_each (fun _ t => by rw [pview_raise, pview_flagIrq _ _ _ _ (by decide)]) _).trans (pview_modGrid ..)

theorem pview_endCols (s : State) : s.endCols.2.pview = s.pview :=
  (pview_each (fun _ t => by rw [pview_raise, pview_flagIrq _ _ _ _ (by decide), pview_setBits _ _ _ _ (by decide)]) _).trans
    (pview_modGrid ..)

theorem pview_endFrame (s : State) : s.endFrame.pview = s.pview := by
  unfold State.endFrame
  dsimp only
  rw [pview_modGrid]
  exact (pview_each (fun (p : Nat × Nat) t => pview_endCell t _ _ p.1 p.2) _).trans ((pview_endCols _).trans (pview_endRows s))

theorem Keeps.bakeF (s : State) : Keeps s s.bakeF := by
  unfold State.bakeF
  dsimp only
  have h1 := Keeps.bake s (fun e => e.cls == 2 && !isRate e)
  refine .ite (.ite (h1.trans (.bake ..)) (h1.trans ?_)) h1
  exact (Keeps.unstage _ _).trans (.of_eq (pview_pb _ _ _ _ (by decide)))

theorem pview_slotBegin (s : State) (j : Nat) : (s.slotBegin j).pview = s.pview := by
  simp (disch := decide) only [State.slotBegin, pview_modGrid, pview_p]

/-- A frame that begins shows what its commit point leaves. -/
theorem pview_frameBegin (s : State) (stop : Option Nat) (first : Bool) : (s.frameBegin stop first).pview = s.framePoint.pview := by
  have hpins : ∀ (u : State) (b : Bool), { u with pins := { u.pins with fsyncOut := b } }.pview = u.pview := fun _ _ => rfl
  unfold State.frameBegin
  dsimp only
  split
  · rfl
  · rw [State.tlmFrame, pview_tlmStep, pview_slotBegin]
    simp (disch := decide) only [apply_ite State.pview, hpins, pview_fireEvent, pview_flagIrq, pview_pb, pview_modGrid, pview_p,
      pview_incMod, ite_self]

theorem Keeps.frameBegin (s : State) (stop : Option Nat) (first : Bool) : Keeps s (s.frameBegin stop first) :=
  ((Keeps.of_eq (by rw [pview_endFrame, pview_countOn])).trans (.bakeF _)).trans (.of_eq (pview_frameBegin s stop first))

theorem Keeps.gridEnable (s : State) : Keeps s s.gridEnable := by
  have h1 : Keeps s ((s.pb F.gridStat_LOCK 0 false).pb F.gridStat_LOL 0 false) :=
    .of_eq (by rw [pview_pb _ _ _ _ (by decide), pview_pb _ _ _ _ (by decide)])
  exact .ite (.refl s) (.ite (h1.trans (.frameBegin ..)) (h1.trans (.of_eq (pview_modGrid ..))))

/-! ### The converters (16) -/

theorem pview_regBaked (s : State) (x : Fin 2) : (s.regBaked x).pview = s.pview := by
  simp (disch := decide) only [State.regBaked, apply_ite State.pview, pview_modTab, pview_p, ite_self]

theorem pview_injBaked (s : State) (x : Fin 2) : (s.injBaked x).pview = s.pview := by
  unfold State.injBaked
  dsimp only
  split
  · rfl
  · exact (pview_each (fun y t => pview_modCv ..) _).trans (pview_modTab ..)

theorem pview_sharedCancel (s : State) : s.sharedCancel.pview = s.pview := by
  simp only [State.sharedCancel, pview_mk, pview_modCv]

theorem pview_moveTabs (s : State) (x : Fin 2) (away : Bool) : (s.moveTabs x away).pview = s.pview := by
  simp (disch := decide) only [State.moveTabs, pview_pb, pview_modTab, pview_modCv]

theorem pview_applyMoves (s : State) (x : Fin 2) : (s.applyMoves x).pview = s.pview := by
  simp (disch := decide) only [State.applyMoves, apply_ite State.pview, pview_mk, pview_flagIrq, pview_p, pview_moveTabs, ite_self]

theorem pview_startAdcCal (s : State) : s.startAdcCal.pview = s.pview := by
  have h : ∀ (t : State) (x : Fin 2) (park : Bool), (t.calStart x park).pview = t.pview := fun t x park => by
    simp (disch := decide) only [State.calStart, pview_applyMoves, pview_modCv, pview_sharedCancel, pview_pb, pview_p]
  rw [State.startAdcCal, h, h]

end Sys2Proof.Machine
end

section
/-!
PROOF. The power view under a slice boundary (11 R433), with the resets of resources that change owner (05 R158, R163).
-/

namespace Sys2Proof.Machine

/-! ### Ranges of registers that return to their reset words (05 R158) -/

/-- Other register words that are the same at the addresses of the view. -/
theorem pview_withRegs (s : State) {l : List (Nat × Word)}
    (h : ∀ r ∈ RegId.clkStat :: statusRegs, kvGet l (r.addr 0) = kvGet s.regs (r.addr 0)) : ({ s with regs := l } : State).pview = s.pview := by
  have hrd : ∀ r ∈ RegId.clkStat :: statusRegs, ({ s with regs := l } : State).rd r = s.rd r := fun r hr => by
    simp only [State.rd, kvD, h r hr]
  have hb : ({ s with regs := l } : State).b F.clkStat_PLLLOCK = s.b F.clkStat_PLLLOCK := by
    rw [State.b, State.b, State.g, State.g, hrd F.clkStat_PLLLOCK.r (by decide)]
  have hw : statusRegs.map (fun r => ({ s with regs := l } : State).rd r) = statusRegs.map (fun r => s.rd r) :=
    List.map_congr_left fun r hr => hrd r (List.mem_cons_of_mem _ hr)
  simp only [State.pview, hb, hw]

theorem viewAddr_lt : ∀ r ∈ RegId.clkStat :: statusRegs, r.addr 0 < 0x4000 := by decide

theorem kvGet_filter {α : Type} (l : List (Nat × α)) {q : Nat × α → Bool} {k : Nat} (h : ∀ v, q (k, v) = true) :
    kvGet (l.filter q) k = kvGet l k := by
  induction l with
  | nil => rfl
  | cons p t ih =>
    obtain ⟨j, v⟩ := p
    by_cases hq : q (j, v) = true
    · rw [List.filter_cons_of_pos hq, kvGet, kvGet, ih]
    · rw [List.filter_cons_of_neg hq, ih, kvGet, if_neg (fun e : j = k => hq (e ▸ h v))]

theorem pview_clrRange (s : State) (lo hi : Nat) (h : 0x4000 ≤ lo) : (s.clrRange lo hi).pview = s.pview :=
  pview_withRegs s fun r hr => kvGet_filter _ fun _ => by
    have := viewAddr_lt r hr
    simp only [Bool.or_eq_true, decide_eq_true_eq]
    omega

theorem pview_clrReg (s : State) (r : RegId) (i : Nat) (h : 0x4000 ≤ r.place.base) : (s.clrReg r i).pview = s.pview :=
  pview_withRegs s fun q hq => kvGet_filter _ fun _ =>
    bne_iff_ne.mpr (bne_iff_ne.mp (List.all_eq_true.mp (offView_of_base h i) q hq))

/-- A word written at an address behind the view. -/
theorem pview_setReg (s : State) {a : Nat} (w : Word) (h : 0x4000 ≤ a) : ({ s with regs := kvSet s.regs a w } : State).pview = s.pview :=
  pview_withRegs s fun r hr => kvGet_kvSet_ne _ _ (by have := viewAddr_lt r hr; omega)

theorem Keeps.unstaged {s t : State} (a : Keeps s t) (sel : Staged → Bool) : Keeps s (t.unstage sel) := a.trans (.unstage t sel)

theorem pview_keepFields (s old : State) (i : Fin 6) {l : List Fld} (h : ∀ f ∈ l, 0x4000 ≤ f.r.place.base) :
    (l.foldl (fun s f => s.p f i (old.g f i)) s).pview = s.pview := by
  induction l generalizing s with
  | nil => rfl
  | cons f t ih => exact (ih _ fun g hg => h g (List.mem_cons_of_mem _ hg)).trans (pview_p _ _ _ _ (h f List.mem_cons_self))

/-- The pixel path forgets a group, whose telemetry registers return to reset. -/
theorem pview_forgetGroup (s : State) (x : Px) (g : Nat) :
    ((({ s with px := x } : State).clrReg .tlmGrpCfg g).clrReg .tlmGrpCal g).outputs.pview = s.pview := by
  rw [pview_outputs, pview_clrReg _ _ _ (by decide), pview_clrReg _ _ _ (by decide), pview_mk]

theorem Keeps.resetString (s : State) (i : Fin 6) : Keeps s (s.resetString i) := by
  have hclr : ∀ t : State, (((t.clrRange (0xA000 + 0x200 * i.val) (0xA200 + 0x200 * i.val)).clrRange (0xB000 + 0x100 * i.val)
      (0xB100 + 0x100 * i.val)).clrRange (0xC000 + 0x80 * i.val) (0xC080 + 0x80 * i.val)).pview = t.pview := fun t => by
    rw [pview_clrRange _ _ _ (by omega), pview_clrRange _ _ _ (by omega), pview_clrRange _ _ _ (by omega)]
  unfold State.resetString
  extract_lets trip old s1 keep s2 s3 s4 s5 s6
  have h4 : (s4.modBy i (fun b => { b with low := [] })).pview = s.pview := by
    rw [pview_modBy, pview_modSt, pview_modPw, pview_pb _ _ _ _ (by decide), pview_keepFields _ _ _ (by decide), hclr]
  exact ((Keeps.of_eq h4).unstaged _).trans (.of_eq (pview_forgetGroup s5 _ _))

theorem Keeps.resetGrid (s : State) : Keeps s s.resetGrid := by
  unfold State.resetGrid
  extract_lets s1 s2
  have h0 : (s.gridStop.clrRange 0xD000 0xE000).pview = s.pview := by rw [pview_clrRange _ _ _ (by decide), pview_gridStop]
  have h1 : Keeps s s1 := ((Keeps.of_eq h0).unstaged _).trans (.of_eq (pview_modGrid ..))
  exact h1.trans (.of_eq (pview_forgetGroup s1 _ 6))

theorem Keeps.resetAdc (s : State) (k : Fin 4) : Keeps s (s.resetAdc k) := by
  have hdrop : ∀ (t : State) (a lo hi : Nat) (sel : Staged → Bool), 0x4000 ≤ a → Keeps t ((t.clrRange (a + lo) (a + hi)).unstage sel) :=
    fun t a lo hi sel h => .unstaged (.of_eq (pview_clrRange _ _ _ (by omega))) sel
  have ha : ∀ x : Fin 2, 0x4000 ≤ 0xE000 + 0x400 * x.val := fun x => by omega
  unfold State.resetAdc
  dsimp only
  split
  · exact (((hdrop s _ _ _ _ (ha _)).trans (hdrop _ _ _ _ _ (ha _)))).trans (.of_eq (pview_modTab ..))
  · exact (((hdrop s _ _ _ _ (ha _)).trans (hdrop _ _ _ _ _ (ha _)))).trans
      ((Keeps.of_eq (pview_modTab ..)).trans (.each (fun y t => .of_eq (pview_modCv ..)) _))

theorem Keeps.resetMoved (s old : State) : Keeps s (s.resetMoved old) := by
  unfold State.resetMoved
  extract_lets inRst s1 s2
  have h1 : Keeps s s1 := .each (fun i t => .ite (.resetString t i) (.refl t)) s
  have h2 : Keeps s1 s2 := .ite (.resetGrid _) (.refl _)
  exact (h1.trans h2).trans (.each (fun k t => .ite (.resetAdc t k) (.refl t)) _)

/-! ### Bakes of class S and of ownership (06 R198-R204; 05 R143) -/

theorem Keeps.bakeCurve (s : State) (c : Nat) : Keeps s (s.bakeCurve c) := by
  have herr : ∀ l : List Staged, (noneStaged s.staged = true → noneStaged l = true) →
      Keeps s (State.pb { s with staged := l } F.tlmStat_CRVERR 0 true) := fun l h =>
    (Keeps.restaged s h s.parityBad).trans (.of_eq (pview_pb _ _ _ _ (by decide)))
  exact .ite (.refl s) (.ite (.bake ..) (herr _ fun h => noneStaged_filter h _))

theorem pview_strBaked (s : State) (i : Fin 6) (en den : Bool) : (s.strBaked i en den).pview = s.pview := by
  simp (disch := decide) only [State.strBaked, apply_ite State.pview, pview_modSt, pview_flagIrq, ite_self]

theorem pview_closeUnused (s : State) (i : Fin 6) : (s.closeUnused i).pview = s.pview := by
  simp only [State.closeUnused, apply_ite State.pview, pview_setSw, pview_countOn, ite_self]

theorem pview_realign (s : State) : s.realign.pview = s.pview := by
  simp only [State.realign, apply_ite State.pview, pview_mk, ite_self]

theorem pview_rateBaked (s : State) : s.rateBaked.pview = s.pview := by
  simp only [State.rateBaked, apply_ite State.pview, pview_realign, pview_mk, ite_self]

theorem Keeps.bakeS (s : State) : Keeps s s.bakeS := by
  have hdiv : ∀ t old : State, (t.divRestart old).pview = t.pview := fun t old => by rw [State.divRestart, pview_mk]
  have hlast : ∀ (t : State) (en den : List Bool), (Machine.each strs (fun i s => (s.strBaked i (en.getD i false) (den.getD i false)).closeUnused i)
      t.rateBaked).pview = t.pview := fun t en den =>
    (pview_each (fun i u => by rw [pview_closeUnused, pview_strBaked]) _).trans (pview_rateBaked t)
  unfold State.bakeS
  dsimp only
  exact (((Keeps.bake s _).trans (.of_eq (hdiv ..))).trans (.each (fun c t => .bakeCurve t c) _)).trans (.of_eq (hlast ..))

/-- The interrupt sets and enables of the domains lie off the view. -/
theorem offView_intSet {d n : Nat} (hd : d < 4) (hn : n < 96) :
    offView (RegId.intPend.addr (3 * d + n / 32)) = true ∧ offView (RegId.intEn.addr (3 * d + n / 32)) = true := by
  have h : ∀ k : Fin 12, offView (RegId.intEn.addr k) = true := by decide
  exact ⟨offView_intPend hd hn, h ⟨3 * d + n / 32, by omega⟩⟩

theorem pview_moveIrq (s : State) {n : Nat} {old new : Option Nat} (hn : n < 96) (ho : ∀ d, old = some d → d < 4)
    (hw : ∀ d, new = some d → d < 4) : (s.moveIrq n old new).pview = s.pview := by
  unfold State.moveIrq
  split
  next a b =>
    obtain ⟨hpa, hea⟩ := offView_intSet (ho a rfl) hn
    obtain ⟨hpb, -⟩ := offView_intSet (hw b rfl) hn
    have hclr : ∀ (t : State) (m : Nat), ((t.clrBits .intPend (3 * a + n / 32) m).clrBits .intEn (3 * a + n / 32) m).pview = t.pview :=
      fun t m => (pview_wr_off _ _ hea).trans (pview_wr_off _ _ hpa)
    have hset : ∀ (t : State) (m : Nat), (t.setBits .intPend (3 * b + n / 32) m).pview = t.pview := fun t m => pview_wr_off _ _ hpb
    simp only [apply_ite State.pview, hset, hclr, ite_self]
  · rfl

theorem Keeps.bakeOwn (s : State) : Keeps s s.bakeOwn := by
  have hmove : ∀ (t u v : State), (Machine.each (upto 96) (fun n x => x.moveIrq n (u.irqOwner n) (v.irqOwner n)) t).evPrune.pview = t.pview :=
    fun t u v => (each_keeps_mem State.pview _ _ t fun n hn x => pview_moveIrq x (List.mem_range.mp hn)
      (fun d h => State.irqOwner_lt h) fun d h => State.irqOwner_lt h)
  have habort : ∀ (t : State) (l : List Wait), (Machine.each l (fun w t => t.abortWait w 2) t).pview = t.pview := fun t l =>
    pview_each (fun w t => pview_abortWait t w) t
  have hstat : ∀ (t : State) (f : Fld) (v : Nat), f.r = .ownStat → (t.p f 0 v).pview = t.pview := fun t f v h =>
    pview_wr_off t _ (by rw [h]; decide)
  unfold State.bakeOwn
  extract_lets own pe sem s1 s2 s3 s4 pend
  have h2 : Keeps s s2 := (Keeps.bake s _).unstaged _
  have h4 : s4.pview = s2.pview := (habort ..).trans (hmove s2 s s1)
  have h5 := (hstat _ F.ownStat_SEMPEND (if !sem.isEmpty then 1 else 0) rfl).trans (hstat s4 F.ownStat_PEPEND pend rfl)
  exact (h2.trans (.of_eq (h5.trans h4))).trans (.resetMoved ..)

/-! ### Overruns, tray selection and contexts (11 R431-R437) -/

theorem pview_overrun (s : State) (c : Fin 16) : (s.overrun c).pview = s.pview := by
  simp (disch := decide) only [State.overrun, apply_ite State.pview, pview_raise, pview_flagIrq, pview_p, pview_incSat, ite_self]

theorem pview_selectGroup (s t : State) (g : Nat) : (s.selectGroup t g).pview = s.pview := by
  unfold State.selectGroup
  split
  · simp (disch := decide) only [apply_ite State.pview, pview_pb, pview_p, pview_mk, ite_self]
  split
  · simp (disch := decide) only [apply_ite State.pview, pview_p, pview_mk, ite_self]
  · rfl

theorem pview_retireNet (s t : State) (d : Nat) : (s.retireNet t d).pview = s.pview := by
  simp (disch := decide) only [State.retireNet, apply_ite State.pview, pview_p, pview_mk, ite_self]

theorem pview_retireOffer (s t : State) (c : Fin 16) : (s.retireOffer t c).pview = s.pview := by
  unfold State.retireOffer
  split
  · rfl
  · simp (disch := decide) only [apply_ite State.pview, pview_incSat, pview_modCx, ite_self]

theorem pview_fetchHot (s : State) (h : Nat) : (s.fetchHot h).pview = s.pview := by
  simp only [State.fetchHot, apply_ite State.pview, pview_mk, pview_fetchTray, ite_self]

theorem pview_selectTrays (s : State) : s.selectTrays.pview = s.pview := by
  unfold State.selectTrays
  extract_lets s1 s2 s3 s4
  have h1 : s1.pview = s.pview := pview_each (fun g x => pview_selectGroup x s g) s
  have h2 : s2.pview = s1.pview := pview_each (fun d x => pview_retireNet x s d) s1
  have h3 : s3.pview = s2.pview := pview_each (fun c x => pview_retireOffer x s c) s2
  have h4 : s4.pview = s3.pview := pview_each (fun g x => pview_fetchHot x g) s3
  exact (pview_each (fun d x => pview_pb x _ _ _ (by decide)) s4).trans (h4.trans (h3.trans (h2.trans h1)))

theorem tabRegs_base (t : Tabs) : ∀ p ∈ tabRegs t, 0x4000 ≤ p.1 := by
  have h : ∀ {r : RegId}, 0x4000 ≤ r.place.base → ∀ i, 0x4000 ≤ r.addr i := fun hb i => by
    simp only [RegId.addr]
    omega
  intro p hp
  simp only [tabRegs, List.mem_append, List.mem_map] at hp
  rcases hp with (⟨i, -, rfl⟩ | ⟨i, -, rfl⟩) | ⟨g, -, rfl⟩
  · exact h (r := .adcCorr) (by decide) i
  · exact h (r := .tlmCrv) (by decide) i
  · exact h (r := .tlmGrpCal) (by decide) g

theorem pview_swapBoundary (s : State) : s.swapBoundary.pview = s.pview := by
  unfold State.swapBoundary
  split
  · rfl
  · extract_lets t s1 s2 s3
    have h2 : s2.pview = s.pview := by
      rw [pview_modStore, pview_pb _ _ _ _ (by decide), pview_p _ _ _ _ (by decide)]
    have h3 : s3.pview = s2.pview := each_keeps_mem State.pview _ _ s2 fun p hp u => pview_setReg u _ (tabRegs_base t p hp)
    rw [pview_flagIrq _ _ _ _ (by decide), pview_p _ _ _ _ (by decide), pview_mk, h3, h2]

theorem pview_releaseCtx (s : State) (c : Fin 16) : (s.releaseCtx c).pview = s.pview := by
  simp (disch := decide) only [State.releaseCtx, apply_ite State.pview, pview_endCtx, pview_modCx, pview_p, ite_self]

theorem pview_dropLost (s : State) (c : Fin 16) : (s.dropLost c).pview = s.pview := by
  simp only [State.dropLost, apply_ite State.pview, pview_flushAll, ite_self]

/-! ### The boundary (11 R433) -/

/-- The clock-stop release that ends at a boundary. -/
theorem pview_releaseEnds (s : State) (c : Bool) (f : Flt) :
    ({ s with clk := if c then { s.clk with release := false, relocked := false } else s.clk, flt := f } : State).pview = s.pview := by
  cases c <;> rfl

theorem Keeps.sliceWork (s : State) (k : Nat) (woken : Bool) : Keeps s (s.sliceWork k woken) := by
  unfold State.sliceWork
  extract_lets dark fresh s0 clk0 flt0 s1 s2 s3 s4 slice4 s5 s6 s7 s8 s9 s10 s11 s11' s12 s13 s14 pins14 slice14
  have h3 : s3.pview = s.pview := by
    have h2 : s2.pview = s1.pview := pview_each (fun i t => pview_modSt ..) s1
    rw [pview_outputs, pview_hearthBoundary, h2, pview_releaseEnds, pview_countOn]
  have h4 : Keeps s s4 := ((Keeps.of_eq h3).trans (.bakeS _)).trans (.bakeOwn _)
  have h7 : s7.pview = s4.pview := (pview_each (fun d t => pview_domBoundary t d) s6).trans (pview_p s5 _ _ _ (by decide))
  have h8 : Keeps s7 s8 :=
    ((Keeps.of_eq (pview_outputs s7)).trans (.each (fun n t => (Keeps.startDuty t s0 n).trans (.runBaked _ n)) _)).trans (.gridEnable _)
  have h9 : s9.pview = s8.pview := by rw [pview_injBaked, pview_injBaked, pview_regBaked, pview_regBaked]
  have h10 : s10.pview = s9.pview := by
    simp only [s10, apply_ite State.pview, pview_each (fun c t => pview_overrun t c), ite_self]
  have h11 : s11.pview = s10.pview := by
    simp only [s11, pview_outputs, apply_ite State.pview, pview_swapBoundary, pview_selectTrays, ite_self]
  have h11' : Keeps s11 s11' := .each (fun i t => .startDuty t s8 i) s11
  have h12 : s12.pview = s11'.pview := pview_each (fun c t => by rw [pview_dropLost, pview_releaseCtx]) s11'
  have h14 : s14.pview = s12.pview := by
    rw [pview_agePixels, pview_stringRecords, pview_evWake, pview_pendIrq, pview_fireEvent]
  exact ((((h4.trans (.of_eq h7)).trans h8).trans (.of_eq (h11.trans (h10.trans h9)))).trans h11').trans (.of_eq (h14.trans h12))

theorem Keeps.sliceAtRelease (s : State) : Keeps s s.sliceAtRelease := by
  unfold State.sliceAtRelease
  extract_lets r near s1 s2
  have h2 : s2.pview = s.pview := pview_each (fun i t => pview_strBaked ..) s1
  exact (Keeps.of_eq h2).trans (.sliceWork ..)

theorem Keeps.sliceAtWake (s : State) : Keeps s s.sliceAtWake := by
  unfold State.sliceAtWake
  extract_lets slice0 s1 slice1
  have h1 : s1.pview = s.pview := by
    simp only [s1, apply_ite State.pview, pview_mk, ite_self]
  refine .trans (.of_eq ?_) (.sliceWork _ _ true)
  rw [pview_mk, h1]

end Sys2Proof.Machine
end

section
/-!
PROOF. What reset leaves (03 R68, R74, R81).
-/

namespace Sys2Proof.Machine

/-! ### What reset leaves (03 R68, R74, R81) -/

/-- A random value from 1 to 2^32 - 1 is the word that NET_EPOCH takes, not 0 (08 R286). -/
theorem ofNat_random_ne_zero (n : Nat) : BitVec.ofNat 32 (1 + n % (2 ^ 32 - 1)) ≠ 0 := by
  intro h
  have hw : (1 + n % (2 ^ 32 - 1)) % 2 ^ 32 = 0 := congrArg BitVec.toNat h
  omega

/-- A register that no word is listed for has the reset word of its fields. -/
theorem rd_reset_unlisted {r : RegId} {i : Nat} (hcause : r.addr i ≠ 0x3104) (hepoch : r.addr i ≠ 0x5038) (hrng : r.addr i ≠ 0x11060) :
    State.reset.rd r i = BitVec.ofNat 32 (r.reset i) := by
  simp [State.rd, State.reset, kvD, kvGet, hcause.symm, hepoch.symm, hrng.symm]

theorem cx_reset (c : Fin 16) : State.reset.cx c = {} := by
  simp [State.cx, vget, State.reset, Vector.get_eq_getElem]

theorem slot_reset (k : Fin 4) : State.reset.slot k = {} := by
  revert k
  decide

/-- Settles O2: three registers have words of their own at reset, every table is empty. -/
theorem resetState : Obligations.ResetState := by
  refine ⟨rfl, ofNat_random_ne_zero _, fun r i => rd_reset_unlisted, fun a => rfl, fun c v => ?_, fun n => rfl, slot_reset, rfl, rfl, ?_⟩
  · rw [cx_reset]
    exact ⟨by simp [vget, Vector.get_eq_getElem], rfl⟩
  · exact fun e he => absurd he List.not_mem_nil

end Sys2Proof.Machine
end

section
/-!
PROOF. Device resets (03 R64-R81): what the last steps of each keep, what it leaves, and the paths that it starts.
-/

namespace Sys2Proof.Machine

/-! ### Device resets (03 R74, R80) -/

/-- No context waits for an event. -/
def State.noWaiter (s : State) : Prop := ∀ c, (s.cx c).ev = none

theorem evWake_of_noWaiter {s : State} (h : s.noWaiter) (kind sel : Nat) (d : Option Nat) : s.evWake kind sel d = s := by
  have step : ∀ l : List (Fin 16), each l (fun c (s : State) => match (s.cx c).ev with
      | some e => if e.kind = kind && e.sel = sel && (s.cx c).st = .waiting && d.all (· == c.val % 4) then
          s.modCx c (fun x => x.waitDone 1 []) else s
      | none => s) s = s := fun l => by
    induction l with
    | nil => rfl
    | cons c t ih => simpa only [each, List.foldl_cons, h c] using ih
  exact step ctxs

theorem ctx_fireEntry (s : State) (i evt : Nat) (src : Option Nat) (data : Word) : (s.fireEntry i evt src data).ctx = s.ctx := by
  unfold State.fireEntry
  dsimp only
  repeat' split
  all_goals rfl

theorem ctx_fireEvent (s : State) (evt : Nat) (src : Option Nat) (data : Word) : (s.fireEvent evt src data).ctx = s.ctx :=
  each_keeps State.ctx _ _ s fun _ _ => ctx_fireEntry ..

/-- What the last steps of a device reset keep, while fSYS is stopped and no context waits for an event. -/
structure Settles (s t : State) : Prop where
  pview : t.pview = s.pview
  pending : t.pending = s.pending
  mem : t.mem = s.mem
  staged : t.staged = s.staged
  posted : t.posted = s.posted
  rack : t.rack = s.rack
  ctx : s.noWaiter → s.clk.fsys = false → t.ctx = s.ctx

theorem Settles.refl (s : State) : Settles s s := ⟨rfl, rfl, rfl, rfl, rfl, rfl, fun _ _ => rfl⟩

theorem Settles.trans {s t u : State} (a : Settles s t) (b : Settles t u) : Settles s u where
  pview := b.pview.trans a.pview
  pending := b.pending.trans a.pending
  mem := b.mem.trans a.mem
  staged := b.staged.trans a.staged
  posted := b.posted.trans a.posted
  rack := b.rack.trans a.rack
  ctx h hs := by
    have ht := a.ctx h hs
    exact (b.ctx (fun c => by rw [State.cx, ht]; exact h c) ((fsys_of_pview a.pview).trans hs)).trans ht

theorem Settles.ite {s t u : State} {c : Prop} [Decidable c] (a : Settles s t) (b : Settles s u) : Settles s (if c then t else u) := by
  split
  · exact a
  · exact b

theorem Settles.of_quiet {s t : State} (q : Quiet s t) (hp : t.pview = s.pview)
    (hc : s.noWaiter → s.clk.fsys = false → t.ctx = s.ctx) : Settles s t :=
  ⟨hp, q.pending, q.mem, q.staged, q.posted, q.rack, hc⟩

section
variable {s t : State}

theorem Settles.wr (a : Settles s t) {r : RegId} {i : Nat} {w : Word} (h : 0x4000 ≤ r.place.base) : Settles s (t.wr r i w) :=
  a.trans (.of_quiet (.wr ..) (pview_wr _ _ _ _ h) fun _ _ => rfl)

theorem Settles.p (a : Settles s t) {f : Fld} {i v : Nat} (h : 0x4000 ≤ f.r.place.base) : Settles s (t.p f i v) := a.wr h
theorem Settles.pb (a : Settles s t) {f : Fld} {i : Nat} {v : Bool} (h : 0x4000 ≤ f.r.place.base) : Settles s (t.pb f i v) := a.wr h

theorem Settles.modSec (a : Settles s t) (f : Sec → Sec) : Settles s (t.modSec f) :=
  a.trans ⟨rfl, rfl, rfl, rfl, rfl, rfl, fun _ _ => rfl⟩

theorem Settles.pendIrq (a : Settles s t) (n : Nat) : Settles s (t.pendIrq n) := by
  refine a.trans (.of_quiet (.pendIrq ..) (pview_pendIrq ..) fun hw _ => ?_)
  unfold State.pendIrq
  split
  · rfl
  split
  · rfl
  · rw [evWake_of_noWaiter (fun c => by rw [State.cx, ctx_fireEvent]; exact hw c), ctx_fireEvent]
    rfl

theorem Settles.flagIrq (a : Settles s t) {f : Fld} {i irq : Nat} (h : 0x4000 ≤ f.r.place.base) : Settles s (t.flagIrq f i irq) :=
  (a.pb h).pendIrq irq

/-- A fault that comes while fSYS is stopped waits for it (18 R691). -/
theorem Settles.raise (a : Settles s t) (n : Nat) : Settles s (t.raise n) := by
  refine a.trans (.of_quiet (.raise ..) (pview_raise ..) fun _ hs => ?_)
  unfold State.raise State.raiseOn
  split
  · rfl
  · rw [if_pos (by rw [hs]; rfl), State.latchFault]
    split <;> rfl

theorem Settles.sessionEnd (a : Settles s t) : Settles s t.sessionEnd := by
  unfold State.sessionEnd
  exact (((a.wr (by decide)).wr (by decide)).wr (by decide)).modSec _

theorem Settles.keyRegsClear (a : Settles s t) : Settles s t.keyRegsClear :=
  (((((a.wr (by decide)).wr (by decide)).wr (by decide)).wr (by decide)).wr (by decide)).wr (by decide)

theorem Settles.withNet (a : Settles s t) (x : Net) : Settles s { t with net := x } := a.trans ⟨rfl, rfl, rfl, rfl, rfl, rfl, fun _ _ => rfl⟩

theorem Settles.keyDependent (a : Settles s t) : Settles s t.keyDependent := by
  unfold State.keyDependent
  exact (((((a.sessionEnd.keyRegsClear.wr (by decide)).wr (by decide)).wr (by decide)).pb (by decide)).modSec _).withNet _

theorem Settles.keyEnd (a : Settles s t) (v : Nat) : Settles s (t.keyEnd v) :=
  (((((a.pb (by decide)).p (by decide)).pb (by decide)).modSec _).keyRegsClear).flagIrq (by decide)

theorem Settles.lcEnd (a : Settles s t) (v : Nat) : Settles s (t.lcEnd v) :=
  ((((a.pb (by decide)).p (by decide)).pb (by decide)).modSec _).flagIrq (by decide)

theorem Settles.wipeLarder (a : Settles s t) (cause : Nat) : Settles s (t.wipeLarder cause) :=
  (a.pb (f := F.memLardstat_WIPING) (by decide)).trans ⟨rfl, rfl, rfl, rfl, rfl, rfl, fun _ _ => rfl⟩

theorem Settles.withNv (a : Settles s t) (x : Nv) : Settles s { t with nv := x } := a.trans ⟨rfl, rfl, rfl, rfl, rfl, rfl, fun _ _ => rfl⟩

/-- A tamper event (19 R735, R737) whose fault waits for fSYS. -/
theorem Settles.tamper (a : Settles s t) (n : Nat) : Settles s (t.tamper n) := by
  unfold State.tamper
  refine (Settles.flagIrq (Settles.p (Settles.withNv (Settles.modSec (Settles.pb (Settles.keyDependent ?_) (by decide)) _) _) (by decide))
    (tamperFlag_base n)).raise n
  have hk : ∀ cause, Settles s (if (t.wipeLarder cause).sec.job.isSome then (t.wipeLarder cause).keyEnd 7 else t.wipeLarder cause) :=
    fun _ => .ite ((a.wipeLarder _).keyEnd 7) (a.wipeLarder _)
  exact .ite ((hk _).lcEnd 2) (hk _)

end

theorem Settles.lcStartup (s : State) : Settles s s.lcStartup := by
  have h := ((Settles.refl s).p (f := F.lcStat_STATE) (i := 0) (v := (lcResolve s.nv.lc0 s.nv.lc1 s.nv.lc2).1) (by decide)).p
    (f := F.secStat_TAMPCNT) (i := 0) (v := s.nv.tamp) (by decide)
  exact .ite ((h.withNv _).tamper 87) h

theorem Settles.newEpoch (s : State) : Settles s s.newEpoch := by
  have hfree : ∀ n : Nat, Settles s { s with free := n } := fun n => ⟨rfl, rfl, rfl, rfl, rfl, rfl, fun _ _ => rfl⟩
  exact ((hfree _).p (by decide)).wr (by decide)

theorem rd_supplyLevels (s old : State) (warm : Bool) {r : RegId} {i : Nat} (h : r.addr i ≠ RegId.pwrStat.addr 0) :
    (s.supplyLevels old warm).rd r i = s.rd r i := by
  rw [State.supplyLevels, rd_pb_ne _ _ _ _ h, rd_pb_ne _ _ _ _ h, rd_pb_ne _ _ _ _ h]

/-- What a device reset of `s` leaves, on the path `warm`, with the cause and the count it records. -/
structure AfterReset (s : State) (warm : Bool) (cause count : Nat) (t : State) : Prop where
  pwr : t.pwr = { warm := warm }
  fsys : t.clk.fsys = false
  intRouted : t.pins.intRouted = false
  vcc5On : t.pins.vcc5On = false
  rstCause : t.rd .rstCause = BitVec.ofNat 32 cause
  dwdtStat : t.rd .dwdtStat = BitVec.ofNat 32 (satN 255 count)
  pending : t.pending = s.pending
  mem : t.mem = mramOnly s.mem
  staged : t.staged = []
  posted : t.posted = []
  rack : t.rack = {}
  ctx : t.ctx = State.reset.ctx

/-- The life-cycle state and the epoch, which a device reset takes last, leave the rest as it is. -/
theorem AfterReset.settle {s t u : State} {warm : Bool} {cause count : Nat} (h : AfterReset s warm cause count t) (st : Settles t u) :
    AfterReset s warm cause count u where
  pwr := (pwr_of_pview st.pview).trans h.pwr
  fsys := (fsys_of_pview st.pview).trans h.fsys
  intRouted := (intRouted_of_pview st.pview).trans h.intRouted
  vcc5On := (vcc5On_of_pview st.pview).trans h.vcc5On
  rstCause := (rd_of_pview st.pview (by decide)).trans h.rstCause
  dwdtStat := (rd_of_pview st.pview (by decide)).trans h.dwdtStat
  pending := st.pending.trans h.pending
  mem := st.mem.trans h.mem
  staged := st.staged.trans h.staged
  posted := st.posted.trans h.posted
  rack := st.rack.trans h.rack
  ctx := by
    have hw : t.noWaiter := fun c => by
      rw [State.cx, h.ctx]
      exact congrArg Ctx.ev (cx_reset c)
    exact (st.ctx hw h.fsys).trans h.ctx

theorem afterReset_deviceReset (s : State) (warm spares : Bool) (cause count : Nat) :
    AfterReset s warm cause count (s.deviceReset warm spares cause count) := by
  refine AfterReset.settle ?_ ((Settles.lcStartup _).trans (.newEpoch _))
  constructor
  case rstCause =>
    rw [rd_supplyLevels _ _ _ (by decide), rd_wr_ne _ _ _ _ _ _ (by decide), rd_wr_same]
  case dwdtStat =>
    rw [rd_supplyLevels _ _ _ (by decide), rd_wr_same]
  all_goals rfl

/-- The image store alone is left (10 R385). -/
theorem memGet_mramOnly (m : List Host.Cell) (a : Nat) : memGet (mramOnly m) a = if 0xC00000 ≤ a then memGet m a else 0 := by
  induction m with
  | nil => simp [mramOnly, memGet]
  | cons c t ih =>
    obtain ⟨k, v⟩ := c
    unfold mramOnly at ih ⊢
    by_cases hk : 0xC00000 ≤ k
    · rw [List.filter_cons_of_pos (by simpa using hk), memGet, memGet, ih]
      split
      next e => rw [if_pos (e ▸ hk)]
      · rfl
    · rw [List.filter_cons_of_neg (by simpa using hk), ih, memGet]
      split
      next ha => rw [if_neg (fun e : k = a => hk (e ▸ ha))]
      · rfl

theorem satN_eq_min (m n : Nat) : satN m n = min m n := by
  unfold satN
  split <;> omega

theorem ofNat_or (w : Word) (n : Nat) : BitVec.ofNat 32 (w.toNat ||| n) = w ||| BitVec.ofNat 32 n := by
  rw [BitVec.ofNat_or, BitVec.ofNat_toNat, BitVec.setWidth_eq]

theorem g_count_lt (s : State) : s.g F.dwdtStat_COUNT < 256 := Nat.mod_lt _ (by decide)

theorem g_count_of_rd {t : State} {count : Nat} (h : t.rd .dwdtStat = BitVec.ofNat 32 (satN 255 count)) :
    t.g F.dwdtStat_COUNT = min 255 count := by
  rw [State.g, show F.dwdtStat_COUNT.r = .dwdtStat from rfl, h, satN_eq_min]
  simp only [BitVec.toNat_ofNat, bitsN, F.dwdtStat_COUNT, pow_zero, Nat.div_one]
  omega

/-- The warm path after a device reset: what it records stands, and it starts. -/
theorem warmStart_afterReset {s t : State} {warm : Bool} {cause count : Nat} (h : AfterReset s warm cause count t) :
    (t.warmStart.pb F.pwrStat_VREFOK 0 true).rd .rstCause = BitVec.ofNat 32 cause ∧
      (t.warmStart.pb F.pwrStat_VREFOK 0 true).g F.dwdtStat_COUNT = min 255 count ∧
      (t.warmStart.pb F.pwrStat_VREFOK 0 true).pwr.mode = .startup ∧ (t.warmStart.pb F.pwrStat_VREFOK 0 true).pwr.warm = true := by
  refine ⟨?_, g_count_of_rd ?_, rfl, rfl⟩
  · rw [rd_pb_ne _ _ _ _ (by decide)]
    exact h.rstCause
  · rw [rd_pb_ne _ _ _ _ (by decide)]
    exact h.dwdtStat

section
variable {i : Instr} {s t u : State} {c : Prop} [Decidable c] {P : State → Prop}

/-- The outcome of a command whose condition holds. -/
theorem gives_then (h : exec i s = .next (if c then t else u)) (hc : c) (hp : P t) : Gives i s P :=
  ⟨t, h.trans (congrArg Host.Outcome.next (if_pos hc)), hp⟩

/-- The outcome of a command whose condition does not hold. -/
theorem gives_else (h : exec i s = .next (if c then t else u)) (hc : ¬c) (hp : P u) : Gives i s P :=
  ⟨u, h.trans (congrArg Host.Outcome.next (if_neg hc)), hp⟩

end

/-- RESETN going low while the device is on and out of standby (03 R75). -/
theorem exec_resetnAssert {s : State} (hoff : s.pwr.mode ≠ .off) (hsb : ∀ k, s.pwr.mode ≠ .standby k) :
    ∃ p q, exec .resetnAssert s = .next { s.deviceReset true true ((s.rd .rstCause).toNat ||| 4) (s.g F.dwdtStat_COUNT) with
      pwr := p, pins := q } ∧ p.mode = .resetLow := by
  change ∃ p q, execResetnAssert s = _ ∧ _
  unfold execResetnAssert
  split
  next e => exact absurd e hoff
  next k e => exact absurd e (hsb k)
  · exact ⟨_, _, rfl, rfl⟩

/-- Settles O8: each reset passes through `deviceReset`, with its cause and count; release of RESETN and a heartbeat reset nothing. -/
theorem resetsRecordTheirCause : Obligations.ResetsRecordTheirCause := by
  unfold Obligations.ResetsRecordTheirCause
  have hcount : ∀ s : State, min 255 (s.g F.dwdtStat_COUNT) = s.g F.dwdtStat_COUNT := fun s => by
    have := g_count_lt s
    omega
  refine ⟨fun s => ?_, fun s => ?_, fun s => ?_, fun s hoff hsb => ?_, fun s hm => ?_, fun s hm => ?_, fun s hm => ?_, fun s hm hf => ?_⟩
  · have h := afterReset_deviceReset s false false 1 0
    exact ⟨_, rfl, h.rstCause, g_count_of_rd h.dwdtStat, by rw [h.pwr], by rw [h.pwr]⟩
  · have h := afterReset_deviceReset s false false ((s.rd .rstCause).toNat ||| 2) (s.g F.dwdtStat_COUNT)
    exact ⟨_, rfl, h.rstCause.trans (ofNat_or _ 2), (g_count_of_rd h.dwdtStat).trans (hcount s), by rw [h.pwr], by rw [h.pwr]⟩
  · exact ⟨_, rfl, (afterReset_deviceReset s false false 0 0).rstCause, rfl⟩
  · have h := afterReset_deviceReset s true true ((s.rd .rstCause).toNat ||| 4) (s.g F.dwdtStat_COUNT)
    obtain ⟨p, q, he, hp⟩ := exec_resetnAssert hoff hsb
    exact gives_of he ⟨h.rstCause.trans (ofNat_or _ 4), (g_count_of_rd h.dwdtStat).trans (hcount s), hp⟩
  · exact gives_then (i := .resetnRelease) rfl (beq_iff_eq.mpr hm) ⟨rd_pb_ne _ _ _ _ (by decide), rfl, rfl, rfl⟩
  · obtain ⟨hc, hn, hp, hw⟩ := warmStart_afterReset (afterReset_deviceReset s true true ((s.rd .rstCause).toNat ||| 8)
      (s.g F.dwdtStat_COUNT + 1))
    exact gives_of (i := .deviceWatchdogReset) (if_pos (beq_iff_eq.mpr hm)) ⟨hc.trans (ofNat_or _ 8), hn, hp, hw⟩
  · obtain ⟨hc, hn, hp, hw⟩ := warmStart_afterReset (afterReset_deviceReset s true true ((s.rd .rstCause).toNat ||| 24)
      (s.g F.dwdtStat_COUNT + 1))
    exact gives_of (i := .startupOverdue) (if_pos (beq_iff_eq.mpr hm)) ⟨hc.trans (ofNat_or _ 24), hn, hp, hw⟩
  · have hrun : (s.running && s.clk.fsys) = true := by rw [State.running, hm, hf]; rfl
    exact gives_then (i := .dwdtHeartbeat) rfl hrun rfl

/-- Settles O9: the three resets leave what `deviceReset` leaves, and the last of them turns off. -/
theorem deviceResetClearsState : Obligations.DeviceResetClearsState := by
  unfold Obligations.DeviceResetClearsState
  have cleared : ∀ {s t : State} {warm : Bool} {cause count : Nat}, AfterReset s warm cause count t →
      (∀ a, a < 0xC00000 → memGet t.mem a = 0) ∧ (∀ a, 0xC00000 ≤ a → memGet t.mem a = memGet s.mem a) ∧
        t.staged = [] ∧ t.posted = [] ∧ t.rack = {} ∧ (∀ c, (t.cx c).st = .idle) ∧ t.clk.fsys = false ∧
        t.pins.intRouted = false ∧ t.pins.vcc5On = false ∧ t.pending = s.pending := fun {s t _ _ _} h => by
    refine ⟨fun a ha => ?_, fun a ha => ?_, h.staged, h.posted, h.rack, fun c => ?_, h.fsys, h.intRouted, h.vcc5On, h.pending⟩
    · rw [h.mem, memGet_mramOnly, if_neg (by omega)]
    · rw [h.mem, memGet_mramOnly, if_pos ha]
    · rw [State.cx, h.ctx]
      exact congrArg Ctx.st (cx_reset c)
  intro i hi s
  simp only [List.mem_cons, List.not_mem_nil, or_false] at hi
  rcases hi with rfl | rfl | rfl
  · exact ⟨_, rfl, cleared (afterReset_deviceReset ..)⟩
  · exact ⟨_, rfl, cleared (afterReset_deviceReset ..)⟩
  · have h := cleared (afterReset_deviceReset s false false 0 0)
    exact ⟨_, rfl, h⟩

end Sys2Proof.Machine
end

section
/-!
PROOF. The start-up sequence (02 R43, R44; 03 R68; 10 R385), with the return of fSYS (04 R113, R116).
-/

namespace Sys2Proof.Machine

/-! ### fSYS runs again (04 R113, R116) -/

/-- What the power view shows but for the word of PWR_STAT. -/
structure ButFlags (s t : State) : Prop where
  pwr : t.pwr = s.pwr
  time : t.time = s.time
  fsys : t.clk.fsys = s.clk.fsys
  pins : t.pins.driven = s.pins.driven
  lock : t.b F.clkStat_PLLLOCK = s.b F.clkStat_PLLLOCK
  words : ∀ r ∈ statusRegs, r ≠ .pwrStat → t.rd r = s.rd r
  staged : noneStaged t.staged = noneStaged s.staged

theorem ButFlags.of_pview {s t : State} (h : t.pview = s.pview) : ButFlags s t :=
  ⟨pwr_of_pview h, time_of_pview h, fsys_of_pview h, congrArg PowerView.pins h, lock_of_pview h, fun _ hr _ => rd_of_pview h hr,
    congrArg PowerView.clean h⟩

theorem ButFlags.trans {s t u : State} (a : ButFlags s t) (b : ButFlags t u) : ButFlags s u :=
  ⟨b.pwr.trans a.pwr, b.time.trans a.time, b.fsys.trans a.fsys, b.pins.trans a.pins, b.lock.trans a.lock,
    fun r hr hn => (b.words r hr hn).trans (a.words r hr hn), b.staged.trans a.staged⟩

theorem ButFlags.each {α : Type} {l : List α} {f : α → State → State} (h : ∀ a s, ButFlags s (f a s)) (s : State) :
    ButFlags s (Machine.each l f s) := by
  induction l generalizing s with
  | nil => exact .of_pview rfl
  | cons a t ih => exact (h a s).trans (ih (f a s))

/-- A write of PWR_STAT. -/
theorem ButFlags.pwrStat (s : State) (w : Word) : ButFlags s (s.wr .pwrStat 0 w) := by
  have apart : ∀ r ∈ statusRegs, r ≠ .pwrStat → r.addr 0 ≠ RegId.pwrStat.addr 0 := by decide
  refine ⟨rfl, rfl, rfl, rfl, ?_, fun r hr hn => rd_wr_ne _ _ _ _ _ _ (apart r hr hn), rfl⟩
  rw [State.b, State.b, State.g, State.g, rd_wr_ne _ _ _ _ _ _ (by decide)]

theorem pview_clkFlag (s : State) (n : Nat) : (s.clkFlag n).pview = s.pview := by
  have h : ∀ (f : Fld), f.r = .clkStat → f.lo + f.w ≤ 32 → 3 ≤ f.lo ∨ f.lo + f.w ≤ 2 → (s.flagIrq f 0 90).pview = s.pview :=
    fun f hr h32 hf => (pview_pendIrq ..).trans (pview_pb_clkStat _ _ _ hr h32 hf)
  unfold State.clkFlag
  split
  · exact h _ rfl (by decide) (by decide)
  · exact h _ rfl (by decide) (by decide)
  · exact h _ rfl (by decide) (by decide)
  · exact h _ rfl (by decide) (by decide)
  · rfl

theorem pview_takeLatched (s : State) (n chans : Nat) : (s.takeLatched n chans).pview = s.pview := by
  simp only [State.takeLatched, apply_ite State.pview, pview_endFault, pview_raiseOn, pview_clkFlag, ite_self]

/-- fSYS running again takes the flags that waited for it, and shows nothing else. -/
theorem fsysBack_shows (s : State) :
    ButFlags { s with clk := { s.clk with fsys := true, latched := [] }, pwr := { s.pwr with flags := 0 } } s.fsysBack := by
  refine (ButFlags.of_pview (pview_each (fun (p : Nat × Nat) t => pview_takeLatched t p.1 p.2) _)).trans (.each (fun k t => ?_) _)
  split
  · exact (ButFlags.pwrStat t _).trans (.of_pview (pview_pendIrq ..))
  · exact .of_pview rfl

/-! ### The start-up sequence (03 R68) -/

theorem pview_loadKeySlots (s : State) : s.loadKeySlots.pview = s.pview := by
  have hslot : ∀ (t : State) (i : Fin 4) (x : Slot), (t.setSlot i x).pview = t.pview := fun t i x =>
    (pview_wr _ _ _ _ (by decide)).trans (pview_modSec ..)
  refine pview_each (fun i t => ?_) s
  simp (disch := decide) only [apply_ite State.pview, pview_flagIrq, hslot, ite_self]

/-- What follows the lock of the PLL: key slots, proof cycles and, on the warm path, the self-calibration. -/
theorem pview_afterLock (s : State) : (if s.loadKeySlots.startProofs.pwr.vref then s.loadKeySlots.startProofs.startAdcCal
    else s.loadKeySlots.startProofs).pview = s.pview := by
  simp only [apply_ite State.pview, pview_startAdcCal, pview_startProofs, pview_loadKeySlots, ite_self]

/-- The PLL has locked: PLLLOCK, and the step of the start-up sequence. -/
def State.pllLocked (s : State) : State :=
  let s1 := s.pb F.clkStat_PLLLOCK 0 true
  { s1 with pwr := { s1.pwr with pll := true } }

theorem exec_pllLock {s : State} (hm : s.pwr.mode = .startup) (hf : s.pwr.fuses = true) (hp : s.pwr.pll = false) :
    ∃ t, exec .pllLock s = .next t ∧ t.pview = s.pllLocked.fsysBack.pview := by
  refine ⟨_, ?_, pview_afterLock _⟩
  have hc : (s.pwr.mode == .startup && s.pwr.fuses && !s.pwr.pll) = true := by simp [hm, hf, hp]
  change execPllLock s = _
  unfold execPllLock
  dsimp only
  rw [if_pos hc, State.pllLocked]

/-- The lock of the PLL in the start-up sequence. -/
theorem pllLock_gives (s : State) (hm : s.pwr.mode = .startup) (hf : s.pwr.fuses = true) (hp : s.pwr.pll = false) :
    Gives .pllLock s fun t => t.pwr.pll = true ∧ t.clk.fsys = true ∧ t.b F.clkStat_PLLLOCK = true := by
  obtain ⟨t, he, ht⟩ := exec_pllLock hm hf hp
  have hback := fsysBack_shows s.pllLocked
  refine gives_of he ⟨congrArg Pwr.pll ((pwr_of_pview ht).trans hback.pwr), (fsys_of_pview ht).trans hback.fsys, ?_⟩
  exact ((lock_of_pview ht).trans hback.lock).trans (b_pb_same s F.clkStat_PLLLOCK 0 true (by decide) rfl)

/-- The measurement of HSEL, a code of which stands even where FLT7 says that there is none. -/
theorem hselMeasurementDone_gives (s : State) (raw : Byte) (hm : s.pwr.mode = .startup) (hl : s.pwr.lfrc = true) (hh : s.pwr.hsel = false) :
    Gives (.hselMeasurementDone raw) s fun t =>
      t.g F.pinStrap_HSELRAW = raw.toNat ∧ t.g F.pinStrap_HSELCODE = (hselDecode raw.toNat).1 ∧
        t.b F.pinStrap_HSELVALID = (hselDecode raw.toNat).2 ∧ t.pwr.hsel = true ∧ t.pins.hselPull = false := by
  have hcode : (hselDecode raw.toNat).1 < 2 ^ 3 := by
    unfold hselDecode
    repeat' split
    all_goals decide
  refine gives_of (i := .hselMeasurementDone raw) (if_pos (by simp [hm, hl, hh])) ?_
  have hraise : ∀ (t : State) (b : Bool), (if b then t else t.raise 7).pview = t.pview := fun t b => by
    simp only [apply_ite State.pview, pview_raise, ite_self]
  have hpins : ∀ (t : State) (b : Bool), (if b then t else t.raise 7).pins = t.pins := fun t b => by
    simp only [apply_ite State.pins, (Quiet.raise t 7).pins, ite_self]
  refine ⟨?_, ?_, ?_, ?_, ?_⟩
  · refine (g_of_pview (hraise _ _) (by decide)).trans ?_
    exact (g_p_field _ F.pinStrap_HSELVALID F.pinStrap_HSELRAW 0 _ rfl (by decide) (by decide)).trans
      ((g_p_field _ F.pinStrap_HSELCODE F.pinStrap_HSELRAW 0 _ rfl (by decide) (by decide)).trans
        ((g_p_same s F.pinStrap_HSELRAW 0 raw.toNat (by decide)).trans (Nat.mod_eq_of_lt raw.isLt)))
  · refine (g_of_pview (hraise _ _) (by decide)).trans ?_
    exact (g_p_field _ F.pinStrap_HSELVALID F.pinStrap_HSELCODE 0 _ rfl (by decide) (by decide)).trans
      ((g_p_same _ F.pinStrap_HSELCODE 0 _ (by decide)).trans (Nat.mod_eq_of_lt hcode))
  · exact (b_of_pview (hraise _ _) (by decide)).trans (b_pb_same _ F.pinStrap_HSELVALID 0 _ (by decide) rfl)
  · exact congrArg Pwr.hsel (pwr_of_pview (hraise _ _))
  · exact congrArg Pins.hselPull (hpins _ _)

/-- Settles O10: one clause for each step, the measurement and the lock by the lemmas above. -/
theorem startUpStepsComplete : Obligations.StartUpStepsComplete := by
  unfold Obligations.StartUpStepsComplete
  refine ⟨fun s hm hl => ?_, fun s raw => hselMeasurementDone_gives s raw, fun s hm hl => ?_, fun s hm hr => ?_, fun s hm hh => ?_,
    fun s => pllLock_gives s, fun s hm hp hf hs => ?_, fun s hm hr hv => ?_⟩
  · exact gives_then (i := .lfrcStable) rfl (by simp [hm, hl]) ⟨rfl, rfl⟩
  · exact gives_then (i := .vdd11AvddInRegulation) rfl (by simp [hm, hl])
      ⟨rfl, b_pb_same s F.pwrStat_AVDDOK 0 true (by decide) rfl⟩
  · exact gives_then (i := .hfrcStable) rfl (by simp [hm, hr]) rfl
  · exact gives_then (i := .fuseLoadDone) rfl (by simp [hm, hh]) rfl
  · refine gives_of (i := .sramInitDone) (if_pos (by simp [hm, hp, hf, hs])) ⟨rfl, fun a ha => ?_, fun a ha => ?_⟩
    · exact (memGet_mramOnly s.mem a).trans (if_neg (by omega))
    · exact (memGet_mramOnly s.mem a).trans (if_pos ha)
  · refine gives_of (i := .vrefSettled) (if_pos (by simp [hm, hr, hv])) ?_
    have hcal : ∀ t : State, (if t.pwr.pll then t.startAdcCal else t).pview = t.pview := fun t => by
      simp only [apply_ite State.pview, pview_startAdcCal, ite_self]
    exact ⟨congrArg Pwr.vref (pwr_of_pview (hcal _)),
      (b_of_pview (hcal _) (by decide)).trans (b_pb_same s F.pwrStat_VREFOK 0 true (by decide) rfl)⟩

end Sys2Proof.Machine
end

section
/-!
PROOF. Supply monitors (03 R91; 18 R683): the bit that a fault sets, what following the outputs leaves of it, and a level with its flag.
-/

namespace Sys2Proof.Machine

/-! ### The bit of a fault (18 R691) -/

/-- The first word of fault bits is none of the registers that record and notify a fault, nor one of interrupts or the dispatcher. -/
theorem fltStat_zero_apart : RegId.fltStat.addr 0 / 0x1000 ∉ [0x2, 0x9] ∧ RegId.fltStat.addr 0 ∉ faultRecords ∧
    RegId.fltStat.addr 0 ≠ RegId.hearthStat.addr 0 ∧ RegId.fltStat.addr 0 ≠ RegId.fltGstat.addr 0 := by decide

theorem fltStat_fltNotify (s : State) (cls d : Nat) : (s.fltNotify cls d).rd .fltStat 0 = s.rd .fltStat 0 := by
  obtain ⟨hirq, -, hst, hg⟩ := fltStat_zero_apart
  unfold State.fltNotify
  split
  · rw [rd_flagIrq _ _ _ _ _ _ hirq, rd_pb_ne _ _ _ _ hg]
  · rw [rd_flagIrq _ _ _ _ _ _ hirq, rd_pb_ne _ _ _ _ hg]
  · exact ((IrqFrame.pendIrq ..).rd _ _ hirq).trans (rd_wr_ne _ _ _ _ _ _ hg)
  · rw [rd_flagIrq _ _ _ _ _ _ hirq, rd_pb_ne _ _ _ _ hst]

theorem rd_containDomain (s : State) (d : Nat) (r : RegId) (j : Nat) : (s.containDomain d).rd r j = s.rd r j := by
  unfold State.containDomain
  split <;> rfl

theorem fltStat_fltReact (s : State) (n : Nat) {react : Nat} (chans d : Nat) (h : react ≠ 1) :
    (s.fltReact n react chans d).rd .fltStat 0 = s.rd .fltStat 0 := by
  unfold State.fltReact
  dsimp only
  split
  · exact absurd rfl h
  · exact rd_containDomain ..
  · rfl
  · rfl

/-- A fault below 32 that is charged to D0 and contains no channel sets its bit. -/
theorem fltBit_raise {s : State} {n : Nat} (hs : s.clk.fsys = true) (hn : n < 32) (hrsv : fltRsv n = false) (hd : s.charged n = 0)
    (hr : s.fltReactOf n ≠ 1) : (s.raise n).fltBit n = true := by
  have hword : (s.raise n).rd .fltStat 0 = (s.setBits .fltStat 0 (2 ^ n)).rd .fltStat 0 := by
    have hrec := rd_faultRecords (s.setBits .fltStat 0 (2 ^ n)) n (s.fltReactOf n) (fltClass n) 5 n
      (fltClass n + 4 * s.fltReactOf n) 0 .fltStat 0 (by decide)
    have hk : n / 32 = 0 := by omega
    have hm : n % 32 = n := by omega
    simp only [State.raise, State.raiseOn, hrsv, hs, hd, hk, hm, Bool.not_true, Bool.false_eq_true, if_false]
    split
    · exact (fltStat_fltNotify ..).trans hrec
    · exact (fltStat_fltReact _ _ _ _ hr).trans ((fltStat_fltNotify ..).trans hrec)
  rw [State.fltBit, State.rbit, show n / 32 = 0 by omega, show n % 32 = n by omega, hword]
  exact rbit_setBits_same s .fltStat 0 hn

/-- A source with no channel of its own has no reaction on channels (18 R685). -/
theorem fltReactOf_ne_one (s : State) {n : Nat} (hc : fltChan n = 0) (hn : n ≠ 24) : s.fltReactOf n ≠ 1 := by
  unfold State.fltReactOf
  dsimp only
  generalize (if fltFixed n then 3 else bitsN (s.rd .fltReact (n / 16)).toNat (2 * (n % 16)) 2) = r
  by_cases hr : r = 1
  · simp [hr, hc, hn]
  · simp [hr]

/-- The sources of the supplies and of the host watchdog: faults 1 to 6. -/
theorem fltBit_raise_supply {s : State} {n : Nat} (hs : s.clk.fsys = true) (hn : n ∈ [1, 2, 3, 4, 5, 6]) :
    (s.raise n).fltBit n = true := by
  have h : n < 32 ∧ fltRsv n = false ∧ fltChan n = 0 ∧ n ≠ 24 := by
    revert n
    decide
  obtain ⟨hlt, hrsv, hc, h24⟩ := h
  have hd : s.charged n = 0 := by
    simp only [List.mem_cons, List.not_mem_nil, or_false] at hn
    rcases hn with rfl | rfl | rfl | rfl | rfl | rfl <;> rfl
  exact fltBit_raise hs hlt hrsv hd (fltReactOf_ne_one s hc h24)

/-- A level that begins sets its fault bit. -/
theorem fltBit_levelOn {s : State} {n : Nat} (hs : s.clk.fsys = true) (hn : n ∈ [1, 2, 3, 4, 5, 6])
    (hl : s.flt.level.contains n = false) : (s.levelOn n).fltBit n = true := by
  rw [State.levelOn, if_neg (by rw [hl]; decide)]
  exact fltBit_raise_supply hs hn

/-! ### Following the outputs leaves the fault bits -/

/-- The registers of the outputs that follow enables and lockouts. -/
def outRegs : List RegId := [.strOut, .strMeas, .strStat, .strEvcnt, .pwmStat, .bypState, .bypStat]

theorem outRegs_apart : ∀ r ∈ outRegs, ∀ i : Fin 6, RegId.fltStat.addr 0 ≠ r.addr i := by decide

section
variable (s : State)

theorem fltStat_p (f : Fld) (i : Fin 6) (v : Nat) (h : f.r ∈ outRegs) : (s.p f i v).rd .fltStat 0 = s.rd .fltStat 0 :=
  rd_wr_ne _ _ _ _ _ _ (outRegs_apart _ h i)

theorem fltStat_pb (f : Fld) (i : Fin 6) (v : Bool) (h : f.r ∈ outRegs) : (s.pb f i v).rd .fltStat 0 = s.rd .fltStat 0 :=
  fltStat_p _ _ _ _ h

theorem fltStat_modSt (i : Fin 6) (f : Str → Str) : (s.modSt i f).rd .fltStat 0 = s.rd .fltStat 0 := by rfl
theorem fltStat_modBy (i : Fin 6) (f : Byp → Byp) : (s.modBy i f).rd .fltStat 0 = s.rd .fltStat 0 := by rfl

theorem fltStat_countOn : s.countOn.rd .fltStat 0 = s.rd .fltStat 0 := by
  unfold State.countOn
  dsimp only
  split <;> rfl

theorem fltStat_ite (c : Prop) [Decidable c] (t u : State) :
    (if c then t else u).rd .fltStat 0 = if c then t.rd .fltStat 0 else u.rd .fltStat 0 := apply_ite (fun x : State => x.rd .fltStat 0) ..

theorem fltStat_refreshStr (dim : Bool) (i : Fin 6) : (s.refreshStr dim i).rd .fltStat 0 = s.rd .fltStat 0 := by
  simp (disch := decide) only [State.refreshStr, State.softStart, fltStat_ite, fltStat_p, fltStat_pb, fltStat_modSt, fltStat_countOn, ite_self]

theorem fltStat_refreshGate (i : Fin 6) : (s.refreshGate i).rd .fltStat 0 = s.rd .fltStat 0 := by
  simp (disch := decide) only [State.refreshGate, fltStat_ite, fltStat_pb, ite_self]

theorem fltStat_setSw (i : Fin 6) (sw : Nat) : (s.setSw i sw).rd .fltStat 0 = s.rd .fltStat 0 := by
  simp (disch := decide) only [State.setSw, fltStat_ite, fltStat_modSt, fltStat_p, fltStat_modBy, fltStat_countOn, ite_self]

theorem fltStat_refreshStack (i : Fin 6) : (s.refreshStack i).rd .fltStat 0 = s.rd .fltStat 0 := by
  simp (disch := decide) only [State.refreshStack, fltStat_ite, fltStat_setSw, fltStat_modBy, fltStat_pb, ite_self]

theorem fltStat_withGrid (g : Grid) : ({ s with grid := g } : State).rd .fltStat 0 = s.rd .fltStat 0 := by rfl

theorem fltStat_gridStop : s.gridStop.rd .fltStat 0 = s.rd .fltStat 0 := by
  rw [State.gridStop, fltStat_withGrid, State.gridBlank, fltStat_withGrid, fltStat_countOn, rd_pb_ne _ _ _ _ (by decide)]

theorem fltStat_outputs : s.outputs.rd .fltStat 0 = s.rd .fltStat 0 := by
  have hstr : ∀ (i : Fin 6) (t : State), (((t.refreshStr false i).refreshGate i).refreshStack i).rd .fltStat 0 = t.rd .fltStat 0 :=
    fun i t => by rw [fltStat_refreshStack, fltStat_refreshGate, fltStat_refreshStr]
  have hgrid : ∀ t : State, t.refreshGrid.rd .fltStat 0 = t.rd .fltStat 0 := fun t => by
    simp only [State.refreshGrid, fltStat_ite, fltStat_gridStop, ite_self]
  have hall := (hgrid _).trans (each_keeps (fun t : State => t.rd .fltStat 0) strs _ s hstr)
  unfold State.outputs
  dsimp only
  split <;> exact hall

theorem fltBit_outputs {n : Nat} (hn : n < 32) : s.outputs.fltBit n = s.fltBit n := by
  rw [State.fltBit, State.fltBit, State.rbit, State.rbit, show n / 32 = 0 by omega, fltStat_outputs]

end

/-! ### A supply level with its flag (03 R91) -/

theorem flt_pendIrq (s : State) (n : Nat) : (s.pendIrq n).flt = s.flt := by
  have hfire : ∀ (i evt : Nat) (src : Option Nat) (data : Word) (t : State), (t.fireEntry i evt src data).flt = t.flt := by
    intro i evt src data t
    unfold State.fireEntry
    dsimp only
    repeat' split
    all_goals rfl
  have hwake : ∀ (t : State) (kind sel : Nat) (d : Option Nat), (t.evWake kind sel d).flt = t.flt := fun t kind sel d =>
    each_keeps State.flt _ _ t fun c u => by
      split
      · split <;> rfl
      · rfl
  unfold State.pendIrq
  split
  · rfl
  split
  · rfl
  · exact (hwake ..).trans (each_keeps State.flt _ _ _ fun _ _ => hfire ..)

/-- A one-bit field of the same register apart from one that is written. -/
theorem b_pb_field (s : State) {f f' : Fld} (i : Nat) (v : Bool) (hr : f'.r = f.r) (h32 : f.lo + f.w ≤ 32)
    (h : f'.lo + f'.w ≤ f.lo ∨ f.lo + f.w ≤ f'.lo) : (s.pb f i v).b f' i = s.b f' i := by
  rw [State.b, State.b, State.pb, g_p_field s f f' i _ hr h32 h]

/-- Fields of PWR_STAT after its flag is set with the interrupt. -/
theorem b_flagIrq_pwrStat (s : State) {f : Fld} (irq : Nat) {f' : Fld} (hf : f'.r = .pwrStat) :
    (s.flagIrq f 0 irq).b f' = (s.pb f 0 true).b f' := by
  rw [State.b, State.b, State.g, State.g, rd_flagIrq _ _ _ _ _ _ (by rw [hf]; decide)]

/-- What a supply flag leaves: itself set where it may be, and every other field of PWR_STAT. -/
theorem supplyFlag_b (s : State) {flag f : Fld} (hr : flag.r = .pwrStat) (h32 : flag.lo + flag.w ≤ 32) (hf : f.r = .pwrStat)
    (h : f.lo + f.w ≤ flag.lo ∨ flag.lo + flag.w ≤ f.lo) : (s.supplyFlag flag).b f = s.b f := by
  unfold State.supplyFlag
  split
  · rw [b_flagIrq_pwrStat s 89 hf, b_pb_field s 0 true (hf.trans hr.symm) h32 h]
  · split <;> rfl

theorem supplyFlag_set (s : State) {flag : Fld} (hr : flag.r = .pwrStat) (h32 : flag.lo + flag.w ≤ 32) (hw : flag.w = 1)
    (hm : s.pwr.mode = .run) (hs : s.clk.fsys = true) : (s.supplyFlag flag).b flag = true := by
  rw [State.supplyFlag, if_pos (by simp [State.running, hm, hs]), b_flagIrq_pwrStat s 89 hr, b_pb_same s flag 0 true h32 hw]

theorem supplyFlag_wait (s : State) (flag : Fld) (hm : s.pwr.mode = .run) (hs : s.clk.fsys = false) :
    s.supplyFlag flag = { s with pwr := { s.pwr with flags := s.pwr.flags ||| 2 ^ flag.lo } } := by
  rw [State.supplyFlag, if_neg (by simp [hs]), if_pos (by simp [State.running, hm])]

theorem supplyFlag_clk (s : State) (flag : Fld) : (s.supplyFlag flag).clk = s.clk := by
  unfold State.supplyFlag
  split
  · exact flagIrq_clk ..
  · split <;> rfl

theorem supplyFlag_flt (s : State) (flag : Fld) : (s.supplyFlag flag).flt = s.flt := by
  unfold State.supplyFlag
  split
  · exact flt_pendIrq ..
  · split <;> rfl

theorem supplyFlag_pins (s : State) (flag : Fld) : (s.supplyFlag flag).pins = s.pins := by
  unfold State.supplyFlag
  split
  · exact (Quiet.flagIrq ..).pins
  · split <;> rfl

/-- A supply level that changes, with its flag. -/
def State.supplyChange (s : State) (level flag : Fld) (v : Bool) : State := (s.pb level 0 v).supplyFlag flag

/-- The levels of the supplies with their flags. -/
def supplyPairs : List (Fld × Fld) :=
  [(F.pwrStat_VBATLOW, F.pwrStat_VBATLOWF), (F.pwrStat_VBATHI, F.pwrStat_VBATHIF), (F.pwrStat_AVDDOK, F.pwrStat_AVDDF)]

theorem supplyPairs_apart : ∀ p ∈ supplyPairs, p.1.r = .pwrStat ∧ p.2.r = .pwrStat ∧ p.1.w = 1 ∧ p.2.w = 1 ∧ p.1.lo + p.1.w ≤ p.2.lo ∧
    p.2.lo + p.2.w ≤ 32 := by decide

theorem supplyChange_gives (s : State) {level flag : Fld} (v : Bool) (h : (level, flag) ∈ supplyPairs) :
    (s.supplyChange level flag v).b level = v ∧
      (s.pwr.mode = .run → s.clk.fsys = true → (s.supplyChange level flag v).b flag = true) := by
  obtain ⟨hl, hf, hlw, hfw, hle, h32⟩ := supplyPairs_apart _ h
  dsimp only at hl hf hlw hfw hle h32
  refine ⟨?_, fun hm hs => supplyFlag_set _ hf h32 hfw hm hs⟩
  rw [State.supplyChange, supplyFlag_b _ hf h32 hl (.inl hle), b_pb_same s level 0 v (by omega) hlw]

theorem supplyChange_clk (s : State) (level flag : Fld) (v : Bool) : (s.supplyChange level flag v).clk = s.clk := supplyFlag_clk ..
theorem supplyChange_flt (s : State) (level flag : Fld) (v : Bool) : (s.supplyChange level flag v).flt = s.flt := supplyFlag_flt ..

/-- The level of a fault follows a supply. -/
def State.follow (s : State) (on : Bool) (n : Nat) : State := if on then s.levelOn n else s.levelOff n

theorem pview_follow (s : State) (on : Bool) (n : Nat) : (s.follow on n).pview = s.pview := by
  simp only [State.follow, apply_ite State.pview, pview_levelOn, pview_levelOff, ite_self]

/-- A change of a battery level. -/
theorem batteryChange_gives (s : State) {level flag : Fld} (v : Bool) {n : Nat} (h : (level, flag) ∈ supplyPairs)
    (hn : n ∈ [1, 2, 3, 4, 5, 6]) (hs : s.clk.fsys = true) (hl : s.flt.level.contains n = false) :
    ((s.supplyChange level flag v).follow v n).b level = v ∧
      (s.pwr.mode = .run → ((s.supplyChange level flag v).follow v n).b flag = true) ∧
      (v = true → ((s.supplyChange level flag v).follow v n).fltBit n = true) := by
  obtain ⟨hlev, hflag⟩ := supplyChange_gives s v h
  have hmem : level.r ∈ statusRegs ∧ flag.r ∈ statusRegs := by
    obtain ⟨hl, hf, -⟩ := supplyPairs_apart _ h
    rw [show level.r = .pwrStat from hl, show flag.r = .pwrStat from hf]
    decide
  refine ⟨(b_of_pview (pview_follow ..) hmem.1).trans hlev, fun hm => (b_of_pview (pview_follow ..) hmem.2).trans (hflag hm hs), ?_⟩
  rintro rfl
  exact fltBit_levelOn (by rw [supplyChange_clk, hs]) hn (by rw [supplyChange_flt, hl])

/-! ### The five supplies -/

theorem exec_vbatLowChange {s : State} {low : Bool} (h : s.b F.pwrStat_VBATLOW ≠ low) :
    exec (.vbatLowChange low) s = .next ((s.supplyChange F.pwrStat_VBATLOW F.pwrStat_VBATLOWF low).follow low 2) :=
  if_neg (by simpa using h)

theorem exec_vbatHighChange {s : State} {high : Bool} (h : s.b F.pwrStat_VBATHI ≠ high) :
    exec (.vbatHighChange high) s = .next ((s.supplyChange F.pwrStat_VBATHI F.pwrStat_VBATHIF high).follow high 3) :=
  if_neg (by simpa using h)

/-- VBATLOW while fSYS is stopped: its flag waits (log 58). -/
theorem vbatLowChange_stopped (s : State) (low : Bool) (h : s.b F.pwrStat_VBATLOW ≠ low) (hs : s.clk.fsys = false)
    (hm : s.pwr.mode = .run) : Gives (.vbatLowChange low) s fun t =>
      t.b F.pwrStat_VBATLOW = low ∧ t.b F.pwrStat_VBATLOWF = s.b F.pwrStat_VBATLOWF ∧ bitN t.pwr.flags F.pwrStat_VBATLOWF.lo = true := by
  have hw := supplyFlag_wait (s.pb F.pwrStat_VBATLOW 0 low) F.pwrStat_VBATLOWF hm hs
  refine gives_of (exec_vbatLowChange h) ⟨?_, ?_, ?_⟩
  · exact (b_of_pview (pview_follow ..) (by decide)).trans (supplyChange_gives s low (by decide)).1
  · refine (b_of_pview (pview_follow ..) (by decide)).trans ?_
    rw [State.supplyChange, hw]
    exact b_pb_field s 0 low rfl (by decide) (by decide)
  · rw [pwr_of_pview (pview_follow ..), State.supplyChange, hw, bitN_eq_testBit]
    exact (Nat.testBit_or ..).trans (by rw [Nat.testBit_two_pow_self, Bool.or_true])

/-- VCC5OK takes a value after it has once been good. -/
theorem vcc5Set_gives (s : State) (ok : Bool) (hseen : s.pwr.vcc5Seen = true) (hm : s.pwr.mode = .run) (hs : s.clk.fsys = true)
    (hl : s.flt.level.contains 4 = false) :
    (s.vcc5Set ok).b F.pwrStat_VCC5OK = ok ∧ (s.vcc5Set ok).b F.pwrStat_VCC5F = true ∧
      (ok = false → (s.vcc5Set ok).fltBit 4 = true) := by
  obtain ⟨u, hu, huv⟩ : ∃ u : State, u = State.supplyFlag { s.pb F.pwrStat_VCC5OK 0 ok with
      pwr := { s.pwr with vcc5Seen := s.pwr.vcc5Seen || (ok && s.running) } } F.pwrStat_VCC5F ∧
      s.vcc5Set ok = (if ok then u.levelOff 4 else u.levelOn 4).outputs := by
    refine ⟨_, rfl, ?_⟩
    unfold State.vcc5Set
    dsimp only
    rw [if_pos hseen, if_pos hseen]
    rfl
  have hview : (s.vcc5Set ok).pview = u.pview := by
    simp only [huv, pview_outputs, apply_ite State.pview, pview_levelOff, pview_levelOn, ite_self]
  refine ⟨?_, ?_, ?_⟩
  · rw [b_of_pview hview (by decide), hu, supplyFlag_b _ rfl (by decide) rfl (by decide)]
    exact b_pb_same s F.pwrStat_VCC5OK 0 ok (by decide) rfl
  · rw [b_of_pview hview (by decide), hu]
    exact supplyFlag_set _ rfl (by decide) rfl hm hs
  · rintro rfl
    rw [huv, fltBit_outputs _ (by decide)]
    exact fltBit_levelOn (by rw [hu, supplyFlag_clk]; exact hs) (by decide) (by rw [hu, supplyFlag_flt]; exact hl)

theorem avddChange_gives (s : State) (ok : Bool) (h : s.b F.pwrStat_AVDDOK ≠ ok) (hm : s.pwr.mode = .run) (hs : s.clk.fsys = true)
    (hl : s.flt.level.contains 6 = false) : Gives (.avddChange ok) s fun t =>
      t.b F.pwrStat_AVDDOK = ok ∧ t.b F.pwrStat_AVDDF = true ∧ (ok = false → t.fltBit 6 = true) := by
  have he : exec (.avddChange ok) s = .next ((s.supplyChange F.pwrStat_AVDDOK F.pwrStat_AVDDF ok).follow (!ok) 6) := by
    change execAvddChange ok s = _
    unfold execAvddChange
    rw [if_neg (by simp [h, State.asleep, hm])]
    cases ok
    · simp [State.follow, State.supplyChange, State.running, hm]
    · rfl
  obtain ⟨hlev, hflag⟩ := supplyChange_gives s (level := F.pwrStat_AVDDOK) (flag := F.pwrStat_AVDDF) ok (by decide)
  refine gives_of he ⟨(b_of_pview (pview_follow ..) (by decide)).trans hlev,
    (b_of_pview (pview_follow ..) (by decide)).trans (hflag hm hs), ?_⟩
  rintro rfl
  exact fltBit_levelOn (by rw [supplyChange_clk, hs]) (by decide) (by rw [supplyChange_flt, hl])

theorem vddioLoss_gives (s : State) (hv : s.pins.vddio = true) (hm : s.pwr.mode = .run) (hs : s.clk.fsys = true)
    (hl : s.flt.level.contains 5 = false) : Gives .vddioLoss s fun t =>
      t.pins.vddio = false ∧ t.pins.hen = true ∧ t.pins.tripn = true ∧ t.b F.pwrStat_VDDIOF = true ∧ t.fltBit 5 = true := by
  refine gives_of (i := .vddioLoss) (if_pos hv) ?_
  have hpins : ∀ u : State, (((u.supplyFlag F.pwrStat_VDDIOF).levelOn 5).hearthCause).pins = u.pins := fun u =>
    ((Quiet.levelOn ..).trans (.hearthCause _)).pins.trans (supplyFlag_pins ..)
  have hflag : ∀ u : State, u.pwr.mode = .run → u.clk.fsys = true →
      (((u.supplyFlag F.pwrStat_VDDIOF).levelOn 5).hearthCause).b F.pwrStat_VDDIOF = true := fun u hm hs =>
    (b_of_pview ((pview_hearthCause _).trans (pview_levelOn ..)) (by decide)).trans (supplyFlag_set u rfl (by decide) rfl hm hs)
  have hbit : ∀ u : State, u.clk.fsys = true → u.flt.level.contains 5 = false →
      (((u.supplyFlag F.pwrStat_VDDIOF).levelOn 5).hearthCause).fltBit 5 = true := fun u hs hl =>
    fltBit_levelOn (s := u.supplyFlag F.pwrStat_VDDIOF) (by rw [supplyFlag_clk, hs]) (by decide) (by rw [supplyFlag_flt, hl])
  exact ⟨congrArg Pins.vddio (hpins _), congrArg Pins.hen (hpins _), congrArg Pins.tripn (hpins _), hflag _ hm hs, hbit _ hs hl⟩

theorem vddioGood_gives (s : State) (hv : s.pins.vddio = false) (hm : s.pwr.mode = .run) (hs : s.clk.fsys = true) :
    Gives .vddioGood s fun t => t.pins.vddio = true ∧ t.b F.pwrStat_VDDIOF = true := by
  refine gives_of (i := .vddioGood) (if_neg (by simp [hv])) ⟨?_, ?_⟩
  · exact congrArg Pins.vddio ((Quiet.levelOff ..).pins.trans (supplyFlag_pins ..))
  · exact (b_of_pview (pview_levelOff ..) (by decide)).trans (supplyFlag_set _ rfl (by decide) rfl hm hs)

/-- Settles O12: one clause for each supply, VBATLOW also while fSYS is stopped. -/
theorem supplyChangesAreReported : Obligations.SupplyChangesAreReported := by
  refine ⟨fun s low h hs hl => ?_, vbatLowChange_stopped, fun s high h hs hl => ?_, fun s ok h hseen hv hm hs hl => ?_, avddChange_gives,
    vddioLoss_gives, vddioGood_gives⟩
  · exact gives_of (exec_vbatLowChange h) (batteryChange_gives s low (by decide) (by decide) hs hl)
  · exact gives_of (exec_vbatHighChange h) (batteryChange_gives s high (by decide) (by decide) hs hl)
  · exact gives_else (i := .vcc5UvChange ok) rfl (by simp [h, hv]) (vcc5Set_gives s ok hseen hm hs hl)

end Sys2Proof.Machine
end

section
/-!
PROOF. Standby (03 R82, R83): the verdict on a command word, the entry and its timeout.
-/

namespace Sys2Proof.Machine

/-! ### The power command (03 R82) -/

/-- The word of PWR_CMD that asks for a standby state. -/
def standbyWord : Standby → Nat
  | .deep => 0xC701
  | .retention => 0xC702
  | .network => 0xC703

/-- The instruction that writes it. -/
def standbyInstr (p : Port) (d : Dom) : Standby → Instr
  | .deep => .deepStandby p d
  | .retention => .retentionStandby p d
  | .network => .networkWakeStandby p d

theorem exec_standbyInstr (p : Port) (d : Dom) (k : Standby) (s : State) :
    exec (standbyInstr p d k) s = s.writeReg p d .pwrCmd 0 (standbyWord k) := by
  cases k <;> rfl

/-- The REFUSE code of the first reason to refuse a standby state (03 R82; 04 R112; log 62); none where there is no reason. -/
def State.standbyRefusal (s : State) (p : Port) (k : Standby) : Option Nat :=
  if s.b F.clkStat_AONBK then some 6
  else if s.hearthOn || s.hearth.due || s.anyEnabled then some 2
  else if s.wakeActive p k then some 3
  else if k = .network && s.b F.netStat_COORD then some 4
  else none

/-- The command with its key is refused for that reason, or asks for its state. -/
theorem pwrCommand_standbyWord (s : State) (p : Port) (k : Standby) : s.pwrCommand p (standbyWord k) =
    (s.standbyRefusal p k).elim { s with pwr := { s.pwr with entry := some k } } s.refuse := by
  have hcmd : s.pwrCommand p (standbyWord k) =
      if s.b F.clkStat_AONBK then s.refuse 6
      else if s.hearthOn || s.hearth.due || s.anyEnabled then s.refuse 2
      else if s.wakeActive p k then s.refuse 3
      else if k = .network && s.b F.netStat_COORD then s.refuse 4
      else { s with pwr := { s.pwr with entry := some k } } := by
    cases k <;> rfl
  rw [hcmd, State.standbyRefusal]
  split_ifs <;> rfl

/-- An accepted standby command, but for what the access leaves in the records of its cycle. -/
theorem exec_standby {s : State} {p : Port} {d : Dom} {k : Standby} (h : s.accepts p d .pwrCmd 0 (standbyWord k) = true) :
    ∃ c m l, exec (standbyInstr p d k) s =
      .next (State.result { State.pwrCommand { s with cyc := c, parityBad := m } p (standbyWord k) with staged := l } p 0 0) := by
  have hc : plainCommand .pwrCmd 0 (standbyWord k) = true := by cases k <;> decide
  have hd : decode (RegId.pwrCmd.addr 0) true = .reg .reg .pwrCmd 0 := by decide
  obtain ⟨c, hcyc⟩ := noteWrite_eq (s.unmarked .pwrCmd 0) s p d .pwrCmd 0 .reg (standbyWord k)
  obtain ⟨l, hl⟩ := loose_eq (((s.unmarked .pwrCmd 0).noteWrite s p d .pwrCmd 0 .reg (standbyWord k)).onWrite s p d (RegId.pwrCmd.addr 0)
    .pwrCmd 0 .reg (standbyWord k) (s.rd .pwrCmd 0).toNat true) s p
  refine ⟨c, (s.unmarked .pwrCmd 0).parityBad, l, ?_⟩
  rw [exec_standbyInstr, writeReg_command s p d .pwrCmd 0 _ h hd (by decide) (by decide) hc, hl, hcyc]
  rfl

/-- The port reports an access done that the result of a command records. -/
theorem done_result (s : State) (p : Port) (data : Nat) : (s.result p 0 data).done p = true := by
  simp [State.done, State.result, kvD]

theorem standby_accepted {s : State} {p : Port} {d : Dom} {k : Standby} (h : s.accepts p d .pwrCmd 0 (standbyWord k) = true)
    (hk : s.standbyRefusal p k = none) : Gives (standbyInstr p d k) s fun t => t.pwr.entry = some k ∧ t.done p = true := by
  obtain ⟨c, m, l, he⟩ := exec_standby h
  have hk' : State.standbyRefusal { s with cyc := c, parityBad := m } p k = none := hk
  rw [pwrCommand_standbyWord, hk'] at he
  exact gives_of he ⟨rfl, done_result ..⟩

theorem standby_refused {s : State} {p : Port} {d : Dom} {k : Standby} {n : Nat}
    (h : s.accepts p d .pwrCmd 0 (standbyWord k) = true) (he : s.pwr.entry = none) (hk : s.standbyRefusal p k = some n) (hn : n < 8) :
    Gives (standbyInstr p d k) s fun t => t.pwr.entry = none ∧ t.g F.pwrStat_REFUSE = n := by
  obtain ⟨c, m, l, hx⟩ := exec_standby h
  have hk' : State.standbyRefusal { s with cyc := c, parityBad := m } p k = some n := hk
  rw [pwrCommand_standbyWord, hk'] at hx
  exact gives_of hx ⟨he, (g_p_same _ F.pwrStat_REFUSE 0 n (by decide)).trans (Nat.mod_eq_of_lt hn)⟩

/-! ### Standby entry (03 R83) -/

/-- AVDDOK after bits 4 to 6 of PWR_STAT are cleared. -/
theorem avddok_clrBits (s : State) : (s.clrBits .pwrStat 0 (7 * 2 ^ 4)).b F.pwrStat_AVDDOK = false := by
  have hbit : (s.rd .pwrStat &&& ~~~ BitVec.ofNat 32 (7 * 2 ^ 4)).toNat.testBit 5 = false := by
    rw [BitVec.testBit_toNat, BitVec.getLsbD_and, show (~~~ BitVec.ofNat 32 (7 * 2 ^ 4)).getLsbD 5 = false by decide, Bool.and_false]
  rw [State.b, State.g, State.clrBits, show F.pwrStat_AVDDOK.r = .pwrStat from rfl, rd_wr_same, beq_eq_false_iff_ne]
  intro h1
  rw [Nat.testBit_eq_decide_div_mod_eq] at hbit
  exact absurd h1 (by simpa [bitsN, F.pwrStat_AVDDOK] using hbit)

/-- Standby entry stops the PLL, and the levels of the supplies that it switches off end (03 R63, R83). -/
def State.stopClocks (s : State) : State :=
  (((s.pb F.clkStat_PLLLOCK 0 false).pb F.clkStat_REFACT 0 false).pb F.clkStat_SLEWING 0 false).clrBits .pwrStat 0 (7 * 2 ^ 4)

theorem pllLock_stopClocks (s : State) : s.stopClocks.b F.clkStat_PLLLOCK = false := by
  have hclr : ∀ t : State, (t.clrBits .pwrStat 0 (7 * 2 ^ 4)).b F.clkStat_PLLLOCK = t.b F.clkStat_PLLLOCK := fun t => by
    rw [State.b, State.b, State.g, State.g, State.clrBits, rd_wr_ne _ _ _ _ _ _ (by decide)]
  have hfld : ∀ (t : State) (f : Fld), f.r = .clkStat → f.lo + f.w ≤ 32 → 3 ≤ f.lo ∨ f.lo + f.w ≤ 2 →
      (t.pb f 0 false).b F.clkStat_PLLLOCK = t.b F.clkStat_PLLLOCK := fun t f hr h32 hlo =>
    b_pb_field t 0 false hr.symm h32 hlo
  rw [State.stopClocks, hclr, hfld _ F.clkStat_SLEWING rfl (by decide) (by decide), hfld _ F.clkStat_REFACT rfl (by decide) (by decide)]
  exact b_pb_same s F.clkStat_PLLLOCK 0 false (by decide) rfl

/-- Standby entry with nothing in flight and no hearth entry due. -/
theorem exec_standbyEntry {s : State} {k : Standby} (he : s.pwr.entry = some k) (hm : s.pwr.mode = .run) (hq : s.quiet = true)
    (hh : s.hearthOn = false) (hd : s.hearth.due = false) :
    ∃ p c q, exec .standbyEntry s = .next (State.outputs { s.standbyEnds.phyStop.stopClocks with pwr := p, clk := c, pins := q }) ∧
      p.mode = .standby k ∧ p.entry = none ∧ c.fsys = false ∧ q.intRouted = false ∧ q.vcc5On = false := by
  change ∃ p c q, execStandbyEntry s = _ ∧ _
  unfold execStandbyEntry
  rw [he]
  dsimp only
  rw [if_neg (by simp [State.running, hm, hq]), if_neg (by simp [hh, hd])]
  exact ⟨_, _, _, rfl, rfl, rfl, rfl, rfl, rfl⟩

theorem standbyEntry_gives (s : State) (k : Standby) (he : s.pwr.entry = some k) (hm : s.pwr.mode = .run) (hq : s.quiet = true)
    (hh : s.hearthOn = false) (hd : s.hearth.due = false) : Gives .standbyEntry s fun t =>
      t.pwr.mode = .standby k ∧ t.pwr.entry = none ∧ t.clk.fsys = false ∧ t.pins.intRouted = false ∧ t.pins.vcc5On = false ∧
        t.b F.clkStat_PLLLOCK = false ∧ t.b F.pwrStat_AVDDOK = false := by
  obtain ⟨p, c, q, hx, hmode, hentry, hfsys, hint, hvcc⟩ := exec_standbyEntry he hm hq hh hd
  have hout := pview_outputs { s.standbyEnds.phyStop.stopClocks with pwr := p, clk := c, pins := q }
  exact gives_of hx ⟨(congrArg Pwr.mode (pwr_of_pview hout)).trans hmode, (congrArg Pwr.entry (pwr_of_pview hout)).trans hentry,
    (fsys_of_pview hout).trans hfsys, (intRouted_of_pview hout).trans hint, (vcc5On_of_pview hout).trans hvcc,
    (lock_of_pview hout).trans (pllLock_stopClocks _), (b_of_pview hout (by decide)).trans (avddok_clrBits _)⟩

/-- Settles O14: the verdict on the command word, the entry, and its timeout. -/
theorem standbyCommandsComplete : Obligations.StandbyCommandsComplete := by
  unfold Obligations.StandbyCommandsComplete
  refine ⟨fun s p d h hh hd ha hb hw => ?_, fun s p d h hh hd ha hb hw => ?_, fun s p d h hh hd ha hc hb hw => ?_, standbyEntry_gives,
    fun s k he => ?_, fun s p d h he hb hor => ?_, fun s p d h he hh hd ha hb hw => ?_, fun s p d h he hh hd ha hb hw hc => ?_,
    fun s p d h he hb => ?_⟩
  · exact standby_accepted (k := .deep) h (by simp [State.standbyRefusal, hh, hd, ha, hb, hw])
  · exact standby_accepted (k := .retention) h (by simp [State.standbyRefusal, hh, hd, ha, hb, hw])
  · exact standby_accepted (k := .network) h (by simp [State.standbyRefusal, hh, hd, ha, hb, hw, hc])
  · refine gives_then (i := .standbyEntryTimeout) rfl (by rw [he]; rfl) ⟨rfl, ?_⟩
    refine (g_p_same _ F.pwrStat_REFUSE 0 _ (by decide)).trans (Nat.mod_eq_of_lt ?_)
    split <;> decide
  · have hany : (s.hearthOn || s.hearth.due || s.anyEnabled) = true := by
      rcases hor with h | h | h <;> simp [h]
    exact standby_refused (k := .deep) h he (by rw [State.standbyRefusal, hb, hany]; rfl) (by decide)
  · exact standby_refused (k := .deep) h he (by simp [State.standbyRefusal, hh, hd, ha, hb, hw]) (by decide)
  · exact standby_refused (k := .network) h he (by simp [State.standbyRefusal, hh, hd, ha, hb, hw, hc]) (by decide)
  · exact standby_refused (k := .retention) h he (by simp [State.standbyRefusal, hb]) (by decide)

end Sys2Proof.Machine
end

section
/-!
PROOF. Writes of the host watchdog (03 R77, R78): service and configuration through the access of a port.
-/

namespace Sys2Proof.Machine

/-! ### Events of the register model (06 R231, R232) leave the power view -/

theorem regEvents_off : ∀ d : Fin 4, offView (RegId.regStat.addr d) = true ∧ offView (RegId.regCap.addr d) = true := by decide

theorem pview_regEvent (s : State) {d : Nat} {flag : Fld} (port addr kind : Nat) (hd : d < 4) (hf : flag.r = .regStat) :
    (s.regEvent d flag port addr kind).pview = s.pview := by
  obtain ⟨hstat, hcap⟩ := regEvents_off ⟨d, hd⟩
  have hpb : ∀ (t : State) (f : Fld), f.r = .regStat → (t.pb f d true).pview = t.pview := fun t f h =>
    pview_wr_off t _ (by rw [h]; exact hstat)
  have hwr : ∀ (t : State) (w : Word), (t.wr .regCap d w).pview = t.pview := fun t w => pview_wr_off t w hcap
  simp only [State.regEvent, pview_pendIrq, apply_ite State.pview, hwr, hpb _ F.regStat_CAPOVF rfl, hpb _ _ hf, ite_self]

/-- What a write leaves before it takes effect: the power view and the tick of the state before. -/
structure Ready (s t : State) : Prop where
  pview : t.pview = s.pview
  tick : t.tick = s.tick

theorem Ready.trans {s t u : State} (a : Ready s t) (b : Ready t u) : Ready s u := ⟨b.pview.trans a.pview, b.tick.trans a.tick⟩

theorem Ready.regEvent (s : State) {d : Nat} {flag : Fld} (port addr kind : Nat) (hd : d < 4) (hf : flag.r = .regStat) :
    Ready s (s.regEvent d flag port addr kind) := ⟨pview_regEvent s port addr kind hd hf, (Quiet.regEvent ..).tick⟩

theorem evDom_lt (p : Port) (d : Dom) : evDom p d < 4 := by
  unfold evDom
  split <;> omega

/-- Reserved bits written as 1 are recorded. -/
theorem Ready.reserved (s : State) (p : Port) (d : Dom) (a : Nat) (b : Bool) : Ready s (if b then s.rsvw (evDom p d) p.code a else s) := by
  split
  · exact .regEvent s _ _ _ (evDom_lt p d) rfl
  · exact ⟨rfl, rfl⟩

theorem Ready.unmarked (s : State) (r : RegId) (i : Nat) : Ready s (s.unmarked r i) := ⟨rfl, rfl⟩

theorem Ready.noteWrite (s old : State) (p : Port) (d : Nat) (r : RegId) (i w : Nat) : Ready s (s.noteWrite old p d r i .reg w) := ⟨rfl, rfl⟩

/-- A register whose fields take their values at once waits for no boundary. -/
theorem bakeNow_immediate (s : State) (p : Port) {r : RegId} (i : Nat) (h : r.fields.all (fun f => f.bake == .i) = true) :
    s.bakeNow p r i = s := by
  have hbake : ∀ c, c ≠ Bake.i → r.fields.any (fun f => f.bake == c) = false := fun c hc => by
    rw [List.any_eq_false]
    intro f hf
    rw [beq_iff_eq.mp (List.all_eq_true.mp h f hf)]
    simp [hc.symm]
  simp [State.bakeNow, hbake .p (by decide), hbake .f (by decide), hbake .k (by decide)]

/-! ### Service (03 R77) -/

theorem onWrite_hwdtSvc (s old : State) (p : Port) (d a i : Nat) (v : View) (w nw : Nat) (cmd : Bool) :
    s.onWrite old p d a .hwdtSvc i v w nw cmd = s.hwService p (w % 256) := rfl

theorem onWrite_hwdtCfg (s old : State) (p : Port) (d a i : Nat) (v : View) (w nw : Nat) (cmd : Bool) :
    s.onWrite old p d a .hwdtCfg i v w nw cmd = if bitN nw 16 && !bitN (old.rd .hwdtCfg i).toNat 16 then s.hwStart else s := rfl

/-- An accepted write of HWDT_SVC serves with its code; what else it carries is recorded at most. -/
theorem applyReg_hwdtSvc (s : State) (p : Port) (d : Dom) (a w : Nat) :
    ∃ z, s.applyReg p d a .hwdtSvc 0 .reg w = z.hwService p (w % 256) ∧ Ready s z := by
  have hw := writeField_wo s p d .hwdtSvc 0 w { word := (s.rd .hwdtSvc).toNat, st := s.staged } (effFields .hwdtSvc 0) rfl
  refine ⟨_, ?_, (((Ready.unmarked s .hwdtSvc 0).trans (.reserved _ p d a (reservedOnes .reg (effFields .hwdtSvc 0) w))).trans
    (.noteWrite _ s p d .hwdtSvc 0 w))⟩
  unfold State.applyReg
  dsimp only
  rw [bakeNow_immediate _ _ _ (by decide), onWrite_hwdtSvc]
  simp [isLive, hw, isHeldHi, each, State.unmarked]

theorem exec_hwdtSvcWrite {s : State} {p : Port} {d : Dom} {w : Word} (h : s.accepts p d .hwdtSvc 0 w.toNat = true) :
    ∃ z l, exec (.hwdtSvcWrite p d w) s = .next (State.result { z.hwService p (w.toNat % 256) with staged := l } p 0 0) ∧ Ready s z := by
  obtain ⟨z, hz, hr⟩ := applyReg_hwdtSvc s p d (RegId.hwdtSvc.addr 0) w.toNat
  obtain ⟨l, hl⟩ := loose_eq (z.hwService p (w.toNat % 256)) s p
  refine ⟨z, l, ?_, hr⟩
  have hx := writeCmd_accepts s p d .hwdtSvc 0 w.toNat h (by decide) (by decide) (by decide)
  rw [hz, hl] at hx
  exact hx

theorem hwdtService_gives (s : State) (p : Port) (d : Dom) (w : Word) (h : s.accepts p d .hwdtSvc 0 w.toNat = true)
    (hcode : w.toNat % 256 = 0xC3) (hp : p = .spi ∨ p = .net) (hen : s.b F.hwdtCfg_EN = true) : Gives (.hwdtSvcWrite p d w) s fun t =>
      t.pwr.hwRun = true ∧ t.pwr.hwStart = s.tick ∧ t.pwr.hwMs = s.g F.hwdtCfg_TIMEOUT ∧ t.done p = true := by
  obtain ⟨z, l, hx, hz⟩ := exec_hwdtSvcWrite h
  have hport : ((p = .spi || p = .net) && z.b F.hwdtCfg_EN) = true := by
    rw [b_of_pview hz.pview (by decide), hen]
    rcases hp with rfl | rfl <;> rfl
  rw [State.hwService, if_pos hcode, if_pos hport] at hx
  exact gives_of hx ⟨rfl, hz.tick, g_of_pview hz.pview (by decide), done_result ..⟩

theorem hwdtBadService_gives (s : State) (p : Port) (d : Dom) (w : Word) (h : s.accepts p d .hwdtSvc 0 w.toNat = true)
    (hcode : w.toNat % 256 ≠ 0xC3) : Gives (.hwdtSvcWrite p d w) s fun t =>
      t.b F.hwdtStat_BADSVC = true ∧ t.fltBit 1 = true ∧ t.pwr.hwStart = s.pwr.hwStart := by
  obtain ⟨z, l, hx, hz⟩ := exec_hwdtSvcWrite h
  have hclk : s.clk.fsys = true := by
    obtain ⟨hlive, -⟩ := (accepts_iff ..).mp h
    exact (Bool.and_eq_true_iff.mp hlive).2
  rw [State.hwService, if_neg hcode] at hx
  refine gives_of hx ⟨?_, ?_, ?_⟩
  · refine (b_of_pview (pview_raise (z.flagIrq F.hwdtStat_BADSVC 0 93) 1) (by decide)).trans ?_
    rw [State.b, State.g, rd_flagIrq _ _ _ _ _ _ (by decide)]
    exact b_pb_same z F.hwdtStat_BADSVC 0 true (by decide) rfl
  · exact fltBit_raise_supply (s := z.flagIrq F.hwdtStat_BADSVC 0 93) (by rw [flagIrq_clk, fsys_of_pview hz.pview, hclk]) (by decide)
  · refine (congrArg Pwr.hwStart (((Quiet.flagIrq z F.hwdtStat_BADSVC 0 93).trans (.raise _ 1)).pwr)).trans ?_
    rw [pwr_of_pview hz.pview]

/-! ### Configuration (03 R78) -/

/-- A field of HWDT_CFG takes what is written, whether or not another port has staged something else. -/
theorem writeField_hwdtCfg {s : State} {p : Port} {d w : Nat} {f : Field} (hf : f ∈ RegId.hwdtCfg.fields)
    (hok : f.ok.ok (bitsN w f.lo f.w) = true) (hacc : (s.cycFor p).accs = []) (u : Upd) (hu : ∀ x ∈ u.coll, x = 0) :
    ∃ c, s.writeField p d .hwdtCfg 0 .reg w u f = { u with word := putN u.word f.lo f.w (bitsN w f.lo f.w), coll := c } ∧
      ∀ x ∈ c, x = 0 := by
  have hfields : ∀ f ∈ RegId.hwdtCfg.fields, f.acc = .rw ∧ f.bake = .i := by decide
  have hrw := hfields f hf
  have hdom : s.collDom p .hwdtCfg 0 f = 0 := by
    unfold State.collDom
    split <;> rfl
  have hown : s.fieldOwned p d .hwdtCfg 0 f = true := Bool.or_true _
  have hval : s.valueOk .hwdtCfg 0 f (bitsN w f.lo f.w) = true := by simp [State.valueOk, hok]
  have hord : s.inOrder p (RegId.hwdtCfg.addr 0) f .reg w (bitsN w f.lo f.w) = bitsN w f.lo f.w := by simp [State.inOrder, hacc]
  by_cases hcoll : s.collides p (RegId.hwdtCfg.addr 0) f .reg w (bitsN w f.lo f.w) = true
  · refine ⟨u.coll ++ [0], ?_, fun x hx => ?_⟩
    · simp [State.writeField, hrw, State.writeRw, fieldNew, hown, State.ignores, hval, hord, hcoll, hdom]
    · rcases List.mem_append.mp hx with hx | hx
      · exact hu x hx
      · exact List.mem_singleton.mp hx
  · exact ⟨u.coll, by simp [State.writeField, hrw, State.writeRw, fieldNew, hown, State.ignores, hval, hord, hcoll], hu⟩

/-- The word of HWDT_CFG that a write leaves. -/
def hwdtCfgWord (old w : Nat) : Nat := putN (putN old 0 10 (bitsN w 0 10)) 16 1 (bitsN w 16 1)

theorem hwdtCfgWord_lt {old : Nat} (h : old < 2 ^ 32) (w : Nat) : hwdtCfgWord old w < 2 ^ 32 :=
  putN_lt _ _ _ _ 32 (putN_lt _ _ _ _ 32 h (by decide)) (by decide)

theorem timeout_hwdtCfgWord (old w : Nat) : bitsN (hwdtCfgWord old w) 0 10 = bitsN w 0 10 := by
  rw [hwdtCfgWord, bitsN_putN_ne _ _ _ _ _ _ (by decide), bitsN_putN_same]
  exact Nat.mod_eq_of_lt (Nat.mod_lt _ (by decide))

theorem en_hwdtCfgWord (old w : Nat) : bitsN (hwdtCfgWord old w) 16 1 = bitsN w 16 1 := by
  rw [hwdtCfgWord, bitsN_putN_same]
  exact Nat.mod_eq_of_lt (Nat.mod_lt _ (by decide))

/-- Both fields of HWDT_CFG under a write of a timeout that is not reserved. -/
theorem fields_hwdtCfg {s : State} {p : Port} {d w : Nat} (hacc : (s.cycFor p).accs = []) (hw : bitsN w 0 10 ≠ 0) :
    ∃ c, (effFields .hwdtCfg 0).foldl (s.writeField p d .hwdtCfg 0 .reg w) { word := (s.rd .hwdtCfg).toNat, st := s.staged } =
      { word := hwdtCfgWord (s.rd .hwdtCfg).toNat w, st := s.staged, coll := c } ∧ ∀ x ∈ c, x = 0 := by
  have hlt : bitsN w 0 10 < 1024 := Nat.mod_lt _ (by decide)
  obtain ⟨c, h1, hc⟩ := writeField_hwdtCfg (s := s) (p := p) (d := d) (w := w) (f := fl "TIMEOUT" 0 10 .rw 0x64 .i (.range 1 1023))
    (by decide) (by simp only [fl, ValRule.ok, Bool.and_eq_true, decide_eq_true_eq]; omega) hacc
    { word := (s.rd .hwdtCfg).toNat, st := s.staged } (fun x hx => absurd hx List.not_mem_nil)
  obtain ⟨c', h2, hc'⟩ := writeField_hwdtCfg (s := s) (p := p) (d := d) (w := w) (f := fl "EN" 16 1 .rw 0 .i) (by decide) rfl hacc
    { word := putN (s.rd .hwdtCfg).toNat 0 10 (bitsN w 0 10), st := s.staged, coll := c } hc
  refine ⟨c', ?_, hc'⟩
  have hlist : effFields .hwdtCfg 0 = [fl "TIMEOUT" 0 10 .rw 0x64 .i (.range 1 1023), fl "EN" 16 1 .rw 0 .i] := rfl
  rw [hlist, List.foldl_cons, h1, List.foldl_cons, List.foldl_nil]
  exact h2

/-- An accepted write of HWDT_CFG takes its fields, and starts the count where EN becomes 1. -/
theorem applyReg_hwdtCfg {s : State} {p : Port} {d : Dom} {a w : Nat} (hacc : (s.cycFor p).accs = []) (hw : bitsN w 0 10 ≠ 0) :
    ∃ z, s.applyReg p d a .hwdtCfg 0 .reg w =
        (if bitN (hwdtCfgWord (s.rd .hwdtCfg).toNat w) 16 && !bitN (s.rd .hwdtCfg).toNat 16 then z.hwStart else z) ∧
      z.rd .hwdtCfg = BitVec.ofNat 32 (hwdtCfgWord (s.rd .hwdtCfg).toNat w) ∧ z.tick = s.tick := by
  obtain ⟨c, hu, hc⟩ := fields_hwdtCfg (d := d) hacc hw
  generalize hwdtCfgWord (s.rd .hwdtCfg).toNat w = nw at hu ⊢
  have hwrote : ∃ z0 : State, (if isLive .hwdtCfg || nw = (s.rd .hwdtCfg).toNat then { s with staged := s.staged }
      else { s.wr .hwdtCfg 0 (BitVec.ofNat 32 nw) with staged := s.staged }) = z0 ∧ z0.rd .hwdtCfg = BitVec.ofNat 32 nw ∧
        z0.tick = s.tick := by
    refine ⟨_, rfl, ?_, ?_⟩
    · split
      next e =>
        rw [of_decide_eq_true (show decide (nw = (s.rd .hwdtCfg).toNat) = true from e), BitVec.ofNat_toNat, BitVec.setWidth_eq]
      · exact rd_wr_same s .hwdtCfg 0 _
    · split <;> rfl
  obtain ⟨z0, hz0, hrd, htick⟩ := hwrote
  have hready := (((Ready.unmarked z0 .hwdtCfg 0).trans (.reserved _ p d a (reservedOnes .reg (effFields .hwdtCfg 0) w))).trans
    (.noteWrite _ s p d .hwdtCfg 0 w))
  have hcolls : ∀ t : State, Ready t (each c.eraseDups (fun x s => s.wrcoll x p.code a) t) := fun t =>
    ⟨each_keeps_mem State.pview _ _ t fun x hx u => pview_regEvent u _ _ _ (by rw [hc x (List.mem_eraseDups.mp hx)]; decide) rfl,
      each_keeps State.tick _ _ t fun _ _ => (Quiet.wrcoll ..).tick⟩
  refine ⟨_, ?_, (rd_of_pview (hready.trans (hcolls _)).pview (by decide)).trans hrd, (hready.trans (hcolls _)).tick.trans htick⟩
  unfold State.applyReg
  dsimp only
  rw [bakeNow_immediate _ _ _ (by decide), onWrite_hwdtCfg, if_neg (show ¬isLive .hwdtCfg = true by decide), hu]
  simp only [show isHeldHi .hwdtCfg = false from rfl, Bool.false_eq_true, if_false, hz0, Bool.false_or, State.unmarked]

theorem exec_hwdtCfgWrite {s : State} {p : Port} {d : Dom} {w : Word} (h : s.accepts p d .hwdtCfg 0 w.toNat = true)
    (hw : bitsN w.toNat 0 10 ≠ 0) : ∃ (z : State) (l : List Staged), exec (.hwdtCfgWrite p d w) s = .next (State.result
      { (if bitN (hwdtCfgWord (s.rd .hwdtCfg).toNat w.toNat) 16 && !bitN (s.rd .hwdtCfg).toNat 16 then z.hwStart else z) with
        staged := l } p 0 0) ∧ z.rd .hwdtCfg = BitVec.ofNat 32 (hwdtCfgWord (s.rd .hwdtCfg).toNat w.toNat) ∧ z.tick = s.tick := by
  obtain ⟨-, -, -, -, -, -, -, hacc⟩ := (accepts_iff ..).mp h
  obtain ⟨z, hz, hrd, htick⟩ := applyReg_hwdtCfg (d := d) (a := RegId.hwdtCfg.addr 0) hacc hw
  obtain ⟨l, hl⟩ := loose_eq (if bitN (hwdtCfgWord (s.rd .hwdtCfg).toNat w.toNat) 16 && !bitN (s.rd .hwdtCfg).toNat 16 then z.hwStart
    else z) s p
  refine ⟨z, l, ?_, hrd, htick⟩
  have hx := writeCmd_accepts s p d .hwdtCfg 0 w.toNat h (by decide) (by decide) (by decide)
  rw [hz, hl] at hx
  exact hx

theorem hwdtConfig_gives (s : State) (p : Port) (d : Dom) (w : Word) (h : s.accepts p d .hwdtCfg 0 w.toNat = true)
    (hw : bitsN w.toNat 0 10 ≠ 0) : Gives (.hwdtCfgWrite p d w) s fun t => t.g F.hwdtCfg_TIMEOUT = bitsN w.toNat 0 10 ∧
      t.g F.hwdtCfg_EN = bitsN w.toNat 16 1 ∧
        (bitsN w.toNat 16 1 = 1 → s.b F.hwdtCfg_EN = false → t.pwr.hwRun = true ∧ t.pwr.hwStart = s.tick) := by
  obtain ⟨z, l, hx, hrd, htick⟩ := exec_hwdtCfgWrite h hw
  have hnw := hwdtCfgWord_lt (s.rd .hwdtCfg).isLt w.toNat
  have hfld : ∀ b : Bool, (if b then z.hwStart else z).rd .hwdtCfg = z.rd .hwdtCfg := fun b => by cases b <;> rfl
  have hword : ∀ b : Bool, ((if b then z.hwStart else z).rd .hwdtCfg).toNat = hwdtCfgWord (s.rd .hwdtCfg).toNat w.toNat := fun b => by
    rw [hfld, hrd, BitVec.toNat_ofNat, Nat.mod_eq_of_lt hnw]
  refine gives_of hx ⟨?_, ?_, fun hen hwas => ?_⟩
  · exact (congrArg (bitsN · 0 10) (hword _)).trans (timeout_hwdtCfgWord ..)
  · exact (congrArg (bitsN · 16 1) (hword _)).trans (en_hwdtCfgWord ..)
  · have hnow : bitN (hwdtCfgWord (s.rd .hwdtCfg).toNat w.toNat) 16 = true := beq_iff_eq.mpr ((en_hwdtCfgWord ..).trans hen)
    have hold : bitN (s.rd .hwdtCfg).toNat 16 = false := hwas
    rw [hnow, hold]
    exact ⟨rfl, htick⟩

/-- Settles O16: service with the right code and with another, and configuration. -/
theorem hostWatchdogWritesComplete : Obligations.HostWatchdogWritesComplete :=
  ⟨hwdtService_gives, hwdtBadService_gives, hwdtConfig_gives⟩

end Sys2Proof.Machine
end

section
/-!
PROOF. Release (03 R70), VCC5 in regulation, and wake-up (03 R84-R88), each ended by a slice boundary.
-/

namespace Sys2Proof.Machine

/-! ### Staged copies of the view's registers -/

/-- The fields of the registers of the view that a write may change take their values at once. -/
theorem statusRegs_immediate : ∀ r ∈ RegId.clkStat :: statusRegs,
    findReg (r.addr 0) = some (r, 0) ∧ ∀ f ∈ effFields r 0, f.acc = .rw → f.bake = .i := by decide

/-- Copies are staged for fields that wait for a boundary, so for none of the view. -/
theorem noneStaged_of_stagedOk {s : State} (h : s.stagedOk) : noneStaged s.staged = true := by
  refine noneStaged_iff.mpr fun e he r hr ha => ?_
  obtain ⟨q, i, f, hfind, hf, hacc, hbake, -⟩ := h e he
  obtain ⟨hr0, himm⟩ := statusRegs_immediate r hr
  rw [ha, hr0, Option.some.injEq, Prod.mk.injEq] at hfind
  obtain ⟨rfl, rfl⟩ := hfind
  exact hbake (himm f hf hacc)

/-! ### The network's time state and the reference of the PLL -/

theorem pview_netFlag (s : State) (f : Fld) (h : 0x4000 ≤ f.r.place.base) : (s.netFlag f).pview = s.pview := pview_flagIrq _ _ _ _ h

theorem pview_timeState (s : State) (st : Nat) : (s.timeState st).pview = s.pview := by
  simp (disch := decide) only [State.timeState, apply_ite State.pview, pview_netFlag, pview_pb, pview_p, ite_self]

theorem pview_setPlca (s : State) (ok : Bool) : (s.setPlca ok).pview = s.pview := by
  simp (disch := decide) only [State.setPlca, apply_ite State.pview, pview_netFlag, pview_pb, ite_self]

theorem pview_phyStop (s : State) : s.phyStop.pview = s.pview := by
  simp (disch := decide) only [State.phyStop, apply_ite State.pview, pview_setPlca, pview_pb, ite_self]

theorem pview_refUpdate (s : State) : s.refUpdate.pview = s.pview := by
  have hstart : ∀ (t : State) (b : Bool), ((t.pb F.clkStat_REFACT 0 b).pb F.clkStat_SLEWING 0 true).pview = t.pview := fun t b =>
    (pview_pb_clkStat _ _ _ rfl (by decide) (by decide)).trans (pview_pb_clkStat _ _ _ rfl (by decide) (by decide))
  simp only [State.refUpdate, State.refSwitch, apply_ite State.pview, pview_phyStop, pview_each (fun n t => pview_swapIdle t n), hstart,
    ite_self]

/-! ### Release (03 R70) -/

theorem pview_heldLevels (s : State) : s.heldLevels.pview = s.pview := by
  simp only [State.heldLevels, apply_ite State.pview, pview_levelOn, ite_self]

/-- What release writes itself: the pins and the registers that show it. -/
def State.released (s : State) (test : Bool) (usec : Nat) (p : Pwr) (factory : Bool) : State :=
  let s1 := { s with
    pwr := p
    pins := { s.pins with resetnLow := false, intRouted := true, vcc5On := true, test := test, factory := factory } }
  (((s1.pb F.pwrStat_BOOTDONE 0 true).pb F.pinStrap_HENRST 0 s.pins.hen).pb F.pinStrap_TESTHI 0 test).p F.bootTime_USEC 0 (satN 65535 usec)

/-- A field of another register of the view after BOOT_TIME is written. -/
theorem b_p_bootTime (s : State) (v : Nat) {g : Fld} (hn : g.r ≠ .bootTime) (hg : g.r ∈ statusRegs) :
    (s.p F.bootTime_USEC 0 v).b g = s.b g := by
  have apart : ∀ r ∈ statusRegs, r ≠ .bootTime → r.addr 0 ≠ RegId.bootTime.addr 0 := by decide
  rw [State.b, State.b, g_p_addr _ _ _ _ _ _ (apart _ hg hn)]

theorem released_fields (s : State) (test : Bool) (usec : Nat) (p : Pwr) (factory : Bool) :
    (s.released test usec p factory).b F.pwrStat_BOOTDONE = true ∧ (s.released test usec p factory).b F.pinStrap_HENRST = s.pins.hen ∧
      (s.released test usec p factory).b F.pinStrap_TESTHI = test ∧ (s.released test usec p factory).g F.bootTime_USEC = min 65535 usec := by
  refine ⟨?_, ?_, ?_, ?_⟩
  · rw [State.released, b_p_bootTime _ _ (by decide) (by decide), State.b, State.g, rd_pb_ne _ _ _ _ (by decide),
      rd_pb_ne _ _ _ _ (by decide)]
    exact b_pb_same _ F.pwrStat_BOOTDONE 0 true (by decide) rfl
  · rw [State.released, b_p_bootTime _ _ (by decide) (by decide)]
    exact (b_pb_field _ (f := F.pinStrap_TESTHI) (f' := F.pinStrap_HENRST) 0 test rfl (by decide) (by decide)).trans
      (b_pb_same _ F.pinStrap_HENRST 0 _ (by decide) rfl)
  · rw [State.released, b_p_bootTime _ _ (by decide) (by decide)]
    exact b_pb_same _ F.pinStrap_TESTHI 0 test (by decide) rfl
  · rw [State.released, g_p_same _ F.bootTime_USEC 0 _ (by decide), satN_eq_min]
    exact Nat.mod_eq_of_lt (lt_of_le_of_lt (Nat.min_le_left ..) (by decide))

theorem exec_release {s : State} (test : Bool) (usec : Word) (hm : s.pwr.mode = .startup) (hs : s.clk.fsys = true)
    (hv : s.pwr.verified = true) (hl : s.pwr.loaded = true ∨ s.b F.pwrStat_NOIMG = true) (ha : s.pwr.calA = true)
    (hb : s.pwr.calB = true) (hh : s.pwr.hsel = true) (hr : s.pwr.sram = true) :
    ∃ p f st, exec (.release test usec) s = .next
        (((s.released test usec.toNat p f).timeState st).heldLevels.proofsAtRelease.refUpdate.hearthCause.sliceAtRelease) ∧
      p.mode = .run ∧ p.dwStart = s.tick := by
  have hload : (s.pwr.loaded || s.b F.pwrStat_NOIMG) = true := by
    rcases hl with h | h <;> simp [h]
  change ∃ p f st, execRelease test s usec = _ ∧ _
  unfold execRelease
  rw [if_pos (by simp [hm, hs, hv, hload, ha, hb, hh, hr])]
  exact ⟨_, _, _, rfl, rfl, rfl⟩

theorem release_gives (s : State) (test : Bool) (usec : Word) (hm : s.pwr.mode = .startup) (hs : s.clk.fsys = true)
    (hv : s.pwr.verified = true) (hl : s.pwr.loaded = true ∨ s.b F.pwrStat_NOIMG = true) (ha : s.pwr.calA = true)
    (hb : s.pwr.calB = true) (hh : s.pwr.hsel = true) (hr : s.pwr.sram = true) (hst : s.stagedOk) :
    Gives (.release test usec) s fun t =>
      t.pwr.mode = .run ∧ t.pins.resetnLow = false ∧ t.pins.intRouted = true ∧ t.pins.vcc5On = true ∧
        t.b F.pwrStat_BOOTDONE = true ∧ t.b F.pinStrap_HENRST = s.pins.hen ∧
        t.b F.pinStrap_TESTHI = test ∧ t.g F.bootTime_USEC = min 65535 usec.toNat ∧ t.pwr.dwStart = s.tick := by
  obtain ⟨p, f, st, hx, hmode, hdw⟩ := exec_release test usec hm hs hv hl ha hb hh hr
  have hrest : ((s.released test usec.toNat p f).timeState st).heldLevels.proofsAtRelease.refUpdate.hearthCause.pview =
      (s.released test usec.toNat p f).pview := by
    rw [pview_hearthCause, pview_refUpdate, pview_proofsAtRelease, pview_heldLevels, pview_timeState]
  have hview := ((Keeps.of_eq hrest).trans (.sliceAtRelease _)).pview (noneStaged_of_stagedOk hst)
  obtain ⟨hboot, hhen, htest, husec⟩ := released_fields s test usec.toNat p f
  exact gives_of hx ⟨(congrArg Pwr.mode (pwr_of_pview hview)).trans hmode, resetnLow_of_pview hview, intRouted_of_pview hview,
    vcc5On_of_pview hview, (b_of_pview hview (by decide)).trans hboot, (b_of_pview hview (by decide)).trans hhen,
    (b_of_pview hview (by decide)).trans htest, (g_of_pview hview (by decide)).trans husec,
    (congrArg Pwr.dwStart (pwr_of_pview hview)).trans hdw⟩

theorem supplyFlag_vcc5Seen (s : State) (flag : Fld) : (s.supplyFlag flag).pwr.vcc5Seen = s.pwr.vcc5Seen := by
  unfold State.supplyFlag
  split
  · exact congrArg Pwr.vcc5Seen (Quiet.flagIrq ..).pwr
  · split <;> rfl

theorem vcc5InRegulation_gives (s : State) (hm : s.pwr.mode = .run) (hv : s.pins.vcc5On = true) (hb : s.b F.pwrStat_VCC5OK = false) :
    Gives .vcc5InRegulation s fun t => t.b F.pwrStat_VCC5OK = true ∧ t.pwr.vcc5Seen = true := by
  refine gives_then (i := .vcc5InRegulation) rfl (by simp [State.running, hm, hv, hb]) ?_
  unfold State.vcc5Set
  extract_lets s1 pwr1 s2 s3
  have hview : ((if true = true then s3.levelOff 4 else if s.pwr.vcc5Seen = true then s3.levelOn 4 else s3).outputs).pview = s3.pview := by
    rw [pview_outputs, if_pos rfl, pview_levelOff]
  have hok : s3.b F.pwrStat_VCC5OK = s2.b F.pwrStat_VCC5OK := by
    change (if s.pwr.vcc5Seen = true then s2.supplyFlag F.pwrStat_VCC5F else s2).b F.pwrStat_VCC5OK = _
    split
    · exact supplyFlag_b s2 rfl (by decide) rfl (by decide)
    · rfl
  have hseen : s3.pwr.vcc5Seen = s2.pwr.vcc5Seen := by
    change (if s.pwr.vcc5Seen = true then s2.supplyFlag F.pwrStat_VCC5F else s2).pwr.vcc5Seen = _
    split
    · exact supplyFlag_vcc5Seen ..
    · rfl
  refine ⟨?_, ?_⟩
  · exact (b_of_pview hview (by decide)).trans (hok.trans (b_pb_same s F.pwrStat_VCC5OK 0 true (by decide) rfl))
  · refine (congrArg Pwr.vcc5Seen (pwr_of_pview hview)).trans (hseen.trans ?_)
    have hrun : s1.running = true := beq_iff_eq.mpr hm
    change (s1.pwr.vcc5Seen || (true && s1.running)) = true
    rw [hrun, Bool.and_self, Bool.or_true]

/-- Settles O11: after what release writes itself, and after VCC5OK, nothing else reaches the view. -/
theorem releaseCompletes : Obligations.ReleaseCompletes := ⟨release_gives, vcc5InRegulation_gives⟩

/-! ### Wake sources (03 R84, R85) -/

/-- A source that wakes from retention or network-wake standby is noted, and the wake delay begins. -/
theorem wakeBy_standby {s : State} {k : Standby} (bit : Nat) {deep ret net : Bool} (hm : s.pwr.mode = .standby k) (hk : k ≠ .deep)
    (hret : k = .retention → ret = true) (hnet : k = .network → net = true) :
    s.wakeBy bit deep ret net = { s with pwr := { s.pwr with mode := .waking k, wake := s.pwr.wake ||| 2 ^ bit } } := by
  unfold State.wakeBy
  rw [hm]
  cases k
  case deep => exact absurd rfl hk
  case retention => rw [hret rfl]; rfl
  case network => rw [hnet rfl]; rfl

theorem wakePin_deep (s : State) (hm : s.pwr.mode = .standby .deep) : Gives .wakePin s fun t =>
    t.pwr.mode = .startup ∧ t.pwr.warm = false ∧ t.rd .rstCause = s.rd .rstCause ||| 32 := by
  have h := afterReset_deviceReset { s with pins := { s.pins with wake := true } } false false ((s.rd .rstCause).toNat ||| 32)
    (s.g F.dwdtStat_COUNT)
  refine gives_of (i := .wakePin) (t := State.deviceReset { s with pins := { s.pins with wake := true } } false false
    ((s.rd .rstCause).toNat ||| 32) (s.g F.dwdtStat_COUNT)) ?_ ⟨by rw [h.pwr], by rw [h.pwr], h.rstCause.trans (ofNat_or _ 32)⟩
  change execWakePin s true = _
  simp only [execWakePin, State.wakeBy, hm]
  rfl

theorem wakePin_gives (s : State) (k : Standby) (hm : s.pwr.mode = .standby k) (hk : k ≠ .deep) (he : s.b F.pwrWakecfg_PINEN = true) :
    Gives .wakePin s fun t => t.pwr.mode = .waking k ∧ t.pwr.wake = s.pwr.wake ||| 1 :=
  gives_of (i := .wakePin) (congrArg Host.Outcome.next (wakeBy_standby 0 hm hk (fun _ => he) fun _ => he)) ⟨rfl, rfl⟩

theorem wakeTimerExpiry_gives (s : State) (k : Standby) (hm : s.pwr.mode = .standby k) (hk : k ≠ .deep)
    (he : s.b F.pwrWakecfg_TMREN = true) (hc : s.g F.pwrWktmr_COUNT ≠ 0) (hd : s.pwr.lfrcDead = false) :
    Gives .wakeTimerExpiry s fun t => t.pwr.mode = .waking k ∧ t.pwr.wake = s.pwr.wake ||| 2 := by
  have hon : (s.b F.pwrWakecfg_TMREN && s.g F.pwrWktmr_COUNT != 0 && !s.pwr.lfrcDead) = true := by simp [he, hc, hd]
  exact gives_of (i := .wakeTimerExpiry) (congrArg Host.Outcome.next (wakeBy_standby 1 hm hk (fun _ => hon) fun _ => hon)) ⟨rfl, rfl⟩

theorem csnWake_gives (s : State) (k : Standby) (hm : s.pwr.mode = .standby k) (hk : k ≠ .deep) (he : s.b F.pwrWakecfg_CSNEN = true)
    (hv : s.pins.vddio = true) (hd : s.pwr.lfrcDead = false) : Gives .csnWake s fun t =>
      t.pwr.mode = .waking k ∧ t.pwr.wake = s.pwr.wake ||| 4 ∧ t.spi.wakeDiscard = true := by
  have hon : (s.b F.pwrWakecfg_CSNEN && s.pins.vddio && !s.pwr.lfrcDead) = true := by simp [he, hv, hd]
  have hw := wakeBy_standby (s := { s with pins := { s.pins with csnLow := true } }) (k := k) 2 (deep := false)
    (ret := s.b F.pwrWakecfg_CSNEN && s.pins.vddio && !s.pwr.lfrcDead) (net := s.b F.pwrWakecfg_CSNEN && s.pins.vddio && !s.pwr.lfrcDead)
    hm hk (fun _ => hon) fun _ => hon
  change ∃ t, execCsnWake s = .next t ∧ _
  unfold execCsnWake
  dsimp only
  rw [if_pos hv, hw, hon]
  exact ⟨_, rfl, rfl, rfl, rfl⟩

theorem energyDetect_gives (s : State) (hm : s.pwr.mode = .standby .network) (hd : s.pwr.lfrcDead = false) :
    Gives .energyDetect s fun t => t.pwr.mode = .waking .network ∧ t.pwr.wake = s.pwr.wake ||| 8 :=
  gives_of (i := .energyDetect) (congrArg Host.Outcome.next (wakeBy_standby 3 hm (by decide) (fun h => absurd h (by decide))
    fun _ => by rw [hd]; rfl)) ⟨rfl, rfl⟩

/-! ### The end of a wake-up (03 R86-R88) -/

/-- The supplies are back and the rails switched: the state in which fSYS runs again. -/
def State.rewired (s : State) (p : Pwr) (periods : Nat) : State :=
  { s.setBits .pwrStat 0 (s.pwr.levels &&& 3 * 2 ^ 5) with
    pwr := p
    pins := { s.pins with intRouted := true, vcc5On := true }
    time := s.time + 5000 * periods }

/-- The PLL has relocked, and PWR_WAKESRC takes the sources. -/
def State.relocked (s : State) (wake : Nat) : State := (s.pb F.clkStat_PLLLOCK 0 true).setBits .pwrWakesrc 0 wake

/-- What follows the relock: the time state, the network, the reference and the outputs, then a slice boundary. -/
theorem exec_wakeComplete {s : State} {k : Standby} (periods : Word) (hm : s.pwr.mode = .waking k) :
    ∃ (p : Pwr) (t : State), exec (.wakeComplete periods) s = .next t.sliceAtWake ∧
      t.pview = ((s.rewired p periods.toNat).fsysBack.relocked s.pwr.wake).pview ∧ p.mode = .run := by
  change ∃ p t, execWakeComplete periods s = _ ∧ _
  unfold execWakeComplete
  rw [hm]
  extract_lets s0 pwr0 pins0 s1 s2 s2' memc2 s3 s4
  have h2' : s2'.pview = s2.pview := by
    simp only [s2', apply_ite State.pview, pview_timeState, ite_self]
  have h3 : s3.pview = s2'.pview := by rw [pview_mk]
  have h4 : s4.pview = s3.pview := by
    simp only [s4, pview_modNet, apply_ite State.pview, pview_setPlca, ite_self]
  refine ⟨{ s.pwr with mode := .run, hwStart := s.tick, dwStart := s.tick, rails := true, vref := true, lfrcDead := false }, _, rfl, ?_, rfl⟩
  rw [pview_outputs, pview_hearthCause, pview_refUpdate, pview_pendIrq, h4, h3, h2']
  rfl

theorem wakeComplete_gives (s : State) (k : Standby) (periods : Word) (hm : s.pwr.mode = .waking k) (hst : s.stagedOk) :
    Gives (.wakeComplete periods) s fun t =>
      t.pwr.mode = .run ∧ t.clk.fsys = true ∧ t.time = s.time + 5000 * periods.toNat ∧ t.b F.clkStat_PLLLOCK = true ∧
        t.rd .pwrWakesrc = s.rd .pwrWakesrc ||| BitVec.ofNat 32 s.pwr.wake ∧ t.pins.intRouted = true := by
  obtain ⟨p, u, hx, hu, hmode⟩ := exec_wakeComplete periods hm
  have hback := fsysBack_shows (s.rewired p periods.toNat)
  have hclean : noneStaged u.staged = true :=
    (congrArg PowerView.clean hu).trans (hback.staged.trans (noneStaged_of_stagedOk hst))
  have hview := ((Keeps.sliceAtWake u).pview hclean).trans hu
  have hrelock : ∀ (t : State) (w : Nat), (t.relocked w).b F.clkStat_PLLLOCK = true ∧
      (t.relocked w).rd .pwrWakesrc = t.rd .pwrWakesrc ||| BitVec.ofNat 32 w := fun t w => by
    refine ⟨?_, ?_⟩
    · rw [State.b, State.g, State.relocked, State.setBits, rd_wr_ne _ _ _ _ _ _ (by decide)]
      exact b_pb_same t F.clkStat_PLLLOCK 0 true (by decide) rfl
    · rw [State.relocked, State.setBits, rd_wr_same, rd_pb_ne _ _ _ _ (by decide)]
  obtain ⟨hlock, hsrc⟩ := hrelock (s.rewired p periods.toNat).fsysBack s.pwr.wake
  refine gives_of hx ⟨?_, (fsys_of_pview hview).trans hback.fsys, (time_of_pview hview).trans hback.time,
    (lock_of_pview hview).trans hlock, (rd_of_pview hview (by decide)).trans (hsrc.trans ?_),
    (intRouted_of_pview hview).trans (congrArg (·.2.1) hback.pins)⟩
  · exact (congrArg Pwr.mode ((pwr_of_pview hview).trans hback.pwr)).trans hmode
  · rw [hback.words .pwrWakesrc (by decide) (by decide)]
    exact congrArg (· ||| BitVec.ofNat 32 s.pwr.wake) (rd_wr_ne s .pwrStat .pwrWakesrc 0 0 _ (by decide))

/-- Settles O15: one clause for each wake source, and the end of the wake-up. -/
theorem wakeUpCompletes : Obligations.WakeUpCompletes :=
  ⟨wakePin_deep, wakePin_gives, wakeTimerExpiry_gives, csnWake_gives, energyDetect_gives, wakeComplete_gives⟩

end Sys2Proof.Machine
end

section
/-!
PROOF. One step (log 1): the front of the queue, and the tick of fSYS on an empty one.
-/

namespace Sys2Proof.Machine

theorem step_front (c : Instr) (rest : List Instr) (s : State) :
    step { s with pending := c :: rest } = exec c { s with pending := rest } := rfl

theorem step_empty {s : State} (h : s.pending = []) : step s = .next s.fsysTick := by
  rw [step, h]

/-- While fSYS is stopped no tick comes (04 R116). -/
theorem fsysTick_stopped {s : State} (h : s.clk.fsys = false) : s.fsysTick = s := if_pos (by rw [h]; rfl)

/-- Grants of the engines change contexts, engines and their registers, and nothing that a tick counts. -/
structure GrantFrame (s t : State) : Prop where
  tick : t.tick = s.tick
  mem : t.mem = s.mem
  staged : t.staged = s.staged
  rx : t.net.rx = s.net.rx

theorem GrantFrame.trans {s t u : State} (a : GrantFrame s t) (b : GrantFrame t u) : GrantFrame s u :=
  ⟨b.tick.trans a.tick, b.mem.trans a.mem, b.staged.trans a.staged, b.rx.trans a.rx⟩

theorem GrantFrame.ungrant (s : State) (e : Fin 4) : GrantFrame s (s.ungrant e) := by
  unfold State.ungrant
  split <;> exact ⟨rfl, rfl, rfl, rfl⟩

theorem GrantFrame.grant (s : State) (e : Fin 4) : GrantFrame s (s.grant e) := by
  unfold State.grant
  dsimp only
  split <;> exact ⟨rfl, rfl, rfl, rfl⟩

theorem GrantFrame.engReady (s : State) (e : Fin 4) : GrantFrame s (s.engReady e) := by
  unfold State.engReady
  split <;> split
  · exact ⟨rfl, rfl, rfl, rfl⟩
  · exact (GrantFrame.ungrant s e).trans (.grant ..)
  · exact ⟨rfl, rfl, rfl, rfl⟩
  · exact .grant s e

theorem GrantFrame.engsReady (s : State) : GrantFrame s s.engsReady :=
  ⟨each_keeps State.tick _ _ s fun e t => (GrantFrame.engReady t e).tick,
    each_keeps State.mem _ _ s fun e t => (GrantFrame.engReady t e).mem,
    each_keeps State.staged _ _ s fun e t => (GrantFrame.engReady t e).staged,
    each_keeps (fun t : State => t.net.rx) _ _ s fun e t => (GrantFrame.engReady t e).rx⟩

/-- An empty receive buffer gives nothing to process. -/
theorem rxServe_empty {s : State} (h : s.net.rx = []) : s.rxServe = s.modNet fun n => { n with rx := [] } := by
  rw [State.rxServe, h]
  rfl

/-- A tick of fSYS with an empty receive buffer (08 R303). -/
theorem fsysTick_keeps {s : State} (hs : s.clk.fsys = true) (hrx : s.net.rx = []) :
    s.fsysTick.tick = s.tick + 1 ∧ s.fsysTick.mem = s.mem ∧ s.fsysTick.staged = s.staged := by
  have h := GrantFrame.engsReady s
  rw [State.fsysTick, if_neg (by simp [hs]), rxServe_empty (h.rx.trans hrx)]
  exact ⟨congrArg (· + 1) h.tick, h.mem, h.staged⟩

/-- Outside the follower role device time runs free (08 R302). -/
theorem fsysTick_time {s : State} (hs : s.clk.fsys = true) (he : s.engsReady = s) (hrx : s.net.rx = [])
    (hrole : s.g F.netTimecfg_ROLE ≠ 0) : s.fsysTick.time = s.time + 1 := by
  have hfree : (s.modNet fun n => { n with rx := [] }).g F.netTimecfg_ROLE ≠ 0 := hrole
  rw [State.fsysTick, if_neg (by simp [hs]), he, rxServe_empty hrx]
  dsimp only
  rw [if_neg hfree, Int.add_zero]
  rfl

/-- Settles O1: the front of the queue, and the tick by what grants and an empty receive buffer leave. -/
theorem stepRunsTheFrontCommand : Obligations.StepRunsTheFrontCommand :=
  ⟨step_front, fun _ => step_empty, fun _ => fsysTick_stopped, fun _ => fsysTick_keeps, fun _ => fsysTick_time⟩

end Sys2Proof.Machine
end

section
/-!
PROOF. The clock view of the state: the clock logic and the registers of 04. Interrupts, faults, outputs, racks, the network port,
generators and tamper events leave it as it is.
-/

namespace Sys2Proof.Machine

/-- The faults of the clock monitors (04 R110). -/
def clkSource (n : Nat) : Bool := decide (16 ≤ n) && decide (n ≤ 20)

/-- What waits for fSYS: all that is latched while it runs, as nothing is added then, and the faults of the monitors while it is
stopped. -/
def Clk.waiting (c : Clk) : List (Nat × Nat) := if c.fsys then c.latched else c.latched.filter fun p => clkSource p.1

/-- The page of the clock registers (04 R130-R133). -/
def clkPage (a : Nat) : Bool := a / 0x100 == 0x30

/-- What the clock logic shows: its state, what waits for fSYS, and the words of its registers. -/
structure ClockView where
  fsys : Bool
  release : Bool
  relocked : Bool
  qual : Bool
  waiting : List (Nat × Nat)
  words : RegId → Nat → Option Word

/-- The clock view of a state. -/
def State.cview (s : State) : ClockView where
  fsys := s.clk.fsys
  release := s.clk.release
  relocked := s.clk.relocked
  qual := s.clk.qual
  waiting := s.clk.waiting
  words r i := if clkPage (r.addr i) then some (s.rd r i) else none

section
variable {s t : State}

theorem fsys_of_cview (h : t.cview = s.cview) : t.clk.fsys = s.clk.fsys := congrArg ClockView.fsys h
theorem release_of_cview (h : t.cview = s.cview) : t.clk.release = s.clk.release := congrArg ClockView.release h
theorem relocked_of_cview (h : t.cview = s.cview) : t.clk.relocked = s.clk.relocked := congrArg ClockView.relocked h
theorem qual_of_cview (h : t.cview = s.cview) : t.clk.qual = s.clk.qual := congrArg ClockView.qual h

theorem latched_of_cview (h : t.cview = s.cview) (hs : s.clk.fsys = true) : t.clk.latched = s.clk.latched := by
  have hw : t.clk.waiting = s.clk.waiting := congrArg ClockView.waiting h
  simpa only [Clk.waiting, fsys_of_cview h, hs, if_true] using hw

/-- A fault of a monitor that is latched stays so while fSYS is stopped. -/
theorem mem_latched_of_cview (h : t.cview = s.cview) (hs : s.clk.fsys = false) {p : Nat × Nat} (hp : p ∈ s.clk.latched)
    (hn : clkSource p.1 = true) : p ∈ t.clk.latched := by
  have hw : t.clk.waiting = s.clk.waiting := congrArg ClockView.waiting h
  simp only [Clk.waiting, fsys_of_cview h, hs, Bool.false_eq_true, if_false] at hw
  exact List.mem_of_mem_filter (hw ▸ List.mem_filter.mpr ⟨hp, hn⟩)

theorem rd_of_cview (h : t.cview = s.cview) {r : RegId} {i : Nat} (hr : clkPage (r.addr i) = true) : t.rd r i = s.rd r i := by
  have hw := congrFun (congrFun (congrArg ClockView.words h) r) i
  simpa only [State.cview, hr, if_true, Option.some.injEq] using hw

theorem g_of_cview (h : t.cview = s.cview) {f : Fld} (hf : clkPage (f.r.addr 0) = true) : t.g f = s.g f := by
  rw [State.g, State.g, rd_of_cview h hf]

theorem b_of_cview (h : t.cview = s.cview) {f : Fld} (hf : clkPage (f.r.addr 0) = true) : t.b f = s.b f := by
  rw [State.b, State.b, g_of_cview h hf]

/-- Two states with one clock logic and one word in each clock register show the same. -/
theorem cview_congr (hc : t.clk = s.clk) (hr : ∀ r i, clkPage (r.addr i) = true → t.rd r i = s.rd r i) : t.cview = s.cview := by
  have hw : t.cview.words = s.cview.words := funext fun r => funext fun i => by
    simp only [State.cview]
    split
    next h => rw [hr r i h]
    · rfl
  simp only [State.cview, hc] at hw ⊢
  rw [hw]

end

/-! ### Writes of registers and of other records -/

theorem cview_wr_off (s : State) {r : RegId} {i : Nat} (w : Word) (h : clkPage (r.addr i) = false) : (s.wr r i w).cview = s.cview :=
  cview_congr rfl fun _ _ hj => rd_wr_ne _ _ _ _ _ _ fun e => by rw [e, h] at hj; cases hj

/-- The blocks from 0x4000 on lie behind the clock registers, whatever the index. -/
theorem cview_wr (s : State) (r : RegId) (i : Nat) (w : Word) (h : 0x4000 ≤ r.place.base) : (s.wr r i w).cview = s.cview := by
  refine cview_wr_off s w (beq_eq_false_iff_ne.mpr ?_)
  simp only [RegId.addr]
  omega

theorem cview_p (s : State) (f : Fld) (i v : Nat) (h : 0x4000 ≤ f.r.place.base) : (s.p f i v).cview = s.cview := cview_wr _ _ _ _ h
theorem cview_pb (s : State) (f : Fld) (i : Nat) (v : Bool) (h : 0x4000 ≤ f.r.place.base) : (s.pb f i v).cview = s.cview :=
  cview_wr _ _ _ _ h
theorem cview_setBits (s : State) (r : RegId) (i m : Nat) (h : 0x4000 ≤ r.place.base) : (s.setBits r i m).cview = s.cview :=
  cview_wr _ _ _ _ h
theorem cview_incSat (s : State) (f : Fld) (i : Nat) (h : 0x4000 ≤ f.r.place.base) : (s.incSat f i).cview = s.cview := cview_wr _ _ _ _ h
theorem cview_incMod (s : State) (f : Fld) (i : Nat) (h : 0x4000 ≤ f.r.place.base) : (s.incMod f i).cview = s.cview := cview_wr _ _ _ _ h

/-- Repeating an operation that keeps the view keeps it. -/
theorem cview_each {α : Type} {l : List α} {f : α → State → State} (h : ∀ a t, (f a t).cview = t.cview) (s : State) :
    (each l f s).cview = s.cview := each_keeps State.cview l f s h

/-- An update of records other than the clock logic and the registers. -/
theorem cview_mk (s : State) (pending free time tick mem ecc staged cyc posted holdHi snaps parityBad acc pwr pins flt domRamps domRst
    hearth disp pwm str byp px grid adcTab adcCv shr tlm rack ctx eng spi net store spare memc nv sec dbg slice) :
    (State.mk pending free time tick mem ecc s.regs s.img staged cyc posted holdHi snaps parityBad acc pwr s.clk pins flt domRamps
      domRst hearth disp pwm str byp px grid adcTab adcCv shr tlm rack ctx eng spi net store spare memc nv sec dbg slice).cview =
        s.cview := by rfl

/-! ### Interrupts (05 R146) and the trace (20 R761) -/

theorem IrqFrame.cview {s t : State} (h : IrqFrame s t) : t.cview = s.cview :=
  cview_congr h.clk fun r i hp => h.rd r i fun hm => by
    have hpage : r.addr i / 0x100 = 0x30 := beq_iff_eq.mp hp
    simp only [List.mem_cons, List.not_mem_nil, or_false] at hm
    omega

theorem cview_pendIrq (s : State) (n : Nat) : (s.pendIrq n).cview = s.cview := (IrqFrame.pendIrq s n).cview

theorem cview_flagIrq (s : State) (f : Fld) (i irq : Nat) (h : 0x4000 ≤ f.r.place.base) : (s.flagIrq f i irq).cview = s.cview :=
  (cview_pendIrq ..).trans (cview_pb _ _ _ _ h)

theorem cview_trace (s : State) (ty a b c : Nat) : (s.trace ty a b c).cview = s.cview := by
  simp (disch := decide) only [State.trace, apply_ite State.cview, cview_incSat, cview_mk, ite_self]

/-! ### Outputs -/

theorem cview_countOn (s : State) : s.countOn.cview = s.cview := by
  simp only [State.countOn, State.modTlm, apply_ite State.cview, cview_mk, ite_self]

theorem cview_modSt (s : State) (i : Fin 6) (f : Str → Str) : (s.modSt i f).cview = s.cview := by rfl
theorem cview_modBy (s : State) (i : Fin 6) (f : Byp → Byp) : (s.modBy i f).cview = s.cview := by rfl
theorem cview_modPw (s : State) (i : Fin 6) (f : Pwm → Pwm) : (s.modPw i f).cview = s.cview := by rfl

theorem cview_refreshStr (s : State) (dim : Bool) (i : Fin 6) : (s.refreshStr dim i).cview = s.cview := by
  simp (disch := decide) only [State.refreshStr, State.softStart, apply_ite State.cview, cview_p, cview_pb, cview_modSt, cview_countOn,
    ite_self]

theorem cview_refreshGate (s : State) (i : Fin 6) : (s.refreshGate i).cview = s.cview := by
  simp (disch := decide) only [State.refreshGate, apply_ite State.cview, cview_pb, ite_self]

theorem cview_setSw (s : State) (i : Fin 6) (sw : Nat) : (s.setSw i sw).cview = s.cview := by
  simp (disch := decide) only [State.setSw, apply_ite State.cview, cview_modSt, cview_p, cview_modBy, cview_countOn, ite_self]

theorem cview_refreshStack (s : State) (i : Fin 6) : (s.refreshStack i).cview = s.cview := by
  simp (disch := decide) only [State.refreshStack, apply_ite State.cview, cview_setSw, cview_modBy, cview_pb, ite_self]

theorem cview_refreshGrid (s : State) : s.refreshGrid.cview = s.cview := by
  simp (disch := decide) only [State.refreshGrid, State.gridStop, State.gridBlank, apply_ite State.cview, cview_mk, cview_countOn, cview_pb,
    ite_self]

theorem cview_outputs (s : State) : s.outputs.cview = s.cview := by
  have hstr : ∀ (i : Fin 6) (t : State), (((t.refreshStr false i).refreshGate i).refreshStack i).cview = t.cview := fun i t => by
    rw [cview_refreshStack, cview_refreshGate, cview_refreshStr]
  simp only [State.outputs, apply_ite State.cview, cview_mk, cview_refreshGrid, cview_each hstr, ite_self]

/-! ### Faults (18 R685-R691) -/

theorem cview_fltCapture (s : State) (n d react : Nat) : (s.fltCapture n d react).cview = s.cview := by
  simp (disch := decide) only [State.fltCapture, apply_ite State.cview, cview_pb, cview_wr, ite_self]

theorem cview_fltCount (s : State) (cls : Nat) : (s.fltCount cls).cview = s.cview := by
  unfold State.fltCount
  split <;> exact cview_incSat _ _ _ (by decide)

theorem cview_fltNotify (s : State) (cls d : Nat) : (s.fltNotify cls d).cview = s.cview := by
  unfold State.fltNotify
  split
  · exact cview_flagIrq _ _ _ _ (by decide)
  · exact cview_flagIrq _ _ _ _ (by decide)
  · rw [cview_pendIrq, cview_setBits _ _ _ _ (by decide)]
  · exact cview_flagIrq _ _ _ _ (by decide)

theorem cview_fltReact (s : State) (n react chans d : Nat) : (s.fltReact n react chans d).cview = s.cview := by
  unfold State.fltReact
  dsimp only
  split
  · exact cview_outputs _
  · simp only [State.containDomain, apply_ite State.cview, cview_mk, ite_self]
  · rfl
  · rfl

/-- A fault of no monitor waits beside those that the view shows. -/
theorem cview_latchFault {s : State} {n : Nat} (chans : Nat) (hs : s.clk.fsys = false) (hn : clkSource n = false) :
    (s.latchFault n chans).cview = s.cview := by
  unfold State.latchFault
  split
  · rfl
  · simp [State.cview, Clk.waiting, hs, List.filter_append, hn, State.rd]

theorem cview_raiseOn {s : State} {n : Nat} (chans : Nat) (h : s.clk.fsys = true ∨ clkSource n = false) :
    (s.raiseOn n chans).cview = s.cview := by
  unfold State.raiseOn
  split
  · rfl
  split
  next hs =>
    have hs' : s.clk.fsys = false := by simpa using hs
    exact cview_latchFault chans hs' (h.resolve_left (by simp [hs']))
  · simp (disch := decide) only [apply_ite State.cview, cview_fltReact, cview_fltNotify, cview_trace, cview_fltCount, cview_fltCapture,
      cview_setBits, ite_self]

theorem cview_raise {s : State} {n : Nat} (h : s.clk.fsys = true ∨ clkSource n = false) : (s.raise n).cview = s.cview := cview_raiseOn _ h

/-! ### Racks (09) -/

theorem cview_modRack (s : State) (f : Rack → Rack) : (s.modRack f).cview = s.cview := by rfl
theorem cview_setRq (s : State) (n : Nat) (l : List Desc) : (s.setRq n l).cview = s.cview := by rfl

theorem cview_granted (s : State) (w : Wait) (regs : List (Nat × Word)) : (s.granted w regs).cview = s.cview := by
  simp only [State.granted, State.leaveWait, State.modCx, apply_ite State.cview, cview_mk, cview_modRack, ite_self]

theorem cview_rackFlag (s : State) (f : Fld) (n : Nat) (h : 0x4000 ≤ f.r.place.base) : (s.rackFlag f n).cview = s.cview :=
  cview_flagIrq _ _ _ _ h

/-- Errors of rack RAM are no fault of a clock monitor. -/
theorem cview_rackClean (s : State) (n k : Nat) : (s.rackClean n k).cview = s.cview := by
  induction k generalizing s with
  | zero => rfl
  | succ k ih =>
    unfold State.rackClean
    split
    · rfl
    next d rest _ =>
      have hfix : ∀ l : List Nat, (each l (fun _ s => s.incSat F.rackGstat_ECCFIX) s).cview = s.cview := fun l =>
        cview_each (fun _ s => cview_incSat _ _ _ (by decide)) s
      have hraise : ∀ (t : State) (m : Nat), (t.raise (100 + m)).cview = t.cview := fun t m =>
        cview_raise (.inr (by simp only [clkSource, Bool.and_eq_false_iff, decide_eq_false_iff_not]; omega))
      simp (disch := decide) only [apply_ite State.cview, ih, hraise, cview_rackFlag, cview_setRq, hfix, ite_self]

theorem cview_rackAppend (s : State) (n : Nat) (d : Desc) : (s.rackAppend n d).cview = s.cview := by
  have hwake : ∀ (t : State) (c : Option Nat), (t.evWake 1 n c).cview = t.cview := fun t c => (IrqFrame.evWake t 1 n c).cview
  simp only [State.rackAppend, hwake, apply_ite State.cview, cview_pendIrq, cview_setRq, ite_self]

theorem cview_rackServe (s : State) (n k : Nat) : (s.rackServe n k).cview = s.cview := by
  induction k generalizing s with
  | zero => rfl
  | succ k ih =>
    have h0 : (if (s.popWaiter n).isSome then s.rackClean n ((s.rq n).length + 1) else s).cview = s.cview := by
      simp only [apply_ite State.cview, cview_rackClean, ite_self]
    unfold State.rackServe
    dsimp only
    generalize (if (s.popWaiter n).isSome then s.rackClean n ((s.rq n).length + 1) else s) = s0 at h0 ⊢
    split
    · rfl
    split
    · simp only [ih, cview_granted, State.holdPop, cview_modRack, cview_setRq, h0]
    split
    · split
      · exact h0
      split
      · simp only [ih, cview_granted, cview_rackAppend, h0]
      · exact h0
    · exact h0

theorem cview_endPart (s : State) (port : Nat) : (s.endPart port).cview = s.cview :=
  (cview_each (fun _ s => cview_rackFlag s _ _ (by decide)) _).trans (cview_modRack ..)

theorem cview_retire (s : State) (n : Nat) (d : Desc) (status erridx : Nat) : (s.retire n d status erridx).cview = s.cview := by
  unfold State.retire
  dsimp only
  rw [cview_rackFlag _ _ _ (by split <;> decide)]
  simp (disch := decide) only [cview_incMod, cview_p]

/-! ### The network port (08) -/

theorem cview_phyStop (s : State) : s.phyStop.cview = s.cview := by
  simp (disch := decide) only [State.phyStop, State.setPlca, State.netFlag, apply_ite State.cview, cview_flagIrq, cview_pb, ite_self]

theorem cview_egress (s : State) (dom : Nat) (frame : List Nat) : (s.egress dom frame).cview = s.cview := by
  simp only [State.egress, State.addWait, State.rackCommit, apply_ite State.cview, cview_rackServe, cview_rackAppend, cview_modRack, ite_self]

theorem cview_answer (s : State) (f : List Nat) (code widx done : Nat) (data : List Nat) :
    (s.answer f code widx done data).cview = s.cview := cview_egress ..

theorem cview_netCut (s : State) : s.netCut.cview = s.cview := by
  unfold State.netCut
  split
  · rfl
  · dsimp only
    split
    · rfl
    · simp only [cview_retire, apply_ite State.cview, cview_answer, cview_endPart, ite_self]
      rfl

/-! ### Generators (13) -/

theorem cview_swapIdle (s : State) (n : Fin 6) : (s.swapIdle n).cview = s.cview := by
  simp (disch := decide) only [State.swapIdle, State.linesDue, State.swapLines, apply_ite State.cview, cview_pb, cview_incMod, cview_modPw,
    ite_self]

theorem cview_mRise (s : State) (n : Fin 6) (pos : Nat) : (s.mRise n pos).cview = s.cview := by
  simp only [State.mRise, State.mainRise, apply_ite State.cview, cview_modPw, ite_self]

theorem cview_mFall (s : State) (n : Fin 6) (pos : Nat) : (s.mFall n pos).cview = s.cview := by
  simp (disch := decide) only [State.mFall, apply_ite State.cview, cview_modPw, cview_p, ite_self]

theorem cview_periodBegin (s : State) (n : Fin 6) (len : Nat) : (s.periodBegin n len).cview = s.cview := by
  simp only [State.periodBegin, apply_ite State.cview, cview_mRise, cview_mFall, cview_modPw, ite_self]

theorem cview_pwmRelock (s : State) : s.pwmRelock.cview = s.cview :=
  cview_each (fun n t => by simp only [apply_ite State.cview, cview_periodBegin, cview_modPw, ite_self]) s

/-! ### Tamper events (19 R735) -/

theorem cview_modSec (s : State) (f : Sec → Sec) : (s.modSec f).cview = s.cview := by rfl

theorem cview_sessionEnd (s : State) : s.sessionEnd.cview = s.cview := by
  simp (disch := decide) only [State.sessionEnd, cview_modSec, cview_wr]

theorem cview_keyRegsClear (s : State) : s.keyRegsClear.cview = s.cview :=
  (cview_wr _ _ _ _ (by decide)).trans ((cview_wr _ _ _ _ (by decide)).trans (cview_each (fun _ t => cview_wr t _ _ _ (by decide)) s))

theorem cview_keyDependent (s : State) : s.keyDependent.cview = s.cview := by
  simp (disch := decide) only [State.keyDependent, cview_mk, cview_modSec, cview_wr, cview_pb, cview_keyRegsClear, cview_sessionEnd]

theorem cview_keyEnd (s : State) (result : Nat) : (s.keyEnd result).cview = s.cview := by
  simp (disch := decide) only [State.keyEnd, cview_modSec, cview_flagIrq, cview_keyRegsClear, cview_pb, cview_p]

theorem cview_lcEnd (s : State) (result : Nat) : (s.lcEnd result).cview = s.cview := by
  simp (disch := decide) only [State.lcEnd, cview_modSec, cview_flagIrq, cview_pb, cview_p]

theorem cview_wipeLarder (s : State) (cause : Nat) : (s.wipeLarder cause).cview = s.cview :=
  cview_pb s F.memLardstat_WIPING 0 true (by decide)

/-- A tamper event takes the keys: jobs with keys end, what depends on keys goes, and KEYSOFF is set. -/
def State.keysOff (s : State) (n : Nat) : State :=
  let s1 := s.wipeLarder (if n = 86 then 3 else 1)
  let s2 := if s1.sec.job.isSome then s1.keyEnd 7 else s1
  let s3 := if s2.sec.lcJob.isSome then s2.lcEnd 2 else s2
  s3.keyDependent.pb F.secStat_KEYSOFF 0 true

/-- The event is counted. -/
def State.tamperCounted (s : State) (n : Nat) : State :=
  let s5 := s.modSec (fun c => { c with u2dOff := c.u2dOff || n == 85 })
  let t := satN 255 (s5.nv.tamp + 1)
  { s5 with nv := { s5.nv with tamp := t } }.p F.secStat_TAMPCNT 0 t

theorem tamper_eq (s : State) (n : Nat) : s.tamper n = (((s.keysOff n).tamperCounted n).flagIrq (tamperFlag n) 0 94).raise n := rfl

theorem cview_tamperCounted (s : State) (n : Nat) : ((s.keysOff n).tamperCounted n).cview = s.cview := by
  simp (disch := decide) only [State.tamperCounted, State.keysOff, cview_p, cview_mk, cview_modSec, cview_pb, cview_wipeLarder,
    cview_keyDependent, apply_ite State.cview, cview_lcEnd, cview_keyEnd, ite_self]

theorem cview_tamper {s : State} {n : Nat} (hs : s.clk.fsys = true) : (s.tamper n).cview = s.cview := by
  have hflag := (cview_flagIrq _ _ 0 94 (tamperFlag_base n)).trans (cview_tamperCounted s n)
  rw [tamper_eq, cview_raise (.inl ((fsys_of_cview hflag).trans hs)), hflag]

end Sys2Proof.Machine
end

section
/-!
PROOF. Clocks (04 R107-R116, R129, R133): what a switch of the reference, a fault of a monitor, a clock-stop release and the return of
fSYS show, and from these the answer of each clock event.
-/

namespace Sys2Proof.Machine

/-! ### Fault bits beside the view -/

theorem fltBit_congr {s t : State} (h : t.rd .fltStat 0 = s.rd .fltStat 0) {n : Nat} (hn : n < 32) : t.fltBit n = s.fltBit n := by
  rw [State.fltBit, State.fltBit, State.rbit, State.rbit, show n / 32 = 0 by omega, h]

theorem fltStat_pendIrq (s : State) (n : Nat) : (s.pendIrq n).rd .fltStat 0 = s.rd .fltStat 0 :=
  (IrqFrame.pendIrq s n).rd _ _ fltStat_zero_apart.1

/-- The registers of a generator that edges and swaps write. -/
def edgeRegs : List RegId := [.pwmStat, .pwmTon, .pwmEvcnt]

theorem edgeRegs_apart : ∀ r ∈ edgeRegs, ∀ i : Fin 6, RegId.fltStat.addr 0 ≠ r.addr i := by decide

section
variable (s : State)

theorem fltStat_p_edge (f : Fld) (n : Fin 6) (v : Nat) (h : f.r ∈ edgeRegs) : (s.p f n v).rd .fltStat 0 = s.rd .fltStat 0 :=
  rd_wr_ne _ _ _ _ _ _ (edgeRegs_apart _ h n)

theorem fltStat_modPw (n : Fin 6) (f : Pwm → Pwm) : (s.modPw n f).rd .fltStat 0 = s.rd .fltStat 0 := by rfl

theorem fltStat_swapIdle (n : Fin 6) : (s.swapIdle n).rd .fltStat 0 = s.rd .fltStat 0 := by
  simp (disch := decide) only [State.swapIdle, State.linesDue, State.swapLines, State.incMod, State.pb, fltStat_ite, fltStat_modPw,
    fltStat_p_edge, ite_self]

theorem fltStat_mRise (n : Fin 6) (pos : Nat) : (s.mRise n pos).rd .fltStat 0 = s.rd .fltStat 0 := by
  simp only [State.mRise, State.mainRise, fltStat_ite, fltStat_modPw, ite_self]

theorem fltStat_mFall (n : Fin 6) (pos : Nat) : (s.mFall n pos).rd .fltStat 0 = s.rd .fltStat 0 := by
  simp (disch := decide) only [State.mFall, fltStat_ite, fltStat_modPw, fltStat_p_edge, ite_self]

theorem fltStat_periodBegin (n : Fin 6) (len : Nat) : (s.periodBegin n len).rd .fltStat 0 = s.rd .fltStat 0 := by
  simp only [State.periodBegin, fltStat_ite, fltStat_mRise, fltStat_mFall, fltStat_modPw, ite_self]

theorem fltStat_pwmRelock : s.pwmRelock.rd .fltStat 0 = s.rd .fltStat 0 :=
  each_keeps (fun t : State => t.rd .fltStat 0) _ _ s fun n t => by
    simp only [fltStat_ite, fltStat_periodBegin, fltStat_modPw, ite_self]

theorem fltStat_phyStop : s.phyStop.rd .fltStat 0 = s.rd .fltStat 0 := by
  simp (disch := decide) only [State.phyStop, State.setPlca, State.netFlag, State.flagIrq, fltStat_ite, fltStat_pendIrq, rd_pb_ne, ite_self]

theorem fltStat_refSwitch (crystal : Bool) : (s.refSwitch crystal).rd .fltStat 0 = s.rd .fltStat 0 := by
  have hswap := each_keeps (fun t : State => t.rd .fltStat 0) strs (fun n t => t.swapIdle n)
    ((s.pb F.clkStat_REFACT 0 crystal).pb F.clkStat_SLEWING 0 true) fun n t => fltStat_swapIdle t n
  simp (disch := decide) only [State.refSwitch, fltStat_ite, fltStat_phyStop, hswap, rd_pb_ne, ite_self]

theorem fltStat_refUpdate : s.refUpdate.rd .fltStat 0 = s.rd .fltStat 0 := by
  simp only [State.refUpdate, fltStat_ite, fltStat_refSwitch, ite_self]

end

/-! ### The reference of the PLL (04 R108, R129) -/

theorem cview_refSwitch (s : State) (crystal : Bool) :
    (s.refSwitch crystal).cview = ((s.pb F.clkStat_REFACT 0 crystal).pb F.clkStat_SLEWING 0 true).cview := by
  simp only [State.refSwitch, apply_ite State.cview, cview_phyStop, cview_each fun n t => cview_swapIdle t n, ite_self]

/-- A switch shows SLEWING and the reference that it moves to, and leaves the rest of CLK_STAT. -/
theorem refSwitch_shows (s : State) (crystal : Bool) :
    (s.refSwitch crystal).b F.clkStat_SLEWING = true ∧ (s.refSwitch crystal).b F.clkStat_REFACT = crystal ∧
      ∀ f : Fld, f.r = .clkStat → 1 ≤ f.lo → (f.lo + f.w ≤ 3 ∨ 4 ≤ f.lo) → (s.refSwitch crystal).b f = s.b f := by
  have hview := cview_refSwitch s crystal
  refine ⟨?_, ?_, fun f hr h0 h3 => ?_⟩
  · rw [b_of_cview hview (by decide)]
    exact b_pb_same _ F.clkStat_SLEWING 0 true (by decide) rfl
  · rw [b_of_cview hview (by decide), b_pb_field (f := F.clkStat_SLEWING) (f' := F.clkStat_REFACT) _ 0 true rfl (by decide) (by decide)]
    exact b_pb_same s F.clkStat_REFACT 0 crystal (by decide) rfl
  · rw [b_of_cview hview (by rw [hr]; decide), b_pb_field (f := F.clkStat_SLEWING) _ 0 true hr (by decide) h3,
      b_pb_field (f := F.clkStat_REFACT) _ 0 crystal hr (by decide) (.inr h0)]

theorem refUpdate_cases (s : State) : s.refUpdate = s ∨ s.clk.fsys = true ∧ s.refUpdate = s.refSwitch s.refCond := by
  unfold State.refUpdate
  split
  · exact .inl rfl
  next h =>
    simp only [Bool.or_eq_true, not_or, Bool.not_eq_true', Bool.not_eq_false] at h
    obtain ⟨⟨⟨-, hs⟩, -⟩, -⟩ := h
    exact .inr ⟨hs, rfl⟩

theorem refUpdate_same {s : State} (h : s.b F.clkStat_REFACT = s.refCond) : s.refUpdate = s := if_pos (by simp [h])

theorem refUpdate_switches {s : State} (hm : s.pwr.mode = .run) (hs : s.clk.fsys = true) (hw : s.b F.clkStat_SLEWING = false)
    (h : s.b F.clkStat_REFACT ≠ s.refCond) : s.refUpdate = s.refSwitch s.refCond :=
  if_neg (by simp [State.running, hm, hs, hw, h])

/-- Of CLK_STAT an update of the reference may write REFACT and SLEWING alone. -/
theorem b_refUpdate (s : State) {f : Fld} (hr : f.r = .clkStat) (h0 : 1 ≤ f.lo) (h3 : f.lo + f.w ≤ 3 ∨ 4 ≤ f.lo) :
    s.refUpdate.b f = s.b f := by
  obtain h | ⟨-, h⟩ := refUpdate_cases s
  · rw [h]
  · rw [h]
    obtain ⟨-, -, hrest⟩ := refSwitch_shows s s.refCond
    exact hrest f hr h0 h3

/-- While fSYS runs the view shows all of the clock logic. -/
theorem clk_of_cview {s t : State} (h : t.cview = s.cview) (hs : s.clk.fsys = true) : t.clk = s.clk := by
  have hl := latched_of_cview h hs
  have hf := fsys_of_cview h
  have hr := release_of_cview h
  have hk := relocked_of_cview h
  have hq := qual_of_cview h
  generalize t.clk = c at hl hf hr hk hq
  generalize s.clk = d at hl hf hr hk hq
  cases c; cases d
  simp_all

theorem clk_refUpdate (s : State) : s.refUpdate.clk = s.clk := by
  obtain h | ⟨hs, h⟩ := refUpdate_cases s
  · rw [h]
  · rw [h]
    exact clk_of_cview (s := (s.pb F.clkStat_REFACT 0 s.refCond).pb F.clkStat_SLEWING 0 true) (cview_refSwitch s s.refCond) hs

/-- A crystal just qualified is the reference at once where it is selected and no slew is in progress. -/
theorem xtalQualified_gives (s : State) (hq : s.clk.qual = true) : Gives .xtalQualified s fun t =>
    t.clk.qual = false ∧ t.b F.clkStat_XTALOK = true ∧
      (s.pwr.mode = .run → s.clk.fsys = true → s.b F.clkStat_SLEWING = false → s.b F.clkStat_REFACT = false →
        s.b F.clkCfg_XTALEN = true → s.b F.clkStat_XTALFAIL = false → s.b F.clkCfg_REFSEL = true →
          t.b F.clkStat_SLEWING = true ∧ t.b F.clkStat_REFACT = true) := by
  refine gives_then (i := .xtalQualified) rfl hq ?_
  obtain ⟨u, hu⟩ : ∃ u : State, u = { s with clk := { s.clk with qual := false } }.pb F.clkStat_XTALOK 0 true := ⟨_, rfl⟩
  have hclk : u.clk = { s.clk with qual := false } := by rw [hu]; rfl
  have hok : u.b F.clkStat_XTALOK = true := by rw [hu]; exact b_pb_same _ F.clkStat_XTALOK 0 true (by decide) rfl
  have hstat : ∀ f : Fld, f.r = .clkStat → f.lo + f.w ≤ 1 ∨ 2 ≤ f.lo → u.b f = s.b f := fun f hr hf => by
    rw [hu]; exact b_pb_field (f := F.clkStat_XTALOK) { s with clk := { s.clk with qual := false } } 0 true hr (by decide) hf
  have hcfg : ∀ f : Fld, f.r = .clkCfg → u.b f = s.b f := fun f hr => by
    rw [hu, State.b, State.b, State.g, State.g, rd_pb_ne _ _ _ _ (by rw [hr]; decide)]
    rfl
  rw [← hu]
  refine ⟨by rw [clk_refUpdate, hclk], (b_refUpdate u rfl (by decide) (by decide)).trans hok, fun hm hs hw hact hen hfail hsel => ?_⟩
  have hcond : u.refCond = true := by
    rw [State.refCond, hok, hcfg F.clkCfg_REFSEL rfl, hcfg F.clkCfg_XTALEN rfl, hstat F.clkStat_XTALFAIL rfl (by decide), hen, hfail, hsel]
    rfl
  have hswitch : u.refUpdate = u.refSwitch true := by
    rw [refUpdate_switches (by rw [hu]; exact hm) (by rw [hclk]; exact hs) ((hstat F.clkStat_SLEWING rfl (by decide)).trans hw), hcond]
    rw [hcond, hstat F.clkStat_REFACT rfl (by decide), hact]
    decide
  rw [hswitch]
  obtain ⟨hslew, hact', -⟩ := refSwitch_shows u true
  exact ⟨hslew, hact'⟩

/-- A slew ends with the reference that the conditions ask for. -/
theorem referenceSlewDone_gives (s : State) (hw : s.b F.clkStat_SLEWING = true) (hc : s.b F.clkStat_REFACT = s.refCond) :
    Gives .referenceSlewDone s fun t => t.b F.clkStat_SLEWING = false ∧ t.b F.clkStat_REFACT = s.b F.clkStat_REFACT := by
  refine gives_then (i := .referenceSlewDone) rfl hw ?_
  have hstat : ∀ f : Fld, f.r = .clkStat → f.lo + f.w ≤ 3 ∨ 4 ≤ f.lo → (s.pb F.clkStat_SLEWING 0 false).b f = s.b f := fun f hr hf =>
    b_pb_field s 0 false hr (by decide) hf
  have hcfg : ∀ f : Fld, f.r = .clkCfg → (s.pb F.clkStat_SLEWING 0 false).b f = s.b f := fun f hr => by
    rw [State.b, State.b, State.g, State.g, rd_pb_ne _ _ _ _ (by rw [hr]; decide)]
  have hact := hstat F.clkStat_REFACT rfl (by decide)
  have hcond : (s.pb F.clkStat_SLEWING 0 false).refCond = s.refCond := by
    rw [State.refCond, State.refCond, hcfg _ rfl, hcfg _ rfl, hstat F.clkStat_XTALOK rfl (by decide),
      hstat F.clkStat_XTALFAIL rfl (by decide)]
  rw [refUpdate_same (by rw [hact, hcond, hc])]
  exact ⟨b_pb_same s F.clkStat_SLEWING 0 false (by decide) rfl, hact⟩

/-! ### Faults of the monitors (04 R110, R113) -/

/-- The faults of the monitors that have a flag in CLK_STAT, and the flag. -/
def clkFlagged : List Nat := [16, 17, 18, 20]
def clkFld (n : Nat) : Fld :=
  match n with
  | 16 => F.clkStat_XTALFAIL
  | 17 => F.clkStat_PLLFAIL
  | 18 => F.clkStat_PWMSTOP
  | _ => F.clkStat_LFRCFAIL

theorem clkFld_place : ∀ n ∈ clkFlagged,
    (clkFld n).r = .clkStat ∧ (clkFld n).w = 1 ∧ 8 ≤ (clkFld n).lo ∧ (clkFld n).lo + (clkFld n).w ≤ 32 := by decide

theorem clkFlagged_source : ∀ n ∈ clkFlagged, n < 32 ∧ fltRsv n = false ∧ fltChan n = 0 ∧ n ≠ 24 ∧ fltLevel n = false := by decide

theorem clkFlag_eq (s : State) {n : Nat} (hn : n ∈ clkFlagged) : s.clkFlag n = s.flagIrq (clkFld n) 0 90 := by
  simp only [clkFlagged, List.mem_cons, List.not_mem_nil, or_false] at hn
  obtain rfl | rfl | rfl | rfl := hn <;> rfl

/-- A fault of a monitor sets its bit. -/
theorem fltBit_raise_clk {s : State} {n : Nat} (hs : s.clk.fsys = true) (hn : n ∈ clkFlagged) : (s.raise n).fltBit n = true := by
  obtain ⟨hlt, hrsv, hchan, h24, -⟩ := clkFlagged_source n hn
  have hd : s.charged n = 0 := by
    simp only [clkFlagged, List.mem_cons, List.not_mem_nil, or_false] at hn
    obtain rfl | rfl | rfl | rfl := hn <;> rfl
  exact fltBit_raise hs hlt hrsv hd (fltReactOf_ne_one s hchan h24)

/-- While fSYS runs, a fault of a monitor is its flag and its bit. -/
theorem clkFault_shows {s : State} {n : Nat} (hs : s.clk.fsys = true) (hn : n ∈ clkFlagged) :
    ((s.clkFlag n).raise n).cview = (s.pb (clkFld n) 0 true).cview ∧ ((s.clkFlag n).raise n).fltBit n = true := by
  have hview : (s.clkFlag n).cview = (s.pb (clkFld n) 0 true).cview := by rw [clkFlag_eq s hn]; exact cview_pendIrq ..
  have hfsys : (s.clkFlag n).clk.fsys = true := (fsys_of_cview hview).trans hs
  exact ⟨(cview_raise (.inl hfsys)).trans hview, fltBit_raise_clk hfsys hn⟩

theorem clkFault_running {s : State} (n : Nat) (hs : s.clk.fsys = true) : s.clkFault n = (s.clkFlag n).raise n := if_pos hs

theorem b_pb_clkFld (s : State) {n : Nat} (hn : n ∈ clkFlagged) : (s.pb (clkFld n) 0 true).b (clkFld n) = true := by
  obtain ⟨-, hw, -, h32⟩ := clkFld_place n hn
  exact b_pb_same s _ 0 true h32 hw

/-- The flags lie above the fields of CLK_STAT that show the clocks. -/
theorem b_pb_clkFld_low (s : State) {n : Nat} (hn : n ∈ clkFlagged) {f : Fld} (hr : f.r = .clkStat) (hf : f.lo + f.w ≤ 8) :
    (s.pb (clkFld n) 0 true).b f = s.b f := by
  obtain ⟨hr', -, hlo, h32⟩ := clkFld_place n hn
  exact b_pb_field s 0 true (hr.trans hr'.symm) h32 (.inl (hf.trans hlo))

theorem xtalQualifyTimeout_gives (s : State) (hq : s.clk.qual = true) (hs : s.clk.fsys = true) : Gives .xtalQualifyTimeout s fun t =>
    t.clk.qual = false ∧ t.b F.clkStat_XTALFAIL = true ∧ t.fltBit 16 = true := by
  obtain ⟨hview, hbit⟩ := clkFault_shows (s := { s with clk := { s.clk with qual := false } }) (n := 16) hs (by decide)
  have hx : exec .xtalQualifyTimeout s = .next ((State.clkFlag { s with clk := { s.clk with qual := false } } 16).raise 16) := by
    rw [← clkFault_running (s := { s with clk := { s.clk with qual := false } }) 16 hs]
    exact congrArg Host.Outcome.next (if_pos hq)
  refine gives_of hx ?_
  exact ⟨qual_of_cview hview, (b_of_cview hview (by decide)).trans (b_pb_clkFld _ (n := 16) (by decide)), hbit⟩

/-- The PHY is silent once its clock is gone. -/
theorem phyStop_PHYON (s : State) : s.phyStop.b F.netStat_PHYON = false := by
  have hflag : ∀ (t : State) (b : Bool), (t.setPlca b).b F.netStat_PHYON = t.b F.netStat_PHYON := fun t b => by
    unfold State.setPlca
    split
    · rfl
    · rw [State.netFlag, State.b, State.g, rd_flagIrq _ _ _ _ _ _ (by decide), ← State.g, ← State.b]
      exact (b_pb_field (f := F.netStat_PLCACHG) (f' := F.netStat_PHYON) _ 0 true rfl (by decide) (by decide)).trans
        (b_pb_field (f := F.netStat_PLCAOK) (f' := F.netStat_PHYON) t 0 b rfl (by decide) (by decide))
  have hoff : ((s.pb F.netStat_PHYON 0 false).pb F.netStat_COORD 0 false).b F.netStat_PHYON = false :=
    (b_pb_field (f := F.netStat_COORD) (f' := F.netStat_PHYON) _ 0 false rfl (by decide) (by decide)).trans
      (b_pb_same s F.netStat_PHYON 0 false (by decide) rfl)
  unfold State.phyStop
  split
  next h => simpa using h
  · dsimp only
    split
    · exact (hflag _ _).trans hoff
    · exact hoff

theorem crystalMonitorFail_gives (s : State) (hm : s.pwr.mode = .run) (hok : s.b F.clkStat_XTALOK = true) (hs : s.clk.fsys = true) :
    Gives .crystalMonitorFail s fun t => t.b F.clkStat_XTALFAIL = true ∧ t.fltBit 16 = true ∧ t.b F.clkStat_REFACT = false ∧
      (s.b F.clkStat_REFACT = true → t.b F.clkStat_SLEWING = true ∧ t.b F.netStat_PHYON = false) := by
  obtain ⟨u, hu⟩ : ∃ u : State, u = (s.pb F.clkStat_XTALOK 0 false).clkFault 16 := ⟨_, rfl⟩
  obtain ⟨hview, hbit⟩ := clkFault_shows (s := s.pb F.clkStat_XTALOK 0 false) (n := 16) hs (by decide)
  rw [← clkFault_running 16 (show (s.pb F.clkStat_XTALOK 0 false).clk.fsys = true from hs), ← hu] at hview hbit
  have hfail : u.b F.clkStat_XTALFAIL = true := (b_of_cview hview (by decide)).trans (b_pb_clkFld _ (n := 16) (by decide))
  have hact : u.b F.clkStat_REFACT = s.b F.clkStat_REFACT :=
    (b_of_cview hview (by decide)).trans ((b_pb_clkFld_low _ (n := 16) (by decide) rfl (by decide)).trans
      (b_pb_field (f := F.clkStat_XTALOK) s 0 false rfl (by decide) (by decide)))
  have hx : exec .crystalMonitorFail s = .next (if s.b F.clkStat_REFACT then u.refSwitch false else u) := by
    rw [hu]
    exact if_pos (by simp [State.running, hm, hs, hok])
  cases hr : s.b F.clkStat_REFACT with
  | false => exact gives_else hx (by simp [hr]) ⟨hfail, hbit, hact.trans hr, nofun⟩
  | true =>
    obtain ⟨hslew, hhfrc, hrest⟩ := refSwitch_shows u false
    exact gives_then hx hr ⟨(hrest _ rfl (by decide) (by decide)).trans hfail,
      (fltBit_congr (fltStat_refSwitch u false) (by decide)).trans hbit, hhfrc, fun _ => ⟨hslew, phyStop_PHYON _⟩⟩

theorem lfrcFail_gives (s : State) (hm : s.pwr.mode = .run) (hb : s.b F.clkStat_AONBK = false) (hs : s.clk.fsys = true) :
    Gives .lfrcFail s fun t =>
      t.b F.clkStat_AONBK = true ∧ t.b F.clkStat_LFRCFAIL = true ∧ t.fltBit 20 = true ∧ t.g F.clkFmeas_COUNT = 0 := by
  obtain ⟨u, hu⟩ : ∃ u : State, u = (s.pb F.clkStat_AONBK 0 true).p F.clkFmeas_COUNT 0 0 := ⟨_, rfl⟩
  have hfsys : u.clk.fsys = true := by rw [hu]; exact hs
  have hx : exec .lfrcFail s = .next (u.clkFault 20) := by
    change execLfrcFail s = _
    simp [execLfrcFail, hm, State.running, hs, hb, hu]
  obtain ⟨hview, hbit⟩ := clkFault_shows hfsys (n := 20) (by decide)
  rw [clkFault_running 20 hfsys] at hx
  refine gives_of hx ⟨?_, (b_of_cview hview (by decide)).trans (b_pb_clkFld u (n := 20) (by decide)), hbit, ?_⟩
  · rw [b_of_cview hview (by decide), b_pb_clkFld_low u (by decide) rfl (by decide), hu, State.b, g_p_addr _ _ _ _ _ _ (by decide)]
    exact b_pb_same s F.clkStat_AONBK 0 true (by decide) rfl
  · rw [g_of_cview hview (by decide), State.pb, g_p_addr _ _ _ _ _ _ (by decide), hu]
    exact g_p_same _ F.clkFmeas_COUNT 0 0 (by decide)

/-! ### The clock-stop release (04 R115, R116) -/

section
variable (s : State) (j : Fin 6)

/-- The blocks behind the generators. -/
theorem pwmStat_p (f : Fld) (i v : Nat) (h : 0xB000 ≤ f.r.place.base) : (s.p f i v).rd .pwmStat j = s.rd .pwmStat j := by
  refine rd_wr_ne _ _ _ _ _ _ ?_
  simp only [RegId.addr, RegId.place.eq_def .pwmStat]
  omega

theorem pwmStat_pb (f : Fld) (i : Nat) (v : Bool) (h : 0xB000 ≤ f.r.place.base) : (s.pb f i v).rd .pwmStat j = s.rd .pwmStat j :=
  pwmStat_p s j f i _ h

theorem pwmStat_ite (c : Prop) [Decidable c] (t u : State) :
    (if c then t else u).rd .pwmStat j = if c then t.rd .pwmStat j else u.rd .pwmStat j := apply_ite (fun x : State => x.rd .pwmStat j) ..

theorem pwmStat_modSt (i : Fin 6) (f : Str → Str) : (s.modSt i f).rd .pwmStat j = s.rd .pwmStat j := by rfl
theorem pwmStat_modBy (i : Fin 6) (f : Byp → Byp) : (s.modBy i f).rd .pwmStat j = s.rd .pwmStat j := by rfl

theorem pwmStat_countOn : s.countOn.rd .pwmStat j = s.rd .pwmStat j := by
  unfold State.countOn
  dsimp only
  split <;> rfl

theorem pwmStat_refreshStr (dim : Bool) (i : Fin 6) : (s.refreshStr dim i).rd .pwmStat j = s.rd .pwmStat j := by
  simp (disch := decide) only [State.refreshStr, State.softStart, pwmStat_ite, pwmStat_p, pwmStat_pb, pwmStat_modSt, pwmStat_countOn,
    ite_self]

theorem pwmStat_setSw (i : Fin 6) (sw : Nat) : (s.setSw i sw).rd .pwmStat j = s.rd .pwmStat j := by
  simp (disch := decide) only [State.setSw, pwmStat_ite, pwmStat_modSt, pwmStat_p, pwmStat_modBy, pwmStat_countOn, ite_self]

theorem pwmStat_refreshStack (i : Fin 6) : (s.refreshStack i).rd .pwmStat j = s.rd .pwmStat j := by
  simp (disch := decide) only [State.refreshStack, pwmStat_ite, pwmStat_setSw, pwmStat_modBy, pwmStat_pb, ite_self]

theorem pwmStat_withGrid (g : Grid) : ({ s with grid := g } : State).rd .pwmStat j = s.rd .pwmStat j := by rfl

theorem pwmStat_refreshGrid : s.refreshGrid.rd .pwmStat j = s.rd .pwmStat j := by
  simp (disch := decide) only [State.refreshGrid, State.gridStop, State.gridBlank, pwmStat_ite, pwmStat_withGrid, pwmStat_countOn,
    pwmStat_pb, ite_self]

end

theorem drive_congr {s t : State} {j : Fin 6} (h : t.rd .pwmStat j = s.rd .pwmStat j) :
    t.b F.pwmStat_DRIVE j = s.b F.pwmStat_DRIVE j := by
  rw [State.b, State.b, State.g, State.g, show F.pwmStat_DRIVE.r = .pwmStat from rfl, h]

/-- The outputs of string `i` follow their enable and their lockout, and those of its stack. -/
def State.refreshAll (i : Fin 6) (s : State) : State := ((s.refreshStr false i).refreshGate i).refreshStack i

theorem release_refreshAll (i : Fin 6) (s : State) : (s.refreshAll i).clk.release = s.clk.release :=
  release_of_cview (by rw [State.refreshAll, cview_refreshStack, cview_refreshGate, cview_refreshStr])

/-- A repetition makes true what one of its steps makes true and every step keeps, where an invariant holds. -/
theorem each_makes {α σ : Type} {l : List α} {f : α → σ → σ} {I P : σ → Prop} {a : α} (ha : a ∈ l) (hI : ∀ b t, I t → I (f b t))
    (hP : ∀ b t, P t → P (f b t)) (hmake : ∀ t, I t → P (f a t)) {s : σ} (hs : I s) : P (each l f s) := by
  have hkeep : ∀ (l : List α) t, P t → P (each l f t) := fun l => by
    induction l with
    | nil => exact fun _ h => h
    | cons b l ih => exact fun t h => ih _ (hP b t h)
  induction l generalizing s with
  | nil => cases ha
  | cons b l ih =>
    rcases List.mem_cons.mp ha with rfl | ha
    · exact hkeep l _ (hmake s hs)
    · exact ih ha (hI b s hs)

/-- A gate that is Hi-Z stays so, and the gate of string `i` goes Hi-Z in a clock-stop release. -/
theorem drive_refreshAll (i j : Fin 6) (s : State) (h : s.b F.pwmStat_DRIVE j = false ∨ i = j ∧ s.clk.release = true) :
    (s.refreshAll i).b F.pwmStat_DRIVE j = false := by
  have hstack : (s.refreshAll i).b F.pwmStat_DRIVE j = ((s.refreshStr false i).refreshGate i).b F.pwmStat_DRIVE j :=
    drive_congr (pwmStat_refreshStack ..)
  have hstr : (s.refreshStr false i).b F.pwmStat_DRIVE j = s.b F.pwmStat_DRIVE j := drive_congr (pwmStat_refreshStr ..)
  have hsame : ((s.refreshStr false i).pb F.pwmStat_DRIVE i false).b F.pwmStat_DRIVE i = false :=
    b_pb_same _ F.pwmStat_DRIVE i false (by decide) rfl
  have hne : i ≠ j → ((s.refreshStr false i).pb F.pwmStat_DRIVE i false).b F.pwmStat_DRIVE j = s.b F.pwmStat_DRIVE j := fun hij => by
    have apart : ∀ i j : Fin 6, i ≠ j → RegId.pwmStat.addr j ≠ RegId.pwmStat.addr i := by decide
    exact (drive_congr (rd_pb_ne _ _ _ _ (apart i j hij))).trans hstr
  rw [hstack, State.refreshGate]
  obtain rfl | hij := eq_or_ne i j
  · split
    · exact hsame
    next hlock =>
      refine hstr.trans (h.resolve_right fun ⟨_, hrel⟩ => hlock ?_)
      have hrel' : (s.refreshStr false i).clk.release = true := (release_of_cview (cview_refreshStr ..)).trans hrel
      simp [State.gateLock, hrel']
  · have hj := h.resolve_right fun ⟨e, _⟩ => hij e
    split
    · exact (hne hij).trans hj
    · exact hstr.trans hj

/-- Every gate is Hi-Z in a clock-stop release (04 R115). -/
theorem drive_outputs {s : State} (h : s.clk.release = true) (j : Fin 6) : s.outputs.b F.pwmStat_DRIVE j = false := by
  have hoff : (each strs State.refreshAll s).b F.pwmStat_DRIVE j = false :=
    each_makes (I := fun t : State => t.clk.release = true) (P := fun t : State => t.b F.pwmStat_DRIVE j = false) (a := j)
      (List.mem_finRange j) (fun i t ht => (release_refreshAll i t).trans ht) (fun i t ht => drive_refreshAll i j t (.inl ht))
      (fun t ht => drive_refreshAll j j t (.inr ⟨rfl, ht⟩)) h
  have hgrid : s.outputs.rd .pwmStat j = (each strs State.refreshAll s).rd .pwmStat j := by
    simp only [State.outputs, pwmStat_ite, pwmStat_withGrid, pwmStat_refreshGrid, ite_self]
    rfl
  exact (drive_congr hgrid).trans hoff

/-- The clocks stop in a release, with fault `n` latched. -/
def State.clocksOff (s : State) (n : Nat) : State :=
  let s1 := ((s.pb F.clkStat_PLLLOCK 0 false).pb F.clkStat_REFACT 0 false).pb F.clkStat_SLEWING 0 false
  { s1 with clk := { s1.clk with fsys := false, release := true, relocked := false } }.latchFault n 0

/-- A fault that is latched changes the list of those latched alone. -/
theorem latchFault_eq (s : State) (n chans : Nat) :
    ∃ l, s.latchFault n chans = { s with clk := { s.clk with latched := l } } ∧ ∃ p ∈ l, p.1 = n := by
  unfold State.latchFault
  split
  next h =>
    obtain ⟨p, hp, hn⟩ := List.any_eq_true.mp h
    exact ⟨s.clk.latched, rfl, p, hp, beq_iff_eq.mp hn⟩
  · exact ⟨_, rfl, (n, chans), List.mem_append_right _ (List.mem_singleton.mpr rfl), rfl⟩

theorem clocksOff_shows (s : State) (n : Nat) : (s.clocksOff n).clk.fsys = false ∧ (s.clocksOff n).clk.release = true ∧
    (∃ p ∈ (s.clocksOff n).clk.latched, p.1 = n) ∧ (s.clocksOff n).b F.clkStat_PLLLOCK = false ∧
      (s.clocksOff n).g F.clkFmeas_COUNT = s.g F.clkFmeas_COUNT := by
  have hpll : (((s.pb F.clkStat_PLLLOCK 0 false).pb F.clkStat_REFACT 0 false).pb F.clkStat_SLEWING 0 false).b F.clkStat_PLLLOCK = false :=
    (b_pb_field (f := F.clkStat_SLEWING) (f' := F.clkStat_PLLLOCK) _ 0 false rfl (by decide) (by decide)).trans
      ((b_pb_field (f := F.clkStat_REFACT) (f' := F.clkStat_PLLLOCK) _ 0 false rfl (by decide) (by decide)).trans
        (b_pb_same s F.clkStat_PLLLOCK 0 false (by decide) rfl))
  have hcount : (((s.pb F.clkStat_PLLLOCK 0 false).pb F.clkStat_REFACT 0 false).pb F.clkStat_SLEWING 0 false).g F.clkFmeas_COUNT =
      s.g F.clkFmeas_COUNT := by
    simp (disch := decide) only [State.g, rd_pb_ne]
  unfold State.clocksOff
  dsimp only
  generalize ((s.pb F.clkStat_PLLLOCK 0 false).pb F.clkStat_REFACT 0 false).pb F.clkStat_SLEWING 0 false = s1 at hpll hcount ⊢
  obtain ⟨l, hl, hp⟩ := latchFault_eq { s1 with clk := { s1.clk with fsys := false, release := true, relocked := false } } n 0
  rw [hl]
  exact ⟨rfl, rfl, hp, hpll, hcount⟩

/-- What the release discards of the ports shows nowhere in the clocks. -/
theorem clockStop_eq (s : State) (n : Nat) : ∃ u : State, s.clockStop n = u.outputs ∧ u.cview = (s.clocksOff n).cview := by
  refine ⟨_, rfl, (cview_endPart ..).trans ?_⟩
  exact (cview_netCut _).trans (cview_phyStop _)

theorem clockStop_shows (s : State) {n : Nat} (hn : clkSource n = true) :
    (s.clockStop n).clk.fsys = false ∧ (s.clockStop n).clk.release = true ∧ (s.clockStop n).clk.latched.any (·.1 == n) = true ∧
      (s.clockStop n).b F.clkStat_PLLLOCK = false ∧ (s.clockStop n).g F.clkFmeas_COUNT = s.g F.clkFmeas_COUNT ∧
        ∀ j : Fin 6, (s.clockStop n).b F.pwmStat_DRIVE j = false := by
  obtain ⟨hfsys, hrel, ⟨p, hp, rfl⟩, hpll, hcount⟩ := clocksOff_shows s n
  obtain ⟨u, hu, huv⟩ := clockStop_eq s p.1
  have hview : (s.clockStop p.1).cview = (s.clocksOff p.1).cview := by rw [hu, cview_outputs, huv]
  refine ⟨(fsys_of_cview hview).trans hfsys, (release_of_cview hview).trans hrel,
    List.any_eq_true.mpr ⟨p, mem_latched_of_cview hview hfsys hp hn, beq_self_eq_true _⟩, (b_of_cview hview (by decide)).trans hpll,
    (g_of_cview hview (by decide)).trans hcount, fun j => ?_⟩
  rw [hu]
  exact drive_outputs ((release_of_cview huv).trans hrel) j

theorem pllLost_run {s : State} (hm : s.pwr.mode = .run) : s.pllLost = s.clockStop 17 := if_pos (by simp [State.running, hm])

theorem pllUnlock_gives (s : State) (hm : s.pwr.mode = .run) : Gives .pllUnlock s fun t =>
    t.clk.fsys = false ∧ t.clk.release = true ∧ t.clk.latched.any (·.1 == 17) = true ∧ t.b F.clkStat_PLLLOCK = false ∧
      ∀ n : Fin 6, t.b F.pwmStat_DRIVE n = false := by
  obtain ⟨hfsys, hrel, hlat, hpll, -, hdrive⟩ := clockStop_shows s (n := 17) rfl
  exact gives_of (i := .pllUnlock) (congrArg Host.Outcome.next (pllLost_run hm)) ⟨hfsys, hrel, hlat, hpll, hdrive⟩

theorem fpwmStop_gives (s : State) (hm : s.pwr.mode = .run) : Gives .fpwmStop s fun t =>
    t.clk.fsys = false ∧ t.clk.release = true ∧ t.clk.latched.any (·.1 == 18) = true ∧ ∀ n : Fin 6, t.b F.pwmStat_DRIVE n = false := by
  obtain ⟨hfsys, hrel, hlat, -, -, hdrive⟩ := clockStop_shows s (n := 18) rfl
  exact gives_then (i := .fpwmStop) rfl (by simp [State.running, hm]) ⟨hfsys, hrel, hlat, hdrive⟩

/-! ### The end of the release (04 R116) -/

/-- A latched fault of a monitor is recorded as one raised while fSYS runs. -/
theorem takeLatched_eq (s : State) {n : Nat} (hn : n ∈ clkFlagged) : s.takeLatched n 0 = (s.clkFlag n).raise n := by
  obtain ⟨-, -, hchan, -, hlev⟩ := clkFlagged_source n hn
  simp only [State.takeLatched, hlev, Bool.false_and, Bool.false_eq_true, if_false, State.raise, hchan]

/-- fSYS runs again, with nothing latched and no supply flag left to wait. -/
def State.fsysOn (s : State) : State :=
  { s with clk := { s.clk with fsys := true, latched := [] }, pwr := { s.pwr with flags := 0 } }

/-- fSYS back with one fault latched: its flag and its bit; the supply flags that waited go to PWR_STAT. -/
theorem fsysBack_one {s : State} {n : Nat} (hl : s.clk.latched = [(n, 0)]) (hn : n ∈ clkFlagged) :
    s.fsysBack.cview = (s.fsysOn.pb (clkFld n) 0 true).cview ∧ s.fsysBack.fltBit n = true := by
  have hflag : ∀ (k : Nat) (t : State), (if bitN s.pwr.flags k then (t.setBits .pwrStat 0 (2 ^ k)).pendIrq 89 else t).cview = t.cview :=
    fun k t => by
      split
      · exact (cview_pendIrq ..).trans (cview_wr_off _ _ (by decide))
      · rfl
  have hflt : ∀ (k : Nat) (t : State),
      (if bitN s.pwr.flags k then (t.setBits .pwrStat 0 (2 ^ k)).pendIrq 89 else t).rd .fltStat 0 = t.rd .fltStat 0 := fun k t => by
    split
    · exact (fltStat_pendIrq ..).trans (rd_wr_ne _ _ _ _ _ _ (by decide))
    · rfl
  have hback : s.fsysBack = each (upto 32)
      (fun k t => if bitN s.pwr.flags k then (t.setBits .pwrStat 0 (2 ^ k)).pendIrq 89 else t) ((s.fsysOn.clkFlag n).raise n) := by
    rw [← takeLatched_eq _ hn, State.fsysBack, hl]
    rfl
  obtain ⟨hview, hbit⟩ := clkFault_shows (s := s.fsysOn) rfl hn
  rw [hback]
  refine ⟨(cview_each hflag _).trans hview, (fltBit_congr ?_ (clkFlagged_source n hn).1).trans hbit⟩
  exact each_keeps (fun t : State => t.rd .fltStat 0) _ _ _ hflt

theorem pllRelock_gives (s : State) (hs : s.clk.fsys = false) (hr : s.clk.release = true) (hl : s.clk.latched = [(17, 0)]) :
    Gives .pllRelock s fun t => t.clk.fsys = true ∧ t.clk.relocked = true ∧ t.clk.latched = [] ∧ t.b F.clkStat_PLLLOCK = true ∧
      t.b F.clkStat_PLLFAIL = true ∧ t.fltBit 17 = true := by
  obtain ⟨u, hu⟩ : ∃ u : State, u = { s.pb F.clkStat_PLLLOCK 0 true with clk := { s.clk with relocked := true } } := ⟨_, rfl⟩
  have hx : exec .pllRelock s = .next u.fsysBack.pwmRelock.refUpdate := by
    change execPllRelock s = _
    simp [execPllRelock, hs, hr, hu]
  have hlock : u.b F.clkStat_PLLLOCK = true := by
    rw [hu]
    exact b_pb_same s F.clkStat_PLLLOCK 0 true (by decide) rfl
  obtain ⟨hback, hbit⟩ := fsysBack_one (s := u) (n := 17) (by rw [hu]; exact hl) (by decide)
  have hview := (cview_pwmRelock u.fsysBack).trans hback
  have hclk : u.fsysBack.pwmRelock.refUpdate.clk = u.fsysOn.clk :=
    (clk_refUpdate _).trans (clk_of_cview (s := u.fsysOn.pb (clkFld 17) 0 true) hview rfl)
  refine gives_of hx ⟨congrArg Clk.fsys hclk, (congrArg Clk.relocked hclk).trans (by rw [hu]; rfl), congrArg Clk.latched hclk, ?_, ?_, ?_⟩
  · rw [b_refUpdate _ rfl (by decide) (by decide), b_of_cview hview (by decide), b_pb_clkFld_low _ (by decide) rfl (by decide)]
    exact hlock
  · rw [b_refUpdate _ rfl (by decide) (by decide), b_of_cview hview (by decide)]
    exact b_pb_clkFld _ (n := 17) (by decide)
  · exact (fltBit_congr ((fltStat_refUpdate _).trans (fltStat_pwmRelock _)) (by decide)).trans hbit

/-! ### The frequency monitor and clock glitches (04 R110, R111, R133) -/

/-- A clock tamper shows FLT19, its cause and that the keys are off. -/
theorem clockTamper_shows {s : State} (hs : s.clk.fsys = true) : (s.tamper 19).cview = s.cview ∧ (s.tamper 19).fltBit 19 = true ∧
    (s.tamper 19).b F.secStat_CLK = true ∧ (s.tamper 19).b F.secStat_KEYSOFF = true := by
  have hsec : ∀ (t : State) (f : Fld), t.clk.fsys = true → f.r = .secStat →
      ((t.flagIrq F.secStat_CLK 0 94).raise 19).b f = (t.pb F.secStat_CLK 0 true).b f := fun t f ht hf => by
    rw [State.b, State.b, State.g, State.g, rd_raise_fixed_apart ((flagIrq_clk ..).symm ▸ ht) (by decide) (by rw [hf]; decide),
      rd_flagIrq _ _ _ _ _ _ (by rw [hf]; decide)]
  have hfsys : ((s.keysOff 19).tamperCounted 19).clk.fsys = true := (fsys_of_cview (cview_tamperCounted s 19)).trans hs
  refine ⟨cview_tamper hs, ?_, ?_, ?_⟩
  · exact fltBit_raise_fixed ((flagIrq_clk ..).symm ▸ hfsys) (by decide)
  · exact (hsec _ F.secStat_CLK hfsys rfl).trans (b_pb_same _ F.secStat_CLK 0 true (by decide) rfl)
  · refine (hsec _ F.secStat_KEYSOFF hfsys rfl).trans
      ((b_pb_field (f := F.secStat_CLK) (f' := F.secStat_KEYSOFF) _ 0 true rfl (by decide) (by decide)).trans ?_)
    have hoff : ∀ u : State, (u.tamperCounted 19).b F.secStat_KEYSOFF = u.b F.secStat_KEYSOFF := fun u =>
      congrArg (· == 1) (g_p_field _ F.secStat_TAMPCNT F.secStat_KEYSOFF 0 _ rfl (by decide) (by decide))
    exact (hoff _).trans (b_pb_same _ F.secStat_KEYSOFF 0 true (by decide) rfl)

theorem clockGlitch_gives (s : State) (hm : s.pwr.mode = .run) (hs : s.clk.fsys = true) : Gives .clockGlitch s fun t =>
    t.fltBit 19 = true ∧ t.b F.secStat_CLK = true ∧ t.b F.secStat_KEYSOFF = true :=
  gives_then (i := .clockGlitch) rfl (by simp [State.running, hm, hs]) (clockTamper_shows hs).2

/-- What the end of a window does on LFRC: the count, and below or above its limits the release or the tamper event. -/
theorem exec_frequencyWindowEnd {s : State} (count : BitVec 20) (hm : s.pwr.mode = .run) (hs : s.clk.fsys = true)
    (hb : s.b F.clkStat_AONBK = false) : exec (.frequencyWindowEnd count) s =
      .next (if count.toNat < 120000 then (s.p F.clkFmeas_COUNT 0 count.toNat).clockStop 17
        else if 200000 < count.toNat then (s.p F.clkFmeas_COUNT 0 count.toNat).tamper 19 else s.p F.clkFmeas_COUNT 0 count.toNat) := by
  change execFrequencyWindowEnd count s = _
  rw [← pllLost_run (s := s.p F.clkFmeas_COUNT 0 count.toNat) hm]
  unfold execFrequencyWindowEnd
  rw [if_neg (by simp [State.running, hm, hs]), if_neg (by simp [hb])]
  simp only [apply_ite Host.Outcome.next]

theorem frequencyWindowEnd_gives (s : State) (count : BitVec 20) (hm : s.pwr.mode = .run) (hs : s.clk.fsys = true) :
    Gives (.frequencyWindowEnd count) s fun t =>
      if s.b F.clkStat_AONBK then t.g F.clkFmeas_COUNT = 0
      else t.g F.clkFmeas_COUNT = count.toNat ∧ (count.toNat < 120000 → t.clk.release = true) ∧
        (200000 < count.toNat → t.fltBit 19 = true) := by
  cases hb : s.b F.clkStat_AONBK with
  | true =>
    have hx : exec (.frequencyWindowEnd count) s = .next (s.p F.clkFmeas_COUNT 0 0) := by
      change execFrequencyWindowEnd count s = _
      simp [execFrequencyWindowEnd, State.running, hm, hs, hb]
    exact gives_of hx (g_p_same s F.clkFmeas_COUNT 0 0 (by decide))
  | false =>
    have hcount : (s.p F.clkFmeas_COUNT 0 count.toNat).g F.clkFmeas_COUNT = count.toNat :=
      (g_p_same s F.clkFmeas_COUNT 0 _ (by decide)).trans (Nat.mod_eq_of_lt count.isLt)
    refine gives_of (exec_frequencyWindowEnd count hm hs hb) ?_
    rw [if_neg Bool.false_ne_true]
    split
    next hlow =>
      obtain ⟨-, hrel, -, -, hkeep, -⟩ := clockStop_shows (s.p F.clkFmeas_COUNT 0 count.toNat) (n := 17) rfl
      exact ⟨hkeep.trans hcount, fun _ => hrel, fun h => absurd h (by omega)⟩
    next hlow =>
      split
      next hhigh =>
        obtain ⟨hview, hbit, -, -⟩ := clockTamper_shows (s := s.p F.clkFmeas_COUNT 0 count.toNat) hs
        exact ⟨(g_of_cview hview (by decide)).trans hcount, fun h => absurd h hlow, fun _ => hbit⟩
      next hhigh => exact ⟨hcount, fun h => absurd h hlow, fun h => absurd h hhigh⟩

/-- A failure of the LFRC in standby is only noted: from then on it wakes by the pin alone. -/
theorem lfrcFail_standby (s : State) (k : Standby) (hm : s.pwr.mode = .standby k) : Gives .lfrcFail s fun t => t.pwr.lfrcDead = true := by
  refine gives_of (i := .lfrcFail) (t := { s with pwr := { s.pwr with lfrcDead := true } }) ?_ rfl
  change execLfrcFail s = _
  rw [execLfrcFail, hm]

/-- Settles O17: one clause for each clock event, LFRC_FAIL also in standby. -/
theorem clockEventsComplete : Obligations.ClockEventsComplete :=
  ⟨xtalQualified_gives, xtalQualifyTimeout_gives, referenceSlewDone_gives, crystalMonitorFail_gives, pllUnlock_gives, fpwmStop_gives,
    pllRelock_gives, frequencyWindowEnd_gives, clockGlitch_gives, lfrcFail_gives, lfrcFail_standby⟩

end Sys2Proof.Machine
end

section
/-!
PROOF. The outside view of the state: all that the events of the power outputs (13, 14, 15) leave alone. Interrupts, faults, the loop
units, the generators, the stacks and the grid keep it.
-/

namespace Sys2Proof.Machine

/-- An address in a block that an event of the outputs may write. -/
def outAddr (a : Nat) : Bool := outBlocks.contains (a / 0x1000)

/-- What lies outside the outputs: the words of registers in other blocks, memory, ports, racks, engines, keys, the image store, the power
and reset logic, the slice and time, with the time matches that are armed. -/
structure OutsideView where
  words : RegId → Nat → Word
  mem : List Host.Cell
  ecc : List (Nat × Nat)
  posted : List Posted
  acc : List (Nat × Access)
  pwr : Pwr
  rack : Rack
  eng : Vector Eng 4
  spi : Spi
  net : Net
  store : Img
  nv : Nv
  sec : Sec
  slice : Slice
  time : Nat
  tick : Nat
  armed : List (Nat × Nat)

/-- The outside view of a state. -/
def State.oview (s : State) : OutsideView where
  words r i := if outAddr (r.addr i) then 0 else s.rd r i
  mem := s.mem
  ecc := s.ecc
  posted := s.posted
  acc := s.acc
  pwr := s.pwr
  rack := s.rack
  eng := s.eng
  spi := s.spi
  net := s.net
  store := s.store
  nv := s.nv
  sec := s.sec
  slice := s.slice
  time := s.time
  tick := s.tick
  armed := s.disp.armed

/-- A register outside the outputs reads the same in states of one view. -/
theorem rd_of_oview {s t : State} (h : t.oview = s.oview) {r : RegId} {i : Nat} (hr : outAddr (r.addr i) = false) :
    t.rd r i = s.rd r i := by
  have hw : t.oview.words r i = s.oview.words r i := by rw [h]
  simpa [State.oview, hr] using hw

/-! ### Writes of registers and of other records -/

theorem oview_wr (s : State) (r : RegId) (i : Nat) (w : Word) (h : outAddr (r.addr i) = true) : (s.wr r i w).oview = s.oview := by
  have hw : (s.wr r i w).oview.words = s.oview.words := funext fun q => funext fun j => by
    simp only [State.oview]
    split
    · rfl
    next hq => exact rd_wr_ne _ _ _ _ _ _ fun e => hq (e ▸ h)
  exact congrArg (fun f => { s.oview with words := f }) hw

theorem oview_p (s : State) (f : Fld) (i v : Nat) (h : outAddr (f.r.addr i) = true) : (s.p f i v).oview = s.oview := oview_wr _ _ _ _ h
theorem oview_pb (s : State) (f : Fld) (i : Nat) (v : Bool) (h : outAddr (f.r.addr i) = true) : (s.pb f i v).oview = s.oview :=
  oview_wr _ _ _ _ h
theorem oview_setBits (s : State) (r : RegId) (i m : Nat) (h : outAddr (r.addr i) = true) : (s.setBits r i m).oview = s.oview :=
  oview_wr _ _ _ _ h
theorem oview_incSat (s : State) (f : Fld) (i : Nat) (h : outAddr (f.r.addr i) = true) : (s.incSat f i).oview = s.oview :=
  oview_wr _ _ _ _ h
theorem oview_incMod (s : State) (f : Fld) (i : Nat) (h : outAddr (f.r.addr i) = true) : (s.incMod f i).oview = s.oview :=
  oview_wr _ _ _ _ h

/-! A register with one entry for each generator, string or stack. -/

section
variable (s : State) (f : Fld) (i : Fin 6) (h : ∀ j : Fin 6, outAddr (f.r.addr j) = true)
include h

theorem oview_p6 (v : Nat) : (s.p f i v).oview = s.oview := oview_p _ _ _ _ (h i)
theorem oview_pb6 (v : Bool) : (s.pb f i v).oview = s.oview := oview_pb _ _ _ _ (h i)
theorem oview_incSat6 : (s.incSat f i).oview = s.oview := oview_incSat _ _ _ (h i)
theorem oview_incMod6 : (s.incMod f i).oview = s.oview := oview_incMod _ _ _ (h i)

end

theorem oview_setBits6 (s : State) (r : RegId) (i : Fin 6) (m : Nat) (h : ∀ j : Fin 6, outAddr (r.addr j) = true) :
    (s.setBits r i m).oview = s.oview := oview_setBits _ _ _ _ (h i)

/-- Repeating an operation that keeps the view keeps it. -/
theorem oview_each {α : Type} {l : List α} {f : α → State → State} (h : ∀ a t, (f a t).oview = t.oview) (s : State) :
    (each l f s).oview = s.oview := each_keeps State.oview l f s h

section
variable (s : State)

theorem oview_modCx (c : Fin 16) (f : Ctx → Ctx) : (s.modCx c f).oview = s.oview := by rfl
theorem oview_modPw (i : Fin 6) (f : Pwm → Pwm) : (s.modPw i f).oview = s.oview := by rfl
theorem oview_modSt (i : Fin 6) (f : Str → Str) : (s.modSt i f).oview = s.oview := by rfl
theorem oview_modBy (i : Fin 6) (f : Byp → Byp) : (s.modBy i f).oview = s.oview := by rfl
theorem oview_modTlm (f : Tlm → Tlm) : (s.modTlm f).oview = s.oview := by rfl
theorem oview_modTab (x : Fin 2) (f : AdcTab → AdcTab) : (s.modTab x f).oview = s.oview := by rfl
theorem oview_modGrid (f : Grid → Grid) : (s.modGrid f).oview = s.oview := by rfl

/-- An update of records that the view does not show. -/
theorem oview_mk (pending free staged cyc holdHi snaps parityBad clk pins flt domRamps domRst hearth pwm str byp px grid adcTab adcCv shr
    tlm ctx spare memc dbg) :
    (State.mk pending free s.time s.tick s.mem s.ecc s.regs s.img staged cyc s.posted holdHi snaps parityBad s.acc s.pwr clk pins flt
      domRamps domRst hearth s.disp pwm str byp px grid adcTab adcCv shr tlm s.rack ctx s.eng s.spi s.net s.store spare memc s.nv s.sec
      dbg s.slice).oview = s.oview := by rfl

end

/-! ### Interrupts (05 R146) and the trace (20 R761) -/

theorem oview_badEvt (s : State) {d : Nat} (hd : d < 4) : (s.badEvt d).oview = s.oview := by
  have h : ∀ j : Fin 4, outAddr (RegId.dispStat.addr j) = true := by decide
  exact oview_pb _ _ _ _ (h ⟨d, hd⟩)

theorem oview_fireEntry (s : State) (i evt : Nat) (src : Option Nat) (data : Word) : (s.fireEntry i evt src data).oview = s.oview := by
  have hd : s.g F.dispCfg_DOM i < 4 := Nat.mod_lt _ (by decide)
  unfold State.fireEntry
  dsimp only
  split
  · rfl
  split
  · exact oview_badEvt s hd
  split
  · exact oview_badEvt s hd
  · split <;> split <;> rfl

theorem oview_fireEvent (s : State) (evt : Nat) (src : Option Nat) (data : Word) : (s.fireEvent evt src data).oview = s.oview :=
  oview_each (fun i t => oview_fireEntry t i evt src data) s

theorem oview_evWake (s : State) (kind sel : Nat) (d : Option Nat) : (s.evWake kind sel d).oview = s.oview := by
  refine oview_each (fun c t => ?_) s
  split
  · simp only [apply_ite State.oview, oview_modCx, ite_self]
  · rfl

theorem outAddr_intPend {d n : Nat} (hd : d < 4) (hn : n < 96) : outAddr (RegId.intPend.addr (3 * d + n / 32)) = true := by
  have h : ∀ k : Fin 12, outAddr (RegId.intPend.addr k) = true := by decide
  exact h ⟨3 * d + n / 32, by omega⟩

theorem oview_pendIrq (s : State) (n : Nat) : (s.pendIrq n).oview = s.oview := by
  unfold State.pendIrq
  split
  · rfl
  next d hd =>
    split
    · rfl
    · rw [oview_evWake, oview_fireEvent]
      exact oview_setBits _ _ _ _ (outAddr_intPend (State.irqOwner_lt hd) (State.lt_of_irqOwner hd))

theorem oview_flagIrq (s : State) (f : Fld) (i irq : Nat) (h : outAddr (f.r.addr i) = true) : (s.flagIrq f i irq).oview = s.oview :=
  (oview_pendIrq ..).trans (oview_pb _ _ _ _ h)

theorem oview_flagIrq6 (s : State) (f : Fld) (i : Fin 6) (irq : Nat) (h : ∀ j : Fin 6, outAddr (f.r.addr j) = true) :
    (s.flagIrq f i irq).oview = s.oview := oview_flagIrq _ _ _ _ (h i)

theorem oview_trace (s : State) (ty a b c : Nat) : (s.trace ty a b c).oview = s.oview := by
  simp (disch := decide) only [State.trace, apply_ite State.oview, oview_incSat, oview_mk, ite_self]

/-! ### Enables, lockouts and drives -/

theorem oview_countOn (s : State) : s.countOn.oview = s.oview := by
  simp only [State.countOn, apply_ite State.oview, oview_modTlm, ite_self]

theorem oview_softStart (s : State) (i : Fin 6) : (s.softStart i).oview = s.oview := by
  simp (disch := decide) only [State.softStart, oview_pb6, oview_modSt, oview_p6]

theorem oview_refreshStr (s : State) (dim : Bool) (i : Fin 6) : (s.refreshStr dim i).oview = s.oview := by
  simp (disch := decide) only [State.refreshStr, apply_ite State.oview, oview_softStart, oview_p6, oview_pb6, oview_modSt, oview_countOn,
    ite_self]

theorem oview_refreshGate (s : State) (i : Fin 6) : (s.refreshGate i).oview = s.oview := by
  simp (disch := decide) only [State.refreshGate, apply_ite State.oview, oview_pb6, ite_self]

theorem oview_setSw (s : State) (i : Fin 6) (sw : Nat) : (s.setSw i sw).oview = s.oview := by
  simp (disch := decide) only [State.setSw, apply_ite State.oview, oview_modSt, oview_p6, oview_modBy, oview_countOn, ite_self]

theorem oview_refreshStack (s : State) (i : Fin 6) : (s.refreshStack i).oview = s.oview := by
  simp (disch := decide) only [State.refreshStack, apply_ite State.oview, oview_setSw, oview_modBy, oview_pb6, ite_self]

theorem oview_gridBlank (s : State) : s.gridBlank.oview = s.oview := by
  simp only [State.gridBlank, oview_mk, oview_countOn]

theorem oview_gridStop (s : State) : s.gridStop.oview = s.oview := by
  simp (disch := decide) only [State.gridStop, oview_mk, oview_gridBlank, oview_pb]

theorem oview_refreshGrid (s : State) : s.refreshGrid.oview = s.oview := by
  simp only [State.refreshGrid, apply_ite State.oview, oview_gridStop, ite_self]

theorem oview_outputs (s : State) : s.outputs.oview = s.oview := by
  have hstr : ∀ (i : Fin 6) (t : State), (((t.refreshStr false i).refreshGate i).refreshStack i).oview = t.oview := fun i t => by
    rw [oview_refreshStack, oview_refreshGate, oview_refreshStr]
  simp only [State.outputs, apply_ite State.oview, oview_mk, oview_refreshGrid, oview_each hstr, ite_self]

/-! ### Faults (18 R681-R691) -/

/-- The domain that a fault is charged to is one of the four. -/
theorem State.charged_lt (s : State) (n : Nat) : s.charged n < 4 := by
  unfold State.charged
  repeat' refine iteInduction (motive := (· < 4)) (fun _ => ?_) (fun _ => ?_)
  exacts [s.own2_lt .., Nat.mod_lt _ (by decide), s.own2_lt .., s.own2_lt .., s.own2_lt .., s.own2_lt .., s.own2_lt .., by decide]

theorem fltRsv_lt {n : Nat} (h : ¬fltRsv n = true) : n < 128 := by
  by_contra hn
  exact h (by simp only [fltRsv, Bool.or_eq_true, decide_eq_true_eq]; omega)

theorem oview_latchFault (s : State) (n chans : Nat) : (s.latchFault n chans).oview = s.oview := by
  simp only [State.latchFault, apply_ite State.oview, oview_mk, ite_self]

theorem oview_containDomain (s : State) (d : Nat) : (s.containDomain d).oview = s.oview := by
  simp only [State.containDomain, apply_ite State.oview, oview_mk, ite_self]

theorem oview_hearthCause (s : State) : s.hearthCause.oview = s.oview := rfl

theorem oview_fltCapture (s : State) (n react : Nat) {d : Nat} (hd : d < 4) : (s.fltCapture n d react).oview = s.oview := by
  have h : ∀ j : Fin 4, outAddr (RegId.fltCap.addr j) = true := by decide
  unfold State.fltCapture
  split <;> exact oview_wr _ _ _ _ (h ⟨d, hd⟩)

theorem oview_fltCount (s : State) (cls : Nat) : (s.fltCount cls).oview = s.oview := by
  unfold State.fltCount
  split <;> exact oview_incSat _ _ _ (by decide)

theorem oview_fltNotify (s : State) (cls d : Nat) : (s.fltNotify cls d).oview = s.oview := by
  unfold State.fltNotify
  split
  · exact oview_flagIrq _ _ _ _ (by decide)
  · exact oview_flagIrq _ _ _ _ (by decide)
  · exact (oview_pendIrq ..).trans (oview_setBits _ _ _ _ (by decide))
  · exact oview_flagIrq _ _ _ _ (by decide)

theorem oview_fltReact (s : State) (n react chans d : Nat) : (s.fltReact n react chans d).oview = s.oview := by
  unfold State.fltReact
  dsimp only
  split <;> simp only [oview_outputs, oview_containDomain, oview_hearthCause, oview_mk]

theorem oview_raiseOn (s : State) (n chans : Nat) : (s.raiseOn n chans).oview = s.oview := by
  unfold State.raiseOn
  split
  · rfl
  next hr =>
    have hbit : ∀ m, (s.setBits .fltStat (n / 32) m).oview = s.oview := fun m => by
      have h : ∀ j : Fin 4, outAddr (RegId.fltStat.addr j) = true := by decide
      exact oview_setBits _ _ _ _ (h ⟨n / 32, Nat.div_lt_of_lt_mul (fltRsv_lt hr)⟩)
    simp only [apply_ite State.oview, oview_latchFault, oview_fltReact, oview_fltNotify, oview_trace, oview_fltCount,
      oview_fltCapture _ _ _ (s.charged_lt n), hbit, ite_self]

theorem oview_raise (s : State) (n : Nat) : (s.raise n).oview = s.oview := oview_raiseOn ..

end Sys2Proof.Machine
end

section
/-!
PROOF. The outside view under bakes of the outputs' own staged copies, the loop units, the generators and the stacks.
-/

namespace Sys2Proof.Machine

/-! ### Staged copies and bakes (06 R197-R203) -/

theorem oview_putAt (s : State) {a : Nat} (lo w v : Nat) (h : outAddr a = true) : (s.putAt a lo w v).oview = s.oview := by
  unfold State.putAt
  split
  next r i hr => exact oview_wr _ _ _ _ (by rw [addr_of_findReg hr]; exact h)
  · rfl

/-- A bake that picks staged copies of the outputs alone. -/
theorem oview_bake (s : State) (sel : Staged → Bool) (h : ∀ e ∈ s.staged, sel e = true → outAddr e.addr = true) :
    (s.bake sel).oview = s.oview := by
  unfold State.bake
  dsimp only
  refine (each_keeps_mem State.oview _ _ _ fun e he t => ?_).trans (oview_mk ..)
  obtain ⟨hmem, hsel⟩ := List.mem_filter.mp he
  split
  · rfl
  · exact oview_putAt _ _ _ _ (h e hmem (Bool.and_eq_true_iff.mp hsel).1)

theorem outAddr_of_block {a b : Nat} (hb : b ∈ outBlocks) (h : a / 0x1000 = b) : outAddr a = true :=
  List.contains_iff_mem.mpr (h ▸ hb)

/-- Class P fields of a generator or string lie in the blocks of both. -/
theorem outAddr_of_pOf {n : Fin 6} {e : Staged} (h : pOf n e = true) : outAddr e.addr = true := by
  simp only [pOf, Bool.and_eq_true, Bool.or_eq_true, decide_eq_true_eq] at h
  rcases h.2 with h | h
  · exact outAddr_of_block (b := 0xA) (by decide) (by omega)
  · exact outAddr_of_block (b := 0xB) (by decide) (by omega)

theorem oview_bake_pOf (s : State) (n : Fin 6) : (s.bake (pOf n)).oview = s.oview := oview_bake s _ fun _ _ h => outAddr_of_pOf h

theorem oview_bake_pOf_and (s : State) (n : Fin 6) (q : Staged → Bool) : (s.bake (fun e => pOf n e && q e)).oview = s.oview :=
  oview_bake s _ fun _ _ h => outAddr_of_pOf (Bool.and_eq_true_iff.mp h).1

theorem oview_bake_isMode (s : State) (n : Fin 6) : (s.bake (isMode n)).oview = s.oview := oview_bake s _ fun e _ h => by
  simp only [isMode, Bool.and_eq_true, beq_iff_eq] at h
  exact outAddr_of_block (b := 0xA) (by decide) (by omega)

theorem oview_stageBlk (s : State) (f : Fld) (i v : Nat) : (s.stageBlk f i v).oview = s.oview := rfl

/-! ### The loop unit (14) -/

theorem oview_uffOf (s : State) (i : Fin 6) (n : Nat) : (s.uffOf i n).2.oview = s.oview := by
  unfold State.uffOf
  dsimp only [State.fresh]
  repeat' split
  all_goals rfl

theorem oview_stageCa (s : State) (i : Fin 6) (v : Nat) : (s.stageCa i v).oview = s.oview := by
  have hbake : ∀ t : State, (t.bake (fun e => e.addr == 0xA008 + 0x200 * i.val)).oview = t.oview := fun t =>
    oview_bake t _ fun e _ h => outAddr_of_block (b := 0xA) (by decide) (by rw [beq_iff_eq.mp h]; omega)
  simp only [State.stageCa, apply_ite State.oview, hbake, oview_stageBlk, ite_self]

theorem oview_ffPoint (s : State) (i : Fin 6) : (s.ffPoint i).oview = s.oview := by
  simp (disch := decide) only [State.ffPoint, apply_ite State.oview, oview_stageCa, oview_p6, oview_modSt, oview_uffOf, ite_self]

theorem oview_handover (s : State) (i : Fin 6) (seed : Nat) (edge : Bool) : (s.handover i seed edge).oview = s.oview := by
  simp (disch := decide) only [State.handover, oview_pb6, oview_modSt, oview_uffOf]

theorem oview_enterFallback (s : State) (i : Fin 6) : (s.enterFallback i).oview = s.oview := by
  simp (disch := decide) only [State.enterFallback, apply_ite State.oview, oview_incSat6, oview_flagIrq6, oview_pb6, oview_modSt, ite_self]

theorem oview_endFallback (s : State) (i : Fin 6) : (s.endFallback i).oview = s.oview := by
  simp (disch := decide) only [State.endFallback, oview_handover, oview_modSt, oview_p6, oview_pb6]

theorem oview_judgeLoop (s : State) (i : Fin 6) (due sampled excused : Bool) : (s.judgeLoop i due sampled excused).oview = s.oview := by
  simp (disch := decide) only [State.judgeLoop, apply_ite State.oview, oview_endFallback, oview_modSt, oview_enterFallback, oview_raise,
    oview_p6, oview_incSat6, oview_flagIrq6, ite_self]

theorem oview_openString (s : State) (i : Fin 6) : (s.openString i).oview = s.oview := by
  simp (disch := decide) only [State.openString, oview_modSt, oview_refreshStr, oview_raise, oview_flagIrq6, oview_pb6]

/-! ### The generators (13) -/

theorem oview_mRise (s : State) (n : Fin 6) (pos : Nat) : (s.mRise n pos).oview = s.oview := by
  simp only [State.mRise, State.mainRise, apply_ite State.oview, oview_modPw, ite_self]

theorem oview_mFall (s : State) (n : Fin 6) (pos : Nat) : (s.mFall n pos).oview = s.oview := by
  simp (disch := decide) only [State.mFall, apply_ite State.oview, oview_modPw, oview_p6, ite_self]

theorem oview_trip (s : State) (n : Fin 6) (src pos : Nat) (lat : Bool) : (s.trip n src pos lat).oview = s.oview := by
  simp (disch := decide) only [State.trip, apply_ite State.oview, oview_modPw, oview_incSat6, oview_flagIrq6, oview_p6, oview_pb6,
    ite_self]

theorem oview_ilimTrip (s : State) (n : Fin 6) (pos : Nat) : (s.ilimTrip n pos).oview = s.oview := by
  simp (disch := decide) only [State.ilimTrip, apply_ite State.oview, oview_raise, oview_flagIrq6, oview_modPw, oview_trip, ite_self]

theorem oview_ovpTrip (s : State) (n : Fin 6) (pos : Nat) : (s.ovpTrip n pos).oview = s.oview := by
  simp (disch := decide) only [State.ovpTrip, apply_ite State.oview, oview_openString, oview_raise, oview_flagIrq6, oview_trip, ite_self]

theorem oview_tripRelease (s : State) (n : Fin 6) (len : Nat) : (s.tripRelease n len).oview = s.oview := by
  simp (disch := decide) only [State.tripRelease, apply_ite State.oview, oview_pb6, oview_modPw, ite_self]

theorem oview_swapLines (s : State) (n : Fin 6) : (s.swapLines n).oview = s.oview := by
  simp (disch := decide) only [State.swapLines, oview_modPw, oview_incMod6, oview_pb6]

theorem oview_linesDue (s : State) (n : Fin 6) : (s.linesDue n).oview = s.oview := by
  simp (disch := decide) only [State.linesDue, apply_ite State.oview, oview_pb6, oview_swapLines, ite_self]

theorem oview_swapIdle (s : State) (n : Fin 6) : (s.swapIdle n).oview = s.oview := by
  simp only [State.swapIdle, apply_ite State.oview, oview_linesDue, ite_self]

theorem oview_coarseEnter (s : State) (n : Fin 6) : (s.coarseEnter n).oview = s.oview := by
  simp (disch := decide) only [State.coarseEnter, oview_raise, oview_modPw, oview_pb6]

theorem oview_periodBegin (s : State) (n : Fin 6) (len : Nat) : (s.periodBegin n len).oview = s.oview := by
  simp only [State.periodBegin, apply_ite State.oview, oview_mRise, oview_mFall, oview_modPw, ite_self]

theorem oview_driveAt (s : State) (n : Fin 6) : (s.driveAt n).oview = s.oview := oview_pb6 _ _ _ (by decide) _

theorem oview_modeBaked (s : State) (n : Fin 6) (old : Nat) : (s.modeBaked n old).oview = s.oview := by
  simp only [State.modeBaked, apply_ite State.oview, oview_handover, ite_self]

theorem oview_pwmBoundary (s : State) (n : Fin 6) (len : Nat) (miss : Bool) : (s.pwmBoundary n len miss).oview = s.oview := by
  simp (disch := decide) only [State.pwmBoundary, State.pPoint, apply_ite State.oview, oview_swapIdle, oview_tripRelease, oview_modeBaked,
    oview_bake_pOf, oview_ffPoint, oview_bake_isMode, oview_periodBegin, oview_driveAt, oview_linesDue, oview_judgeLoop, oview_modPw,
    oview_modSt, oview_incSat6, oview_flagIrq6, oview_pb6, oview_p6, ite_self]

theorem oview_pwmStart (s : State) (n : Fin 6) : (s.pwmStart n).oview = s.oview := by
  simp only [State.pwmStart, State.pPoint, oview_periodBegin, oview_driveAt, oview_tripRelease, oview_modeBaked, oview_bake_pOf,
    oview_ffPoint, oview_modPw]

theorem oview_cmpActs (s : State) (n : Fin 6) (c : Nat) : (s.cmpActs n c).oview = s.oview := by
  simp only [State.cmpActs, apply_ite State.oview, oview_pwmBoundary, oview_mFall, ite_self]

/-! ### The stacks, telemetry events and ADC triggers (15, 16, 17) -/

theorem oview_tlmStep (s : State) (g : Nat) : (s.tlmStep g).oview = s.oview := by
  unfold State.tlmStep
  split <;> simp only [apply_ite State.oview, State.tlmAdvance, oview_modTlm, ite_self]

theorem oview_stackPeriod (s : State) (i : Fin 6) (restart : Bool) : (s.stackPeriod i restart).oview = s.oview := by
  simp (disch := decide) only [State.stackPeriod, apply_ite State.oview, oview_p6, oview_pb6, oview_modBy, ite_self]

theorem oview_adcTrigger (s : State) (code mark : Nat) : (s.adcTrigger code mark).oview = s.oview := by
  have hentry : ∀ (t : State) (x : Fin 2) (j : Nat), (t.adcTrigEntry x j code mark).oview = t.oview := fun t x j => by
    simp only [State.adcTrigEntry, apply_ite State.oview, oview_modTab, ite_self]
  refine oview_each (fun x t => ?_) s
  split
  · exact oview_each (fun j u => by simp only [apply_ite State.oview, hentry, ite_self]) t
  · rfl

end Sys2Proof.Machine
end

section
/-!
PROOF. The outside view under the scan grid (15): the detections of a frame, its F point, which bakes the copies of class F, and its
synchronisation.
-/

namespace Sys2Proof.Machine

/-! ### The detections of a frame (15 R589) -/

theorem oview_pixelFault (s : State) (p : Nat) (short : Bool) : (s.pixelFault p short).oview = s.oview := by
  cases short <;>
    simp (disch := decide) only [State.pixelFault, oview_raise, oview_incSat, apply_ite State.oview, oview_pb, oview_wr, oview_flagIrq,
      if_true, if_false, Bool.false_eq_true, ite_self]

theorem oview_endCell (s : State) (rows cols : List Nat) (p kind : Nat) : (s.endCell rows cols p kind).oview = s.oview := by
  simp only [State.endCell, apply_ite State.oview, oview_modGrid, oview_pixelFault, ite_self]

theorem oview_endRows (s : State) : s.endRows.2.oview = s.oview :=
  (oview_each (fun _ t => by rw [oview_raise, oview_flagIrq _ _ _ _ (by decide)]) _).trans (oview_modGrid ..)

theorem oview_endCols (s : State) : s.endCols.2.oview = s.oview :=
  (oview_each (fun _ t => by rw [oview_raise, oview_flagIrq _ _ _ _ (by decide), oview_setBits _ _ _ _ (by decide)]) _).trans
    (oview_modGrid ..)

theorem oview_endFrame (s : State) : s.endFrame.oview = s.oview := by
  unfold State.endFrame
  dsimp only
  rw [oview_modGrid]
  exact (oview_each (fun (p : Nat × Nat) t => oview_endCell t _ _ p.1 p.2) _).trans ((oview_endCols _).trans (oview_endRows s))

theorem Quiet.modGrid (s : State) (f : Grid → Grid) : Quiet s (s.modGrid f) := by constructor <;> rfl

theorem Quiet.pixelFault (s : State) (p : Nat) (short : Bool) : Quiet s (s.pixelFault p short) := by
  unfold State.pixelFault
  extract_lets s1 s2
  have h2 : Quiet s1 s2 := by
    unfold s2
    split
    · exact .pb ..
    · exact .wr ..
  exact (((Quiet.flagIrq ..).trans h2).trans (.incSat ..)).trans (.raise ..)

theorem Quiet.ite {s t u : State} {c : Prop} [Decidable c] (a : Quiet s t) (b : Quiet s u) : Quiet s (if c then t else u) := by
  split
  · exact a
  · exact b

theorem Quiet.endCell (s : State) (rows cols : List Nat) (p kind : Nat) : Quiet s (s.endCell rows cols p kind) :=
  .ite (.modGrid ..) (.ite (.modGrid ..) (.ite (.modGrid ..) ((Quiet.modGrid ..).trans (.pixelFault ..))))

/-- The end of a frame writes records of the outputs alone, and stages nothing. -/
theorem Quiet.endFrame (s : State) : Quiet s s.endFrame := by
  have hrows : Quiet s s.endRows.2 := (Quiet.modGrid ..).trans (.each (fun _ t => (Quiet.flagIrq t ..).trans (.raise ..)) _)
  have hcols : ∀ t : State, Quiet t t.endCols.2 := fun t =>
    (Quiet.modGrid ..).trans (.each (fun c u => ((Quiet.setBits u ..).trans (.flagIrq ..)).trans (.raise ..)) _)
  unfold State.endFrame
  dsimp only
  exact ((hrows.trans (hcols _)).trans (.each (fun (p : Nat × Nat) t => .endCell t _ _ p.1 p.2) _)).trans (.modGrid ..)

/-! ### The F point (15 R583) -/

theorem bake_of_mem_flr {name : String} {lo w n : Nat} {acc : Acc} {rst : Nat} {bake : Bake} {f : Field}
    (h : f ∈ flr name lo w n acc rst bake) : f.bake = bake := by
  induction n generalizing lo rst with
  | zero => cases h
  | succ n ih =>
    rcases List.mem_cons.mp h with rfl | h
    · rfl
    · exact ih h

/-- The rules that the spec gives field by field leave the bake class of a field. -/
theorem exists_field_of_effFields {r : RegId} {i : Nat} {f : Field} (hf : f ∈ effFields r i) (hb : f.bake = .f) :
    ∃ q ∈ r.fields, q.bake = .f := by
  have hmap : ∀ {r : RegId} (c : Field → Prop) [DecidablePred c] (g : Field → Field), (∀ q, (g q).bake = q.bake) →
      f ∈ r.fields.map (fun q => if c q then g q else q) → ∃ q ∈ r.fields, q.bake = .f := fun c _ g hg h => by
    obtain ⟨q, hq, rfl⟩ := List.mem_map.mp h
    refine ⟨q, hq, Eq.trans ?_ hb⟩
    split
    · exact (hg q).symm
    · rfl
  unfold effFields at hf
  split at hf
  · obtain ⟨q, hq, he⟩ := List.mem_filterMap.mp hf
    obtain ⟨-, he⟩ := Option.ite_none_left_eq_some.mp he
    refine ⟨q, hq, Eq.trans ?_ hb⟩
    rw [← Option.some.inj he]
    split <;> rfl
  · exact ⟨f, List.mem_of_mem_filter hf, hb⟩
  · exact ⟨f, List.mem_of_mem_filter hf, hb⟩
  · exact ⟨f, List.mem_of_mem_filter hf, hb⟩
  · exact ⟨f, List.mem_of_mem_filter hf, hb⟩
  · split at hf
    · exact ⟨f, hf, hb⟩
    · exact hmap (fun q => q.lo = 8 || q.lo = 16) (fun q => { q with acc := .ro }) (fun _ => rfl) hf
  · split at hf
    · exact hmap (fun q => q.lo = 8) (fun q => { q with ok := .trig0 }) (fun _ => rfl) hf
    · exact ⟨f, hf, hb⟩
  · rcases List.mem_append.mp hf with hf | hf
    · rcases List.mem_append.mp hf with hf | hf
      · exact absurd ((bake_of_mem_flr hf).symm.trans hb) (by decide)
      · exact absurd ((bake_of_mem_flr hf).symm.trans hb) (by decide)
    · exact ⟨f, List.mem_of_mem_filter hf, hb⟩
  · exact ⟨f, hf, hb⟩

/-- The fields of class F are those of output blocks. -/
theorem classF_block : ∀ b : Fin 0x13, outBlocks.contains b.val = false → ∀ r ∈ blockRegs b, ∀ q ∈ r.fields, q.bake ≠ .f := by
  decide

/-- The blocks end at 0x12. -/
theorem blockRegs_add (b : Nat) : blockRegs (b + 0x13) = [] := rfl

theorem mem_of_findIn {a : Nat} {l : List RegId} {r : RegId} {i : Nat} (h : findIn a l = some (r, i)) : r ∈ l := by
  induction l with
  | nil => cases h
  | cons q t ih =>
    simp only [findIn] at h
    split at h
    · obtain ⟨rfl, -⟩ := Prod.mk.inj (Option.some.inj h)
      exact List.mem_cons_self
    · exact List.mem_cons_of_mem _ (ih h)

/-- A staged copy of class F is one of the outputs. -/
theorem outAddr_of_classF {s : State} (hs : s.stagedOk) {e : Staged} (he : e ∈ s.staged) (hc : e.cls = 2) : outAddr e.addr = true := by
  obtain ⟨r, i, f, hfind, hf, -, -, -, -, hcls⟩ := hs e he
  have hb : f.bake = .f := by
    have hcode : f.bake.code = 2 := hcls.trans hc
    revert hcode
    cases f.bake <;> decide
  obtain ⟨q, hq, hqb⟩ := exists_field_of_effFields hf hb
  have hr := mem_of_findIn hfind
  have hlt : e.addr / 0x1000 < 0x13 := by
    by_contra hge
    rw [← Nat.sub_add_cancel (Nat.le_of_not_lt hge), blockRegs_add] at hr
    cases hr
  by_contra hout
  exact classF_block ⟨e.addr / 0x1000, hlt⟩ (Bool.eq_false_iff.mpr hout) r hr q hq hqb

theorem stagedOk_of_subset {s t : State} (hs : s.stagedOk) (h : ∀ e ∈ t.staged, e ∈ s.staged) : t.stagedOk := fun e he => hs e (h e he)

/-- A bake only removes staged copies. -/
theorem mem_staged_of_bake (s : State) (sel : Staged → Bool) : ∀ e ∈ (s.bake sel).staged, e ∈ s.staged := by
  have hput : ∀ (t : State) (a lo w v : Nat), (t.putAt a lo w v).staged = t.staged := fun t a lo w v => by
    unfold State.putAt
    split <;> rfl
  unfold State.bake
  dsimp only
  rw [each_keeps State.staged _ _ _ fun x t => by simp only [apply_ite State.staged, hput, ite_self]]
  exact fun e he => List.mem_of_mem_filter he

/-- The F point (15 R583) bakes copies of the grid. -/
theorem oview_bakeF (s : State) (hs : s.stagedOk) : s.bakeF.oview = s.oview := by
  have hbake : ∀ {t : State} (sel : Staged → Bool), t.stagedOk → (∀ e, sel e = true → e.cls = 2) → (t.bake sel).oview = t.oview :=
    fun sel ht hsel => oview_bake _ sel fun e he h => outAddr_of_classF ht he (hsel e h)
  have h1 := hbake (fun e => e.cls == 2 && !isRate e) hs fun e h => beq_iff_eq.mp (Bool.and_eq_true_iff.mp h).1
  have h2 := hbake isRate (stagedOk_of_subset hs (mem_staged_of_bake s fun e => e.cls == 2 && !isRate e)) fun e h =>
    beq_iff_eq.mp (Bool.and_eq_true_iff.mp h).1
  simp (disch := decide) only [State.bakeF, apply_ite State.oview, h1, h2, oview_pb, oview_mk, ite_self]

theorem oview_framePoint (s : State) (hs : s.stagedOk) : s.framePoint.oview = s.oview := by
  have hq : Quiet s s.countOn.endFrame := (Quiet.countOn s).trans (.endFrame _)
  rw [State.framePoint, oview_bakeF _ (stagedOk_of_subset hs fun e he => hq.staged ▸ he), oview_endFrame, oview_countOn]

/-! ### Frames, slots and synchronisation (15 R579-R588) -/

theorem oview_slotBegin (s : State) (j : Nat) : (s.slotBegin j).oview = s.oview := by
  simp (disch := decide) only [State.slotBegin, oview_modGrid, oview_p]

theorem oview_frameBegin (s : State) (stop : Option Nat) (first : Bool) (hs : s.stagedOk) :
    (s.frameBegin stop first).oview = s.oview := by
  unfold State.frameBegin
  extract_lets s0 s1 s2 fr on s3 s4 s5 pins5 s6
  have h0 : s0.oview = s.oview := oview_framePoint s hs
  have h2 : s2.oview = s0.oview := by
    simp (disch := decide) only [s2, s1, apply_ite State.oview, oview_pb, oview_modGrid, ite_self]
  have h4 : s4.oview = s2.oview := by
    simp (disch := decide) only [s4, s3, apply_ite State.oview, oview_modGrid, oview_p, oview_incMod, ite_self]
  have h6 : s6.oview = s4.oview := by
    simp (disch := decide) only [s6, s5, apply_ite State.oview, oview_mk, oview_fireEvent, oview_flagIrq, oview_pb, ite_self]
  split
  · exact h0
  · rw [State.tlmFrame, oview_tlmStep, oview_slotBegin, h6, h4, h2, h0]

theorem oview_driveSlot (s : State) : s.driveSlot.oview = s.oview := by
  simp (disch := decide) only [State.driveSlot, apply_ite State.oview, oview_modGrid, oview_incSat, oview_pb, ite_self]

theorem oview_lossOfLock (s : State) : s.lossOfLock.oview = s.oview := by
  simp (disch := decide) only [State.lossOfLock, oview_raise, oview_modGrid, oview_flagIrq, oview_pb]

theorem oview_slipAct (s : State) (t : Nat) : (s.slipAct t).oview = s.oview := by
  simp only [State.slipAct, apply_ite State.oview, oview_modGrid, oview_gridBlank, oview_countOn, ite_self]

theorem oview_fsyncLocked (s : State) (t : Nat) : (s.fsyncLocked t).oview = s.oview := by
  simp (disch := decide) only [State.fsyncLocked, apply_ite State.oview, oview_slipAct, oview_lossOfLock, oview_flagIrq, oview_modGrid,
    oview_incSat, oview_pb, oview_p, ite_self]

theorem oview_fsyncRelock (s : State) (t : Nat) : (s.fsyncRelock t).oview = s.oview := by
  simp (disch := decide) only [State.fsyncRelock, apply_ite State.oview, oview_slipAct, oview_modGrid, oview_pb, oview_p, ite_self]

end Sys2Proof.Machine
end

section
/-!
PROOF. Each event of the outputs keeps the outside view; from these the frame of them all.
-/

namespace Sys2Proof.Machine

/-- The outside view of the state that a command answers. -/
def nextView : Host.Outcome State Fault Refusal → Option OutsideView
  | .next t => some t.oview
  | _ => none

theorem nextView_next (t : State) : nextView (.next t) = some t.oview := rfl

section
variable (s : State)

/-- The events of the generators (13). -/
theorem nextView_pwmPeriodStart (n : Fin 6) (len : BitVec 21) : nextView (execPwmPeriodStart n len s) = some s.oview := by
  simp only [execPwmPeriodStart, nextView_next, apply_ite State.oview, oview_pwmBoundary, ite_self]

theorem nextView_pwmMidPoint (n : Fin 6) : nextView (execPwmMidPoint n s) = some s.oview := by
  unfold execPwmMidPoint
  extract_lets m s1 per s2
  have h1 : s1.oview = s.oview := by
    simp only [s1, State.pPoint, oview_modPw, oview_bake_pOf_and, oview_ffPoint]
  have h2 : s2.oview = s.oview := by
    simp only [s2, apply_ite State.oview, oview_modPw, h1, ite_self]
  simp only [apply_ite nextView, nextView_next, apply_ite State.oview, oview_mFall, h2, ite_self]

theorem nextView_pwmCompare (n : Fin 6) (rise : Bool) : nextView (execPwmCompare n rise s) = some s.oview := by
  simp only [execPwmCompare, apply_ite nextView, nextView_next, apply_ite State.oview, oview_mRise, oview_mFall, ite_self]

theorem nextView_deadTimeEnd (n : Fin 6) (main : Bool) : nextView (execDeadTimeEnd n main s) = some s.oview := by
  simp only [execDeadTimeEnd, State.mainRise, apply_ite nextView, nextView_next, apply_ite State.oview, oview_modPw, ite_self]

theorem nextView_cmpChange (n : Fin 6) (asserted : Bool) (c : BitVec 16) : nextView (execCmpChange n asserted c s) = some s.oview := by
  simp only [execCmpChange, nextView_next, apply_ite State.oview, oview_cmpActs, oview_modPw, ite_self]

theorem nextView_blankingClose (n : Fin 6) (c : BitVec 16) : nextView (execBlankingClose n c s) = some s.oview := by
  simp only [execBlankingClose, apply_ite nextView, nextView_next, apply_ite State.oview, oview_cmpActs, oview_ilimTrip, oview_modPw,
    ite_self]

theorem nextView_tripnTrip (low : Bool) (pos : Vector (BitVec 21) 6) : nextView (execTripnTrip low pos s) = some s.oview := by
  have htrip : ∀ (n : Fin 6) (t : State), (if t.b F.pwmTripcfg_EXTEN n then
      (t.trip n 0 (vget pos n).toNat (t.b F.pwmTripcfg_EXTLAT n)).raiseOn 24 (2 ^ n.val) else t).oview = t.oview := fun n t => by
    simp only [apply_ite State.oview, oview_raiseOn, oview_trip, ite_self]
  simp only [execTripnTrip, apply_ite nextView, nextView_next, oview_each htrip, oview_mk, ite_self]

theorem nextView_currentLimitTrip (n : Fin 6) (asserted : Bool) (pos : BitVec 21) :
    nextView (execCurrentLimitTrip n asserted pos s) = some s.oview := by
  simp only [execCurrentLimitTrip, nextView_next, apply_ite State.oview, oview_ilimTrip, oview_modPw, ite_self]

theorem nextView_ovpTrip (n : Fin 6) (asserted : Bool) (pos : BitVec 21) : nextView (execOvpTrip n asserted pos s) = some s.oview := by
  simp only [execOvpTrip, nextView_next, apply_ite State.oview, oview_ovpTrip, oview_modPw, ite_self]

theorem nextView_trgEvent (n : Fin 6) : nextView (execTrgEvent n s) = some s.oview := by
  simp only [execTrgEvent, nextView_next, apply_ite State.oview, oview_adcTrigger, oview_modPw, ite_self]

theorem nextView_syncPulse (n : Fin 6) (len : BitVec 21) : nextView (execSyncPulse n len s) = some s.oview := by
  simp only [execSyncPulse, apply_ite nextView, nextView_next, apply_ite State.oview, oview_pwmBoundary, oview_pwmStart, oview_modPw,
    ite_self]

theorem nextView_proofCycleDone (n : Fin 6) (line mono : Bool) (span : BitVec 6) :
    nextView (execProofCycleDone n line mono span s) = some s.oview := by
  cases line <;>
    simp (disch := decide) only [execProofCycleDone, apply_ite nextView, nextView_next, apply_ite State.oview, oview_swapIdle, oview_pb6,
      oview_modPw, oview_flagIrq6, oview_p6, if_true, if_false, Bool.false_eq_true, ite_self]

theorem nextView_coarseEntry (n : Fin 6) : nextView (execCoarseEntry n s) = some s.oview := by
  simp only [execCoarseEntry, nextView_next, apply_ite State.oview, oview_coarseEnter, ite_self]

theorem nextView_proofIntervalElapsed (n : Fin 6) : nextView (execProofIntervalElapsed n s) = some s.oview := by
  simp only [execProofIntervalElapsed, nextView_next, apply_ite State.oview, oview_swapIdle, oview_modPw, ite_self]

theorem nextView_bootstrapLockout (n : Fin 6) (low : Bool) : nextView (execBootstrapLockout n low s) = some s.oview := by
  simp only [execBootstrapLockout, nextView_next, oview_refreshStack, oview_refreshGate, oview_modPw]

/-- The events of the string channels (14). -/
theorem nextView_supplyMonitorSample (mv : BitVec 16) : nextView (execSupplyMonitorSample mv s) = some s.oview := by
  have hvin : ∀ v : Nat, (each strs (fun i s => s.p F.strVmon_VIN i v) s).oview = s.oview := fun v =>
    oview_each (fun i t => oview_p6 _ _ _ (by decide) _) s
  unfold execSupplyMonitorSample
  split
  · rfl
  · rfl
  · rfl
  · exact congrArg some (hvin _)

theorem nextView_loopUpdate (i : Fin 6) : nextView (execLoopUpdate i s) = some s.oview := by
  unfold execLoopUpdate
  split
  · rfl
  · extract_lets old s0 mode iref ieff e x d r s1 upi u slew k out dmax openNow s2 s3 s4
    have h2 : s2.oview = s.oview := by simp only [s2, s1, r, s0, oview_modSt, oview_uffOf, oview_modPw]
    have h4 : s4.oview = s.oview := by
      simp (disch := decide) only [s4, s3, apply_ite State.oview, oview_stageCa, oview_pb6, oview_p6, h2, ite_self]
    simp only [apply_ite nextView, nextView_next, apply_ite State.oview, oview_openString, s0, oview_modSt, oview_modPw, h4, ite_self]

theorem nextView_dimPeriodEdge (i : Fin 6) : nextView (execDimPeriodEdge i s) = some s.oview := by
  simp only [execDimPeriodEdge, apply_ite nextView, nextView_next, oview_refreshStr, oview_modSt, ite_self]

/-- The events of the stacks (15 R570-R578). -/
theorem nextView_pixelCounterWrap (i : Fin 6) : nextView (execPixelCounterWrap i s) = some s.oview := by
  simp only [execPixelCounterWrap, State.tlmPeriod, nextView_next, apply_ite State.oview, oview_tlmStep, oview_stackPeriod, ite_self]

theorem nextView_bypassEdge (i : Fin 6) : nextView (execBypassEdge i s) = some s.oview := by
  unfold execBypassEdge
  split
  · rfl
  · simp only [apply_ite nextView, nextView_next, oview_setSw, oview_countOn, oview_modBy, ite_self]

theorem nextView_pixelOpenDetect (i : Fin 6) (k : Fin 16) : nextView (execPixelOpenDetect i k s) = some s.oview := by
  simp (disch := decide) only [execPixelOpenDetect, apply_ite nextView, nextView_next, oview_raise, oview_flagIrq6, apply_ite State.oview,
    oview_setSw, oview_countOn, oview_modBy, oview_setBits6, ite_self]

theorem nextView_pixelShortSample (i : Fin 6) (k : Fin 16) (low : Bool) : nextView (execPixelShortSample i k low s) = some s.oview := by
  simp (disch := decide) only [execPixelShortSample, apply_ite nextView, nextView_next, oview_raise, oview_flagIrq6, oview_modBy,
    oview_setBits6, ite_self]

theorem nextView_pixelEvent (i : Fin 6) : nextView (execPixelEvent i s) = some s.oview := by
  unfold execPixelEvent
  split
  · rfl
  · simp only [State.tlmEvent, apply_ite nextView, nextView_next, oview_modTlm, oview_adcTrigger, ite_self]

/-- The events of the grid (15 R579-R591). -/
theorem nextView_scanFrameStart (hs : s.stagedOk) : nextView (execScanFrameStart s) = some s.oview := by
  simp only [execScanFrameStart, apply_ite nextView, nextView_next, oview_frameBegin _ _ _ hs, ite_self]

theorem nextView_scanSlotStart (hs : s.stagedOk) : nextView (execScanSlotStart s) = some s.oview := by
  unfold execScanSlotStart
  split
  · rfl
  split
  · rw [nextView_next, oview_frameBegin _ _ _ hs]
  · simp only [nextView_next, apply_ite State.oview, oview_slotBegin, oview_countOn, ite_self]

theorem nextView_scanPhaseEnd : nextView (execScanPhaseEnd s) = some s.oview := by
  unfold execScanPhaseEnd
  split
  · rfl
  split <;> simp only [nextView_next, oview_modGrid, oview_driveSlot, oview_gridBlank, oview_countOn]

theorem nextView_columnSinkOff (c : Fin 24) : nextView (execColumnSinkOff c s) = some s.oview := by
  simp only [execColumnSinkOff, nextView_next, apply_ite State.oview, oview_modGrid, oview_countOn, ite_self]

theorem nextView_headroomSample (c : Fin 24) (mv : BitVec 16) : nextView (execHeadroomSample c mv s) = some s.oview := by
  simp only [execHeadroomSample, State.tlmEvent, apply_ite nextView, nextView_next, oview_modTlm, oview_adcTrigger, oview_mk,
    apply_ite State.oview, oview_modGrid, ite_self]

theorem nextView_rowOvercurrent : nextView (execRowOvercurrent s) = some s.oview := by
  simp (disch := decide) only [execRowOvercurrent, apply_ite nextView, nextView_next, apply_ite State.oview, oview_raise, oview_setBits,
    oview_flagIrq, oview_modGrid, oview_countOn, ite_self]

/-- FSYNC's level is a pin's. -/
theorem oview_fsync (rising : Bool) :
    (if s.pins.vddio then { s with pins := { s.pins with fsync := rising } } else s).oview = s.oview := by
  simp only [apply_ite State.oview, oview_mk, ite_self]

theorem nextView_fsyncEdge (rising : Bool) (hs : s.stagedOk) : nextView (execFsyncEdge s rising) = some s.oview := by
  have h0 := oview_fsync s rising
  have hs0 : (if s.pins.vddio then { s with pins := { s.pins with fsync := rising } } else s).stagedOk := by
    split <;> exact hs
  unfold execFsyncEdge
  dsimp only
  generalize (if s.pins.vddio then { s with pins := { s.pins with fsync := rising } } else s) = s0 at h0 hs0 ⊢
  have hlock : (s0.pb F.gridStat_LOCK 0 true).stagedOk := hs0
  simp (disch := decide) only [apply_ite nextView, nextView_next, oview_modGrid, apply_ite State.oview, oview_fsyncRelock,
    oview_fsyncLocked, oview_frameBegin _ _ _ hlock, oview_pb, h0, ite_self]

theorem nextView_fsyncTimeout (hs : s.stagedOk) : nextView (execFsyncTimeout s) = some s.oview := by
  have hlol : (s.pb F.gridStat_LOL 0 true).stagedOk := hs
  simp (disch := decide) only [execFsyncTimeout, apply_ite nextView, nextView_next, oview_lossOfLock, oview_frameBegin _ _ _ hlol, oview_pb,
    ite_self]

theorem nextView_fsyncOutputPulseEnd : nextView (execFsyncOutputPulseEnd s) = some s.oview := rfl

end

/-- Every event of the outputs keeps the outside view. -/
theorem nextView_ofOutputs {c : Instr} {s : State} (hc : c.ofOutputs = true) (hs : s.stagedOk) :
    nextView (exec c s) = some s.oview := by
  cases c
  case pwmPeriodStart n len => exact nextView_pwmPeriodStart s n len
  case pwmMidPoint n => exact nextView_pwmMidPoint s n
  case pwmCompare n rise => exact nextView_pwmCompare s n rise
  case deadTimeEnd n main => exact nextView_deadTimeEnd s n main
  case cmpChange n asserted c => exact nextView_cmpChange s n asserted c
  case blankingClose n c => exact nextView_blankingClose s n c
  case tripnTrip low pos => exact nextView_tripnTrip s low pos
  case currentLimitTrip n asserted pos => exact nextView_currentLimitTrip s n asserted pos
  case ovpTrip n asserted pos => exact nextView_ovpTrip s n asserted pos
  case trgEvent n => exact nextView_trgEvent s n
  case syncPulse n len => exact nextView_syncPulse s n len
  case proofCycleDone n line mono span => exact nextView_proofCycleDone s n line mono span
  case coarseEntry n => exact nextView_coarseEntry s n
  case proofIntervalElapsed n => exact nextView_proofIntervalElapsed s n
  case bootstrapLockout n low => exact nextView_bootstrapLockout s n low
  case supplyMonitorSample mv => exact nextView_supplyMonitorSample s mv
  case loopUpdate i => exact nextView_loopUpdate s i
  case dimPeriodEdge i => exact nextView_dimPeriodEdge s i
  case pixelCounterWrap i => exact nextView_pixelCounterWrap s i
  case bypassEdge i => exact nextView_bypassEdge s i
  case pixelOpenDetect i k => exact nextView_pixelOpenDetect s i k
  case pixelShortSample i k low => exact nextView_pixelShortSample s i k low
  case pixelEvent i => exact nextView_pixelEvent s i
  case scanFrameStart => exact nextView_scanFrameStart s hs
  case scanSlotStart => exact nextView_scanSlotStart s hs
  case scanPhaseEnd => exact nextView_scanPhaseEnd s
  case columnSinkOff c => exact nextView_columnSinkOff s c
  case headroomSample c mv => exact nextView_headroomSample s c mv
  case rowOvercurrent => exact nextView_rowOvercurrent s
  case fsyncEdge rising => exact nextView_fsyncEdge s rising hs
  case fsyncTimeout => exact nextView_fsyncTimeout s hs
  case fsyncOutputPulseEnd => exact nextView_fsyncOutputPulseEnd s
  all_goals cases hc

/-- Settles O7, by the outside view that every event keeps. -/
theorem outputEventsStayAmongOutputs : Obligations.OutputEventsStayAmongOutputs := by
  unfold Obligations.OutputEventsStayAmongOutputs
  intro c s t hc hs ht
  have h : t.oview = s.oview := by
    have hn := nextView_ofOutputs hc hs
    rw [ht] at hn
    exact Option.some.inj hn
  refine ⟨fun r i hr => rd_of_oview h (by simpa [outAddr] using hr), congrArg OutsideView.mem h, congrArg OutsideView.ecc h,
    congrArg OutsideView.rack h, congrArg OutsideView.spi h, congrArg OutsideView.net h, congrArg OutsideView.eng h,
    congrArg OutsideView.sec h, congrArg OutsideView.nv h, congrArg OutsideView.store h, congrArg OutsideView.posted h,
    congrArg OutsideView.acc h, congrArg OutsideView.pwr h, congrArg OutsideView.slice h, congrArg OutsideView.time h,
    congrArg OutsideView.tick h⟩

end Sys2Proof.Machine
end

section
/-!
PROOF. EVENT messages (05 R150; 08 R296): the frame that the port forms, its place on the egress rack of its domain, and from these the
answers of EVENT_SEND, EVENT_RETRY and EVENT_RENEW.
-/

namespace Sys2Proof.Machine

/-! ### Racks on which nothing waits (09 R333, R790) -/

theorem rq_setRq_same (s : State) (n : Nat) {l : List Desc} (h : l ≠ []) : (s.setRq n l).rq n = l := by
  simp [State.rq, State.setRq, State.modRack, h]

/-- With no waiter there is nobody to serve. -/
theorem rackServe_noWaits {s : State} (h : s.rack.waits = []) (n k : Nat) : s.rackServe n k = s := by
  cases k with
  | zero => rfl
  | succ k =>
    have hpop : s.popWaiter n = none := by simp [State.popWaiter, h]
    have hpush : s.pushWaiter n = none := by simp [State.pushWaiter, h]
    simp [State.rackServe, hpop, hpush]

/-- A descriptor that is appended changes interrupts, the dispatcher, contexts and its own rack. -/
theorem Quiet.rackAppend (s : State) (n : Nat) (d : Desc) : Quiet (s.setRq n (s.rq n ++ [d])) (s.rackAppend n d) := by
  unfold State.rackAppend
  dsimp only
  refine .trans ?_ (.evWake ..)
  exact .ite (.pendIrq ..) (.refl _)

theorem IrqFrame.rackAppend (s : State) (n : Nat) (d : Desc) : IrqFrame s (s.rackAppend n d) := by
  have hset : IrqFrame s (s.setRq n (s.rq n ++ [d])) := ⟨rfl, fun _ _ _ => rfl⟩
  unfold State.rackAppend
  dsimp only
  refine (hset.trans ?_).trans (.evWake ..)
  split
  · exact .pendIrq ..
  · exact .refl _

/-- The parts of a rack that takes a descriptor at once. -/
theorem rackOpen_iff (s : State) (n : Nat) : s.rackOpen n = true ↔
    s.rack.waits = [] ∧ (s.rq n).all (·.errs.isEmpty) = true ∧ s.rackEn n = true ∧ s.rackFull n = false := by
  simp [State.rackOpen, State.rackCalm, and_assoc]

/-- A frame goes to an open egress rack: it is the newest there, and the network port and the registers outside interrupts and
dispatcher are as before. -/
theorem egress_open {s : State} {d : Nat} (h : s.rackOpen (8 + d) = true) (f : List Nat) :
    (s.egress d f).newest d = some f ∧ (s.egress d f).net = s.net ∧
      ∀ r j, r.addr j / 0x1000 ∉ [0x2, 0x9] → (s.egress d f).rd r j = s.rd r j := by
  obtain ⟨hw, -, hen, hfull⟩ := (rackOpen_iff ..).mp h
  have happ := Quiet.rackAppend s (8 + d) { w0 := 3 + d * 2 ^ 22, w1 := s.tick, body := f }
  have heg : s.egress d f = s.rackAppend (8 + d) { w0 := 3 + d * 2 ^ 22, w1 := s.tick, body := f } := by
    rw [State.egress]
    rw [if_pos (by simp [hen, hfull]), State.rackCommit, rackServe_noWaits (by rw [happ.rack]; exact hw)]
  refine heg ▸ ⟨?_, happ.net, (IrqFrame.rackAppend ..).rd⟩
  have hrq : ∀ t : State, t.rack = (s.setRq (8 + d) (s.rq (8 + d) ++ [{ w0 := 3 + d * 2 ^ 22, w1 := s.tick, body := f }])).rack →
      t.newest d = some f := fun t ht => by
    have hq : t.rq (8 + d) = _ := (congrArg (fun r : Rack => kvD r.q (8 + d) []) ht).trans (rq_setRq_same s (8 + d) (by simp))
    simp [State.newest, hq]
  exact hrq _ happ.rack

/-! ### The frame of a message (08 R280) -/

theorem beNat_beBytes_two (n : Nat) : beNat (beBytes 2 n) = n % 65536 := by
  simp only [beNat, beBytes, List.foldl]
  omega

/-- The fields that a receiver reads are those of which the frame was formed. -/
theorem newFrame_fields (s : State) {ty dom : Nat} (ackreq : Bool) (seq : Nat) (hi lo : RegId) (i : Nat) {pay : List Nat} (hty : ty < 16)
    (hp : pay.length < 65536) :
    ∀ f, f = (s.newFrame ty dom ackreq seq (s.macOf hi lo i) pay).1 →
      zType f = ty ∧ zDom f = dom ∧ zAckreq f = ackreq ∧ zPay f = pay := by
  rintro _ rfl
  generalize hf : (s.newFrame ty dom ackreq seq (s.macOf hi lo i) pay).1 = f
  have h14 : nth8 f 14 = 0x10 + ty := by rw [← hf]; rfl
  have h15 : nth8 f 15 = dom * 64 + (if ackreq then 32 else 0) := by rw [← hf]; rfl
  have hlen : zPlen f = pay.length := by
    have h28 : sub8 f 28 2 = beBytes 2 pay.length := by rw [← hf]; rfl
    rw [zPlen, h28, beNat_beBytes_two, Nat.mod_eq_of_lt hp]
  have h30 : ∃ tag, f.drop 30 = pay ++ tag := by rw [← hf]; exact ⟨_, rfl⟩
  refine ⟨?_, ?_, ?_, ?_⟩
  · rw [zType, h14]; omega
  · rw [zDom, h15]; split <;> omega
  · rw [zAckreq, h15, bitN]
    cases ackreq <;> simp <;> omega
  · obtain ⟨tag, h⟩ := h30
    rw [zPay, hlen, sub8, h, List.take_left']
    rfl

/-! ### EVENTs (05 R150; 08 R296) -/

/-- A rack takes a descriptor at once while it, its waiters, its setting and its partition are as before. -/
theorem rackOpen_congr {s t : State} {n : Nat} (hr : t.rack = s.rack) (hc : t.rd .rackCfg n = s.rd .rackCfg n)
    (hp : t.rd .rackPart n = s.rd .rackPart n) : t.rackOpen n = s.rackOpen n := by
  have hq : t.rq n = s.rq n := congrArg (fun r : Rack => kvD r.q n []) hr
  have hc' : t.rd F.rackCfg_EN.r n = s.rd F.rackCfg_EN.r n := hc
  have hp' : t.rd F.rackPart_SIZE.r n = s.rd F.rackPart_SIZE.r n := hp
  simp only [State.rackOpen, State.rackCalm, State.rackEn, State.rackFull, State.b, State.g, hq, hr, hc', hp']
  rfl

/-- No agent is blocked while nothing waits. -/
theorem blockOf_rackOpen {s : State} {n : Nat} (h : s.rackOpen n = true) (a : Nat) : s.blockOf a = none := by
  obtain ⟨hw, -⟩ := (rackOpen_iff ..).mp h
  simp [State.blockOf, hw]

/-- The source of the asserting set. -/
theorem mem_assertSet {s : State} {d n : Nat} (hn : n < 96) (h : s.asserting d n = true) : n ∈ s.assertSet d := by
  simp [State.assertSet, upto, hn, h]

/-- What an EVENT of domain `d` in state `s` leaves in `t`: it is outstanding with no repeat and newest on its rack, with the set, the
top source and device time of `s`. -/
def EventSent (d : Nat) (s t : State) : Prop :=
  ∃ e, kvGet t.net.evOut d = some e ∧ e.reps = 0 ∧ t.newest d = some e.frame ∧ zType e.frame = 5 ∧
    zDom e.frame = d ∧ zAckreq e.frame = true ∧
    zPay e.frame = beBytes 12 ((s.assertSet d).foldl (fun n k => n + 2 ^ k) 0)
      ++ beBytes 2 ((s.intTopWord d).toNat % 128 + bitsN (s.intTopWord d).toNat 8 4 * 2 ^ 8) ++ beBytes 8 s.time

/-- An EVENT that goes to an open egress rack is sent. -/
theorem eventSent_sendEvent {s : State} {d : Nat} (h : s.rackOpen (8 + d) = true) : EventSent d s (s.sendEvent d) := by
  unfold State.sendEvent
  dsimp only
  generalize hf : (s.fresh 16).2.newFrame _ _ _ _ _ _ = r
  have hopen : ∀ g, (r.2.modNet g).rackOpen (8 + d) = true := fun g => by rw [← hf]; exact h
  have hlen : (beBytes 12 ((s.assertSet d).foldl (fun n k => n + 2 ^ k) 0) ++ beBytes 2 ((s.intTopWord d).toNat % 128
      + bitsN (s.intTopWord d).toNat 8 4 * 2 ^ 8) ++ beBytes 8 s.time).length = 22 := rfl
  obtain ⟨hty, hdom, hack, hpay⟩ := newFrame_fields _ _ _ _ _ _ (by decide) (hlen ▸ by decide) r.1 (congrArg Prod.fst hf).symm
  obtain ⟨hnew, hnet, -⟩ := egress_open (hopen _) r.1
  exact ⟨_, (congrArg (fun n : Net => kvGet n.evOut d) hnet).trans (kvGet_kvSet_same ..), rfl, hnew, hty, hdom, hack, hpay⟩

/-- EVENT_SEND with every condition met. -/
theorem exec_eventSend {s : State} {x : Dom} {n : Nat} (hopen : s.rackOpen (8 + x.val) = true) (hcan : s.canSend = true)
    (hroute : s.evRoute x.val = true) (hnone : kvGet s.net.evOut x.val = none) (hn : n < 96) (hass : s.asserting x.val n = true)
    (hnew : n ∉ kvD s.net.evSet x.val [])
    (hgap : ∀ t0, kvGet s.net.evTick x.val = some t0 → s.g F.intCfg_EVGAP x.val * 16000 ≤ s.tick - t0) :
    exec (.eventSend x) s = .next (s.sendEvent x.val) := by
  have hgain : (s.assertSet x.val).any (fun n => !(kvD s.net.evSet x.val []).contains n) = true :=
    List.any_eq_true.mpr ⟨n, mem_assertSet hn hass, by simpa using hnew⟩
  have hall : (kvGet s.net.evTick x.val).all (fun t => s.g F.intCfg_EVGAP x.val * 16000 ≤ s.tick - t) = true :=
    Option.all_eq_true .. |>.mpr fun t ht => decide_eq_true (hgap t ht)
  change execEventSend x s = _
  simp only [execEventSend, hcan, hroute, hnone, hgain, hall, blockOf_rackOpen hopen, Option.isNone_none, Bool.and_self, if_true]

/-- EVENT_RENEW with every condition met. -/
theorem exec_eventRenew {s : State} {x : Dom} {n : Nat} (hopen : s.rackOpen (8 + x.val) = true) (hcan : s.canSend = true)
    (hlost : bitN s.net.evLost x.val = true) (hroute : s.evRoute x.val = true) (hnone : kvGet s.net.evOut x.val = none) (hn : n < 96)
    (hass : s.asserting x.val n = true) : exec (.eventRenew x) s = .next (s.sendEvent x.val) := by
  have hsome : (s.assertSet x.val).isEmpty = false := List.isEmpty_eq_false_iff_exists_mem.mpr ⟨n, mem_assertSet hn hass⟩
  change execEventRenew x s = _
  simp only [execEventRenew, hcan, hlost, hroute, hnone, hsome, blockOf_rackOpen hopen, Option.isNone_none, Bool.not_false,
    Bool.and_self, if_true]

/-- A counter stops at its largest value. -/
theorem g_incSat_same (s : State) (f : Fld) (i : Nat) (h : f.lo + f.w ≤ 32) : (s.incSat f i).g f i = min (2 ^ f.w - 1) (s.g f i + 1) := by
  have hpos := Nat.two_pow_pos f.w
  rw [State.incSat, g_p_same _ _ _ _ h, satN]
  split
  · rw [Nat.mod_eq_of_lt (by omega), Nat.min_eq_right (by omega)]
  · rw [Nat.mod_eq_of_lt (by omega), Nat.min_eq_left (by omega)]

/-- The EVENT of a domain goes again: one repeat and one count more, and the frame on the rack of its domain. -/
theorem eventRetry_again {s : State} {x : Dom} {e : EvOut} (hopen : s.rackOpen (8 + x.val) = true) (hlive : s.live = true)
    (he : kvGet s.net.evOut x.val = some e) (hreps : e.reps < s.g F.netEvcfg_RETRY) :
    Gives (.eventRetry x) s fun t =>
      kvGet t.net.evOut x.val = some { e with reps := e.reps + 1 } ∧ t.newest x.val = some e.frame ∧ Counts F.netCnt2_TXRETRY s t := by
  let u := (s.modNet (fun n => { n with evOut := kvSet n.evOut x.val { e with reps := e.reps + 1 } })).incSat F.netCnt2_TXRETRY
  have hexec : exec (.eventRetry x) s = .next (u.egress x.val e.frame) := by
    change execEventRetry x s = _
    simp only [execEventRetry, he, hlive, blockOf_rackOpen hopen, hreps, Option.isSome_none, Bool.not_true, Bool.or_self,
      Bool.false_eq_true, if_false, if_true, u]
  have hu : u.rackOpen (8 + x.val) = true := by
    have hrd : ∀ r ∈ [RegId.rackCfg, .rackPart], u.rd r (8 + x.val) = s.rd r (8 + x.val) := fun r hr => rd_wr_ne _ _ r _ _ _ (by
      rcases List.mem_pair.mp hr with rfl | rfl <;> simp [F.netCnt2_TXRETRY, RegId.addr, RegId.place] <;> omega)
    exact (rackOpen_congr (s := s) (t := u) rfl (hrd _ (by decide)) (hrd _ (by decide))).trans hopen
  obtain ⟨hnew, hnet, hrd⟩ := egress_open hu e.frame
  refine gives_of hexec ⟨?_, hnew, ?_⟩
  · rw [hnet]; exact kvGet_kvSet_same ..
  · rw [Counts, State.g, hrd _ _ (by decide)]
    exact g_incSat_same _ F.netCnt2_TXRETRY 0 (by decide)

/-- After the last repeat the EVENT is lost: the domain's mark and the flag of the port say so, and no rack has changed. -/
theorem eventRetry_abandon {s : State} {x : Dom} {e : EvOut} (hopen : s.rackOpen (8 + x.val) = true) (hlive : s.live = true)
    (he : kvGet s.net.evOut x.val = some e) (hreps : s.g F.netEvcfg_RETRY ≤ e.reps) :
    Gives (.eventRetry x) s fun t =>
      kvGet t.net.evOut x.val = none ∧ bitN t.net.evLost x.val = true ∧ t.b F.netStat_EVLOST = true ∧ t.rack = s.rack := by
  let u := s.modNet (fun n => { n with evOut := kvDel n.evOut x.val, evLost := putN n.evLost x.val 1 1 })
  have hexec : exec (.eventRetry x) s = .next (u.netFlag F.netStat_EVLOST) := by
    change execEventRetry x s = _
    simp only [execEventRetry, he, hlive, blockOf_rackOpen hopen, Nat.not_lt.mpr hreps, Option.isSome_none, Bool.not_true, Bool.or_self,
      Bool.false_eq_true, if_false, u]
  have hq : Quiet u (u.netFlag F.netStat_EVLOST) := .flagIrq ..
  refine gives_of hexec ⟨?_, ?_, ?_, hq.rack⟩
  · rw [hq.net]; exact kvGet_kvDel_same ..
  · rw [hq.net]; exact bitN_putN_same _ _ true
  · rw [State.b, State.g, State.netFlag, rd_flagIrq _ _ _ _ _ _ (by decide)]
    exact b_pb_same _ F.netStat_EVLOST 0 true (by decide) rfl

/-- Settles O46: a new EVENT by the frame that `newFrame` forms and the rack that takes it, a repeat and the end by the two branches of
EVENT_RETRY. -/
theorem eventsAreSent : Obligations.EventsAreSent := by
  intro s x hopen
  refine ⟨?_, fun e hlive he => ⟨eventRetry_again hopen hlive he, eventRetry_abandon hopen hlive he⟩, ?_⟩
  · intro n hcan hroute hnone hn hass hnew hgap
    exact gives_of (exec_eventSend hopen hcan hroute hnone hn hass hnew hgap) (eventSent_sendEvent hopen)
  · intro n hcan hlost hroute hnone hn hass
    exact gives_of (exec_eventRenew hopen hcan hlost hroute hnone hn hass) (eventSent_sendEvent hopen)

end Sys2Proof.Machine
end

section
/-!
PROOF. The domain view of the state: what a domain reset shows at its start (05 R157-R160). Interrupts, faults, contexts, racks,
semaphores, waits and messages keep it.
-/

namespace Sys2Proof.Machine

/-- An address of the identity and domain blocks, 0x0000-0x1FFF. -/
def domAddr (a : Nat) : Bool := decide (a < 0x2000)

/-- The words of the registers of the identity and domain blocks, and the time matches that are armed. -/
structure DomainView where
  words : RegId → Nat → Option Word
  armed : List (Nat × Nat)

/-- The domain view of a state. -/
def State.dview (s : State) : DomainView where
  words r i := if domAddr (r.addr i) then some (s.rd r i) else none
  armed := s.disp.armed

section
variable {s t : State}

theorem armed_of_dview (h : t.dview = s.dview) : t.disp.armed = s.disp.armed := congrArg DomainView.armed h

theorem rd_of_dview (h : t.dview = s.dview) {r : RegId} {i : Nat} (hr : domAddr (r.addr i) = true) : t.rd r i = s.rd r i := by
  have hw := congrFun (congrFun (congrArg DomainView.words h) r) i
  simpa only [State.dview, hr, if_true, Option.some.injEq] using hw

theorem dview_congr (ha : t.disp.armed = s.disp.armed) (hr : ∀ r i, domAddr (r.addr i) = true → t.rd r i = s.rd r i) :
    t.dview = s.dview := by
  have hw : t.dview.words = s.dview.words := funext fun r => funext fun i => by
    simp only [State.dview]
    split
    next h => rw [hr r i h]
    · rfl
  simp only [State.dview, ha] at hw ⊢
  rw [hw]

/-- No address of these blocks is one of the outputs. -/
theorem outAddr_of_domAddr {a : Nat} (h : domAddr a = true) : outAddr a = false := by
  have hb : ∀ k : Fin 2, outBlocks.contains k.val = false := by decide
  have ha : a < 0x2000 := of_decide_eq_true h
  exact hb ⟨a / 0x1000, by omega⟩

/-- What leaves the outside of the outputs alone leaves the domain view alone. -/
theorem dview_of_oview (h : t.oview = s.oview) : t.dview = s.dview :=
  dview_congr (congrArg OutsideView.armed h) fun _ _ hr => rd_of_oview h (outAddr_of_domAddr hr)

/-- A field of these blocks takes a value in two states of one view. -/
theorem dview_p_congr (h : t.dview = s.dview) (f : Fld) (i v : Nat) (hf : domAddr (f.r.addr i) = true) :
    (t.p f i v).dview = (s.p f i v).dview :=
  dview_congr (armed_of_dview (s := s) (t := t) h) fun r j hr => by simp only [State.p, rd_wr, rd_of_dview h hf, rd_of_dview h hr]

end

/-! ### Writes of registers and of other records -/

/-- The blocks from 0x2000 on lie behind the view, whatever the index. -/
theorem addr_ne_of_domAddr {q r : RegId} {i j : Nat} (hq : domAddr (q.addr j) = true) (h : 0x2000 ≤ r.place.base) :
    q.addr j ≠ r.addr i := fun e => by
  have hlt : q.addr j < 0x2000 := of_decide_eq_true hq
  simp only [RegId.addr] at e hlt
  omega

theorem dview_wr (s : State) (r : RegId) (i : Nat) (w : Word) (h : 0x2000 ≤ r.place.base) : (s.wr r i w).dview = s.dview :=
  dview_congr rfl fun _ _ hq => rd_wr_ne _ _ _ _ _ _ (addr_ne_of_domAddr hq h)

theorem dview_p (s : State) (f : Fld) (i v : Nat) (h : 0x2000 ≤ f.r.place.base) : (s.p f i v).dview = s.dview := dview_wr _ _ _ _ h
theorem dview_pb (s : State) (f : Fld) (i : Nat) (v : Bool) (h : 0x2000 ≤ f.r.place.base) : (s.pb f i v).dview = s.dview :=
  dview_wr _ _ _ _ h
theorem dview_incSat (s : State) (f : Fld) (i : Nat) (h : 0x2000 ≤ f.r.place.base) : (s.incSat f i).dview = s.dview := dview_wr _ _ _ _ h
theorem dview_incMod (s : State) (f : Fld) (i : Nat) (h : 0x2000 ≤ f.r.place.base) : (s.incMod f i).dview = s.dview := dview_wr _ _ _ _ h

/-- A register behind the view takes its reset word. -/
theorem dview_clrReg (s : State) (r : RegId) (i : Nat) (h : 0x2000 ≤ r.place.base) : (s.clrReg r i).dview = s.dview :=
  dview_congr rfl fun q j hq => by
    have hget : kvGet (s.clrReg r i).regs (q.addr j) = kvGet s.regs (q.addr j) := kvGet_filter _ fun _ => bne_iff_ne.mpr (addr_ne_of_domAddr hq h)
    simp only [State.rd, kvD, hget]
    rfl

/-- Repeating an operation that keeps the view keeps it. -/
theorem dview_each {α : Type} {l : List α} {f : α → State → State} (h : ∀ a t, (f a t).dview = t.dview) (s : State) :
    (each l f s).dview = s.dview := each_keeps State.dview l f s h

section
variable (s : State)

theorem dview_modCx (c : Fin 16) (f : Ctx → Ctx) : (s.modCx c f).dview = s.dview := by rfl
theorem dview_modEn (e : Fin 4) (f : Eng → Eng) : (s.modEn e f).dview = s.dview := by rfl
theorem dview_modRack (f : Rack → Rack) : (s.modRack f).dview = s.dview := by rfl
theorem dview_modSec (f : Sec → Sec) : (s.modSec f).dview = s.dview := by rfl
theorem dview_modNet (f : Net → Net) : (s.modNet f).dview = s.dview := by rfl
theorem dview_unstage (sel : Staged → Bool) : (s.unstage sel).dview = s.dview := by rfl
theorem dview_setRq (n : Nat) (l : List Desc) : (s.setRq n l).dview = s.dview := by rfl
theorem dview_withNet (n : Net) : ({ s with net := n } : State).dview = s.dview := by rfl

end

/-! ### Interrupts and faults -/

theorem dview_pendIrq (s : State) (n : Nat) : (s.pendIrq n).dview = s.dview := dview_of_oview (oview_pendIrq ..)
theorem dview_evWake (s : State) (kind sel : Nat) (d : Option Nat) : (s.evWake kind sel d).dview = s.dview :=
  dview_of_oview (oview_evWake ..)
theorem dview_raise (s : State) (n : Nat) : (s.raise n).dview = s.dview := dview_of_oview (oview_raise ..)

theorem dview_flagIrq (s : State) (f : Fld) (i irq : Nat) (h : 0x2000 ≤ f.r.place.base) : (s.flagIrq f i irq).dview = s.dview :=
  (dview_pendIrq ..).trans (dview_pb _ _ _ _ h)

/-! ### Semaphores (09 R344-R346) -/

theorem dview_granted (s : State) (w : Wait) (regs : List (Nat × Word)) : (s.granted w regs).dview = s.dview := by
  simp only [State.granted, State.leaveWait, apply_ite State.dview, dview_modCx, dview_modRack, ite_self]

theorem dview_semTake (s : State) (n agent dom : Nat) : (s.semTake n agent dom).2.dview = s.dview := by
  simp (disch := decide) only [State.semTake, apply_ite Prod.snd, apply_ite State.dview, dview_p, dview_pb, ite_self]

theorem dview_semServe (s : State) (n : Nat) : (s.semServe n).dview = s.dview := by
  unfold State.semServe
  split
  · rfl
  · simp only [apply_ite State.dview, dview_granted, dview_semTake, ite_self]

theorem dview_semFree (s : State) (n : Nat) : (s.semFree n).dview = s.dview := by
  simp (disch := decide) only [State.semFree, dview_semServe, dview_p, dview_pb]

theorem dview_semGive (s : State) (n agent dom : Nat) : (s.semGive n agent dom).2.dview = s.dview := by
  simp (disch := decide) only [State.semGive, apply_ite Prod.snd, apply_ite State.dview, dview_semServe, dview_p, dview_pb, dview_semFree,
    ite_self]

theorem dview_semFreeAll (s : State) (agent : Nat) : (s.semFreeAll agent).dview = s.dview :=
  dview_each (fun n t => by simp only [apply_ite State.dview, dview_semFree, ite_self]) s

/-! ### Racks (09 R333-R343) -/

theorem dview_rackFlag (s : State) (f : Fld) (n : Nat) (h : 0x2000 ≤ f.r.place.base) : (s.rackFlag f n).dview = s.dview :=
  dview_flagIrq _ _ _ _ h

theorem dview_rackClean (s : State) (n k : Nat) : (s.rackClean n k).dview = s.dview := by
  have hfix : ∀ (l : List Nat) (t : State), (each l (fun _ u => u.incSat F.rackGstat_ECCFIX) t).dview = t.dview := fun _ =>
    dview_each fun _ u => dview_incSat u _ _ (by decide)
  induction k generalizing s with
  | zero => rfl
  | succ k ih =>
    rw [State.rackClean]
    split
    · rfl
    · simp (disch := decide) only [apply_ite State.dview, ih, dview_raise, dview_rackFlag, dview_setRq, hfix, ite_self]

theorem dview_rackAppend (s : State) (n : Nat) (d : Desc) : (s.rackAppend n d).dview = s.dview := by
  simp only [State.rackAppend, dview_evWake, apply_ite State.dview, dview_pendIrq, dview_setRq, ite_self]

theorem dview_rackServe (s : State) (n k : Nat) : (s.rackServe n k).dview = s.dview := by
  induction k generalizing s with
  | zero => rfl
  | succ k ih =>
    have hclean : ∀ u, u = (if (s.popWaiter n).isSome then s.rackClean n ((s.rq n).length + 1) else s) → u.dview = s.dview := by
      rintro _ rfl
      simp only [apply_ite State.dview, dview_rackClean, ite_self]
    rw [State.rackServe]
    refine iteInduction (motive := fun u => State.dview u = s.dview) (fun _ => rfl) (fun _ => ?_)
    generalize hu : (if (s.popWaiter n).isSome then s.rackClean n ((s.rq n).length + 1) else s) = u
    have hview := hclean u hu.symm
    dsimp only
    split
    · rw [ih, dview_granted, State.holdPop, dview_modRack, dview_setRq, hview]
    split
    · refine iteInduction (motive := fun u => State.dview u = s.dview) (fun _ => hview) (fun _ => ?_)
      split
      · rw [ih, dview_granted, dview_rackAppend, hview]
      · exact hview
    · exact hview

theorem dview_dropParts (s : State) (sel : Nat → Bool) : (s.dropParts sel).dview = s.dview :=
  (dview_each (fun _ t => dview_rackFlag t _ _ (by decide)) _).trans (dview_modRack ..)

theorem dview_retire (s : State) (n : Nat) (d : Desc) (status erridx : Nat) : (s.retire n d status erridx).dview = s.dview := by
  unfold State.retire
  dsimp only
  rw [dview_rackFlag _ _ _ (by split <;> decide)]
  simp (disch := decide) only [dview_incMod, dview_p]

theorem dview_emptyRack (s : State) (n : Nat) : (s.emptyRack n).dview = s.dview :=
  (dview_setRq ..).trans (dview_each (fun d t => dview_retire t n d 2 0) s)

theorem dview_copyEnd (s : State) (status erridx : Nat) : (s.copyEnd status erridx).dview = s.dview := by
  unfold State.copyEnd
  split
  · rfl
  · simp only [dview_retire, apply_ite State.dview, dview_semGive, dview_modRack, ite_self]

/-! ### Waits (09 R348) -/

theorem dview_netAbort (s : State) (what : WaitFor) : (s.netAbort what).dview = s.dview := by
  have hflag : (s.flagIrq F.netStat_TXDROP 0 83).dview = s.dview := dview_flagIrq _ _ _ _ (by decide)
  unfold State.netAbort
  cases what <;> exact hflag

/-- An abort as ABORTED leaves a wait for a slot to the reset that caused it (05 R158). -/
theorem dview_abortWait (s : State) (w : Wait) : (s.abortWait w 2).dview = s.dview := by
  have hslot : ∀ t : State, t.slotAbort w 2 = t := fun t => if_pos rfl
  unfold State.abortWait
  dsimp only
  split
  · split <;> rfl
  · simp only [apply_ite State.dview, hslot, dview_copyEnd, dview_netAbort, State.leaveWait, dview_modRack, ite_self]

/-! ### Contexts (11 R419-R444) -/

theorem dview_ungrant (s : State) (e : Fin 4) : (s.ungrant e).dview = s.dview := by
  unfold State.ungrant
  split
  · exact dview_p _ _ _ _ (by decide)
  · rfl

theorem dview_grant (s : State) (e : Fin 4) : (s.grant e).dview = s.dview := by
  unfold State.grant
  dsimp only
  split
  · exact dview_p _ _ _ _ (by decide)
  · rfl

theorem dview_engReady (s : State) (e : Fin 4) : (s.engReady e).dview = s.dview := by
  unfold State.engReady
  split <;> simp only [apply_ite State.dview, dview_grant, dview_ungrant, ite_self]

theorem dview_flushAll (s : State) (c : Fin 16) : (s.flushAll c).dview = s.dview := by
  have hdrop : ∀ t : State, (t.dropDispatch (ctxDom c)).dview = t.dview := fun t => dview_incSat _ _ _ (by decide)
  have hq : ∀ (_ : Fired) (t : State), (t.dropDispatch (ctxDom c)).dview = t.dview := fun _ => hdrop
  simp only [State.flushAll, State.flushQueue, dview_modCx, dview_each hq, apply_ite State.dview, hdrop, ite_self]

theorem dview_ctxReset (s : State) (c : Fin 16) : (s.ctxReset c).dview = s.dview := by
  simp only [State.ctxReset, dview_engReady, dview_modCx, dview_semFreeAll, dview_dropParts, State.dropWait, dview_modRack,
    State.ungrantOf, apply_ite State.dview, dview_ungrant, ite_self]

/-! ### Messages and the session (08 R288-R294; 07 R257) -/

theorem dview_egress (s : State) (dom : Nat) (frame : List Nat) : (s.egress dom frame).dview = s.dview := by
  simp only [State.egress, State.addWait, State.rackCommit, apply_ite State.dview, dview_rackServe, dview_rackAppend, dview_modRack,
    ite_self]

theorem dview_answer (s : State) (f : List Nat) (code widx done : Nat) (data : List Nat) :
    (s.answer f code widx done data).dview = s.dview := dview_egress ..

theorem dview_netCut (s : State) : s.netCut.dview = s.dview := by
  unfold State.netCut
  split
  · rfl
  · dsimp only
    split
    · rfl
    · simp only [dview_retire, apply_ite State.dview, dview_answer, State.endPart, dview_dropParts, ite_self]
      rfl

theorem dview_sessionEnd (s : State) : s.sessionEnd.dview = s.dview := by
  simp (disch := decide) only [State.sessionEnd, dview_modSec, dview_wr]

/-! ### Racks, semaphores and waits of a domain (05 R158) -/

theorem dview_domRacks (s : State) (d : Nat) : (s.domRacks d).dview = s.dview := by
  have hwait : ∀ (w : Wait) (t : State), (t.abortWait w 2).dview = t.dview := fun w t => dview_abortWait t w
  have hrack : ∀ (n : Nat) (t : State), (if t.ownRack n = d then t.emptyRack n else t).dview = t.dview := fun n t => by
    simp only [apply_ite State.dview, dview_emptyRack, ite_self]
  have hsem : ∀ (n : Nat) (t : State),
      (if t.ownSem n = d then (t.clrReg .semCfg n).clrReg .semStat n else t).dview = t.dview := fun n t => by
    simp (disch := decide) only [apply_ite State.dview, dview_clrReg, ite_self]
  unfold State.domRacks
  dsimp only
  rw [dview_each hsem, dview_modRack, dview_each hrack]
  split
  · rw [apply_ite State.dview, dview_copyEnd, ite_self, dview_each hwait]
  · exact dview_each hwait s

end Sys2Proof.Machine
end

section
/-!
PROOF. Domain resets (05 R157-R160): DOM_RST started, refused, and the end of a reset.
-/

namespace Sys2Proof.Machine

/-! ### What a reset shows of one domain -/

/-- Of domain `x`: whether its reset runs, whether its staged copies are held, and the time match that it has armed. -/
def State.front (s : State) (x : Nat) : Bool × Bool × Option Nat :=
  (bitN (s.g F.domStat_RSTBUSY) x, s.b F.bakeCtl_HOLD x, kvGet s.disp.armed x)

/-- A domain whose reset has just started. -/
def freshReset : Bool × Bool × Option Nat := (true, false, none)

theorem domAddr_hold (x : Dom) : domAddr (F.bakeCtl_HOLD.r.addr x) = true := by
  have h : ∀ x : Dom, domAddr (F.bakeCtl_HOLD.r.addr x) = true := by decide
  exact h x

theorem front_of_dview {s t : State} (h : t.dview = s.dview) (x : Dom) : t.front x = s.front x := by
  simp only [State.front, State.b, State.g, armed_of_dview h, rd_of_dview h (domAddr_hold x),
    rd_of_dview h (show domAddr (F.domStat_RSTBUSY.r.addr 0) = true by decide)]

/-! ### The start (05 R157, R158) -/

/-- The start of a reset of domain `d`, as far as the domain view shows it. -/
def State.markReset (s : State) (d : Nat) : State :=
  let s1 := (s.p F.domStat_RSTBUSY 0 (s.g F.domStat_RSTBUSY ||| 2 ^ d)).pb F.bakeCtl_HOLD d false
  { s1 with disp := { s1.disp with armed := kvDel s1.disp.armed d } }

theorem domResetStart_busy {s : State} {d : Nat} (h : bitN (s.g F.domStat_RSTBUSY) d = true) : s.domResetStart d = s := if_pos h

theorem dview_domResetStart {s : State} {d : Dom} (h : bitN (s.g F.domStat_RSTBUSY) d = false) :
    (s.domResetStart d).dview = (s.markReset d).dview := by
  have hctx : ∀ (c : Fin 16) (t : State), (if t.ctxOfDom c d then (t.flushAll c).ctxReset c else t).dview = t.dview := fun c t => by
    simp only [apply_ite State.dview, dview_ctxReset, dview_flushAll, ite_self]
  have harm : ∀ {t u : State} (n : Net), t.dview = u.dview →
      ({ t with net := n, disp := { t.disp with armed := kvDel t.disp.armed d } } : State).dview =
        ({ u with disp := { u.disp with armed := kvDel u.disp.armed d } } : State).dview := fun {t u} n ht =>
    dview_congr (congrArg (kvDel · d.val) (armed_of_dview ht)) fun _ _ hr => rd_of_dview (s := u) (t := t) ht hr
  rw [State.domResetStart, if_neg (by simp [h])]
  simp only [apply_ite State.dview, dview_sessionEnd, ite_self]
  refine harm _ ?_
  rw [dview_p _ _ _ _ (by decide), dview_p _ _ _ _ (by decide)]
  refine dview_p_congr ?_ _ _ _ (domAddr_hold d)
  rw [dview_unstage, dview_domRacks, dview_each hctx]
  rfl

theorem kvGet_kvDel_ne {α : Type} (l : List (Nat × α)) {j k : Nat} (h : j ≠ k) : kvGet (kvDel l k) j = kvGet l j :=
  kvGet_filter l fun _ => bne_iff_ne.mpr h

/-- The bits of RSTBUSY in a start. -/
theorem busy_markReset (s : State) (d x : Dom) :
    bitN ((s.markReset d).g F.domStat_RSTBUSY) x = (bitN (s.g F.domStat_RSTBUSY) x || decide (d = x)) := by
  have haddr : ∀ d : Dom, F.domStat_RSTBUSY.r.addr 0 ≠ F.bakeCtl_HOLD.r.addr d := by decide
  have hg : (s.markReset d).g F.domStat_RSTBUSY = (s.p F.domStat_RSTBUSY 0 (s.g F.domStat_RSTBUSY ||| 2 ^ d.val)).g F.domStat_RSTBUSY := by
    have hrd : (s.markReset d).rd F.domStat_RSTBUSY.r = _ := rd_pb_ne _ F.bakeCtl_HOLD d false (haddr d)
    exact congrArg (fun w : Word => bitsN w.toNat F.domStat_RSTBUSY.lo F.domStat_RSTBUSY.w) hrd
  have hx : x.val < F.domStat_RSTBUSY.w := x.isLt
  rw [hg, g_p_same _ _ _ _ (by decide), bitN_eq_testBit, Nat.testBit_mod_two_pow, Nat.testBit_or, Nat.testBit_two_pow, bitN_eq_testBit]
  simp [hx, Fin.ext_iff]

/-- A start marks its domain. -/
theorem front_markReset_same (s : State) (d : Dom) : (s.markReset d).front d = freshReset := by
  have hhold : (s.markReset d).b F.bakeCtl_HOLD d = false := b_pb_same _ F.bakeCtl_HOLD d false (by decide) rfl
  have harm : kvGet (s.markReset d).disp.armed d.val = none := kvGet_kvDel_same ..
  rw [State.front, busy_markReset, hhold, harm]
  simp [freshReset]

/-- A start shows nothing of another domain. -/
theorem front_markReset_ne (s : State) {d x : Dom} (h : x ≠ d) : (s.markReset d).front x = s.front x := by
  have haddr : ∀ d x : Dom, x ≠ d → F.bakeCtl_HOLD.r.addr x ≠ F.bakeCtl_HOLD.r.addr d ∧
      F.bakeCtl_HOLD.r.addr x ≠ F.domStat_RSTBUSY.r.addr 0 := by decide
  obtain ⟨hd, hs⟩ := haddr d x h
  have hhold : (s.markReset d).b F.bakeCtl_HOLD x = s.b F.bakeCtl_HOLD x := by
    have hrd : (s.markReset d).rd F.bakeCtl_HOLD.r x = s.rd F.bakeCtl_HOLD.r x :=
      (rd_pb_ne _ F.bakeCtl_HOLD d false hd).trans (rd_wr_ne _ _ _ _ _ _ hs)
    rw [State.b, State.g, hrd, State.b, State.g]
  have harm : kvGet (s.markReset d).disp.armed x.val = kvGet s.disp.armed x.val := kvGet_kvDel_ne _ fun e => h (Fin.ext e)
  rw [State.front, State.front, busy_markReset, hhold, harm]
  simp [h.symm]

/-- Domain `x` shows what it showed, or a reset that has just started where none ran. -/
def Resets (x : Dom) (s t : State) : Prop := t.front x = s.front x ∨ ((s.front x).1 = false ∧ t.front x = freshReset)

section
variable {x : Dom} {s t u : State}

theorem Resets.refl (x : Dom) (s : State) : Resets x s s := .inl rfl

theorem Resets.of_dview (h : t.dview = s.dview) : Resets x s t := .inl (front_of_dview h x)

theorem Resets.trans (a : Resets x s t) (b : Resets x t u) : Resets x s u := by
  rcases b with hb | ⟨hb, hu⟩
  · rw [Resets, hb]
    exact a
  · rcases a with ha | ⟨-, ht⟩
    · exact .inr ⟨ha ▸ hb, hu⟩
    · rw [ht] at hb
      cases hb

/-- A reset that runs goes on running. -/
theorem Resets.busy (h : Resets x s t) (hs : (s.front x).1 = true) : (t.front x).1 = true := by
  rcases h with h | ⟨-, h⟩
  · rw [h, hs]
  · rw [h]
    rfl

theorem Resets.each {α : Type} {l : List α} {f : α → State → State} (h : ∀ a ∈ l, ∀ s, Resets x s (f a s)) (s : State) :
    Resets x s (Machine.each l f s) := by
  induction l generalizing s with
  | nil => exact .refl x s
  | cons a l ih => exact (h a (by simp) s).trans (ih (fun b hb => h b (by simp [hb])) (f a s))

end

theorem Resets.domResetStart (x d : Dom) (s : State) : Resets x s (s.domResetStart d) := by
  by_cases hb : bitN (s.g F.domStat_RSTBUSY) d = true
  · rw [domResetStart_busy hb]
    exact .refl x s
  · have hd : bitN (s.g F.domStat_RSTBUSY) d = false := by simpa using hb
    have hfront := front_of_dview (dview_domResetStart hd) x
    by_cases hx : x = d
    · subst hx
      exact .inr ⟨hd, hfront.trans (front_markReset_same s x)⟩
    · exact .inl (hfront.trans (front_markReset_ne s hx))

/-- After a start the reset of the domain runs. -/
theorem busy_domResetStart (d : Dom) (s : State) : ((s.domResetStart d).front d).1 = true := by
  by_cases hb : bitN (s.g F.domStat_RSTBUSY) d = true
  · rw [domResetStart_busy hb]
    exact hb
  · rw [front_of_dview (dview_domResetStart (by simpa using hb)) d, front_markReset_same]
    rfl

/-! ### DOM_RST (05 R157) -/

/-- DOM_RST on one domain of the mask: its reset starts, and a message of the domain in execution is cut short. -/
def State.rstOne (rst x : Nat) (s : State) : State :=
  if bitN rst x then
    let s1 := s.domResetStart x
    if s1.net.job.any (·.dom == x) then s1.netCut else s1
  else s

theorem dview_rstOne {rst x : Nat} (h : bitN rst x = true) (s : State) : (s.rstOne rst x).dview = (s.domResetStart x).dview := by
  simp only [State.rstOne, h, if_true, apply_ite State.dview, dview_netCut, ite_self]

theorem Resets.rstOne (x d : Dom) (rst : Nat) (s : State) : Resets x s (s.rstOne rst d) := by
  by_cases h : bitN rst d = true
  · exact (Resets.domResetStart x d s).trans (.of_dview (dview_rstOne h s))
  · rw [State.rstOne, if_neg h]
    exact .refl x s

/-- DOM_RST on the domains of a list. -/
theorem Resets.rstEach (x : Dom) (rst : Nat) {l : List Nat} (hl : ∀ d ∈ l, d < 4) (s : State) :
    Resets x s (Machine.each l (State.rstOne rst) s) :=
  .each (fun d hd t => .rstOne x ⟨d, hl d hd⟩ rst t) s

/-- After DOM_RST the reset of each domain named runs. -/
theorem busy_rstEach {rst : Nat} {x : Dom} (h : bitN rst x = true) (s : State) :
    ((each (upto 4) (State.rstOne rst) s).front x).1 = true := by
  have hall : ∀ d ∈ upto 4, d < 4 := by decide
  obtain ⟨l, l', hl⟩ := List.append_of_mem (show x.val ∈ upto 4 by simp [upto])
  have hsplit : each (upto 4) (State.rstOne rst) s =
      each l' (State.rstOne rst) ((each l (State.rstOne rst) s).rstOne rst x) := by
    simp only [each, hl, List.foldl_append, List.foldl_cons]
  rw [hsplit]
  refine Resets.busy (.rstEach x rst (fun d hd => hall d (hl ▸ by simp [hd])) _) ?_
  rw [front_of_dview (dview_rstOne h _) x]
  exact busy_domResetStart x _

/-- The word that DOM_RST takes. -/
theorem domRst_plain : ∀ rst : BitVec 4, plainCommand .domRst 0 (rst.toNat + 0xD500) = true := by decide

/-- An accepted DOM_RST, but for what the access leaves in the records of its cycle. -/
theorem exec_domainReset {s : State} {p : Port} {d : Dom} {rst : BitVec 4} (h : s.accepts p d .domRst 0 (rst.toNat + 0xD500) = true) :
    ∃ c m l, exec (.domainReset p d rst) s =
      .next (State.result { State.domRstWrite { s with cyc := c, parityBad := m } p d 0x1064 (rst.toNat + 0xD500) with staged := l }
        p 0 0) := by
  have hd : decode (RegId.domRst.addr 0) true = .reg .reg .domRst 0 := by decide
  obtain ⟨c, hcyc⟩ := noteWrite_eq (s.unmarked .domRst 0) s p d .domRst 0 .reg (rst.toNat + 0xD500)
  obtain ⟨l, hl⟩ := loose_eq (((s.unmarked .domRst 0).noteWrite s p d .domRst 0 .reg (rst.toNat + 0xD500)).onWrite s p d
    (RegId.domRst.addr 0) .domRst 0 .reg (rst.toNat + 0xD500) (s.rd .domRst 0).toNat true) s p
  refine ⟨c, (s.unmarked .domRst 0).parityBad, l, ?_⟩
  have hx : exec (.domainReset p d rst) s = s.writeReg p d .domRst 0 (rst.toNat + 0xD500) := rfl
  rw [hx, writeReg_command s p d .domRst 0 _ h hd (by decide) (by decide) (domRst_plain rst), hl, hcyc]
  rfl

/-- Whether a write of DOM_RST names a domain that its writer may not reset (05 R157). -/
def rstRefused (p : Port) (d rst : Nat) : Bool := p != .u2d && decide (d ≠ 0) && decide (rst ||| 2 ^ d ≠ 2 ^ d)

/-- DOM_RST with its key: the resets start, or it is recorded. -/
theorem domRstWrite_keyed (s : State) (p : Port) (d a : Nat) (rst : BitVec 4) :
    s.domRstWrite p d a (rst.toNat + 0xD500) =
      if rstRefused p d rst.toNat then s.violate d p.code a 6 else each (upto 4) (State.rstOne rst.toNat) s := by
  have hrst : (rst.toNat + 0xD500) % 16 = rst.toNat := by have := rst.isLt; omega
  have hkey : bitsN (rst.toNat + 0xD500) 8 8 = 0xD5 := by have := rst.isLt; simp only [bitsN]; omega
  have hu2d : rstRefused p d rst.toNat = true → (p == .u2d) = false := fun h => by
    simp only [rstRefused, Bool.and_eq_true] at h
    simpa using h.1.1
  have hcond : (decide (bitsN (rst.toNat + 0xD500) 8 8 ≠ 0xD5) ||
      (!(p == .u2d) && decide (d ≠ 0) && decide (rst.toNat ||| 2 ^ d ≠ 2 ^ d))) = rstRefused p d rst.toNat := by
    rw [hkey]
    rfl
  simp only [State.domRstWrite, hrst, hcond]
  split
  next h => rw [hu2d h]; rfl
  · rfl

/-- DOM_RST by a port that may reset each domain named. -/
theorem domainReset_starts {s : State} {p : Port} {d : Dom} {rst : BitVec 4} (h : s.accepts p d .domRst 0 (rst.toNat + 0xD500) = true)
    (hr : rstRefused p d rst.toNat = false) : Gives (.domainReset p d rst) s fun t => t.done p = true ∧
      ∀ x : Dom, bitN rst.toNat x = true → bitN (t.g F.domStat_RSTBUSY) x = true ∧
        (bitN (s.g F.domStat_RSTBUSY) x = false → t.b F.bakeCtl_HOLD x = false ∧ kvGet t.disp.armed x = none) := by
  obtain ⟨c, m, l, hx⟩ := exec_domainReset h
  rw [domRstWrite_keyed, hr] at hx
  refine gives_of hx ⟨done_result .., fun x hbit => ?_⟩
  have hbusy := busy_rstEach hbit { s with cyc := c, parityBad := m }
  refine ⟨hbusy, fun hfree => ?_⟩
  rcases Resets.rstEach x rst.toNat (l := upto 4) (by decide) { s with cyc := c, parityBad := m } with hsame | ⟨-, hnew⟩
  · rw [hsame] at hbusy
    exact absurd (hfree.symm.trans hbusy) (by decide)
  · exact Prod.mk.inj (Prod.mk.inj hnew).2

/-- The first violation of a domain takes its record (05 R177), and no reset starts by it. -/
theorem violate_fresh {s : State} {d : Dom} (h : s.b F.domViol_VALID d = false) (port addr cause : Nat) :
    (s.violate d port addr cause).rd .domViol d = BitVec.ofNat 32 (addr % 2 ^ 24 + port % 8 * 2 ^ 24 + cause * 2 ^ 27 + 2 ^ 31) ∧
      (s.violate d port addr cause).rd .domStat = s.rd .domStat := by
  have hblock : ∀ d : Dom, RegId.domViol.addr d / 0x1000 ∉ [0x2, 0x9] ∧ RegId.domStat.addr 0 ≠ RegId.domViol.addr d := by decide
  obtain ⟨hviol, hne⟩ := hblock d
  simp only [State.violate, h, Bool.false_eq_true, if_false]
  exact ⟨((IrqFrame.pendIrq ..).rd _ _ hviol).trans (rd_wr_same ..),
    ((IrqFrame.pendIrq ..).rd _ _ (by decide)).trans (rd_wr_ne _ _ _ _ _ _ hne)⟩

/-- DOM_RST by a domain that names another starts nothing and is recorded. -/
theorem domainReset_refused {s : State} {p : Port} {d : Dom} {rst : BitVec 4} (h : s.accepts p d .domRst 0 (rst.toNat + 0xD500) = true)
    (hr : rstRefused p d rst.toNat = true) (hv : s.b F.domViol_VALID d = false) : Gives (.domainReset p d rst) s fun t =>
      t.g F.domStat_RSTBUSY = s.g F.domStat_RSTBUSY ∧ t.domRst = s.domRst ∧
        t.rd .domViol d = BitVec.ofNat 32 (0x1064 + p.code % 8 * 2 ^ 24 + 6 * 2 ^ 27 + 2 ^ 31) := by
  obtain ⟨c, m, l, hx⟩ := exec_domainReset h
  rw [domRstWrite_keyed, hr] at hx
  obtain ⟨hviol, hstat⟩ := violate_fresh (s := { s with cyc := c, parityBad := m }) hv p.code 0x1064 6
  refine gives_of hx ⟨?_, (Quiet.violate { s with cyc := c, parityBad := m } ..).domRst, hviol⟩
  exact congrArg (fun w : Word => bitsN w.toNat F.domStat_RSTBUSY.lo F.domStat_RSTBUSY.w) hstat

/-! ### The end (05 R160) -/

/-- Of the registers, an event of the dispatcher writes DISP_STAT alone. -/
theorem rd_intPend_fireEvent (s : State) (evt : Nat) (src : Option Nat) (data : Word) (i : Nat) (hi : i < 12) :
    (s.fireEvent evt src data).rd .intPend i = s.rd .intPend i := by
  have hbad : ∀ (d : Fin 4) (i : Fin 12), RegId.intPend.addr i ≠ F.dispStat_BADEVT.r.addr d := by decide
  refine each_keeps (fun t : State => t.rd .intPend i) _ _ s fun e t => ?_
  have hd : t.g F.dispCfg_DOM e < 4 := Nat.mod_lt _ (by decide)
  have hkeep : (t.badEvt (t.g F.dispCfg_DOM e)).rd .intPend i = t.rd .intPend i := rd_pb_ne _ _ _ _ (hbad ⟨_, hd⟩ ⟨i, hi⟩)
  unfold State.fireEntry
  dsimp only
  split
  · rfl
  split
  · exact hkeep
  split
  · exact hkeep
  · split <;> split <;> rfl

theorem rd_evWake (s : State) (kind sel : Nat) (d : Option Nat) (r : RegId) (i : Nat) : (s.evWake kind sel d).rd r i = s.rd r i := by
  refine each_keeps (fun t : State => t.rd r i) _ _ s fun c t => ?_
  split
  · split <;> rfl
  · rfl

/-- A source with an owner is pending in the set of that owner (05 R146). -/
theorem rbit_pendIrq {s : State} {n d : Nat} (h : s.irqOwner n = some d) :
    (s.pendIrq n).rbit .intPend (3 * d + n / 32) (n % 32) = true := by
  have hd := State.irqOwner_lt h
  have hn := State.lt_of_irqOwner h
  unfold State.pendIrq
  rw [h]
  dsimp only
  split
  · assumption
  · rw [State.rbit, rd_evWake, rd_intPend_fireEvent _ _ _ _ _ (by omega)]
    exact rbit_setBits_same _ _ _ (Nat.mod_lt _ (by decide))

/-- The last step of a reset of domain `x`: RSTBUSY is cleared, the outputs follow, IRQ(76 + x) is pending. -/
def State.resetDone (s : State) (x : Nat) : State :=
  (s.p F.domStat_RSTBUSY 0 (putN (s.g F.domStat_RSTBUSY) x 1 0)).outputs.pendIrq (76 + x)

theorem domRst_resetDone (s : State) (x : Nat) : (s.resetDone x).domRst = s.domRst := ((Quiet.outputs _).trans (.pendIrq ..)).domRst

theorem busy_resetDone (s : State) (x : Dom) : bitN ((s.resetDone x).g F.domStat_RSTBUSY) x = false := by
  let u := s.p F.domStat_RSTBUSY 0 (putN (s.g F.domStat_RSTBUSY) x 1 0)
  have hrd : (s.resetDone x).rd F.domStat_RSTBUSY.r = u.rd F.domStat_RSTBUSY.r :=
    rd_of_oview (s := u) ((oview_pendIrq ..).trans (oview_outputs _)) (by decide)
  have hg : (s.resetDone x).g F.domStat_RSTBUSY = putN (s.g F.domStat_RSTBUSY) x 1 0 % 2 ^ F.domStat_RSTBUSY.w := by
    rw [State.g, hrd]
    exact g_p_same s F.domStat_RSTBUSY 0 _ (by decide)
  rw [hg, bitN_eq_testBit, Nat.testBit_mod_two_pow, putN_testBit]
  simp

theorem pending_resetDone (s : State) (x : Dom) : (s.resetDone x).rbit .intPend (3 * x + 2) (12 + x) = true := by
  have howner : ∀ (u : State) (x : Dom), u.irqOwner (76 + x.val) = some x.val := fun u x => by fin_cases x <;> rfl
  have hset : 3 * x.val + (76 + x.val) / 32 = 3 * x.val + 2 := by omega
  have hbit : (76 + x.val) % 32 = 12 + x.val := by omega
  have hpend := rbit_pendIrq (howner (s.p F.domStat_RSTBUSY 0 (putN (s.g F.domStat_RSTBUSY) x 1 0)).outputs x)
  rwa [hset, hbit] at hpend

/-- The end of a reset is its last step on a state that no longer lists the domain. -/
theorem domResetEnd_eq (s : State) (d : Nat) (keep : Bool) :
    ∃ u : State, s.domResetEnd d keep = u.resetDone d ∧ kvGet u.domRst d = none :=
  ⟨_, rfl, kvGet_kvDel_same ..⟩

theorem domResetEnd_done (s : State) (x : Dom) (keep : Bool) :
    bitN ((s.domResetEnd x keep).g F.domStat_RSTBUSY) x = false ∧ kvGet (s.domResetEnd x keep).domRst x = none ∧
      (s.domResetEnd x keep).rbit .intPend (3 * x + 2) (12 + x) = true := by
  obtain ⟨u, hu, hnone⟩ := domResetEnd_eq s x keep
  rw [hu, domRst_resetDone]
  exact ⟨busy_resetDone u x, hnone, pending_resetDone u x⟩

/-- Settles O21: the start of each reset through the domain view, the record of a refused one, and the end. -/
theorem domainResetsComplete : Obligations.DomainResetsComplete := by
  refine ⟨fun s p d rst h hor => domainReset_starts h ?_, fun s p d rst h hp hd hne hv => domainReset_refused h ?_ hv,
    fun s x v hv h2 hq => gives_of ?_ (domResetEnd_done s x (v % 2 == 1))⟩
  · rcases hor with rfl | rfl | hmask
    · rfl
    · simp [rstRefused]
    · simp [rstRefused, hmask]
  · have hd0 : d.val ≠ 0 := fun e => hd (Fin.ext e)
    simp [rstRefused, hp, hd0, hne]
  · change execDomainResetComplete x s = _
    rw [execDomainResetComplete, hv]
    simp only [h2, hq, decide_true, Bool.and_self, if_true]

end Sys2Proof.Machine
end

section

/-!
PROOF. What the operations that hold no register write leave of the staged copies: all of them (06 R197).
-/

namespace Sys2Proof.Machine

/-- The staged copies of the state that a command answers. -/
def nextStaged : Host.Outcome State Fault Refusal → Option (List Staged)
  | .next t => some t.staged
  | _ => none

@[simp] theorem nextStaged_next (t : State) : nextStaged (.next t) = some t.staged := rfl

@[simp] theorem nextStaged_ite (c : Prop) [Decidable c] (a b : Host.Outcome State Fault Refusal) :
    nextStaged (if c then a else b) = if c then nextStaged a else nextStaged b := apply_ite ..

@[simp] theorem staged_ite (c : Prop) [Decidable c] (s t : State) :
    (if c then s else t).staged = if c then s.staged else t.staged := apply_ite ..

@[simp] theorem staged_snd_ite {α : Type} (c : Prop) [Decidable c] (s t : α × State) :
    (if c then s else t).2.staged = if c then s.2.staged else t.2.staged := by split <;> rfl

@[simp] theorem staged_snd2_ite {α β : Type} (c : Prop) [Decidable c] (s t : α × β × State) :
    (if c then s else t).2.2.staged = if c then s.2.2.staged else t.2.2.staged := by split <;> rfl

@[simp] theorem staged_each {α : Type} {l : List α} {f : α → State → State} (h : ∀ a t, (f a t).staged = t.staged) (s : State) :
    (each l f s).staged = s.staged := each_keeps State.staged l f s fun a t => h a t

/-- A fold keeps the staged copies of the state it carries along (`π`), when each of its steps does. -/
theorem staged_foldl {α β : Type} (π : β → State) {f : β → α → β} (h : ∀ p a, (π (f p a)).staged = (π p).staged) (l : List α) (p : β) :
    (π (l.foldl f p)).staged = (π p).staged := by
  induction l generalizing p with
  | nil => rfl
  | cons a l ih => exact (ih (f p a)).trans (h p a)

/-! ### Shared operations: interrupts, captures (05 R146, R177; 06 R231) -/

@[simp] theorem staged_fresh (s : State) (w : Nat) : (s.fresh w).2.staged = s.staged := rfl
@[simp] theorem staged_badEvt (s : State) (d : Nat) : (s.badEvt d).staged = s.staged := rfl

@[simp] theorem staged_fireEntry (s : State) (i evt : Nat) (src : Option Nat) (data : Word) :
    (s.fireEntry i evt src data).staged = s.staged := (Quiet.fireEntry ..).staged

@[simp] theorem staged_fireEvent (s : State) (evt : Nat) (src : Option Nat) (data : Word) : (s.fireEvent evt src data).staged = s.staged :=
  (Quiet.fireEvent ..).staged

@[simp] theorem staged_evWake (s : State) (kind sel : Nat) (d : Option Nat) : (s.evWake kind sel d).staged = s.staged :=
  (Quiet.evWake ..).staged

@[simp] theorem staged_pendIrq (s : State) (n : Nat) : (s.pendIrq n).staged = s.staged := (Quiet.pendIrq ..).staged
@[simp] theorem staged_flagIrq (s : State) (f : Fld) (i irq : Nat) : (s.flagIrq f i irq).staged = s.staged := (Quiet.flagIrq ..).staged

@[simp] theorem staged_violate (s : State) (d port addr cause : Nat) : (s.violate d port addr cause).staged = s.staged :=
  (Quiet.violate ..).staged

@[simp] theorem staged_rsvw (s : State) (d port addr : Nat) : (s.rsvw d port addr).staged = s.staged := (Quiet.rsvw ..).staged
@[simp] theorem staged_lockv (s : State) (d port addr : Nat) : (s.lockv d port addr).staged = s.staged := (Quiet.lockv ..).staged
@[simp] theorem staged_wrcoll (s : State) (d port addr : Nat) : (s.wrcoll d port addr).staged = s.staged := (Quiet.wrcoll ..).staged

@[simp] theorem staged_buserr (s : State) (d port addr code : Nat) : (s.buserr d port addr code).staged = s.staged :=
  (Quiet.buserr ..).staged

/-! ### Outputs (13 R505; 14; 15) -/

@[simp] theorem staged_trace (s : State) (ty a b c : Nat) : (s.trace ty a b c).staged = s.staged := (Quiet.trace ..).staged
@[simp] theorem staged_hearthCause (s : State) : s.hearthCause.staged = s.staged := (Quiet.hearthCause ..).staged
@[simp] theorem staged_countOn (s : State) : s.countOn.staged = s.staged := (Quiet.countOn ..).staged

@[simp] theorem staged_refreshStr (s0 : State) (dim : Bool) (i : Fin 6) : (s0.refreshStr dim i).staged = s0.staged :=
  (Quiet.refreshStr ..).staged

@[simp] theorem staged_refreshGate (s : State) (i : Fin 6) : (s.refreshGate i).staged = s.staged := (Quiet.refreshGate ..).staged
@[simp] theorem staged_setSw (s0 : State) (i : Fin 6) (sw : Nat) : (s0.setSw i sw).staged = s0.staged := (Quiet.setSw ..).staged
@[simp] theorem staged_refreshStack (s : State) (i : Fin 6) : (s.refreshStack i).staged = s.staged := (Quiet.refreshStack ..).staged
@[simp] theorem staged_gridBlank (s0 : State) : s0.gridBlank.staged = s0.staged := (Quiet.gridBlank ..).staged
@[simp] theorem staged_gridStop (s : State) : s.gridStop.staged = s.staged := (Quiet.gridStop ..).staged
@[simp] theorem staged_outputs (s : State) : s.outputs.staged = s.staged := (Quiet.outputs ..).staged

/-! ### Triggers of the converters (16 R616) -/

@[simp] theorem staged_adcTrigEntry (s : State) (x : Fin 2) (j trig mark : Nat) : (s.adcTrigEntry x j trig mark).staged = s.staged := by
  simp [State.adcTrigEntry]

@[simp] theorem staged_adcTrigger (s : State) (code mark : Nat) : (s.adcTrigger code mark).staged = s.staged := by simp [State.adcTrigger]

/-! ### Faults (18 R681-R691) -/

@[simp] theorem staged_latchFault (s : State) (n chans : Nat) : (s.latchFault n chans).staged = s.staged := (Quiet.latchFault ..).staged
@[simp] theorem staged_raiseOn (s : State) (n chans : Nat) : (s.raiseOn n chans).staged = s.staged := (Quiet.raiseOn ..).staged
@[simp] theorem staged_raise (s : State) (n : Nat) : (s.raise n).staged = s.staged := (Quiet.raise ..).staged
@[simp] theorem staged_levelOn (s : State) (n : Nat) : (s.levelOn n).staged = s.staged := (Quiet.levelOn ..).staged
@[simp] theorem staged_endFault (s : State) (n : Nat) : (s.endFault n).staged = s.staged := (Quiet.endFault ..).staged
@[simp] theorem staged_levelOff (s : State) (n : Nat) : (s.levelOff n).staged = s.staged := (Quiet.levelOff ..).staged
@[simp] theorem staged_clearFault (s : State) (n : Nat) : (s.clearFault n).staged = s.staged := (Quiet.clearFault ..).staged

/-! ### String channels (14) -/

@[simp] theorem staged_uffOf (s : State) (i : Fin 6) (n : Nat) : (s.uffOf i n).2.staged = s.staged := by
  unfold State.uffOf
  repeat' split
  all_goals simp

@[simp] theorem staged_enterFallback (s : State) (i : Fin 6) : (s.enterFallback i).staged = s.staged := by simp [State.enterFallback]

@[simp] theorem staged_handover (s : State) (i : Fin 6) (seed : Nat) (edge : Bool) : (s.handover i seed edge).staged = s.staged := by
  simp [State.handover]

@[simp] theorem staged_endFallback (s : State) (i : Fin 6) : (s.endFallback i).staged = s.staged := by simp [State.endFallback]

@[simp] theorem staged_judgeLoop (s : State) (i : Fin 6) (due sampled excused : Bool) :
    (s.judgeLoop i due sampled excused).staged = s.staged := by simp [State.judgeLoop]

@[simp] theorem staged_openString (s : State) (i : Fin 6) : (s.openString i).staged = s.staged := by simp [State.openString]
@[simp] theorem staged_openCleared (s : State) (i : Fin 6) : (s.openCleared i).staged = s.staged := by simp [State.openCleared]

@[simp] theorem staged_isnsResult (s : State) (i : Fin 6) (code : Nat) (used : Bool) : (s.isnsResult i code used).staged = s.staged := by
  simp [State.isnsResult]

@[simp] theorem staged_voResult (s : State) (i : Fin 6) (code : Nat) : (s.voResult i code).staged = s.staged := by simp [State.voResult]

@[simp] theorem nextStaged_supplyMonitorSample (vbatMv : BitVec 16) (s : State) :
    nextStaged (execSupplyMonitorSample vbatMv s) = some s.staged := by
  unfold execSupplyMonitorSample
  split <;> simp

/-! ### Sessions, keys and tamper events (19) -/

@[simp] theorem staged_setSlot (s : State) (i : Fin 4) (x : Slot) : (s.setSlot i x).staged = s.staged := rfl
@[simp] theorem staged_sessionEnd (s : State) : s.sessionEnd.staged = s.staged := rfl
@[simp] theorem staged_keyRegsClear (s : State) : s.keyRegsClear.staged = s.staged := rfl
@[simp] theorem staged_keyDependent (s : State) : s.keyDependent.staged = s.staged := by simp [State.keyDependent]
@[simp] theorem staged_wipeLarder (s : State) (cause : Nat) : (s.wipeLarder cause).staged = s.staged := rfl
@[simp] theorem staged_keyEnd (s : State) (result : Nat) : (s.keyEnd result).staged = s.staged := by simp [State.keyEnd]
@[simp] theorem staged_lcEnd (s : State) (result : Nat) : (s.lcEnd result).staged = s.staged := by simp [State.lcEnd]
@[simp] theorem staged_tamper (s : State) (n : Nat) : (s.tamper n).staged = s.staged := by simp [State.tamper]

/-! ### Memory (10) -/

@[simp] theorem staged_eccFixed (s : State) (a y : Nat) : (s.eccFixed a y).staged = s.staged := by simp [State.eccFixed]
@[simp] theorem staged_ueCapture (s : State) (req a : Nat) : (s.ueCapture req a).staged = s.staged := by simp [State.ueCapture]
@[simp] theorem staged_ueFault (s : State) (req a : Nat) : (s.ueFault req a).staged = s.staged := by simp [State.ueFault]
@[simp] theorem staged_readMem (s : State) (req a : Nat) : (s.readMem req a).2.2.staged = s.staged := by simp [State.readMem]
@[simp] theorem staged_dropLine (s : State) (a : Nat) : (s.dropLine a).staged = s.staged := rfl
@[simp] theorem staged_writeMem (s : State) (a w : Nat) : (s.writeMem a w).staged = s.staged := by simp [State.writeMem]
@[simp] theorem staged_mergeMem (s : State) (req a lo w v : Nat) : (s.mergeMem req a lo w v).2.staged = s.staged := by simp [State.mergeMem]
@[simp] theorem staged_scrub (s : State) (a : Nat) : (s.scrub a).staged = s.staged := by simp [State.scrub]
@[simp] theorem staged_spareRow (s : State) (b : Fin 11) (r : Nat) : (s.spareRow b r).staged = s.staged := by simp [State.spareRow]
@[simp] theorem staged_sweepHit (s : State) (b : Fin 11) (word : Nat) : (s.sweepHit b word).staged = s.staged := by simp [State.sweepHit]
@[simp] theorem staged_sweepNext (s : State) (b : Fin 11) (word : Nat) : (s.sweepNext b word).staged = s.staged := by simp [State.sweepNext]
@[simp] theorem staged_spareWord (s : State) (a : Nat) : (s.spareWord a).staged = s.staged := by simp [State.spareWord]

@[simp] theorem nextStaged_rowSpareComplete (b : Fin 11) (s : State) : nextStaged (execRowSpareComplete b s) = some s.staged := by
  unfold execRowSpareComplete
  dsimp only
  repeat' split
  all_goals simp

@[simp] theorem staged_fetchTray (s0 : State) (req tray groups : Nat) (bases : List Nat) :
    (s0.fetchTray req tray groups bases).2.staged = s0.staged := by
  unfold State.fetchTray
  refine (staged_foldl Prod.snd (fun p j => ?_) _ _).trans (by simp)
  dsimp only
  split <;> simp

@[simp] theorem nextStaged_fetchAheadFillDone (c : Fin 16) (s : State) : nextStaged (execFetchAheadFillDone c s) = some s.staged := by
  unfold execFetchAheadFillDone
  split <;> simp

/-! ### Racks, semaphores and waits (09) -/

@[simp] theorem staged_setRq (s : State) (n : Nat) (l : List Desc) : (s.setRq n l).staged = s.staged := rfl
@[simp] theorem staged_rackFlag (s : State) (f : Fld) (n : Nat) : (s.rackFlag f n).staged = s.staged := by simp [State.rackFlag]
@[simp] theorem staged_addWait (s : State) (w : Wait) : (s.addWait w).staged = s.staged := rfl
@[simp] theorem staged_leaveWait (s : State) (w : Wait) : (s.leaveWait w).staged = s.staged := rfl
@[simp] theorem staged_dropWait (s : State) (agent : Nat) : (s.dropWait agent).staged = s.staged := rfl

@[simp] theorem staged_granted (s : State) (w : Wait) (regs : List (Nat × Word)) : (s.granted w regs).staged = s.staged := by
  simp [State.granted]

@[simp] theorem staged_giveSlot (s : State) (w : Wait) : (s.giveSlot w).staged = s.staged := by simp [State.giveSlot]
@[simp] theorem staged_quotaHit (s : State) (d : Nat) : (s.quotaHit d).staged = s.staged := by simp [State.quotaHit]
@[simp] theorem staged_useSlot (s : State) (agent d : Nat) : (s.useSlot agent d).staged = s.staged := rfl

@[simp] theorem staged_slotWait (s : State) (agent d : Nat) (need : Bool) : (s.slotWait agent d need).staged = s.staged := by
  simp [State.slotWait]

@[simp] theorem staged_semTake (s : State) (n agent dom : Nat) : (s.semTake n agent dom).2.staged = s.staged := by simp [State.semTake]

@[simp] theorem staged_semServe (s : State) (n : Nat) : (s.semServe n).staged = s.staged := by
  unfold State.semServe
  split <;> simp

@[simp] theorem staged_semFree (s : State) (n : Nat) : (s.semFree n).staged = s.staged := by simp [State.semFree]
@[simp] theorem staged_semGive (s : State) (n agent dom : Nat) : (s.semGive n agent dom).2.staged = s.staged := by simp [State.semGive]
@[simp] theorem staged_semFreeAll (s : State) (agent : Nat) : (s.semFreeAll agent).staged = s.staged := by simp [State.semFreeAll]
@[simp] theorem staged_holdPop (s : State) (port dom n : Nat) (d : Desc) : (s.holdPop port dom n d).staged = s.staged := rfl

@[simp] theorem staged_rackClean (s : State) (n k : Nat) : (s.rackClean n k).staged = s.staged := by
  induction k generalizing s with
  | zero => rfl
  | succ k ih =>
    unfold State.rackClean
    repeat' split
    all_goals simp [ih]

@[simp] theorem staged_rackFlip (s : State) (n k flip : Nat) : (s.rackFlip n k flip).staged = s.staged := by
  unfold State.rackFlip
  split <;> simp

@[simp] theorem staged_rackAppend (s : State) (n : Nat) (d : Desc) : (s.rackAppend n d).staged = s.staged := (Quiet.rackAppend ..).staged

@[simp] theorem staged_rackServe (s : State) (n k : Nat) : (s.rackServe n k).staged = s.staged := by
  induction k generalizing s with
  | zero => rfl
  | succ k ih =>
    unfold State.rackServe
    dsimp only
    repeat' split
    all_goals simp [ih]

@[simp] theorem staged_rackCommit (s : State) (n : Nat) (d : Desc) : (s.rackCommit n d).staged = s.staged := by simp [State.rackCommit]

@[simp] theorem staged_rackTake (s : State) (n : Nat) : (s.rackTake n).2.staged = s.staged := by
  unfold State.rackTake
  dsimp only
  split <;> simp

@[simp] theorem staged_pushWord (s : State) (port dom n : Nat) (w : Nat) (addr : Nat) :
    (s.pushWord port dom n w addr).staged = s.staged := by
  simp [State.pushWord]

@[simp] theorem staged_dropParts (s : State) (sel : Nat → Bool) : (s.dropParts sel).staged = s.staged := by simp [State.dropParts]
@[simp] theorem staged_endPart (s : State) (port : Nat) : (s.endPart port).staged = s.staged := by simp [State.endPart]

@[simp] theorem staged_popRead (s : State) (port dom n : Nat) : (s.popRead port dom n).2.staged = s.staged := by
  unfold State.popRead
  dsimp only
  split <;> simp

@[simp] theorem staged_popPeek (s : State) (port dom n : Nat) : (s.popPeek port dom n).2.staged = s.staged := by
  unfold State.popPeek
  split <;> simp

@[simp] theorem staged_streamPush (s : State) (n : Nat) (d : Desc) : (s.streamPush n d).staged = s.staged := by simp [State.streamPush]

@[simp] theorem staged_retire (s : State) (n : Nat) (d : Desc) (status erridx : Nat) : (s.retire n d status erridx).staged = s.staged := by
  simp [State.retire]

@[simp] theorem staged_dlkRecord (s : State) (w : Wait) (status : Nat) : (s.dlkRecord w status).staged = s.staged := by
  simp [State.dlkRecord]

@[simp] theorem staged_copyEnd (s : State) (status erridx : Nat) : (s.copyEnd status erridx).staged = s.staged := by
  unfold State.copyEnd
  split <;> simp

@[simp] theorem staged_netAbort (s : State) (what : WaitFor) : (s.netAbort what).staged = s.staged := by
  unfold State.netAbort
  split <;> simp

@[simp] theorem staged_retireHead (s : State) (n status : Nat) : (s.retireHead n status).staged = s.staged := by
  unfold State.retireHead
  dsimp only
  split <;> simp

/-! ### Telemetry (17) -/

@[simp] theorem staged_loadCounter (s : State) (k v : Nat) : (s.loadCounter k v).staged = s.staged := by simp [State.loadCounter]
@[simp] theorem staged_tlmAdvance (s : State) (g : Nat) : (s.tlmAdvance g).staged = s.staged := rfl
@[simp] theorem staged_tlmDone (s : State) (g p : Nat) : (s.tlmDone g p).staged = s.staged := by simp [State.tlmDone]

@[simp] theorem staged_tlmStep (s : State) (g : Nat) : (s.tlmStep g).staged = s.staged := by
  unfold State.tlmStep
  split <;> simp

@[simp] theorem staged_tlmPeriod (s : State) (i : Fin 6) : (s.tlmPeriod i).staged = s.staged := by simp [State.tlmPeriod]
@[simp] theorem staged_tlmFrame (s : State) : s.tlmFrame.staged = s.staged := by simp [State.tlmFrame]
@[simp] theorem staged_tlmEvent (s : State) (g : Nat) : (s.tlmEvent g).staged = s.staged := rfl

@[simp] theorem staged_retarget (s : State) (g : Nat) : (s.retarget g).staged = s.staged := by
  unfold State.retarget
  split <;> simp

@[simp] theorem staged_stepFactors (s : State) (g : Nat) : (s.stepFactors g).staged = s.staged := by simp [State.stepFactors]

@[simp] theorem staged_tlmRecord (s : State) (g tag w1 w2 w3 : Nat) : (s.tlmRecord g tag w1 w2 w3).staged = s.staged := by
  simp [State.tlmRecord]

@[simp] theorem staged_stringRecords (s : State) : s.stringRecords.staged = s.staged := by simp [State.stringRecords]
@[simp] theorem staged_useSample (s : State) (p : Nat) (tj : Int) : (s.useSample p tj).staged = s.staged := by simp [State.useSample]

@[simp] theorem staged_pixelSample (s : State) (p result t : Nat) : (s.pixelSample p result t).staged = s.staged := by
  simp [State.pixelSample]

@[simp] theorem staged_agePixels (s : State) : s.agePixels.staged = s.staged := by simp [State.agePixels]

/-! ### Converters (16) -/

@[simp] theorem staged_regFlag (s : State) (f : Fld) (x : Fin 2) : (s.regFlag f x).staged = s.staged := by simp [State.regFlag]
@[simp] theorem staged_injFlag (s : State) (f : Fld) (x : Fin 2) : (s.injFlag f x).staged = s.staged := by simp [State.injFlag]
@[simp] theorem staged_injRequest (s : State) (x : Fin 2) (r : AdcReq) : (s.injRequest x r).staged = s.staged := by simp [State.injRequest]

@[simp] theorem nextStaged_injectedRequest (x : Fin 2) (j : Fin 8) (s : State) :
    nextStaged (execInjectedRequest x j s) = some s.staged := by
  unfold execInjectedRequest
  split <;> simp

@[simp] theorem staged_startConv (s : State) (x : Fin 2) (c : Conv) : (s.startConv x c).staged = s.staged := rfl
@[simp] theorem staged_startInj (s : State) (x : Fin 2) (r : AdcReq) : (s.startInj x r).staged = s.staged := rfl
@[simp] theorem staged_startReg (s : State) (x t : Fin 2) : (s.startReg x t).staged = s.staged := rfl
@[simp] theorem staged_moveTabs (s : State) (x : Fin 2) (away : Bool) : (s.moveTabs x away).staged = s.staged := rfl
@[simp] theorem staged_applyMoves (s : State) (x : Fin 2) : (s.applyMoves x).staged = s.staged := by simp [State.applyMoves]

@[simp] theorem nextStaged_convBegin (s : State) (x : Fin 2) : nextStaged (s.convBegin x) = some s.staged := by
  unfold State.convBegin
  dsimp only
  repeat' split
  all_goals simp

@[simp] theorem staged_mailbox (s : State) (r : RegId) (i value src seq : Nat) (conv : Fin 2) (fo : Bool) :
    (s.mailbox r i value src seq conv fo).staged = s.staged := rfl

@[simp] theorem staged_regStep (s : State) (t : Fin 2) : (s.regStep t).staged = s.staged := by simp [State.regStep]
@[simp] theorem staged_regAdvance (s : State) (t : Fin 2) : (s.regAdvance t).staged = s.staged := by simp [State.regAdvance]

@[simp] theorem staged_deliver (s : State) (x : Fin 2) (c : Conv) (raw value : Nat) : (s.deliver x c raw value).staged = s.staged := by
  unfold State.deliver
  repeat' split
  all_goals simp

@[simp] theorem staged_refStart (s : State) (x : Fin 2) (n : Nat) : (s.refStart x n).staged = s.staged := rfl
@[simp] theorem staged_sharedCancel (s : State) : s.sharedCancel.staged = s.staged := rfl
@[simp] theorem staged_failover (s : State) (x : Fin 2) : (s.failover x).staged = s.staged := by simp [State.failover]

@[simp] theorem staged_refOutcome (s : State) (a b : Bool) : (s.refOutcome a b).staged = s.staged := by
  unfold State.refOutcome
  split <;> simp

@[simp] theorem staged_refDone (s : State) (x : Fin 2) : (s.refDone x).staged = s.staged := by
  unfold State.refDone
  dsimp only
  repeat' split
  all_goals simp

@[simp] theorem staged_sharedDone (s : State) (a b : Nat) : (s.sharedDone a b).staged = s.staged := by
  unfold State.sharedDone
  dsimp only
  split <;> simp

@[simp] theorem staged_sharedResult (s : State) (x : Fin 2) (v : Nat) : (s.sharedResult x v).staged = s.staged := by
  unfold State.sharedResult
  dsimp only
  split <;> simp

@[simp] theorem nextStaged_conversionEnd (x : Fin 2) (raw : BitVec 12) (s : State) :
    nextStaged (execConversionEnd x raw s) = some s.staged := by
  unfold execConversionEnd
  repeat' split
  all_goals simp

@[simp] theorem staged_calStart (s : State) (x : Fin 2) (park : Bool) : (s.calStart x park).staged = s.staged := by simp [State.calStart]

@[simp] theorem staged_adcCommand (s : State) (x : Fin 2) (cmd : Nat) (park : Bool) (key : Nat) :
    (s.adcCommand x cmd park key).staged = s.staged := by
  unfold State.adcCommand
  repeat' split
  all_goals simp

@[simp] theorem staged_startAdcCal (s : State) : s.startAdcCal.staged = s.staged := by simp [State.startAdcCal]
@[simp] theorem staged_regBaked (s : State) (x : Fin 2) : (s.regBaked x).staged = s.staged := by simp [State.regBaked]
@[simp] theorem staged_injBaked (s : State) (x : Fin 2) : (s.injBaked x).staged = s.staged := by simp [State.injBaked]

/-! ### Keys, life cycle and sessions (07, 19) -/

@[simp] theorem staged_random (s : State) (w : Nat) : (s.random w).2.staged = s.staged := rfl
@[simp] theorem staged_newEpoch (s : State) : s.newEpoch.staged = s.staged := rfl
@[simp] theorem staged_setLcStored (s : State) (v : Nat) : (s.setLcStored v).staged = s.staged := rfl
@[simp] theorem staged_lcStartup (s : State) : s.lcStartup.staged = s.staged := by simp [State.lcStartup]
@[simp] theorem staged_loadKeySlots (s : State) : s.loadKeySlots.staged = s.staged := by simp [State.loadKeySlots]
@[simp] theorem staged_storeSlot (s : State) (i : Fin 4) (x : Slot) : (s.storeSlot i x).staged = s.staged := rfl
@[simp] theorem staged_keyRefuse (s : State) (result : Nat) : (s.keyRefuse result).staged = s.staged := by simp [State.keyRefuse]

@[simp] theorem staged_keyLoad (s : State) (slot : Fin 4) (unwrap : Bool) (wsel : Fin 4) :
    (s.keyLoad slot unwrap wsel).staged = s.staged := by
  simp [State.keyLoad]

@[simp] theorem staged_keyRevoke (s : State) (slot : Fin 4) : (s.keyRevoke slot).staged = s.staged := by simp [State.keyRevoke]
@[simp] theorem staged_keyCommand (s : State) (w : Nat) : (s.keyCommand w).staged = s.staged := by simp [State.keyCommand]

@[simp] theorem nextStaged_keyCommandDone (s : State) : nextStaged (execKeyCommandDone s) = some s.staged := by
  unfold execKeyCommandDone
  split <;> simp

@[simp] theorem staged_lcStart (s : State) (target : Nat) : (s.lcStart target).staged = s.staged := by simp [State.lcStart]
@[simp] theorem staged_lcCommand (s : State) (w : Nat) : (s.lcCommand w).staged = s.staged := by simp [State.lcCommand]

@[simp] theorem nextStaged_lcChallengeReady (s : State) : nextStaged (execLcChallengeReady s) = some s.staged := by
  unfold execLcChallengeReady
  split <;> simp

@[simp] theorem staged_lcCommit (s : State) (t : Nat) : (s.lcCommit t).staged = s.staged := by
  unfold State.lcCommit
  split <;> simp

@[simp] theorem staged_sessCommand (s : State) (w : Nat) : (s.sessCommand w).staged = s.staged := by
  unfold State.sessCommand
  split <;> simp

@[simp] theorem nextStaged_sessionChallengeReady (s : State) : nextStaged (execSessionChallengeReady s) = some s.staged := by
  unfold execSessionChallengeReady
  split <;> simp

@[simp] theorem staged_sessCommit (s : State) (t : Nat) : (s.sessCommit t).staged = s.staged := by simp [State.sessCommit]

/-! ### The image store (10) -/

@[simp] theorem staged_rdBytes (s : State) (req a n : Nat) : (s.rdBytes req a n).2.2.staged = s.staged :=
  staged_foldl (fun p : List Nat × Bool × State => p.2.2) (fun p i => staged_readMem p.2.2 req (a + 4 * i)) _ _

@[simp] theorem staged_verifyBank (s : State) (bank : Nat) (keys : List (Nat × Nat)) :
    (s.verifyBank bank keys).2.2.2.staged = s.staged := by
  unfold State.verifyBank
  dsimp only
  repeat' split
  all_goals simp

@[simp] theorem staged_noteBank (s : State) (bank : Nat) (r : Nat × Nat × Nat × State) : (s.noteBank bank r).staged = s.staged := by
  simp [State.noteBank]

@[simp] theorem staged_sectBytes (s : State) (bank ty : Nat) : (s.sectBytes bank ty).2.staged = s.staged := by
  unfold State.sectBytes
  dsimp only
  split <;> simp

@[simp] theorem staged_readTabs (s : State) (bank : Nat) : (s.readTabs bank).2.staged = s.staged := by simp [State.readTabs]
@[simp] theorem staged_rackCheck (s : State) : s.rackCheck.staged = s.staged := by simp [State.rackCheck]
@[simp] theorem staged_qualStart (s : State) : s.qualStart.staged = s.staged := rfl
@[simp] theorem staged_addFlips (s : State) (l : List Flip) : (s.addFlips l).staged = s.staged := by simp [State.addFlips]

@[simp] theorem nextStaged_imageVerificationDone (flips : List Flip) (s : State) :
    nextStaged (execImageVerificationDone flips s) = some s.staged := by
  unfold execImageVerificationDone
  dsimp only
  repeat' split
  all_goals simp

@[simp] theorem nextStaged_imageLoadDone (s : State) : nextStaged (execImageLoadDone s) = some s.staged := by
  unfold execImageLoadDone
  split <;> simp

@[simp] theorem staged_imgEnd (s : State) (result : Nat) : (s.imgEnd result).staged = s.staged := by simp [State.imgEnd]
@[simp] theorem staged_imgBusy (s : State) : s.imgBusy.staged = s.staged := by simp [State.imgBusy]
@[simp] theorem staged_imgInvalid (s : State) (bank : Nat) : (s.imgInvalid bank).staged = s.staged := rfl
@[simp] theorem staged_imgStart (s : State) (j : ImgJob) : (s.imgStart j).staged = s.staged := rfl

@[simp] theorem staged_imgProgram (s : State) (bank count : Nat) : (s.imgProgram bank count).staged = s.staged := by
  unfold State.imgProgram
  dsimp only
  have h := staged_foldl (fun p : List Nat × Bool × State => p.2.2)
    (f := fun p i => let x := p.2.2.readMem 12 (s.g F.imgSrc_SRC + 4 * i); (p.1 ++ [x.1], p.2.1 || x.2.1, x.2.2))
    (fun p i => staged_readMem p.2.2 12 (s.g F.imgSrc_SRC + 4 * i)) (upto count) ([], false, s.imgInvalid bank)
  repeat' split
  all_goals simp_all

@[simp] theorem staged_imgCommand (s : State) (w : Nat) : (s.imgCommand w).staged = s.staged := by
  unfold State.imgCommand
  dsimp only
  repeat' split
  all_goals simp

@[simp] theorem staged_mended (s : State) (j : ImgJob) : (s.mended j).staged = s.staged := by simp [State.mended]

@[simp] theorem nextStaged_programDone (s : State) : nextStaged (execProgramDone s) = some s.staged := by
  unfold execProgramDone
  split <;> simp

@[simp] theorem nextStaged_verifyDone (flips : List Flip) (s : State) : nextStaged (execVerifyDone flips s) = some s.staged := by
  unfold execVerifyDone
  split <;> simp

@[simp] theorem nextStaged_shadowLoadDone (s : State) : nextStaged (execShadowLoadDone s) = some s.staged := by
  unfold execShadowLoadDone
  split <;> simp

@[simp] theorem staged_swapBoundary (s : State) : s.swapBoundary.staged = s.staged := by simp [State.swapBoundary]

/-! ### Engines and the dispatcher (11) -/

@[simp] theorem staged_ungrant (s : State) (e : Fin 4) : (s.ungrant e).staged = s.staged := by
  unfold State.ungrant
  split <;> simp

@[simp] theorem staged_grant (s : State) (e : Fin 4) : (s.grant e).staged = s.staged := by
  unfold State.grant
  dsimp only
  split <;> simp

@[simp] theorem staged_engReady (s : State) (e : Fin 4) : (s.engReady e).staged = s.staged := by
  unfold State.engReady
  split <;> simp

@[simp] theorem staged_engsReady (s : State) : s.engsReady.staged = s.staged := by simp [State.engsReady]

@[simp] theorem staged_startNext (s : State) (c : Fin 16) : (s.startNext c).staged = s.staged := by
  unfold State.startNext
  dsimp only
  repeat' split
  all_goals simp

@[simp] theorem staged_ungrantOf (s : State) (c : Fin 16) : (s.ungrantOf c).staged = s.staged := by simp [State.ungrantOf]

@[simp] theorem staged_endCtx (s : State) (c : Fin 16) (drop held : Bool) : (s.endCtx c drop held).staged = s.staged := by
  simp [State.endCtx]

@[simp] theorem staged_exception (s : State) (c : Fin 16) (code addr : Nat) : (s.exception c code addr).staged = s.staged := by
  simp [State.exception]

@[simp] theorem staged_dropDispatch (s : State) (d : Nat) : (s.dropDispatch d).staged = s.staged := rfl
@[simp] theorem staged_dispatch (s : State) (f : Fired) : (s.dispatch f).staged = s.staged := by simp [State.dispatch]

@[simp] theorem nextStaged_dispatchIssue (s : State) : nextStaged (execDispatchIssue s) = some s.staged := by
  unfold execDispatchIssue
  split <;> simp

@[simp] theorem nextStaged_recipeStart (c : Fin 16) (s : State) : nextStaged (execRecipeStart c s) = some s.staged := by
  unfold execRecipeStart
  split <;> simp

@[simp] theorem staged_swTrigger (s : State) (d : Option Nat) (port addr w : Nat) : (s.swTrigger d port addr w).staged = s.staged := by
  simp [State.swTrigger]

@[simp] theorem nextStaged_timeMatch (x : Dom) (s : State) : nextStaged (execTimeMatch x s) = some s.staged := by
  unfold execTimeMatch
  split <;> simp

@[simp] theorem staged_flushQueue (s : State) (c : Fin 16) : (s.flushQueue c).staged = s.staged :=
  staged_each (fun _ t => staged_dropDispatch t (ctxDom c)) s

@[simp] theorem staged_flushAll (s : State) (c : Fin 16) : (s.flushAll c).staged = s.staged := by simp [State.flushAll]

@[simp] theorem staged_ctxCommand (s : State) (c : Fin 16) (cmd : Nat) : (s.ctxCommand c cmd).staged = s.staged := by
  unfold State.ctxCommand
  split <;> simp

@[simp] theorem staged_touchLine (s : State) (e : Fin 4) (x : Line8) : (s.touchLine e x).staged = s.staged := rfl

@[simp] theorem staged_readLine (s : State) (e : Fin 4) (line : Nat) : (s.readLine e line).2.staged = s.staged :=
  staged_foldl (Prod.snd (α := List (Option Nat))) (fun p i => staged_readMem p.2 (2 + e.val) (0x800000 + 32 * line + 4 * i)) (upto 8)
      ([], s)

@[simp] theorem staged_fillLine (s : State) (e : Fin 4) (line : Nat) : (s.fillLine e line).staged = s.staged := by simp [State.fillLine]

@[simp] theorem nextStaged_icacheFill (e : Fin 4) (parity : Bool) (s : State) : nextStaged (execIcacheFill e parity s) = some s.staged := by
  unfold execIcacheFill
  repeat' split
  all_goals simp

@[simp] theorem staged_invalCache (s : State) (e : Fin 4) : (s.invalCache e).staged = s.staged := rfl

/-! ### Stacks (15) -/

@[simp] theorem staged_stackPeriod (s : State) (i : Fin 6) (restart : Bool) : (s.stackPeriod i restart).staged = s.staged := by
  simp [State.stackPeriod]

@[simp] theorem staged_stackLatch (s : State) (i : Fin 6) : (s.stackLatch i).staged = s.staged := by simp [State.stackLatch]

@[simp] theorem nextStaged_bypassEdge (i : Fin 6) (s : State) : nextStaged (execBypassEdge i s) = some s.staged := by
  unfold execBypassEdge
  split <;> simp

@[simp] theorem nextStaged_pixelEvent (i : Fin 6) (s : State) : nextStaged (execPixelEvent i s) = some s.staged := by
  unfold execPixelEvent
  split <;> simp

/-! ### The grid (15) -/

@[simp] theorem staged_slotBegin (s : State) (j : Nat) : (s.slotBegin j).staged = s.staged := rfl
@[simp] theorem staged_endFrame (s : State) : s.endFrame.staged = s.staged := (Quiet.endFrame ..).staged
@[simp] theorem staged_driveSlot (s : State) : s.driveSlot.staged = s.staged := by simp [State.driveSlot]

@[simp] theorem nextStaged_scanPhaseEnd (s : State) : nextStaged (execScanPhaseEnd s) = some s.staged := by
  unfold execScanPhaseEnd
  repeat' split
  all_goals simp

@[simp] theorem staged_lossOfLock (s : State) : s.lossOfLock.staged = s.staged := by simp [State.lossOfLock]
@[simp] theorem staged_slipAct (s : State) (t : Nat) : (s.slipAct t).staged = s.staged := by simp [State.slipAct]
@[simp] theorem staged_fsyncLocked (s : State) (t : Nat) : (s.fsyncLocked t).staged = s.staged := by simp [State.fsyncLocked]
@[simp] theorem staged_fsyncRelock (s : State) (t : Nat) : (s.fsyncRelock t).staged = s.staged := by simp [State.fsyncRelock]

/-! ### Generators (13) -/

@[simp] theorem staged_mainRise (s : State) (n : Fin 6) : (s.mainRise n).staged = s.staged := rfl
@[simp] theorem staged_mRise (s : State) (n : Fin 6) (pos : Nat) : (s.mRise n pos).staged = s.staged := by simp [State.mRise]
@[simp] theorem staged_mFall (s : State) (n : Fin 6) (pos : Nat) : (s.mFall n pos).staged = s.staged := by simp [State.mFall]

@[simp] theorem staged_trip (s : State) (n : Fin 6) (src pos : Nat) (lat : Bool) : (s.trip n src pos lat).staged = s.staged := by
  simp [State.trip]

@[simp] theorem staged_ilimTrip (s : State) (n : Fin 6) (pos : Nat) : (s.ilimTrip n pos).staged = s.staged := by simp [State.ilimTrip]
@[simp] theorem staged_ovpTrip (s : State) (n : Fin 6) (pos : Nat) : (s.ovpTrip n pos).staged = s.staged := by simp [State.ovpTrip]

@[simp] theorem staged_tripRelease (s : State) (n : Fin 6) (len : Nat) : (s.tripRelease n len).staged = s.staged := by
  simp [State.tripRelease]

@[simp] theorem staged_tripCleared (s : State) (n : Fin 6) : (s.tripCleared n).staged = s.staged := rfl
@[simp] theorem staged_swapLines (s : State) (n : Fin 6) : (s.swapLines n).staged = s.staged := rfl
@[simp] theorem staged_linesDue (s : State) (n : Fin 6) : (s.linesDue n).staged = s.staged := by simp [State.linesDue]
@[simp] theorem staged_swapIdle (s : State) (n : Fin 6) : (s.swapIdle n).staged = s.staged := by simp [State.swapIdle]
@[simp] theorem staged_coarseEnter (s : State) (n : Fin 6) : (s.coarseEnter n).staged = s.staged := by simp [State.coarseEnter]
@[simp] theorem staged_proofsAtRelease (s : State) : s.proofsAtRelease.staged = s.staged := by simp [State.proofsAtRelease]

@[simp] theorem staged_periodBegin (s : State) (n : Fin 6) (len : Nat) : (s.periodBegin n len).staged = s.staged := by
  simp [State.periodBegin]

@[simp] theorem staged_driveAt (s : State) (n : Fin 6) : (s.driveAt n).staged = s.staged := rfl
@[simp] theorem staged_modeBaked (s : State) (n : Fin 6) (old : Nat) : (s.modeBaked n old).staged = s.staged := by simp [State.modeBaked]
@[simp] theorem staged_pwmRelock (s : State) : s.pwmRelock.staged = s.staged := by simp [State.pwmRelock]
@[simp] theorem staged_startProofs (s : State) : s.startProofs.staged = s.staged := by simp [State.startProofs]

/-! ### Hearth mode (18) -/

@[simp] theorem staged_rampReg (s : State) (k n : Nat) : (s.rampReg k n).staged = s.staged := rfl
@[simp] theorem staged_hearthFallback (s : State) : s.hearthFallback.staged = s.staged := by simp [State.hearthFallback]
@[simp] theorem staged_topoRestart (s : State) (i : Fin 6) : (s.topoRestart i).staged = s.staged := rfl
@[simp] theorem staged_hearthState (s : State) (st : Nat) : (s.hearthState st).staged = s.staged := by simp [State.hearthState]

@[simp] theorem staged_entryRamp (s : State) (start : List (Nat × Nat)) (c : Nat × Nat × Preset) :
    (s.entryRamp start c).staged = s.staged := by
  unfold State.entryRamp
  dsimp only
  rw [staged_outputs, staged_hearthFallback, staged_each fun i t => staged_topoRestart t i]
  split <;> simp

@[simp] theorem staged_refuse (s : State) (n : Nat) : (s.refuse n).staged = s.staged := rfl

@[simp] theorem staged_enterHearth (s : State) (start : List (Nat × Nat)) (c : Nat × Nat × Preset) :
    (s.enterHearth start c).staged = s.staged := by simp [State.enterHearth]

@[simp] theorem staged_hearthOff (s : State) : s.hearthOff.staged = s.staged := by simp [State.hearthOff]
@[simp] theorem staged_hearthStep (s : State) : s.hearthStep.staged = s.staged := by simp [State.hearthStep]
@[simp] theorem staged_exitStart (s : State) : s.exitStart.staged = s.staged := by simp [State.exitStart]

@[simp] theorem staged_hearthBoundary (s : State) (dark fresh : Bool) : (s.hearthBoundary dark fresh).staged = s.staged := by
  unfold State.hearthBoundary
  dsimp only
  repeat' split
  all_goals simp

@[simp] theorem staged_hearthCommand (s : State) (w : Nat) : (s.hearthCommand w).staged = s.staged := by
  unfold State.hearthCommand
  repeat' split
  all_goals simp

@[simp] theorem staged_domRampStart (s : State) (d : Nat) (toDark : Bool) (v0 : List (Nat × Nat)) :
    (s.domRampStart d toDark v0).staged = s.staged := rfl

@[simp] theorem staged_setDark (s : State) (d : Nat) : (s.setDark d).staged = s.staged := rfl
@[simp] theorem staged_stepIeff (s : State) (d : Nat) (r : DomRamp) : (s.stepIeff d r).staged = s.staged := by simp [State.stepIeff]

@[simp] theorem staged_domBoundary (s : State) (d : Nat) : (s.domBoundary d).staged = s.staged := by
  unfold State.domBoundary
  dsimp only
  repeat' split
  all_goals simp

@[simp] theorem staged_domRelease (s : State) (rel : Nat) : (s.domRelease rel).staged = s.staged := by simp [State.domRelease]

/-! ### Resets of domains (05) -/

@[simp] theorem staged_clrRange (s : State) (lo hi : Nat) : (s.clrRange lo hi).staged = s.staged := rfl
@[simp] theorem staged_clrReg (s : State) (r : RegId) (i : Nat) : (s.clrReg r i).staged = s.staged := rfl
@[simp] theorem staged_ctxReset (s : State) (c : Fin 16) : (s.ctxReset c).staged = s.staged := by simp [State.ctxReset]
@[simp] theorem staged_emptyRack (s : State) (n : Nat) : (s.emptyRack n).staged = s.staged := by simp [State.emptyRack]
@[simp] theorem staged_domInts (s : State) (d : Nat) : (s.domInts d).staged = s.staged := by simp [State.domInts]
@[simp] theorem staged_domBanked (s : State) (d : Nat) : (s.domBanked d).staged = s.staged := by simp [State.domBanked]
@[simp] theorem staged_domBlocks (s : State) (d : Nat) : (s.domBlocks d).staged = s.staged := by simp [State.domBlocks]

/-! ### The slice boundary (11) -/

@[simp] theorem staged_strBaked (s : State) (i : Fin 6) (en den : Bool) : (s.strBaked i en den).staged = s.staged := by
  simp [State.strBaked]

@[simp] theorem staged_closeUnused (s : State) (i : Fin 6) : (s.closeUnused i).staged = s.staged := by simp [State.closeUnused]
@[simp] theorem staged_realign (s : State) : s.realign.staged = s.staged := by simp [State.realign]
@[simp] theorem staged_rateBaked (s : State) : s.rateBaked.staged = s.staged := by simp [State.rateBaked]
@[simp] theorem staged_divRestart (s old : State) : (s.divRestart old).staged = s.staged := rfl

@[simp] theorem staged_moveIrq (s : State) (n : Nat) (old new : Option Nat) : (s.moveIrq n old new).staged = s.staged := by
  unfold State.moveIrq
  split <;> simp

@[simp] theorem staged_evPrune (s : State) : s.evPrune.staged = s.staged := rfl
@[simp] theorem staged_overrun (s : State) (c : Fin 16) : (s.overrun c).staged = s.staged := by simp [State.overrun]
@[simp] theorem staged_trayHeader (s : State) (req tray : Nat) : (s.trayHeader req tray).2.2.staged = s.staged := by simp [State.trayHeader]

@[simp] theorem staged_selectGroup (s t : State) (g : Nat) : (s.selectGroup t g).staged = s.staged := by
  unfold State.selectGroup
  repeat' split
  all_goals simp

@[simp] theorem staged_retireNet (s t : State) (d : Nat) : (s.retireNet t d).staged = s.staged := by simp [State.retireNet]

@[simp] theorem staged_retireOffer (s t : State) (c : Fin 16) : (s.retireOffer t c).staged = s.staged := by
  unfold State.retireOffer
  split <;> simp

@[simp] theorem staged_fetchHot (s : State) (h : Nat) : (s.fetchHot h).staged = s.staged := by simp [State.fetchHot]
@[simp] theorem staged_selectTrays (s : State) : s.selectTrays.staged = s.staged := by simp [State.selectTrays]
@[simp] theorem staged_releaseCtx (s : State) (c : Fin 16) : (s.releaseCtx c).staged = s.staged := by simp [State.releaseCtx]
@[simp] theorem staged_dropLost (s : State) (c : Fin 16) : (s.dropLost c).staged = s.staged := by simp [State.dropLost]

/-! ### The network port (08) -/

@[simp] theorem staged_netFlag (s : State) (f : Fld) : (s.netFlag f).staged = s.staged := by simp [State.netFlag]
@[simp] theorem staged_setPlca (s : State) (ok : Bool) : (s.setPlca ok).staged = s.staged := by simp [State.setPlca]
@[simp] theorem staged_phyStop (s : State) : s.phyStop.staged = s.staged := by simp [State.phyStop]

@[simp] theorem staged_newFrame (s : State) (ty dom : Nat) (ackreq : Bool) (seq : Nat) (dst pay : List Nat) :
    (s.newFrame ty dom ackreq seq dst pay).2.staged = s.staged := rfl

@[simp] theorem staged_timeState (s : State) (st : Nat) : (s.timeState st).staged = s.staged := by simp [State.timeState]
@[simp] theorem staged_egress (s : State) (dom : Nat) (frame : List Nat) : (s.egress dom frame).staged = s.staged := by simp [State.egress]

@[simp] theorem staged_answer (s : State) (f : List Nat) (code widx done : Nat) (data : List Nat) :
    (s.answer f code widx done data).staged = s.staged := by simp [State.answer]

@[simp] theorem staged_answerIf (s : State) (f : List Nat) (code widx done : Nat) (data : List Nat) :
    (s.answerIf f code widx done data).staged = s.staged := by simp [State.answerIf]

@[simp] theorem staged_refSwitch (s : State) (crystal : Bool) : (s.refSwitch crystal).staged = s.staged := by simp [State.refSwitch]
@[simp] theorem staged_refUpdate (s : State) : s.refUpdate.staged = s.staged := by simp [State.refUpdate]

/-! ### Power, reset and standby (02, 03) -/

@[simp] theorem staged_supplyFlag (s : State) (f : Fld) : (s.supplyFlag f).staged = s.staged := by simp [State.supplyFlag]

@[simp] theorem staged_clkFlag (s : State) (n : Nat) : (s.clkFlag n).staged = s.staged := by
  unfold State.clkFlag
  split <;> simp

@[simp] theorem staged_clkFault (s : State) (n : Nat) : (s.clkFault n).staged = s.staged := by simp [State.clkFault]
@[simp] theorem staged_takeLatched (s : State) (n chans : Nat) : (s.takeLatched n chans).staged = s.staged := by simp [State.takeLatched]
@[simp] theorem staged_fsysBack (s : State) : s.fsysBack.staged = s.staged := by simp [State.fsysBack]
@[simp] theorem staged_supplyLevels (s old : State) (warm : Bool) : (s.supplyLevels old warm).staged = s.staged := rfl

@[simp] theorem staged_deviceReset (s : State) (warm spares : Bool) (cause count : Nat) :
    (s.deviceReset warm spares cause count).staged = [] := by
  simp [State.deviceReset, State.reset]

@[simp] theorem staged_warmStart (s : State) : s.warmStart.staged = s.staged := rfl
@[simp] theorem staged_heldLevels (s : State) : s.heldLevels.staged = s.staged := by simp [State.heldLevels]
@[simp] theorem staged_vcc5Set (s : State) (ok : Bool) : (s.vcc5Set ok).staged = s.staged := by simp [State.vcc5Set]
@[simp] theorem staged_hwStart (s : State) : s.hwStart.staged = s.staged := rfl
@[simp] theorem staged_hwService (s : State) (p : Port) (code : Nat) : (s.hwService p code).staged = s.staged := by simp [State.hwService]

@[simp] theorem staged_pwrCommand (s : State) (p : Port) (w : Nat) : (s.pwrCommand p w).staged = s.staged := by
  unfold State.pwrCommand
  split <;> simp

@[simp] theorem staged_standbyEnds (s : State) : s.standbyEnds.staged = s.staged := by simp [State.standbyEnds]

@[simp] theorem nextStaged_standbyEntry (s : State) : nextStaged (execStandbyEntry s) = some s.staged := by
  unfold execStandbyEntry
  split <;> simp

/-! ### Clocks (04) -/

@[simp] theorem nextStaged_lfrcFail (s : State) : nextStaged (execLfrcFail s) = some s.staged := by
  unfold execLfrcFail
  split <;> simp

@[simp] theorem staged_stepArm (s : State) (c : Fin 16) : (s.stepArm c).staged = s.staged := by simp [State.stepArm]

/-! ### What writes of registers set off (06) -/

@[simp] theorem staged_rePend (s : State) (i m : Nat) : (s.rePend i m).staged = s.staged := by simp [State.rePend]
@[simp] theorem staged_snapTake (s : State) (p : Port) (d sel : Nat) : (s.snapTake p d sel).staged = s.staged := rfl
@[simp] theorem staged_dctlWrite (s : State) (p : Port) (d a w : Nat) : (s.dctlWrite p d a w).staged = s.staged := by simp [State.dctlWrite]
@[simp] theorem staged_timeCfg (s old : State) (zero : Bool) : (s.timeCfg old zero).staged = s.staged := by simp [State.timeCfg]
@[simp] theorem staged_rackCfgSet (s : State) (n : Nat) : (s.rackCfgSet n).staged = s.staged := by simp [State.rackCfgSet]
@[simp] theorem staged_injSoft (s : State) (p : Port) (d a i w : Nat) : (s.injSoft p d a i w).staged = s.staged := by simp [State.injSoft]
@[simp] theorem staged_rearm (s : State) (i : Fin 6) (m : Nat) : (s.rearm i m).staged = s.staged := rfl

@[simp] theorem staged_ignFlag (s : State) (r : RegId) (i : Nat) : (s.ignFlag r i).staged = s.staged := by
  unfold State.ignFlag
  split <;> simp

@[simp] theorem staged_noteWrite (s old : State) (p : Port) (d : Nat) (r : RegId) (i : Nat) (v : View) (w : Nat) :
    (s.noteWrite old p d r i v w).staged = s.staged := rfl

/-! ### Accesses (06) -/

@[simp] theorem staged_windowRead (s : State) (req a : Nat) : (s.windowRead req a).2.2.staged = s.staged := by
  unfold State.windowRead
  split <;> simp

@[simp] theorem staged_windowWrite (s : State) (a w : Nat) : (s.windowWrite a w).staged = s.staged := by simp [State.windowWrite]
@[simp] theorem staged_rcClear (s : State) (r : RegId) (i : Nat) : (s.rcClear r i).staged = s.staged := by simp [State.rcClear]

@[simp] theorem staged_regRead (s : State) (p : Port) (d : Nat) (r : RegId) (i : Nat) (use : Bool) :
    (s.regRead p d r i use).2.staged = s.staged := by
  unfold State.regRead
  repeat' split
  all_goals simp

@[simp] theorem staged_readAt (s : State) (p : Port) (d a : Nat) : (s.readAt p d a).2.2.2.staged = s.staged := by
  unfold State.readAt
  dsimp only
  repeat' split
  all_goals simp

@[simp] theorem staged_spiFlag (s : State) (code : Nat) : (s.spiFlag code).staged = s.staged := by
  unfold State.spiFlag
  split <;> simp

@[simp] theorem staged_portFlag (s : State) (p : Port) (code : Nat) : (s.portFlag p code).staged = s.staged := by simp [State.portFlag]

/-! ### Recipe instructions (12) -/

@[simp] theorem staged_fetch (s : State) (c : Fin 16) : (s.fetch c).2.staged = s.staged := by
  unfold State.fetch
  dsimp only
  repeat' split
  all_goals simp

@[simp] theorem staged_adv (s : State) (c : Fin 16) : (s.adv c).staged = s.staged := rfl
@[simp] theorem staged_setRd (s : State) (c : Fin 16) (rd : Reg) (w : Word) : (s.setRd c rd w).staged = s.staged := rfl
@[simp] theorem staged_flags (s : State) (c : Fin 16) (r : Word) (cy ov : Option Bool) : (s.flags c r cy ov).staged = s.staged := rfl

@[simp] theorem staged_alu (s : State) (c : Fin 16) (rd : Reg) (r : Word) (cy ov : Option Bool) : (s.alu c rd r cy ov).staged = s.staged :=
  rfl

@[simp] theorem staged_goto (s : State) (c : Fin 16) (pc : Nat) : (s.goto c pc).staged = s.staged := rfl
@[simp] theorem staged_link (s : State) (c : Fin 16) : (s.link c).staged = s.staged := rfl

@[simp] theorem nextStaged_inflightSlotGrant (agent : Fin 19) (s : State) : nextStaged (execInflightSlotGrant agent s) = some s.staged := by
  unfold execInflightSlotGrant
  split <;> simp

@[simp] theorem staged_quotaGiveUp (s : State) (c : Fin 16) (w : Word) : (s.quotaGiveUp c w).staged = s.staged := by
  unfold State.quotaGiveUp
  split <;> simp

@[simp] theorem nextStaged_quotaStallTimeout (c : Fin 16) (s : State) : nextStaged (execQuotaStallTimeout c s) = some s.staged := by
  unfold execQuotaStallTimeout
  split <;> simp

@[simp] theorem staged_pxRead (s : State) (c : Fin 16) (a : Nat) : (s.pxRead c a).2.staged = s.staged := by
  unfold State.pxRead
  dsimp only
  split <;> simp

@[simp] theorem staged_pxReads (s : State) (c : Fin 16) (as : List Nat) : (s.pxReads c as).s.staged = s.staged :=
  staged_foldl (fun r : Reads => r.s) (fun r a => by
    have h := staged_pxRead r.s c a
    split
    · rfl
    · generalize r.s.pxRead c a = m at h
      obtain ⟨_ | _, s1⟩ := m <;> exact h) as { s := s }

@[simp] theorem staged_pxWrite (s : State) (c : Fin 16) (r : Pref) (px : List Nat) : (s.pxWrite c r px).staged = s.staged := by
  simp [State.pxWrite]

@[simp] theorem staged_pxCheck (s : State) (c : Fin 16) (r : Pref) (as : List Nat) : (s.pxCheck c r as).s.staged = s.staged := by
  unfold State.pxCheck
  dsimp only
  split <;> simp

/-! ### COPY (09) -/

@[simp] theorem staged_copyPick (s : State) : s.copyPick.2.staged = s.staged := by
  unfold State.copyPick
  dsimp only
  split <;> simp

@[simp] theorem staged_copyWait (s : State) (dom : Nat) (what : WaitFor) : (s.copyWait dom what).staged = s.staged := rfl

@[simp] theorem staged_copyStart (s0 : State) (n : Nat) : (s0.copyStart n).staged = s0.staged := by
  unfold State.copyStart
  dsimp only
  split
  next => split <;> simp
  next => 
    split
    · simp
    split <;> split <;> simp

@[simp] theorem staged_copyGuard (s : State) : s.copyGuard.staged = s.staged := by
  unfold State.copyGuard
  split <;> simp

@[simp] theorem staged_endWait (s : State) (c : Fin 16) (wst : Nat) (regs : List (Nat × Word)) : (s.endWait c wst regs).staged = s.staged :=
  rfl

@[simp] theorem staged_beginWait (s : State) (c : Fin 16) (what : WaitFor) (tmo : Nat) : (s.beginWait c what tmo).staged = s.staged := rfl
@[simp] theorem staged_rackBus (s : State) (c : Fin 16) (a : Nat) : (s.rackBus c a).staged = s.staged := by simp [State.rackBus]
@[simp] theorem staged_notOwner (s : State) (c : Fin 16) (a : Nat) : (s.notOwner c a).staged = s.staged := by simp [State.notOwner]

@[simp] theorem nextStaged_waitevTimeout (c : Fin 16) (s : State) : nextStaged (execWaitevTimeout c s) = some s.staged := by
  unfold execWaitevTimeout
  split <;> simp

@[simp] theorem nextStaged_waitevTimeReached (c : Fin 16) (s : State) : nextStaged (execWaitevTimeReached c s) = some s.staged := by
  unfold execWaitevTimeReached
  split <;> simp

@[simp] theorem staged_offerTray (s : State) (c : Fin 16) (t : Nat) : (s.offerTray c t).staged = s.staged := by simp [State.offerTray]
@[simp] theorem staged_suspend (s : State) (c : Fin 16) : (s.suspend c).staged = s.staged := rfl

@[simp] theorem nextStaged_illegalInstruction (e : Fin 4) (s : State) : nextStaged (execIllegalInstruction e s) = some s.staged := by
  unfold execIllegalInstruction
  dsimp only
  split
  · rfl
  next c _ =>
    have h := staged_fetch (s.engReady e) c
    generalize (s.engReady e).fetch c = m at h
    rcases m with ⟨_ | _ | _, s1⟩ <;> simp_all

/-! ### The debugger (20) -/

@[simp] theorem staged_u2dAnswer (s : State) (code data : Nat) : (s.u2dAnswer code data).staged = s.staged := rfl
@[simp] theorem staged_attach (s : State) : s.attach.staged = s.staged := by simp [State.attach]

/-! ### Frames and messages (08) -/

@[simp] theorem staged_beaconSeen (s : State) : s.beaconSeen.staged = s.staged := rfl
@[simp] theorem staged_rxDrop (s : State) : s.rxDrop.staged = s.staged := rfl
@[simp] theorem staged_markWin (s : State) (d c : Nat) : (s.markWin d c).staged = s.staged := by simp [State.markWin]
@[simp] theorem staged_moveWin (s : State) (d c : Nat) : (s.moveWin d c).staged = s.staged := rfl
@[simp] theorem staged_replay (s : State) : s.replay.staged = s.staged := by simp [State.replay]

@[simp] theorem staged_epochNak (s : State) (f : List Nat) : (s.epochNak f).staged = s.staged := by
  unfold State.epochNak
  dsimp only
  split <;> simp

@[simp] theorem staged_duplicate (s : State) (f : List Nat) : (s.duplicate f).staged = s.staged := by
  unfold State.duplicate
  split <;> simp

@[simp] theorem staged_nak (s : State) (f : List Nat) (code : Nat) : (s.nak f code).staged = s.staged := by simp [State.nak]
@[simp] theorem staged_ingress (s : State) (f : List Nat) (uni : Bool) : (s.ingress f uni).staged = s.staged := by simp [State.ingress]
@[simp] theorem staged_rxAccept (s : State) (f : List Nat) (uni : Bool) : (s.rxAccept f uni).staged = s.staged := by simp [State.rxAccept]
@[simp] theorem staged_rxUni (s : State) (f : List Nat) : (s.rxUni f).staged = s.staged := by simp [State.rxUni]
@[simp] theorem staged_rxMulti (s : State) (f : List Nat) : (s.rxMulti f).staged = s.staged := by simp [State.rxMulti]
@[simp] theorem staged_rxFrame (s : State) (f : List Nat) (uni : Bool) : (s.rxFrame f uni).staged = s.staged := by simp [State.rxFrame]
@[simp] theorem staged_rxServe (s : State) : s.rxServe.staged = s.staged := by simp [State.rxServe]
@[simp] theorem staged_quotaWait (s : State) (agent base : Nat) : (s.quotaWait agent base).staged = s.staged := by simp [State.quotaWait]

@[simp] theorem staged_takeMsg (s : State) (ty : Nat) : (s.takeMsg ty).2.staged = s.staged := by
  unfold State.takeMsg
  dsimp only
  repeat' split
  all_goals simp

@[simp] theorem staged_msgEnd (s : State) (d : Nat) (x : Desc) (bad : Bool) (i : Nat) : (s.msgEnd d x bad i).staged = s.staged := by
  simp [State.msgEnd]

@[simp] theorem staged_setJob (s : State) (j : Option NetJob) : (s.setJob j).staged = s.staged := rfl

@[simp] theorem staged_trayRefusal (s : State) (d : Nat) (p : List Nat) : (s.trayRefusal d p).2.staged = s.staged := by
  simp [State.trayRefusal]

@[simp] theorem staged_streamPx (s : State) (base : Nat) (px : List Nat) (i k : Nat) :
    (s.streamPx base px i k).2.2.staged = s.staged := by
  induction k generalizing s i with
  | zero => rfl
  | succ k ih => simp [State.streamPx, ih]

@[simp] theorem staged_commitTray (s : State) (d : Nat) (p : List Nat) : (s.commitTray d p).2.staged = s.staged := by
  simp [State.commitTray]

@[simp] theorem staged_trayRun (s : State) (d : Nat) (p : List Nat) : (s.trayRun d p).2.staged = s.staged := by
  unfold State.trayRun
  dsimp only
  repeat' split
  all_goals simp

@[simp] theorem nextStaged_tray (s : State) : nextStaged (execTray s) = some s.staged := by
  have h := staged_takeMsg s 3
  unfold execTray
  generalize s.takeMsg 3 = m at h
  obtain ⟨_ | ⟨d, x⟩, s1⟩ := m <;> simp_all

@[simp] theorem staged_servo (s : State) (e : Int) (b tint : Nat) : (s.servo e b tint).staged = s.staged := by simp [State.servo]

@[simp] theorem nextStaged_time (s : State) : nextStaged (execTime s) = some s.staged := by
  have h := staged_takeMsg s 4
  unfold execTime
  generalize s.takeMsg 4 = m at h
  obtain ⟨_ | ⟨d, x⟩, s1⟩ := m <;> simp_all

@[simp] theorem nextStaged_ack (s : State) : nextStaged (execAck s) = some s.staged := by
  have h := staged_takeMsg s 6
  unfold execAck
  generalize s.takeMsg 6 = m at h
  obtain ⟨_ | ⟨d, x⟩, s1⟩ := m <;> simp_all

@[simp] theorem staged_sendEvent (s : State) (d : Nat) : (s.sendEvent d).staged = s.staged := by simp [State.sendEvent]

@[simp] theorem nextStaged_eventRetry (x : Dom) (s : State) : nextStaged (execEventRetry x s) = some s.staged := by
  unfold execEventRetry
  dsimp only
  split <;> simp

@[simp] theorem staged_egressTake (s : State) (d status : Nat) : (s.egressTake d status).2.staged = s.staged := by
  unfold State.egressTake
  dsimp only
  split <;> simp

@[simp] theorem staged_egressPick (s : State) : s.egressPick.2.staged = s.staged := by simp [State.egressPick]

@[simp] theorem staged_sendFrames (s : State) (n : Nat) : (s.sendFrames n).staged = s.staged := by
  induction n generalizing s with
  | zero => rfl
  | succ n ih =>
    unfold State.sendFrames
    have h1 := staged_egressPick s
    generalize s.egressPick = m at h1
    obtain ⟨_ | d, s1⟩ := m
    · exact h1
    · have h2 := staged_egressTake s1 d 1
      dsimp only at h1 ⊢
      generalize s1.egressTake d 1 = m at h2
      obtain ⟨_ | x, s2⟩ := m <;> simp_all

@[simp] theorem staged_collide (s : State) : s.collide.staged = s.staged := by
  have h := staged_egressPick s
  unfold State.collide
  generalize s.egressPick = m at h
  obtain ⟨_ | d, s1⟩ := m <;> simp_all

@[simp] theorem staged_egressDrop (s : State) (d i : Nat) : (s.egressDrop d i).staged = s.staged := by
  unfold State.egressDrop
  split
  · rfl
  · dsimp only
    split <;> simp

@[simp] theorem nextStaged_timeTransmit (s : State) (collided : Bool) : nextStaged (execTimeTransmit s collided) = some s.staged := by
  unfold execTimeTransmit
  split <;> simp

/-! ### Parity and votes (06) -/

@[simp] theorem staged_parityReport (s : State) (a d : Nat) : (s.parityReport a d).staged = s.staged := by simp [State.parityReport]

@[simp] theorem nextStaged_parityCheck (a : Addr) (bad badStaged : Bool) (s : State) :
    nextStaged (execParityCheck a bad badStaged s) = some s.staged := by
  unfold execParityCheck
  split <;> simp

@[simp] theorem staged_tmrNote (s : State) (a : Nat) (f : Fld) : (s.tmrNote a f).staged = s.staged := rfl
@[simp] theorem staged_putVote (s : State) (r : RegId) (i : Nat) (f : Field) (v : Nat) : (s.putVote r i f v).staged = s.staged := rfl

@[simp] theorem staged_lcVote (s : State) (addr a b c : Nat) : (s.lcVote addr a b c).staged = s.staged := by
  unfold State.lcVote
  dsimp only
  split
  · rw [staged_tamper]; rfl
  · rw [staged_raise]; rfl

@[simp] theorem staged_voteField (s : State) (r : RegId) (i : Nat) (f : Field) (a b c : Nat) :
    (s.voteField r i f a b c).staged = s.staged := by simp [State.voteField]

@[simp] theorem nextStaged_tmrVote (a : Addr) (c0 c1 c2 : Word) (s : State) : nextStaged (execTmrVote a c0 c1 c2 s) = some s.staged := by
  unfold execTmrVote
  split <;> simp

/-! ### SPI frames (07) -/

@[simp] theorem staged_spiCheck (s : State) (f : SpiFrame) : (s.spiCheck f).2.staged = s.staged := by simp [State.spiCheck]
@[simp] theorem staged_spiCount (s : State) (dom op done : Nat) (fail : Nat × Nat) : (s.spiCount dom op done fail).staged = s.staged := rfl

@[simp] theorem staged_spiEnd (s : State) (dom op done : Nat) (fails : List Fail) (later : Bool) :
    (s.spiEnd dom op done fails later).staged = s.staged := by simp [State.spiEnd]

@[simp] theorem staged_spiWoken (s : State) : s.spiWoken.staged = s.staged := by
  unfold State.spiWoken
  split <;> simp

/-! ### The tick of fSYS (log 1) -/

@[simp] theorem staged_fsysTick (s : State) : s.fsysTick.staged = s.staged := by simp [State.fsysTick]

end Sys2Proof.Machine
end

section

/-!
PROOF. Staged copies in order, and the operations that end some of them: boundaries, resets and clock stops (06 R197, R198).
-/

namespace Sys2Proof.Machine

/-! ### Staged copies in order -/

/-- The field of which a staged copy is one is RW and waits for a boundary. -/
def Staged.fits (e : Staged) : Prop :=
  ∃ r i f, findReg e.addr = some (r, i) ∧ f ∈ effFields r i ∧ f.acc = .rw ∧ f.bake ≠ .i ∧ f.lo = e.lo ∧ f.w = e.w ∧ f.bake.code = e.cls

/-- The staged copies of a state are in order: `State.stagedOk` as a structure, which no proof unfolds on its way. -/
structure State.Tidy (s : State) : Prop where
  fits : ∀ e ∈ s.staged, e.fits

theorem State.tidy_iff {s : State} : s.Tidy ↔ s.stagedOk := ⟨fun h => h.fits, fun h => ⟨h⟩⟩

namespace State.Tidy

variable {s t : State}

theorem of_eq (h : s.Tidy) (e : t.staged = s.staged) : t.Tidy := ⟨fun x hx => h.fits x (e ▸ hx)⟩

theorem of_subset (h : s.Tidy) (e : ∀ x ∈ t.staged, x ∈ s.staged) : t.Tidy := ⟨fun x hx => h.fits x (e x hx)⟩

theorem of_nil (e : t.staged = []) : t.Tidy := ⟨fun _ hx => absurd (e ▸ hx) List.not_mem_nil⟩

theorem ite {c : Prop} [Decidable c] (hs : s.Tidy) (ht : t.Tidy) : (if c then s else t).Tidy := by
  split
  · exact hs
  · exact ht

theorem each {α : Type} {l : List α} {f : α → State → State} (h : s.Tidy) (hf : ∀ a t, t.Tidy → (f a t).Tidy) :
    (Machine.each l f s).Tidy := by
  induction l generalizing s with
  | nil => exact h
  | cons a l ih => exact ih (hf a s h)

theorem unstage (h : s.Tidy) (sel : Staged → Bool) : (s.unstage sel).Tidy := h.of_subset fun _ he => List.mem_of_mem_filter he

theorem bake (h : s.Tidy) (sel : Staged → Bool) : (s.bake sel).Tidy := h.of_subset (mem_staged_of_bake s sel)

theorem dropK (h : s.Tidy) (p : Port) : (s.dropK p).Tidy := h.unstage _

/-- A change of the ports that wait leaves the fields. -/
theorem map (h : s.Tidy) {f : Staged → Staged} (hf : ∀ e, (f e).addr = e.addr ∧ (f e).lo = e.lo ∧ (f e).w = e.w ∧ (f e).cls = e.cls) :
    ({ s with staged := s.staged.map f } : State).Tidy := ⟨fun x hx => by
  obtain ⟨e, he, rfl⟩ := List.mem_map.mp hx
  obtain ⟨ha, hl, hw, hc⟩ := hf e
  unfold Staged.fits
  rw [ha, hl, hw, hc]
  exact h.fits e he⟩

end State.Tidy

theorem fits_stagePut {l : List Staged} {e : Staged} (he : e.fits) (h : ∀ x ∈ l, x.fits) : ∀ x ∈ stagePut e l, x.fits := fun x hx => by
  rcases List.mem_append.mp hx with hx | hx
  · exact h x (List.mem_of_mem_filter hx)
  · exact List.mem_singleton.mp hx ▸ he

/-- Every state that a command answers has its staged copies in order. -/
structure AnswersOk (o : Host.Outcome State Fault Refusal) : Prop where
  tidy : ∀ t, o = .next t → t.Tidy

namespace AnswersOk

theorem next {t : State} (h : t.Tidy) : AnswersOk (.next t) := ⟨fun _ e => by
  cases e
  exact h⟩

theorem ite {c : Prop} [Decidable c] {o u : Host.Outcome State Fault Refusal} (ho : AnswersOk o) (hu : AnswersOk u) :
    AnswersOk (if c then o else u) := by
  split
  · exact ho
  · exact hu

theorem of_nextStaged {s : State} {o : Host.Outcome State Fault Refusal} (h : s.Tidy) (e : nextStaged o = some s.staged) :
    AnswersOk o := ⟨fun t ht => by
  subst ht
  exact h.of_eq (Option.some.inj e)⟩

end AnswersOk

namespace State.Tidy

variable {s : State}

/-! ### The loop unit and the generators (13, 14) -/

/-- PPWMn_CA.CA is an RW field of class P. -/
theorem fits_pwmCa (i : Fin 6) (v : Nat) : Staged.fits ⟨F.pwmCa_CA.r.addr i, F.pwmCa_CA.lo, F.pwmCa_CA.w, 1, v, .spi, 0, true, [],
    none⟩ := by
  have hfind : ∀ i : Fin 6, findReg (RegId.pwmCa.addr i) = some (.pwmCa, i.val) := by decide
  have hfield : ∃ f ∈ RegId.pwmCa.fields, f.acc = .rw ∧ f.bake ≠ .i ∧ f.lo = F.pwmCa_CA.lo ∧ f.w = F.pwmCa_CA.w ∧ f.bake.code = 1 := by
    decide
  obtain ⟨f, hf, hprops⟩ := hfield
  exact ⟨.pwmCa, i, f, hfind i, hf, hprops⟩

theorem stageCa (h : s.Tidy) (i : Fin 6) (v : Nat) : (s.stageCa i v).Tidy := by
  have h1 : (s.stageBlk F.pwmCa_CA i v).Tidy := ⟨fits_stagePut (fits_pwmCa i _) h.fits⟩
  exact h1.ite (h1.bake _)

theorem ffPoint (h : s.Tidy) (i : Fin 6) : (s.ffPoint i).Tidy := by
  unfold State.ffPoint
  dsimp only
  have h2 : ∀ (x : Str → Str) (u : Nat), (((s.uffOf i (s.litOf i)).2.modSt i x).p F.strOut_U i u).Tidy := fun x u => h.of_eq (by simp)
  exact .ite (h.of_eq rfl) (.ite ((h2 _ _).stageCa _ _) (h2 _ _))

theorem startDuty (h : s.Tidy) (old : State) (i : Fin 6) : (s.startDuty old i).Tidy := by
  unfold State.startDuty
  dsimp only
  have h1 : ∀ x : Str → Str, ((s.uffOf i (s.st i).nff).2.modSt i x).Tidy := fun x => h.of_eq (by simp)
  exact .ite h (.ite ((h1 _).stageCa _ _) (h1 _))

theorem pPoint (h : s.Tidy) (n : Fin 6) (sel : Staged → Bool) : (s.pPoint n sel).Tidy := (h.ffPoint n).bake sel

theorem pwmBoundary (h : s.Tidy) (n : Fin 6) (len : Nat) (miss : Bool) : (s.pwmBoundary n len miss).Tidy := by
  unfold State.pwmBoundary
  extract_lets p due s1 s2 s3 void s4 s5 oldStop old every s5' s6 s8
  have h4 : s4.Tidy := h.of_eq (by simp [s4, s3, s2, s1])
  split
  · exact ((h4.of_eq rfl : s5.Tidy).pPoint n (pOf n)).of_eq (by simp)
  · have h5 : s5'.Tidy := .ite (h4.pPoint _ _) (h4.bake _)
    exact h5.of_eq (by simp [s8, s6])

theorem pwmStart (h : s.Tidy) (n : Fin 6) : (s.pwmStart n).Tidy := by
  unfold State.pwmStart
  extract_lets s1 old s2
  exact ((h.of_eq rfl : s1.Tidy).pPoint n (pOf n)).of_eq (by simp [s2])

theorem runBaked (h : s.Tidy) (n : Fin 6) : (s.runBaked n).Tidy := .ite (.ite h (.ite (h.of_eq rfl) (h.pwmStart n))) (h.of_eq rfl)

theorem cmpActs (h : s.Tidy) (n : Fin 6) (c : Nat) : (s.cmpActs n c).Tidy := by
  have hfall : ∀ t, (s.mFall n t).Tidy := fun t => h.of_eq (by simp)
  exact .ite (.ite (h.pwmBoundary _ _ _) h) (.ite h (.ite (.ite (hfall _) h) (.ite (hfall _) h)))

theorem bakeStopped (h : s.Tidy) (n : Fin 6) : (s.bakeStopped n).Tidy :=
  .ite h ((h.pPoint n (pOf n)).of_eq (by simp))

/-! ### The grid (15) -/

theorem bakeF (h : s.Tidy) : s.bakeF.Tidy := by
  unfold State.bakeF
  dsimp only
  have h1 := h.bake fun e => e.cls == 2 && !isRate e
  exact .ite (.ite (h1.bake _) (h1.of_subset fun _ he => List.mem_of_mem_filter he)) h1

theorem bakeIdleGrid (h : s.Tidy) : s.bakeIdleGrid.Tidy := .ite h h.bakeF

theorem frameBegin (h : s.Tidy) (stop : Option Nat) (first : Bool) : (s.frameBegin stop first).Tidy := by
  unfold State.frameBegin
  have h0 : s.framePoint.Tidy := bakeF (h.of_eq (by simp))
  generalize s.framePoint = s0 at h0
  exact .ite h0 (h0.of_eq (by simp))

theorem gridEnable (h : s.Tidy) : s.gridEnable.Tidy := by
  have h1 : ((s.pb F.gridStat_LOCK 0 false).pb F.gridStat_LOL 0 false).Tidy := h.of_eq rfl
  exact .ite h (.ite (h1.frameBegin _ _) (h1.of_eq rfl))

/-! ### Waits (09 R348) and the network job -/

theorem slotAbort (h : s.Tidy) (w : Wait) (status : Nat) : (s.slotAbort w status).Tidy := by
  unfold State.slotAbort
  have h1 : (s.flagIrq F.netStat_TXDROP 0 83).Tidy := h.of_eq (by simp)
  split
  · exact h
  split
  · split
    · exact h.of_eq (by simp)
    · exact h
  · dsimp only
    generalize s.flagIrq F.netStat_TXDROP 0 83 = s1 at h1
    split
    · exact .ite ((h1.dropK .net).of_eq (by simp)) (h1.of_eq (by simp))
    · exact h1.of_eq (by simp)

theorem abortWait (h : s.Tidy) (w : Wait) (status : Nat) : (s.abortWait w status).Tidy := by
  unfold State.abortWait
  dsimp only
  split
  · split <;> exact h.of_eq (by simp)
  · have h1 : (s.leaveWait w).Tidy := h.of_eq (by simp)
    exact .ite (h1.slotAbort _ _) (.ite (h1.of_eq (by simp)) (h1.of_eq (by simp)))

theorem netCut (h : s.Tidy) : s.netCut.Tidy := by
  unfold State.netCut
  split
  · exact h
  · exact .ite h ((h.dropK .net).of_eq (by simp))

/-! ### Resets of domains (05 R157-R160) -/

/-- Writes of fields one after another are no staged copies. -/
theorem staged_keep (l : List Fld) (v : Fld → Nat) (i : Nat) (t : State) : (l.foldl (fun s f => s.p f i (v f)) t).staged = t.staged :=
  staged_foldl id (fun s f => (State.p_keeps s f i (v f)).2.2.2.2.2.2.2.1) l t

theorem resetString (h : s.Tidy) (i : Fin 6) : (s.resetString i).Tidy := by
  unfold State.resetString
  extract_lets trip old s1 keep s2 s3 s4 s5 srcPx s6
  have h2 : s2.Tidy := h.of_eq (by rw [staged_keep]; simp [s1])
  have h5 : s5.Tidy := unstage (of_eq h2 (by simp [s4, s3])) _
  clear_value s5
  exact h5.of_eq (by simp [s6])

theorem resetGrid (h : s.Tidy) : s.resetGrid.Tidy := by
  have h1 : (s.gridStop.clrRange 0xD000 0xE000).Tidy := h.of_eq (by simp)
  have h2 := h1.unstage fun e => 0xD000 ≤ e.addr && e.addr < 0xE000
  exact h2.of_eq (by simp [State.resetGrid])

theorem resetAdc (h : s.Tidy) (k : Fin 4) : (s.resetAdc k).Tidy := by
  unfold State.resetAdc
  extract_lets x a drop s1
  have hdrop : ∀ {t : State} (lo hi : Nat), t.Tidy → (drop t lo hi).Tidy := fun lo hi ht => unstage (of_eq ht (by simp)) _
  split
  · exact (hdrop _ _ (hdrop _ _ h)).of_eq rfl
  · exact (hdrop 0x40 0x80 (hdrop 0x1C 0x28 h)).of_eq (by simp [s1])

theorem domRacks (h : s.Tidy) (d : Nat) : (s.domRacks d).Tidy := by
  unfold State.domRacks
  extract_lets s1 s2 s3 s4
  have h1 : s1.Tidy := h.each fun w _ ht => ht.abortWait w 2
  have h2 : s2.Tidy := by
    unfold s2
    split
    · exact .ite (h1.of_eq (by simp)) h1
    · exact h1
  exact h2.of_eq (by simp [s4, s3])

theorem domResetStart (h : s.Tidy) (d : Nat) : (s.domResetStart d).Tidy := by
  unfold State.domResetStart
  split
  · exact h
  · extract_lets keep s1 s1' s2 s3 s4 lost s4' srcDisp srcNet s5
    have h2 : s2.Tidy := h.of_eq (by simp [s2, s1', s1])
    have h3 : s3.Tidy := (h2.domRacks d).unstage _
    have h5 : s5.Tidy := h3.of_eq (by simp [s5, s4', s4])
    exact .ite (h5.of_eq (by simp)) h5

theorem domOutputs (h : s.Tidy) (d : Nat) : (s.domOutputs d).Tidy := by
  have h1 : (Machine.each strs (fun i s => if s.ownStr i = d then s.resetString i else s) s).Tidy :=
    h.each fun i t ht => .ite (ht.resetString i) ht
  exact each (ite h1.resetGrid h1) fun k t ht => ite (ht.resetAdc k) ht

theorem domResetEnd (h : s.Tidy) (d : Nat) (keep : Bool) : (s.domResetEnd d keep).Tidy := by
  have h1 : (if keep then s else s.domOutputs d).Tidy := h.ite (h.domOutputs d)
  exact h1.of_eq (by simp [State.domResetEnd])

theorem domRstWrite (h : s.Tidy) (p : Port) (d a w : Nat) : (s.domRstWrite p d a w).Tidy := by
  unfold State.domRstWrite
  refine .ite (.ite h (h.of_eq (by simp))) (h.each fun x t ht => .ite ?_ ht)
  exact .ite (ht.domResetStart x).netCut (ht.domResetStart x)

/-! ### The slice boundary (11 R430) -/

theorem bakeCurve (h : s.Tidy) (c : Nat) : (s.bakeCurve c).Tidy :=
  .ite h (.ite (h.bake _) (h.of_subset fun _ he => List.mem_of_mem_filter he))

theorem bakeS (h : s.Tidy) : s.bakeS.Tidy := by
  unfold State.bakeS
  extract_lets en den s1 s2
  have h1 : s1.Tidy := (h.bake fun e => e.cls == 0 && !isOwnReg e.addr && !(0xF080 ≤ e.addr && e.addr < 0xF100)).of_eq (by simp [s1])
  have h2 : s2.Tidy := h1.each fun c _ ht => ht.bakeCurve c
  exact h2.of_eq (by simp)

theorem resetMoved (h : s.Tidy) (old : State) : (s.resetMoved old).Tidy := by
  unfold State.resetMoved
  extract_lets inRst s1 s2
  have h1 : s1.Tidy := h.each fun i t ht => .ite (ht.resetString i) ht
  exact each (ite h1.resetGrid h1) fun k t ht => ite (ht.resetAdc k) ht

theorem bakeOwn (h : s.Tidy) : s.bakeOwn.Tidy := by
  unfold State.bakeOwn
  extract_lets own pe sem s1 s2 s3 s4 pend
  have h2 : s2.Tidy := (h.bake _).unstage _
  have h3 : s3.Tidy := h2.of_eq (by simp [s3])
  have h4 : s4.Tidy := h3.each fun w _ ht => ht.abortWait w 2
  exact resetMoved (h4.of_eq (by simp)) s

theorem sliceWork (h : s.Tidy) (k : Nat) (woken : Bool) : (s.sliceWork k woken).Tidy := by
  unfold State.sliceWork
  extract_lets dark fresh s0 srcClk srcFlt s1 s2 s3 s4 srcSlice s5 s6 s7 s8 s9 s10 s11 s11' s12 s13 s14 srcPins srcSlice'
  have h3 : s3.Tidy := h.of_eq (by simp [s3, s2, s1, s0])
  have h7 : s7.outputs.Tidy := h3.bakeS.bakeOwn.of_eq (by simp [s7, s6, s5, s4])
  have h8 : s8.Tidy := (h7.each fun n _ ht => (ht.startDuty s0 n).runBaked n).gridEnable
  have h11 : s11.Tidy := h8.of_eq (by simp [s11, s10, s9])
  have h11' : s11'.Tidy := h11.each fun i _ ht => ht.startDuty s8 i
  exact h11'.of_eq (by simp [s14, s13, s12])

theorem sliceAtRelease (h : s.Tidy) : s.sliceAtRelease.Tidy := by
  unfold State.sliceAtRelease
  extract_lets r near s1 s2
  have h2 : s2.Tidy := h.of_eq (by simp [s2, s1])
  clear_value s2
  exact h2.sliceWork _ _

theorem sliceAtWake (h : s.Tidy) : s.sliceAtWake.Tidy := by
  unfold State.sliceAtWake
  extract_lets srcSlice s1 srcSlice'
  have h1 : s1.Tidy := .ite (h.of_eq rfl) h
  clear_value s1
  exact sliceWork (h1.of_eq (by simp)) _ _

/-! ### Clock loss and standby (03, 04) -/

theorem clockStop (h : s.Tidy) (flt : Nat) : (s.clockStop flt).Tidy := by
  unfold State.clockStop
  extract_lets s1 srcClk s2 s3
  have h2 : s2.phyStop.Tidy := h.of_eq (by simp [s2, s1])
  have h3 : s3.Tidy := unstage (h2.netCut.of_eq (by simp)) _
  exact h3.of_eq (by simp)

theorem pllLost (h : s.Tidy) : s.pllLost.Tidy := .ite (h.clockStop 17) (.ite (h.of_eq rfl) h)

theorem wakeBy (h : s.Tidy) (bit : Nat) (deep ret net : Bool) : (s.wakeBy bit deep ret net).Tidy := by
  unfold State.wakeBy
  extract_lets wakes on
  split
  · exact .ite h (.ite (of_nil (staged_deviceReset ..)) (h.of_eq rfl))
  · exact .ite (h.of_eq rfl) h
  · split
    · exact .ite (h.of_eq (by simp)) h
    · exact h
  · exact h

/-! ### Freezes and the end of a hold (06 R201; 20 R759) -/

theorem bakeK (h : s.Tidy) (sel : Staged → Bool) : (s.bakeK sel).Tidy := h.bake _

theorem releaseHold (h : s.Tidy) (p : Port) (d : Nat) : (s.releaseHold p d).Tidy := by
  unfold State.releaseHold
  extract_lets s1
  have h1 : s1.Tidy := (h.each fun n _ ht => ht.bakeStopped n).bakeIdleGrid
  split
  · refine h1.map fun e => ?_
    split <;> exact ⟨rfl, rfl, rfl, rfl⟩
  · exact h1.bakeK _

theorem endBurst (h : s.Tidy) (p : Port) : (s.endBurst p).Tidy := by
  have h1 : (s.endPart p.code).Tidy := h.of_eq (by simp)
  refine (h1.bakeK _).map fun e => ?_
  split <;> exact ⟨rfl, rfl, rfl, rfl⟩

theorem loose (h : s.Tidy) (old : State) (p : Port) : (s.loose old p).Tidy := by
  refine h.map fun e => ?_
  split <;> exact ⟨rfl, rfl, rfl, rfl⟩

theorem freezePwm (h : s.Tidy) (n : Fin 6) : (s.freezePwm n).Tidy := by
  unfold State.freezePwm
  extract_lets now s1
  have h1 : s1.Tidy := h.of_eq rfl
  exact .ite h (.ite (.ite (h1.of_eq rfl) h1) ((h1.bakeStopped n).runBaked n))

theorem freezeSync (h : s.Tidy) (old : State) : (s.freezeSync old).Tidy := by
  unfold State.freezeSync
  extract_lets s1 s2
  have h1 : s1.Tidy := h.each fun n _ ht => ht.freezePwm n
  have h2 : s2.Tidy := .ite (h1.of_eq (by simp)) (.ite (.ite (h1.frameBegin _ _) h1.gridEnable) h1)
  exact .ite (h2.of_eq rfl) (.ite (h2.of_eq rfl) h2)

theorem haltTo (h : s.Tidy) (n : Nat) : (s.haltTo n).Tidy := by
  unfold State.haltTo
  extract_lets old s1 s2
  have h1 : s1.Tidy := h.of_eq (by simp [s1])
  have h2 : s2.Tidy := freezeSync (h1.of_eq (by simp)) s
  exact h2.of_eq (by simp)

theorem u2dDetach (h : s.Tidy) : s.u2dDetach.Tidy := (h.haltTo 0).of_eq (by simp [State.u2dDetach])

end State.Tidy
end Sys2Proof.Machine
end

section

/-!
PROOF. Register writes, accesses and recipe instructions keep the staged copies in order (06 R185, R197-R200).
-/

namespace Sys2Proof.Machine

/-! ### Writes of registers (06 R185, R197-R200) -/

/-- One RW field under a write: a copy staged for it is one of that field. -/
theorem fits_writeRw (s : State) (p : Port) (d : Nat) {r : RegId} {i : Nat} (v : View) (w : Nat) {u : Upd} {f : Field}
    (hr : findReg (r.addr i) = some (r, i)) (hf : f ∈ effFields r i) (hacc : f.acc = .rw) (hu : ∀ e ∈ u.st, e.fits) :
    ∀ e ∈ (s.writeRw p d r i v w u f).st, e.fits := by
  unfold State.writeRw
  by_cases hi : f.bake = .i
  · simp only [hi, if_true]
    repeat' split
    all_goals exact hu
  · simp only [hi, if_false]
    split
    · exact hu
    split
    · exact hu
    split
    · exact hu
    split
    · exact hu
    · exact fits_stagePut ⟨r, i, f, hr, hf, hacc, hi, rfl, rfl, rfl⟩ (by simpa only [apply_ite Upd.st, ite_self] using hu)

theorem fits_writeField (s : State) (p : Port) (d : Nat) {r : RegId} {i : Nat} (v : View) (w : Nat) {u : Upd} {f : Field}
    (hr : findReg (r.addr i) = some (r, i)) (hf : f ∈ effFields r i) (hu : ∀ e ∈ u.st, e.fits) :
    ∀ e ∈ (s.writeField p d r i v w u f).st, e.fits := by
  unfold State.writeField
  dsimp only
  split
  next hacc => exact fits_writeRw s p d v w hr hf hacc hu
  all_goals repeat' split
  all_goals exact hu

theorem fits_writeFields (s : State) (p : Port) (d : Nat) {r : RegId} {i : Nat} (v : View) (w : Nat) {u : Upd}
    (hr : findReg (r.addr i) = some (r, i)) (hu : ∀ e ∈ u.st, e.fits) :
    ∀ e ∈ ((effFields r i).foldl (s.writeField p d r i v w) u).st, e.fits :=
  List.foldlRecOn (motive := fun u : Upd => ∀ e ∈ u.st, e.fits) (effFields r i) _ hu fun _ hb _ hf => fits_writeField s p d v w hr hf hb

/-- The register that an address decodes to is the one found at its own address. -/
theorem findReg_of_decode {a : Nat} {wr : Bool} {v : View} {r : RegId} {i : Nat} (h : decode a wr = .reg v r i) :
    findReg (r.addr i) = some (r, i) := by
  unfold decode at h
  split at h
  · split at h
    · cases h
    · dsimp only at h
      split at h
      · cases h
      next q j hq =>
        obtain ⟨-, h⟩ | ⟨-, h⟩ := ite_eq_iff.mp h <;> cases h
        rw [addr_of_findReg hq]
        exact hq
  · split at h
    · cases h
    · repeat' split at h
      all_goals cases h

namespace State.Tidy

variable {s : State}

theorem onWrite (h : s.Tidy) (old : State) (p : Port) (d a : Nat) (r : RegId) (i : Nat) (v : View) (w nw : Nat) (cmd : Bool) :
    (s.onWrite old p d a r i v w nw cmd).Tidy := by
  unfold State.onWrite
  dsimp only
  split
  case h_1 => exact .ite (h.releaseHold p i) h
  case h_7 => exact h.domRstWrite p d a w
  case h_46 => exact h.haltTo nw
  case h_47 => exact h.freezeSync old
  all_goals exact h.of_eq (by simp)

theorem bakeNow (h : s.Tidy) (p : Port) (r : RegId) (i : Nat) : (s.bakeNow p r i).Tidy := by
  unfold State.bakeNow
  extract_lets holds s1 s2
  have h1 : s1.Tidy := .ite (h.bakeStopped _) h
  have h2 : s2.Tidy := .ite h1.bakeIdleGrid h1
  exact .ite (h2.bakeK _) h2

theorem applyReg (h : s.Tidy) (p : Port) (d a : Nat) {r : RegId} {i : Nat} (v : View) (w : Nat)
    (hr : findReg (r.addr i) = some (r, i)) : (s.applyReg p d a r i v w).Tidy := by
  unfold State.applyReg
  extract_lets l base u e held srcWr wrote s0 s1 s2 s3 s4
  have hwrote : wrote.Tidy := by
    have hu : ∀ e ∈ u.st, e.fits := fits_writeFields s p d v w hr h.fits
    exact .ite (h.of_eq rfl) (.ite ⟨hu⟩ ⟨hu⟩)
  clear_value wrote
  have h4 : s4.Tidy := hwrote.of_eq (by simp [s4, s3, s2, s1, s0])
  clear_value s4
  exact (h4.onWrite s p d a r i v w u.word (!u.cmdBad)).bakeNow p r i

/-! ### Accesses of ports (06 R185; 04 R120-R122) -/

theorem regEffect (h : s.Tidy) (p : Port) (d a : Nat) (v : View) {r : RegId} {i : Nat} (w : Nat)
    (hr : findReg (r.addr i) = some (r, i)) : (s.regEffect p d a v r i w).2.Tidy := by
  unfold State.regEffect
  split
  · exact h.of_eq (by simp)
  · exact h.applyReg p d a v w hr

theorem postEffect (h : s.Tidy) (q : Posted) : (s.postEffect q).Tidy := by
  unfold State.postEffect
  split
  next v r i hd =>
    split
    · exact h.of_eq (by simp)
    · exact h.regEffect _ _ _ _ _ (findReg_of_decode hd)
  · exact h

theorem postHead (h : s.Tidy) (p : Port) : (s.postHead p).Tidy := by
  unfold State.postHead
  split
  · exact postEffect (h.of_eq (by rfl)) _
  · exact h

theorem drain (h : s.Tidy) (p : Port) : (s.drain p).Tidy := h.each fun _ _ ht => ht.postHead p

theorem post (h : s.Tidy) (q : Posted) : (s.post q).Tidy := (h.postHead q.port |>.ite h).of_eq rfl

theorem regWrite (h : s.Tidy) (p : Port) (d a : Nat) (v : View) {r : RegId} {i : Nat} (w : Nat)
    (hr : findReg (r.addr i) = some (r, i)) : (s.regWrite p d a v r i w).2.Tidy := by
  unfold State.regWrite
  split
  · exact h.of_eq (by simp)
  split
  · exact h.of_eq (by simp)
  split
  · exact h
  split
  · exact h.post _
  · exact (h.drain p).regEffect p d a v w hr

theorem portWrite (h : s.Tidy) (p : Port) (d a w : Nat) : (s.portWrite p d a w).2.Tidy := by
  unfold State.portWrite
  dsimp only
  split
  · exact h.of_eq (by simp)
  split
  · exact h
  split
  · exact h.of_eq (by simp)
  · have h1 := h.drain p
    split <;> exact h1.of_eq (by simp)
  next hd => exact h.regWrite p d a _ w (findReg_of_decode hd)

theorem portRead (h : s.Tidy) (p : Port) (d a : Nat) : (s.portRead p d a).2.2.2.Tidy := (h.drain p).of_eq (staged_readAt ..)

/-- Write and read commands. -/
theorem writeCmd (h : s.Tidy) (p : Port) (d : Dom) (a w : Nat) : AnswersOk (s.writeCmd p d a w) :=
  .ite (.next (((h.portWrite p d a w).loose s p).of_eq (by simp))) (.next h)

theorem readCmd (h : s.Tidy) (p : Port) (d : Dom) (a : Nat) : AnswersOk (s.readCmd p d a) :=
  .ite (.next ((h.portRead p d a).of_eq (by simp))) (.next h)

theorem writeReg (h : s.Tidy) (p : Port) (d : Dom) (r : RegId) (i w : Nat) : AnswersOk (s.writeReg p d r i w) := h.writeCmd ..

/-! ### Recipe instructions (12) -/

theorem withSlot (h : s.Tidy) (c : Fin 16) (w : Word) {f : State → State} (hf : ∀ t, t.Tidy → (f t).Tidy) : (s.withSlot c w f).Tidy := by
  unfold State.withSlot
  dsimp only
  split
  · exact hf _ (h.of_eq rfl)
  split
  · exact h
  split
  · exact h.of_eq (by simp)
  · exact hf s h

theorem engLoad (h : s.Tidy) (c : Fin 16) (n a : Nat) : (s.engLoad c n a).2.Tidy := by
  unfold State.engLoad
  dsimp only
  split
  · exact h
  split
  · have h1 := h.portRead (.pe (ctxEng c)) (ctxDom c) a
    repeat' split
    all_goals exact h1
  · have h1 := h.drain (.pe (ctxEng c))
    repeat' split
    all_goals exact h1.of_eq (by simp)

theorem engStore (h : s.Tidy) (c : Fin 16) (n a w : Nat) : (s.engStore c n a w).2.Tidy := by
  unfold State.engStore
  dsimp only
  split
  · exact h
  split
  · have h1 := h.portWrite (.pe (ctxEng c)) (ctxDom c) a w
    repeat' split
    all_goals exact h1
  · have h1 := h.drain (.pe (ctxEng c))
    repeat' split
    all_goals exact h1.of_eq (by simp)

theorem loadAt (h : s.Tidy) (c : Fin 16) (word : Word) (n : Nat) (rd ra : Reg) (imm : BitVec 16) : (s.loadAt c word n rd ra imm).Tidy := by
  unfold State.loadAt
  dsimp only
  refine .ite (h.of_eq (by simp)) (h.withSlot c word fun t ht => ?_)
  have hload := ht.engLoad c n (s.ea c ra imm)
  generalize t.engLoad c n (s.ea c ra imm) = m at hload
  obtain ⟨_ | _, t1⟩ := m <;> exact hload.of_eq (by simp)

theorem storeAt (h : s.Tidy) (c : Fin 16) (word : Word) (n : Nat) (rd ra : Reg) (imm : BitVec 16) :
    (s.storeAt c word n rd ra imm).Tidy := by
  unfold State.storeAt
  dsimp only
  refine .ite (h.of_eq (by simp)) (h.withSlot c word fun t ht => ?_)
  have hstore := ht.engStore c n (s.ea c ra imm) ((t.v c rd).toNat % 2 ^ (8 * n))
  generalize t.engStore c n (s.ea c ra imm) ((t.v c rd).toNat % 2 ^ (8 * n)) = m at hstore
  obtain ⟨_ | ⟨code, x⟩, t1⟩ := m <;> exact hstore.of_eq (by simp)

theorem pxRun (h : s.Tidy) (c : Fin 16) (r : Pref) (as : List Nat) (f : List Nat → List Nat) (z : List Nat → Option Bool) :
    (s.pxRun c r as f z).Tidy := by
  have h1 := h.drain (.pe (ctxEng c))
  unfold State.pxRun
  dsimp only
  split <;> exact h1.of_eq (by simp)

theorem opPxr (h : s.Tidy) (c : Fin 16) (rd ra : Reg) : (opPxr c rd ra s).Tidy := by
  unfold Machine.opPxr
  split
  · exact h.of_eq (by simp)
  next r _ =>
    refine h.withSlot _ _ fun t ht => ?_
    have h1 : ((t.drain (.pe (ctxEng c))).pxRead c (r.word (r.p / 2))).2.Tidy := (ht.drain (.pe (ctxEng c))).of_eq (by simp)
    generalize (t.drain (.pe (ctxEng c))).pxRead c (r.word (r.p / 2)) = m at h1
    obtain ⟨_ | _, t1⟩ := m <;> exact h1.of_eq (by simp)

theorem opPxw (h : s.Tidy) (c : Fin 16) (rd ra : Reg) : (opPxw c rd ra s).Tidy := by
  unfold Machine.opPxw
  split
  · exact h.of_eq (by simp)
  · exact .ite (h.of_eq (by simp)) (h.withSlot _ _ fun t ht => ht.pxRun ..)

theorem opFade (h : s.Tidy) (c : Fin 16) (rd ra rb : Reg) : (opFade c rd ra rb s).Tidy := by
  unfold Machine.opFade
  split
  · exact h.of_eq (by simp)
  · exact .ite (h.of_eq (by simp)) (h.withSlot _ _ fun t ht => ht.pxRun ..)

theorem opBlend (h : s.Tidy) (c : Fin 16) (rd ra rb : Reg) : (opBlend c rd ra rb s).Tidy := by
  unfold Machine.opBlend
  split
  · exact .ite (h.of_eq (by simp)) (h.withSlot _ _ fun t ht => ht.pxRun ..)
  · exact h.of_eq (by simp)

theorem opLut (h : s.Tidy) (c : Fin 16) (rd ra : Reg) : (opLut c rd ra s).Tidy := by
  have hexc : ∀ code a, (s.exception c code a).Tidy := fun _ _ => h.of_eq (by simp)
  unfold Machine.opLut
  refine .ite (hexc _ _) ?_
  split
  · exact hexc _ _
  refine .ite (hexc _ _) (.ite (hexc _ _) (.ite (hexc _ _) (h.withSlot _ _ fun t ht => ?_)))
  have h1 := ht.drain (.pe (ctxEng c))
  dsimp only
  repeat' split
  all_goals exact h1.of_eq (by simp)

theorem opPush (h : s.Tidy) (c : Fin 16) (rd : Reg) (idx : Fin 32) (w : Bool) (tmo : BitVec 14) : (opPush c rd idx w tmo s).Tidy :=
  (h.drain (.pe (ctxEng c))).of_eq (by simp [Machine.opPush])

theorem opPop (h : s.Tidy) (c : Fin 16) (rd : Reg) (idx : Fin 32) (w : Bool) (tmo : BitVec 14) : (opPop c rd idx w tmo s).Tidy :=
  (h.drain (.pe (ctxEng c))).of_eq (by simp [Machine.opPop])

theorem opTake (h : s.Tidy) (c : Fin 16) (idx : Fin 32) (w : Bool) (tmo : BitVec 14) : (opTake c idx w tmo s).Tidy :=
  (h.drain (.pe (ctxEng c))).of_eq (by simp [Machine.opTake])

theorem opGive (h : s.Tidy) (c : Fin 16) (idx : Fin 32) : (opGive c idx s).Tidy :=
  (h.drain (.pe (ctxEng c))).of_eq (by simp [Machine.opGive])

theorem opFence (h : s.Tidy) (c : Fin 16) : (opFence c s).Tidy := (h.drain (.pe (ctxEng c))).of_eq (by simp [Machine.opFence])

/-- Every recipe instruction: accesses and racks by the rules above, the others stage nothing. -/
theorem runOp (h : s.Tidy) (i : Instr) (c : Fin 16) : (runOp i c s).Tidy := by
  cases i
  case ldw | ldh | ldb => exact h.loadAt ..
  case stw | sth | stb => exact h.storeAt ..
  case pxr => exact h.opPxr ..
  case pxw => exact h.opPxw ..
  case fade => exact h.opFade ..
  case blend => exact h.opBlend ..
  case lut => exact h.opLut ..
  case push => exact h.opPush ..
  case pop => exact h.opPop ..
  case take => exact h.opTake ..
  case give => exact h.opGive ..
  case fence => exact h.opFence ..
  all_goals
    exact h.of_eq (by simp [Machine.runOp, opAdd, opSub, opAnd, opOr, opXor, opShl, opShr, opSar, opMul, opMulq, opMin, opMax, opAdds,
      opSubs, opCmp, opAddi, opAndi, opOri, opXori, opShli, opShri, opSari, opMovi, opMovhi, opCmpi, opB, opCall, opJr, opCallr,
      opLoop, opRds, opNop, opEnd, opTrap, opWaitev, opSliceend])

theorem runOn (h : s.Tidy) (e : Fin 4) (i : Instr) {f : Fin 16 → State → State} (hf : ∀ c t, t.Tidy → (f c t).Tidy) :
    AnswersOk (s.runOn e i f) := by
  unfold State.runOn
  dsimp only
  split
  · exact .next h
  next c _ =>
    have hfetch : ((s.engReady e).fetch c).2.Tidy := h.of_eq (by simp)
    generalize (s.engReady e).fetch c = m at hfetch
    rcases m with ⟨_ | _ | _, s1⟩
    · exact .next hfetch
    · exact .next (hfetch.of_eq (by simp))
    · exact .ite (.next ((hf c s1 hfetch).of_eq (by simp))) (.next h)

/-- The instruction commands run their instruction on the engine that has come to it. -/
theorem runs (h : s.Tidy) (e : Fin 4) (i : Instr) : AnswersOk (s.runOn e i (Machine.runOp i)) := h.runOn e i fun c _ ht => ht.runOp i c

end State.Tidy
end Sys2Proof.Machine
end

section

/-!
PROOF. Copies, jobs, U2D sessions and SPI bursts keep the staged copies in order (07; 08; 09).
-/

namespace Sys2Proof.Machine
namespace State.Tidy
variable {s : State}

/-! ### COPY and messages (08 R291-R294; 09 R341) -/

theorem copyWord (h : s.Tidy) (j : CopyJob) : (s.copyWord j).Tidy := by
  have h1 := h.portRead .dma (s.ownRack j.rack) (copySrc j.d j.i)
  unfold State.copyWord
  dsimp only
  split
  · exact h1.of_eq (by simp)
  split
  · exact h1.of_eq (by simp)
  next =>
    have h2 := h1.portWrite .dma (s.ownRack j.rack) (copyDst j.d j.i) (s.portRead .dma (s.ownRack j.rack) (copySrc j.d j.i)).2.1
    exact .ite (h2.of_eq (by simp)) (h2.of_eq (by simp))

theorem copyWords (h : s.Tidy) (n : Nat) : (s.copyWords n).Tidy := by
  induction n generalizing s with
  | zero => exact h
  | succ n ih =>
    unfold State.copyWords
    split
    · exact h
    · exact .ite h (.ite (h.of_eq (by simp)) (ih (h.copyWord _)))

theorem jobWord (h : s.Tidy) (j : NetJob) : (s.jobWord j).Tidy := by
  have h1 : (s.setJob (some { j with i := j.i + 1, slot := true })).Tidy := h.of_eq (by simp)
  have hkeep : ∀ (t : State) (n : NetJob), t.Tidy → (if t.net.job.isSome then t.setJob (some n) else t).Tidy :=
    fun t n ht => .ite (ht.of_eq (by simp)) ht
  exact .ite (hkeep _ _ (h1.portRead ..)) (hkeep _ _ (h1.portWrite ..))

theorem jobWords (h : s.Tidy) (n : Nat) : (s.jobWords n).Tidy := by
  induction n generalizing s with
  | zero => exact h
  | succ n ih =>
    unfold State.jobWords
    split
    · exact h
    · exact .ite h (.ite (ih (h.jobWord _)) (.ite (ih (jobWord (h.of_eq (by simp)) _)) (h.of_eq (by simp))))

theorem jobRun (h : s.Tidy) (k : Nat) : (s.jobRun k).Tidy := by
  unfold State.jobRun
  have ht := h.jobWords (if k = 0 then 64 else k)
  generalize s.jobWords (if k = 0 then 64 else k) = t at ht
  dsimp only
  split
  · exact ht
  · have h1 : (t.setJob none).Tidy := ht.of_eq (by simp)
    exact .ite ht (((h1.drain .net).endBurst .net).of_eq (by simp))

theorem regMsg (h : s.Tidy) (ty k : Nat) : (s.regMsg ty k).Tidy := by
  unfold State.regMsg
  split
  · exact .ite (h.jobRun k) h
  · have h1 : (s.takeMsg ty).2.Tidy := h.of_eq (by simp)
    generalize s.takeMsg ty = m at h1
    obtain ⟨_ | ⟨d, x⟩, s1⟩ := m
    · exact h1
    · exact jobRun (h1.of_eq (by simp)) k

/-! ### The debugger (20 R746-R758) -/

theorem u2dRequest (h : s.Tidy) (cmd : Nat) (a : Addr) (w : Word) : (s.u2dRequest cmd a w).Tidy := by
  have hans : ∀ {t : State} (code data : Nat), t.Tidy → (t.u2dAnswer code data).Tidy := fun code data ht => ht.of_eq (by simp)
  exact .ite (hans _ _ h) (.ite (hans _ _ h) (.ite (h.of_eq (by simp)) (.ite (hans _ _ h) (.ite (hans _ _ h) (.ite (hans _ _ h)
    (.ite (hans _ _ h.u2dDetach) (.ite (hans _ _ (h.portRead ..)) (hans _ _ (h.portWrite ..)))))))))

theorem u2dFrame (h : s.Tidy) (cmd : Nat) (a : Addr) (w : Word) (crc : Byte) : AnswersOk (s.u2dFrame cmd a w crc) :=
  .ite (.next h) (.ite (.next (h.of_eq (by simp))) (.next (h.u2dRequest cmd a w)))

theorem stepRun (h : s.Tidy) : s.stepRun.Tidy := by
  unfold State.stepRun
  split
  · exact h
  next n _ =>
    dsimp only
    refine .ite (h.of_eq rfl) (.ite h ?_)
    have hfetch : (s.fetch (Fin.ofNat 16 n)).2.Tidy := h.of_eq (by simp)
    generalize s.fetch (Fin.ofNat 16 n) = m at hfetch
    rcases m with ⟨_ | _ | w, s1⟩
    · exact hfetch
    · exact hfetch.of_eq (by simp)
    · dsimp only at hfetch ⊢
      split
      · exact hfetch.of_eq (by simp)
      next i _ =>
        have hrun := hfetch.runOp i (Fin.ofNat 16 n)
        exact .ite hrun (hrun.of_eq rfl)

/-! ### SPI frames (07 R240-R250) -/

theorem spiWrites (f : SpiFrame) (i k : Nat) {r : Run} (h : r.s.Tidy) : (spiWrites f r i k).s.Tidy := by
  induction k generalizing r i with
  | zero => exact h
  | succ k ih =>
    unfold Machine.spiWrites
    dsimp only
    split
    · exact h
    split
    · exact ih _ h
    split
    · apply ih; exact h
    · apply ih; exact h.portWrite ..

theorem spiReads (f : SpiFrame) (waits : List (Fin 49)) (i pos k : Nat) {r : Run} (h : r.s.Tidy) :
    (spiReads f waits r i pos k).s.Tidy := by
  induction k generalizing r i pos with
  | zero => exact h
  | succ k ih =>
    unfold Machine.spiReads
    extract_lets w n o word r1 stop next q r2
    have h1 : r1.s.Tidy := h.portRead ..
    have h2 : r2.s.Tidy := by
      unfold r2
      split
      · exact h1.portRead ..
      · exact h1
    split
    · exact ih _ _ h1
    · exact h2

theorem spiFrame (h : s.Tidy) (op : Nat) (f : SpiFrame) {go : Run → Run} (hgo : ∀ r, r.s.Tidy → (go r).s.Tidy) :
    AnswersOk (s.spiFrame op f go) := by
  unfold State.spiFrame
  refine .ite (.next h) ?_
  extract_lets s0 sent s1 cut dom fin c r
  have h1 : s1.Tidy := h.of_eq (by simp [s1, s0])
  have hfin : ∀ (r : Run) (fails : List Fail) (fill : Nat), r.s.Tidy → AnswersOk (fin r fails fill) := fun r fails fill hr => by
    have hb : ((if fails.any (fun x => x.2.1 == 1 && (x.2.2 == 9 || x.2.2 == 10 || x.2.2 == 14)) then r.s.dropK .spi
        else r.s).endBurst .spi).Tidy :=
      endBurst (.ite (hr.dropK .spi) hr) .spi
    exact .next (hb.of_eq (by simp))
  have hc : c.2.Tidy := h1.of_eq (by simp [c])
  exact .ite (hfin _ _ _ h1) (.ite (hfin _ _ _ h1) (.ite (hfin _ _ _ hc) (hfin _ _ _ (hgo _ hc))))

end State.Tidy
end Sys2Proof.Machine
end

section

/-!
PROOF. O5: every step keeps the staged copies in order (06 R197, R198).
-/

namespace Sys2Proof.Machine

/-! ### The commands that touch staged copies -/

namespace State.Tidy
variable {s : State}

theorem answers_release (h : s.Tidy) (test : Bool) (usec : Word) : AnswersOk (execRelease test s usec) :=
  .ite (.next (sliceAtRelease (h.of_eq (by simp)))) (.next h)

theorem answers_resetnAssert (h : s.Tidy) : AnswersOk (execResetnAssert s) := by
  unfold execResetnAssert
  split
  · exact .next h
  · exact .next h
  · exact .next (of_nil (by simp))

theorem answers_wakePin (h : s.Tidy) (high : Bool) : AnswersOk (execWakePin s high) := by
  have h1 : ({ s with pins := { s.pins with wake := high } } : State).Tidy := h.of_eq rfl
  exact .next (.ite (h1.wakeBy ..) h1)

theorem answers_energyDetect (h : s.Tidy) (on : Bool) : AnswersOk (execEnergyDetect s on) := by
  have h1 : ({ s with pins := { s.pins with energy := on } } : State).Tidy := h.of_eq rfl
  exact .next (.ite (h1.wakeBy ..) h1)

theorem answers_csnWake (h : s.Tidy) : AnswersOk (execCsnWake s) := by
  unfold execCsnWake
  extract_lets e srcPins s0 s1
  have h0 : s0.Tidy := .ite (h.of_eq rfl) h
  have h1 : s1.Tidy := h0.wakeBy ..
  exact .next (.ite (h1.of_eq rfl) h1)

theorem answers_wakeComplete (h : s.Tidy) (periods : Word) : AnswersOk (execWakeComplete periods s) := by
  unfold execWakeComplete
  split
  · exact .next (sliceAtWake (h.of_eq (by simp)))
  · exact .next h

theorem answers_frequencyWindowEnd (h : s.Tidy) (count : BitVec 20) : AnswersOk (execFrequencyWindowEnd count s) := by
  have h1 : (s.p F.clkFmeas_COUNT 0 count.toNat).Tidy := h.of_eq rfl
  exact .ite (.next h) (.ite (.next (h.of_eq rfl)) (.ite (.next h1.pllLost) (.ite (.next (h1.of_eq (by simp))) (.next h1))))

theorem answers_domainResetComplete (h : s.Tidy) (x : Dom) : AnswersOk (execDomainResetComplete x s) := by
  unfold execDomainResetComplete
  split
  · exact .next (.ite (h.domResetEnd _ _) h)
  · exact .next h

theorem answers_sliceBoundary (h : s.Tidy) : AnswersOk (execSliceBoundary s) :=
  .ite (.next h) (.next (sliceWork (h.of_eq (by rfl)) _ _))

theorem answers_spiStatus (h : s.Tidy) (f : SpiFrame) : AnswersOk (execSpiStatus f s) := by
  unfold execSpiStatus
  exact h.spiFrame 0 f fun _ hr => hr

theorem answers_spiWrite (h : s.Tidy) (f : SpiFrame) : AnswersOk (execSpiWrite f s) := by
  unfold execSpiWrite
  exact h.spiFrame 1 f fun _ hr => spiWrites f 0 _ hr

theorem answers_spiWritef (h : s.Tidy) (f : SpiFrame) : AnswersOk (execSpiWritef f s) := by
  unfold execSpiWritef
  exact h.spiFrame 3 f fun _ hr => spiWrites f 0 _ hr

theorem answers_spiRead (h : s.Tidy) (f : SpiFrame) (waits : List (Fin 49)) : AnswersOk (execSpiRead f waits s) := by
  unfold execSpiRead
  exact h.spiFrame 2 f fun _ hr => spiReads f waits 0 5 _ hr

theorem answers_rackPop (h : s.Tidy) (p : Port) (d : Dom) (n : Fin 32) (word : Fin 4) (flip : BitVec 39) :
    AnswersOk (execRackPop p d n s word flip) := by
  have h1 : (s.rackFlip n word.val flip.toNat).Tidy := h.of_eq (by simp)
  exact h1.readCmd ..

theorem answers_copyExecute (h : s.Tidy) (k : Fin 65) : AnswersOk (execCopyExecute k s) := by
  unfold execCopyExecute
  refine .ite (.next h) ?_
  extract_lets s1 s2
  have h1 : s1.Tidy := by
    unfold s1
    split
    · exact h.of_eq (by simp)
    · have hpick : s.copyPick.2.Tidy := h.of_eq (by simp)
      generalize s.copyPick = m at hpick
      obtain ⟨_ | n, t⟩ := m
      · exact hpick
      · exact hpick.of_eq (by simp)
  have h2 : s2.Tidy := h1.copyWords _
  split
  · exact .next (.ite (h2.of_eq (by simp)) h2)
  · exact .next h2

theorem answers_waitTimeout (h : s.Tidy) (agent : Fin 19) : AnswersOk (execWaitTimeout agent s) := by
  unfold execWaitTimeout
  split
  · exact .ite (.next h) (.next (abortWait (h.of_eq (by simp)) _ _))
  · exact .next h

theorem answers_deadlockScan (h : s.Tidy) : AnswersOk (execDeadlockScan s) :=
  .ite (.next h) (.next (h.each fun _ _ ht => abortWait (ht.of_eq (by simp)) _ _))

theorem answers_pwmMidPoint (h : s.Tidy) (n : Fin 6) : AnswersOk (execPwmMidPoint n s) := by
  have h1 := h.pPoint n fun e => pOf n e && !isMode n e
  exact .ite (.next (h1.of_eq (by simp))) (.next h)

theorem answers_cmpChange (h : s.Tidy) (n : Fin 6) (asserted : Bool) (c : BitVec 16) : AnswersOk (execCmpChange n asserted c s) := by
  have h1 : (s.modPw n (fun p => { p with cmp := asserted, cnt := if s.counting n then c.toNat else p.cnt })).Tidy := h.of_eq rfl
  exact .next (.ite (h1.cmpActs ..) h1)

theorem answers_blankingClose (h : s.Tidy) (n : Fin 6) (c : BitVec 16) : AnswersOk (execBlankingClose n c s) := by
  unfold execBlankingClose
  refine .ite (.next h) ?_
  extract_lets s1 s2
  have h2 : s2.Tidy := h.of_eq (by simp [s2, s1])
  exact .next (.ite (h2.cmpActs ..) h2)

theorem answers_syncPulse (h : s.Tidy) (n : Fin 6) (len : BitVec 21) : AnswersOk (execSyncPulse n len s) := by
  have h1 : (s.modPw n (fun p => { p with syncSent := true })).Tidy := h.of_eq rfl
  exact .ite (.ite (.next h1) (.ite (.next (.ite (h1.pwmStart _) h1)) (.ite (.next (h1.pwmBoundary ..)) (.next h1)))) (.next h)

theorem answers_loopUpdate (h : s.Tidy) (i : Fin 6) : AnswersOk (execLoopUpdate i s) := by
  unfold execLoopUpdate
  split
  · exact .next h
  · extract_lets old s0 mode iref ieff e x d r s1 upi u slew k out dmax openNow s2 s3 s4
    have h3 : s3.Tidy := h.of_eq (by simp [s3, s2, s1, r, s0])
    have h4 : s4.Tidy := .ite (h3.stageCa ..) h3
    exact .ite (.next h) (.ite (.next (h.of_eq rfl)) (.ite (.next (h.of_eq rfl)) (.next (.ite (h4.of_eq (by simp)) h4))))

theorem answers_scanSlotStart (h : s.Tidy) : AnswersOk (execScanSlotStart s) := by
  unfold execScanSlotStart
  refine .ite (.next h) ?_
  split
  · exact .next (h.frameBegin ..)
  · exact .next (.ite (h.of_eq (by simp)) h)

theorem answers_fsyncEdge (h : s.Tidy) (rising : Bool) : AnswersOk (execFsyncEdge s rising) := by
  unfold execFsyncEdge
  extract_lets srcPins s1 t mark
  have h1 : s1.Tidy := .ite (h.of_eq rfl) h
  have hmark : ∀ {u : State}, u.Tidy → (mark u).Tidy := fun hu => hu.of_eq rfl
  have hlock : (s1.pb F.gridStat_LOCK 0 true).Tidy := h1.of_eq rfl
  exact .ite (.next h1) (.ite (.next (hmark (.ite (h1.of_eq (by simp)) (h1.of_eq (by simp)))))
    (.ite (.next (hmark (hlock.frameBegin ..))) (.next h1)))

theorem answers_fsyncTimeout (h : s.Tidy) : AnswersOk (execFsyncTimeout s) := by
  have hlol : (s.pb F.gridStat_LOL 0 true).Tidy := h.of_eq rfl
  exact .ite (.next h) (.ite (.next (h.of_eq (by simp))) (.ite (.next ((hlol.frameBegin none true).of_eq (by simp))) (.next h)))

theorem answers_lcChangeDone (h : s.Tidy) : AnswersOk (execLcChangeDone s) := by
  unfold execLcChangeDone
  split
  · exact .next h
  · extract_lets s1 s2
    have h1 : s1.Tidy := .ite (h.each fun i t ht => ht.of_eq rfl) h
    have h2 : s2.Tidy := h1.of_eq (by simp [s2])
    exact .next (.ite h2.u2dDetach h2)

theorem answers_engineStep (h : s.Tidy) (c : Fin 16) : AnswersOk (execEngineStep c s) := by
  have h1 := h.u2dRequest 4 (BitVec.ofNat 24 (RegId.u2dStep.addr 0)) (BitVec.ofNat 32 (2 ^ 31 + c.val))
  exact .ite (.next h) (.ite (.next h.stepRun) (.ite (.next h) (.next (.ite h1.stepRun h1))))

theorem answers_breakpointHit (h : s.Tidy) (e : Fin 4) : AnswersOk (execBreakpointHit e s) := by
  unfold execBreakpointHit
  extract_lets s0 at'
  have h0 : s0.Tidy := h.of_eq (by simp [s0])
  split
  · exact .next h
  · exact .next ((h0.haltTo _).of_eq rfl)

/-- Every command: port accesses, instructions and bakes by the rules above, the others stage and bake nothing. -/
theorem answers (h : s.Tidy) (i : Instr) : AnswersOk (exec i s) := by
  cases i
  case hwdtSvcWrite | hwdtCfgWrite | deepStandby | retentionStandby | networkWakeStandby | bakeHoldWrite | lockSet | snapReq
    | domainReset | sessionOpen | sessionResponse | sessionClose | spiCounterClear | netTfloorWrite | netCounterClear | rackPush
    | rackEnable | rackPartWrite | semGive | semConfigWrite | program | verify | swap | invalidate | cancel | icacheInvalidate
    | softwareTrigger | timeMatchArm | kill | endslice | resume | flush | adcSoftwareTrigger | cal | restore | fail | tlmCounterLoad
    | faultClear | domainRelease | enter | exit | load | revoke | lcChangeRequest | lcResponse =>
    exact h.writeReg ..
  case registerWrite | setAliasWrite | clearAliasWrite | toggleAliasWrite | bitAliasWrite | wideLoWrite =>
    exact h.writeCmd ..
  case add | sub | and | or | xor | shl | shr | sar | mul | mulq | min | max | adds | subs | cmp | addi | andi | ori | xori | shli
    | shri | sari | movi | movhi | cmpi | ldw | ldh | ldb | stw | sth | stb | b | call | jr | callr | loop | pxr | pxw | fade | blend
    | lut | push | pop | take | give | waitev | sliceend | endRecipe | trap | nop | rds | fence =>
    exact h.runs ..
  case powerOnReset | brownOut => exact .next (of_nil (staged_deviceReset ..))
  case vbatBelowVret => exact .next (of_nil (by simp))
  case resetnAssert => exact h.answers_resetnAssert
  case deviceWatchdogReset | startupOverdue => exact .ite (.next (of_nil (by simp))) (.next h)
  case release => exact h.answers_release ..
  case wakePin => exact h.answers_wakePin ..
  case wakeTimerExpiry => exact .next (h.wakeBy ..)
  case csnWake => exact h.answers_csnWake
  case energyDetect => exact h.answers_energyDetect ..
  case wakeComplete => exact h.answers_wakeComplete ..
  case pllUnlock => exact .next h.pllLost
  case fpwmStop => exact .next (.ite (h.clockStop 18) h)
  case frequencyWindowEnd => exact h.answers_frequencyWindowEnd ..
  case postedWriteEffect => exact .next (.ite (h.postHead _) h)
  case rcRead | semTake => exact h.readCmd ..
  case domainResetComplete => exact h.answers_domainResetComplete ..
  case sliceBoundary => exact h.answers_sliceBoundary
  case spiStatus => exact h.answers_spiStatus ..
  case spiWrite => exact h.answers_spiWrite ..
  case spiWritef => exact h.answers_spiWritef ..
  case spiRead => exact h.answers_spiRead ..
  case regrd | regwr => exact .next (h.regMsg ..)
  case rackPop => exact h.answers_rackPop ..
  case copyExecute => exact h.answers_copyExecute ..
  case waitTimeout => exact h.answers_waitTimeout ..
  case deadlockScan => exact h.answers_deadlockScan
  case pwmPeriodStart => exact .next (.ite (h.pwmBoundary ..) h)
  case pwmMidPoint => exact h.answers_pwmMidPoint ..
  case cmpChange => exact h.answers_cmpChange ..
  case blankingClose => exact h.answers_blankingClose ..
  case syncPulse => exact h.answers_syncPulse ..
  case loopUpdate => exact h.answers_loopUpdate ..
  case scanFrameStart =>
    exact .ite (.next h) (.ite (.next (h.frameBegin ..)) (.ite (.next (h.frameBegin ..)) (.next h)))
  case scanSlotStart => exact h.answers_scanSlotStart
  case fsyncEdge => exact h.answers_fsyncEdge ..
  case fsyncTimeout => exact h.answers_fsyncTimeout
  case lcChangeDone => exact h.answers_lcChangeDone
  case attach | detach | u2dRead | u2dWrite | u2dStatus => exact h.u2dFrame ..
  case engineHalt | tracePop => exact .next (.ite (h.u2dRequest ..) h)
  case engineStep => exact h.answers_engineStep ..
  case breakpointHit => exact h.answers_breakpointHit ..
  all_goals exact .of_nextStaged h (by simp [exec, execDimPeriodEdge, execEccWriteBack, execCrumbSweepRead, execLarderWipeDone,
    execEnergyAccumulate, execTriginEdge, execConversionStart, execRegularDelayEnd, execAdcPowerDown, execAdcWakeUp,
    execAdcCalibrationDone, execSharedConversionDue, execSharedConversionSkip, execLcLockoutEnd, execVddGlitch, execSessionLockoutEnd,
    execQuantumEnd, execPixelCounterWrap, execPixelOpenDetect, execPixelShortSample, execColumnSinkOff, execHeadroomSample,
    execRowOvercurrent, execFsyncOutputPulseEnd, execPwmCompare, execDeadTimeEnd, execTripnTrip, execCurrentLimitTrip, execOvpTrip,
    execTrgEvent, execProofCycleDone, execCoarseEntry, execProofIntervalElapsed, execBootstrapLockout, execGpioSlicePulseEnd,
    execLatchPoint, execResetnRelease, execDwdtHeartbeat, execHselMeasurementDone, execLfrcStable, execVdd11AvddInRegulation,
    execHfrcStable, execFuseLoadDone, execPllLock, execSramInitDone, execVrefSettled, execVcc5InRegulation, execVbatLowChange,
    execVbatHighChange, execVcc5UvChange, execAvddChange, execVddioLoss, execVddioGood, execHenRequest, execGpioEdge,
    execHostWatchdogExpiry, execStandbyEntryTimeout, execXtalQualified, execXtalQualifyTimeout, execReferenceSlewDone,
    execCrystalMonitorFail, execPllRelock, execClockGlitch, execLineReset, execPhyReady, execBeaconReceive, execBeaconTransmit,
    execPlcaBeaconLoss, execFrameReceive, execTimeHoldover, execEventSend, execEventRenew, execTransmitOpportunity,
    execEgressAckTimeout, execDieHot, execThermalShutdown, execThermalShutdownEnd])

end State.Tidy

/-- Settles O5: the front command, and the tick, keep the staged copies in order. -/
theorem stepKeepsStagedCopies : Obligations.StepKeepsStagedCopies := by
  unfold Obligations.StepKeepsStagedCopies
  intro s t hstep hs
  have h : s.Tidy := State.tidy_iff.mpr hs
  refine State.tidy_iff.mp (AnswersOk.tidy ?_ t hstep)
  unfold step
  split
  · exact .next (h.of_eq (by simp))
  · exact State.Tidy.answers (h.of_eq (by rfl)) _

end Sys2Proof.Machine
end

section

/-!
PROOF. Writes of the fields of a register (06 R185, R190, R197): what one field takes, and where it shows after all have had their turn.
-/

namespace Sys2Proof.Machine

/-! ### Bits of words -/

theorem bitsN_lt (n lo w : Nat) : bitsN n lo w < 2 ^ w := Nat.mod_lt _ (by positivity)

/-- A field of a word held in a register. -/
theorem bitsN_toNat_ofNat (n lo w : Nat) (h : lo + w ≤ 32) : bitsN (BitVec.ofNat 32 n).toNat lo w = bitsN n lo w := by
  refine Nat.eq_of_testBit_eq fun k => ?_
  rw [bitsN_testBit, bitsN_testBit, BitVec.toNat_ofNat, Nat.testBit_mod_two_pow]
  by_cases hk : k < w
  · simp [show lo + k < 32 by omega]
  · simp [hk]

/-! ### Staged copies by field (06 R197) -/

theorem stagedVal_append (l : List Staged) (e : Staged) (a lo : Nat) :
    stagedVal (l ++ [e]) a lo = (stagedVal l a lo).or (stagedVal [e] a lo) := by
  induction l with
  | nil => rfl
  | cons x t ih =>
    simp only [List.cons_append, stagedVal, ih]
    split <;> rfl

/-- Copies of other fields may go. -/
theorem stagedVal_filter (l : List Staged) (q : Staged → Bool) {a lo : Nat}
    (h : ∀ e, e.addr = a → e.lo = lo → q e = true) : stagedVal (l.filter q) a lo = stagedVal l a lo := by
  induction l with
  | nil => rfl
  | cons x t ih =>
    by_cases hx : x.addr = a ∧ x.lo = lo
    · simp [h x hx.1 hx.2, stagedVal, hx]
    · have hx' : ¬(decide (x.addr = a) && decide (x.lo = lo)) = true := by simpa using hx
      simp only [List.filter_cons, stagedVal, if_neg hx', ← ih]
      split
      · rw [stagedVal, if_neg hx']
      · rfl

theorem stagedVal_none {l : List Staged} {a lo : Nat} (h : ∀ e ∈ l, ¬(e.addr = a ∧ e.lo = lo)) : stagedVal l a lo = none := by
  induction l with
  | nil => rfl
  | cons x t ih =>
    rw [stagedVal, if_neg (by simpa using h x List.mem_cons_self)]
    exact ih fun e he => h e (List.mem_cons_of_mem _ he)

/-- The copy of a field that has just been staged. -/
theorem stagedVal_stagePut_same (e : Staged) (l : List Staged) : stagedVal (stagePut e l) e.addr e.lo = some e.val := by
  rw [stagePut, stagedVal_append, stagedVal_none fun x hx =>
    not_and_or.mpr (by simpa using (List.mem_filter.mp hx).2)]
  simp [stagedVal]

theorem stagedVal_stagePut_ne (e : Staged) (l : List Staged) {a lo : Nat} (h : ¬(e.addr = a ∧ e.lo = lo)) :
    stagedVal (stagePut e l) a lo = stagedVal l a lo := by
  have hq : ∀ x : Staged, x.addr = a → x.lo = lo → (!(decide (x.addr = e.addr) && decide (x.lo = e.lo))) = true := by
    rintro x rfl rfl
    simpa only [← Bool.decide_and, Bool.not_eq_true', decide_eq_false_iff_not, eq_comm (b := e.addr), eq_comm (b := e.lo)] using h
  rw [stagePut, stagedVal_append, stagedVal_filter _ _ hq, stagedVal, if_neg (by simpa using h)]
  exact Option.or_none

/-- What keeps place and value of each copy keeps the value staged for each field. -/
theorem stagedVal_map (l : List Staged) (g : Staged → Staged) (a lo : Nat)
    (h : ∀ e, (g e).addr = e.addr ∧ (g e).lo = e.lo ∧ (g e).val = e.val) : stagedVal (l.map g) a lo = stagedVal l a lo := by
  induction l with
  | nil => rfl
  | cons x t ih =>
    obtain ⟨ha, hl, hv⟩ := h x
    rw [List.map_cons, stagedVal, stagedVal, ha, hl, hv, ih]

/-! ### One field under a write (06 R185, R190) -/

/-- The value that a write of a field goes by: its active value, or for one that waits for a boundary its staged copy. -/
def State.present (s : State) (r : RegId) (i : Nat) (u : Upd) (f : Field) : Nat :=
  let act := bitsN u.word f.lo f.w
  if f.bake = .i then act else (stagedVal s.staged (r.addr i) f.lo).getD act

/-- The value that a write gives an RW field of present value `cur`, where the field takes one: it is the writer's, it does not ignore
the write, the value is not reserved. -/
def State.takes (s : State) (p : Port) (d : Nat) (r : RegId) (i : Nat) (v : View) (w cur : Nat) (f : Field) : Option Nat :=
  (fieldNew v cur w f).filter fun x => s.fieldOwned p d r i f && !s.ignores r i f cur x && s.valueOk r i f x

section
variable {s : State} {p : Port} {d : Nat} {r : RegId} {i : Nat} {v : View} {w : Nat} {u : Upd} {f : Field}

/-- A register of which each field takes every value that is not reserved. -/
def openReg (r : RegId) : Prop := ∀ (s : State) (p : Port) (d i : Nat) (f : Field), s.fieldOwned p d r i f = true ∧
  ∀ cur x, s.ignores r i f cur x = false ∧ s.valueOk r i f x = f.ok.ok x

theorem takes_open {cur x : Nat} (hr : openReg r) (hx : fieldNew v cur w f = some x) (hok : f.ok.ok x = true) :
    s.takes p d r i v w cur f = some x := by
  obtain ⟨hown, h⟩ := hr s p d i f
  obtain ⟨hign, hval⟩ := h cur x
  simp [State.takes, hx, hown, hign, hval, hok]

theorem takes_open_none {cur : Nat} (hx : fieldNew v cur w f = none) : s.takes p d r i v w cur f = none := by
  rw [State.takes, hx, Option.filter_none]

/-- A field that takes no value leaves the word, the staged copies and the collisions. -/
theorem writeRw_none (h : s.takes p d r i v w (s.present r i u f) f = none) :
    (s.writeRw p d r i v w u f).word = u.word ∧ (s.writeRw p d r i v w u f).st = u.st ∧
      (s.writeRw p d r i v w u f).coll = u.coll := by
  unfold State.takes State.present at h
  unfold State.writeRw
  dsimp only at h ⊢
  generalize (if f.bake = .i then bitsN u.word f.lo f.w else _) = cur at h ⊢
  cases hx : fieldNew v cur w f with
  | none => exact ⟨rfl, rfl, rfl⟩
  | some x =>
    have hno := Option.filter_eq_none_iff.mp h x hx
    dsimp only
    cases ho : s.fieldOwned p d r i f
    · exact ⟨rfl, rfl, rfl⟩
    cases hg : s.ignores r i f cur x
    · cases hv : s.valueOk r i f x
      · exact ⟨rfl, rfl, rfl⟩
      · simp [ho, hg, hv] at hno
    · exact ⟨rfl, rfl, rfl⟩

/-- The collisions after a field has taken the value `x`. -/
def State.colls (s : State) (p : Port) (r : RegId) (i : Nat) (v : View) (w : Nat) (u : Upd) (f : Field) (x : Nat) : List Nat :=
  if s.collides p (r.addr i) f v w x then u.coll ++ [s.collDom p r i f] else u.coll

theorem writeRw_immediate {x : Nat} (h : s.takes p d r i v w (s.present r i u f) f = some x) (hb : f.bake = .i) :
    s.writeRw p d r i v w u f =
      { u with word := putN u.word f.lo f.w (s.inOrder p (r.addr i) f v w x), coll := s.colls p r i v w u f x } := by
  obtain ⟨hx, ho⟩ := Option.filter_eq_some_iff.mp h
  simp only [Bool.and_eq_true, Bool.not_eq_true', State.present, hb, if_true] at hx ho
  simp only [State.writeRw, hb, if_true, hx, ho, State.colls, Bool.not_true, Bool.false_eq_true, if_false]
  split <;> rfl

theorem writeRw_staged {x : Nat} (h : s.takes p d r i v w (s.present r i u f) f = some x) (hb : f.bake ≠ .i) :
    s.writeRw p d r i v w u f = { u with
      st := stagePut (s.stageOf p d r i f v w x (s.inOrder p (r.addr i) f v w x)) u.st, coll := s.colls p r i v w u f x } := by
  obtain ⟨hx, ho⟩ := Option.filter_eq_some_iff.mp h
  simp only [Bool.and_eq_true, Bool.not_eq_true', State.present, hb, if_false] at hx ho
  simp only [State.writeRw, hb, if_false, hx, ho, State.colls, Bool.not_true, Bool.false_eq_true]
  split <;> rfl

/-- A write of one field reaches no bit outside it. -/
theorem word_writeField_apart {lo n : Nat} (h : lo + n ≤ f.lo ∨ f.lo + f.w ≤ lo) :
    bitsN (s.writeField p d r i v w u f).word lo n = bitsN u.word lo n := by
  have hput : ∀ y, bitsN (putN u.word f.lo f.w y) lo n = bitsN u.word lo n := fun y => bitsN_putN_ne _ _ _ _ _ _ h
  unfold State.writeField
  dsimp only
  split
  · cases hx : s.takes p d r i v w (s.present r i u f) f with
    | none => rw [(writeRw_none hx).1]
    | some x =>
      by_cases hb : f.bake = .i
      · rw [writeRw_immediate hx hb]
        exact hput _
      · rw [writeRw_staged hx hb]
  · split
    · split
      · rfl
      · exact hput _
    · rfl
  · exact hput _
  · split <;> rfl
  · rfl

/-- A write of one field stages no copy of another. -/
theorem st_writeField_ne {a lo : Nat} (h : ¬(r.addr i = a ∧ f.lo = lo)) :
    stagedVal (s.writeField p d r i v w u f).st a lo = stagedVal u.st a lo := by
  unfold State.writeField
  dsimp only
  split
  · cases hx : s.takes p d r i v w (s.present r i u f) f with
    | none => rw [(writeRw_none hx).2.1]
    | some x =>
      by_cases hb : f.bake = .i
      · rw [writeRw_immediate hx hb]
      · rw [writeRw_staged hx hb]
        exact stagedVal_stagePut_ne _ _ h
  · repeat' split
    all_goals rfl
  · rfl
  · split <;> rfl
  · rfl

/-! ### The fields of a register under a write -/

/-- The fields of register `i` after a write on them in turn. -/
def State.fields (s : State) (p : Port) (d : Nat) (r : RegId) (i : Nat) (v : View) (w : Nat) (u : Upd) : Upd :=
  (effFields r i).foldl (s.writeField p d r i v w) u

/-- Two fields have bits of their own. -/
def Field.apart (f g : Field) : Bool := f.lo != g.lo && (f.lo + f.w ≤ g.lo || g.lo + g.w ≤ f.lo)

/-- The fields of a register have bits of their own. -/
def splitFields (r : RegId) (i : Nat) : Prop := (effFields r i).Pairwise fun f g => f.apart g = true

theorem Field.apart_iff {f g : Field} : f.apart g = true ↔ f.lo ≠ g.lo ∧ (f.lo + f.w ≤ g.lo ∨ g.lo + g.w ≤ f.lo) := by
  simp [Field.apart]

/-- The bits and the copy of one field come from its own turn in the write, which finds its bits as they were. -/
theorem foldl_writeField_at {l : List Field} (hl : l.Pairwise fun f g => f.apart g = true) (hf : f ∈ l) (u : Upd) :
    ∃ u0, bitsN u0.word f.lo f.w = bitsN u.word f.lo f.w ∧
      bitsN (l.foldl (s.writeField p d r i v w) u).word f.lo f.w = bitsN (s.writeField p d r i v w u0 f).word f.lo f.w ∧
      stagedVal (l.foldl (s.writeField p d r i v w) u).st (r.addr i) f.lo =
        stagedVal (s.writeField p d r i v w u0 f).st (r.addr i) f.lo := by
  induction l generalizing u with
  | nil => cases hf
  | cons g t ih =>
    obtain ⟨hg, ht⟩ := List.pairwise_cons.mp hl
    rcases List.mem_cons.mp hf with rfl | hf
    · have hapart : ∀ x ∈ t, f.lo ≠ x.lo ∧ (f.lo + f.w ≤ x.lo ∨ x.lo + x.w ≤ f.lo) := fun x hx => Field.apart_iff.mp (hg x hx)
      refine ⟨u, rfl, ?_, ?_⟩
      · exact each_keeps_mem (fun u : Upd => bitsN u.word f.lo f.w) t (fun x u => s.writeField p d r i v w u x) _ fun x hx u =>
          word_writeField_apart (hapart x hx).2
      · exact each_keeps_mem (fun u : Upd => stagedVal u.st (r.addr i) f.lo) t (fun x u => s.writeField p d r i v w u x) _
          fun x hx u => st_writeField_ne fun e => (hapart x hx).1 e.2.symm
    · obtain ⟨u0, h0, hword, hst⟩ := ih ht hf (s.writeField p d r i v w u g)
      obtain ⟨-, hgf⟩ := Field.apart_iff.mp (hg f hf)
      exact ⟨u0, h0.trans (word_writeField_apart hgf.symm), hword, hst⟩

/-- An RW field of class I takes its value at once. -/
theorem word_fields_takes {x : Nat} (hl : splitFields r i) (hf : f ∈ effFields r i) (hacc : f.acc = .rw) (hb : f.bake = .i)
    (hx : s.takes p d r i v w (bitsN u.word f.lo f.w) f = some x) :
    bitsN (s.fields p d r i v w u).word f.lo f.w = s.inOrder p (r.addr i) f v w x % 2 ^ f.w := by
  obtain ⟨u0, h0, hword, -⟩ := foldl_writeField_at (s := s) (p := p) (d := d) (v := v) (w := w) hl hf u
  have hx0 : s.takes p d r i v w (s.present r i u0 f) f = some x := by rwa [State.present, if_pos hb, h0]
  rw [State.fields, hword, State.writeField, hacc]
  dsimp only
  rw [writeRw_immediate hx0 hb]
  exact bitsN_putN_same ..

/-- An RW field of class I that takes no value keeps its bits. -/
theorem word_fields_none (hl : splitFields r i) (hf : f ∈ effFields r i) (hacc : f.acc = .rw) (hb : f.bake = .i)
    (hx : s.takes p d r i v w (bitsN u.word f.lo f.w) f = none) :
    bitsN (s.fields p d r i v w u).word f.lo f.w = bitsN u.word f.lo f.w := by
  obtain ⟨u0, h0, hword, -⟩ := foldl_writeField_at (s := s) (p := p) (d := d) (v := v) (w := w) hl hf u
  have hx0 : s.takes p d r i v w (s.present r i u0 f) f = none := by rwa [State.present, if_pos hb, h0]
  rw [State.fields, hword, State.writeField, hacc]
  dsimp only
  rw [(writeRw_none hx0).1, h0]

/-- An RW field that waits for a boundary takes its value in its staged copy. -/
theorem st_fields_takes {x : Nat} (hl : splitFields r i) (hf : f ∈ effFields r i) (hacc : f.acc = .rw) (hb : f.bake ≠ .i)
    (hx : s.takes p d r i v w (s.present r i u f) f = some x) :
    stagedVal (s.fields p d r i v w u).st (r.addr i) f.lo = some (s.inOrder p (r.addr i) f v w x) := by
  obtain ⟨u0, h0, -, hst⟩ := foldl_writeField_at (s := s) (p := p) (d := d) (v := v) (w := w) hl hf u
  have hx0 : s.takes p d r i v w (s.present r i u0 f) f = some x := by rwa [State.present, h0]
  rw [State.fields, hst, State.writeField, hacc]
  dsimp only
  rw [writeRw_staged hx0 hb]
  exact stagedVal_stagePut_same (s.stageOf p d r i f v w x (s.inOrder p (r.addr i) f v w x)) u0.st

/-- A register whose fields all wait for a boundary keeps its word. -/
theorem word_fields_staged (h : ∀ f ∈ effFields r i, f.acc = .rw ∧ f.bake ≠ .i) : (s.fields p d r i v w u).word = u.word :=
  each_keeps_mem Upd.word _ (fun f u => s.writeField p d r i v w u f) u fun f hf u => by
    obtain ⟨hacc, hb⟩ := h f hf
    rw [State.writeField, hacc]
    dsimp only
    cases hx : s.takes p d r i v w (s.present r i u f) f with
    | none => exact (writeRw_none hx).1
    | some x => rw [writeRw_staged hx hb]

/-- With no other write in the cycle the value stands (05 R161). -/
theorem inOrder_alone (h : (s.cycFor p).accs = []) (a : Nat) (x : Nat) : s.inOrder p a f v w x = x := by simp [State.inOrder, h]

end

end Sys2Proof.Machine
end

section

/-!
PROOF. Writes of a register (06 R185, R218): what it records beside the register itself, and a write that records nothing.
-/

namespace Sys2Proof.Machine

/-! ### Records of the register model (05 R177; 06 R231, R232) -/

/-- The registers in which an event of the register model is recorded, with the interrupt that it makes pending. -/
def recordAddrs : List Nat :=
  (upto 4).flatMap (fun d => [RegId.regStat.addr d, RegId.regCap.addr d, RegId.domViol.addr d, RegId.dispStat.addr d])
    ++ (upto 12).map RegId.intPend.addr

theorem mem_recordAddrs : ∀ d : Fin 4, RegId.regStat.addr d ∈ recordAddrs ∧ RegId.regCap.addr d ∈ recordAddrs ∧
    RegId.domViol.addr d ∈ recordAddrs ∧ RegId.dispStat.addr d ∈ recordAddrs := by decide

theorem intPend_mem_recordAddrs : ∀ k : Fin 12, RegId.intPend.addr k ∈ recordAddrs := by decide

/-- Some events have been recorded, and no other register has been written. -/
structure Recorded (s t : State) : Prop where
  quiet : Quiet s t
  rd : ∀ r j, r.addr j ∉ recordAddrs → t.rd r j = s.rd r j

namespace Recorded

theorem refl (s : State) : Recorded s s := ⟨.refl s, fun _ _ _ => rfl⟩

theorem trans {s t u : State} (a : Recorded s t) (b : Recorded t u) : Recorded s u :=
  ⟨a.quiet.trans b.quiet, fun r j h => (b.rd r j h).trans (a.rd r j h)⟩

theorem ite {s t u : State} {c : Prop} [Decidable c] (a : Recorded s t) (b : Recorded s u) : Recorded s (if c then t else u) := by
  split
  · exact a
  · exact b

theorem each {α : Type} {l : List α} {f : α → State → State} (h : ∀ a ∈ l, ∀ t, Recorded t (f a t)) (s : State) :
    Recorded s (Machine.each l f s) := by
  induction l generalizing s with
  | nil => exact .refl s
  | cons a t ih => exact (h a List.mem_cons_self s).trans (ih (fun b hb => h b (List.mem_cons_of_mem a hb)) (f a s))

theorem wr (s : State) {r : RegId} {i : Nat} (w : Word) (h : r.addr i ∈ recordAddrs) : Recorded s (s.wr r i w) :=
  ⟨.wr .., fun r' j hj => rd_wr_ne s r r' i j w fun e => hj (e ▸ h)⟩

theorem badEvt (s : State) {d : Nat} (hd : d < 4) : Recorded s (s.badEvt d) := .wr s _ (mem_recordAddrs ⟨d, hd⟩).2.2.2

theorem fireEvent (s : State) (evt : Nat) (src : Option Nat) (data : Word) : Recorded s (s.fireEvent evt src data) := by
  refine .each (fun i _ t => ⟨.fireEntry .., fun r j hj => ?_⟩) s
  have hbad := (Recorded.badEvt t (Nat.mod_lt _ (by decide) : t.g F.dispCfg_DOM i < 4)).rd r j hj
  unfold State.fireEntry
  dsimp only
  split
  · rfl
  split
  · exact hbad
  split
  · exact hbad
  · split <;> split <;> rfl

theorem pendIrq (s : State) (n : Nat) : Recorded s (s.pendIrq n) := by
  unfold State.pendIrq
  split
  · exact .refl s
  next d hd =>
    refine .ite (.refl s) ?_
    have hlt := State.irqOwner_lt hd
    have hn := State.lt_of_irqOwner hd
    have hset : Recorded s (s.setBits .intPend (3 * d + n / 32) (2 ^ (n % 32))) :=
      .wr s _ (intPend_mem_recordAddrs ⟨3 * d + n / 32, by omega⟩)
    exact (hset.trans (.fireEvent ..)).trans ⟨.evWake .., fun r j _ => rd_evWake ..⟩

theorem regEvent (s : State) {d : Nat} {flag : Fld} (port addr kind : Nat) (hd : d < 4) (hf : flag.r = .regStat) :
    Recorded s (s.regEvent d flag port addr kind) := by
  obtain ⟨hstat, hcap, -, -⟩ := mem_recordAddrs ⟨d, hd⟩
  have hflag : Recorded s (s.pb flag d true) := .wr s _ (hf ▸ hstat)
  exact (hflag.trans (.ite (.wr _ _ hstat) (.wr _ _ hcap))).trans (.pendIrq ..)

theorem rsvw (s : State) {d : Nat} (port addr : Nat) (hd : d < 4) : Recorded s (s.rsvw d port addr) := .regEvent _ _ _ _ hd rfl
theorem wrcoll (s : State) {d : Nat} (port addr : Nat) (hd : d < 4) : Recorded s (s.wrcoll d port addr) := .regEvent _ _ _ _ hd rfl

theorem violate (s : State) {d : Nat} (port addr cause : Nat) (hd : d < 4) : Recorded s (s.violate d port addr cause) := by
  obtain ⟨-, -, hviol, -⟩ := mem_recordAddrs ⟨d, hd⟩
  exact (Recorded.ite (.wr _ _ hviol) (.wr _ _ hviol)).trans (.pendIrq ..)

end Recorded

/-! ### A write before it sets anything off (06 R185 steps 7 and 8) -/

/-- The fields of register `i` after a write of it. -/
def State.written (s : State) (p : Port) (d : Nat) (r : RegId) (i : Nat) (v : View) (w : Nat) : Upd :=
  s.fields p d r i v w { word := (s.rd r i).toNat, st := s.staged }

/-- Register `i` has taken the word and the staged copies of `u`; beside it, registers at `off` alone are written. -/
structure Wrote (off : List Nat) (s : State) (r : RegId) (i : Nat) (u : Upd) (t : State) : Prop where
  word : r.addr i ∉ off → t.rd r i = BitVec.ofNat 32 u.word
  other : ∀ q j, q.addr j ∉ off → q.addr j ≠ r.addr i → t.rd q j = s.rd q j
  staged : t.staged = u.st
  mem : t.mem = s.mem
  posted : t.posted = s.posted
  net : t.net = s.net
  holdHi : t.holdHi = s.holdHi
  pwm : t.pwm = s.pwm

namespace Wrote
variable {off : List Nat} {s t z : State} {r : RegId} {i : Nat} {u : Upd}

theorem noteWrite (h : Wrote off s r i u t) (old : State) (p : Port) (d : Nat) (q : RegId) (j : Nat) (v : View) (w : Nat) :
    Wrote off s r i u (t.noteWrite old p d q j v w) := ⟨h.word, h.other, h.staged, h.mem, h.posted, h.net, h.holdHi, h.pwm⟩

theorem unmarked (h : Wrote off s r i u t) (q : RegId) (j : Nat) : Wrote off s r i u (t.unmarked q j) :=
  ⟨h.word, h.other, h.staged, h.mem, h.posted, h.net, h.holdHi, h.pwm⟩

theorem recorded (h : Wrote recordAddrs s r i u t) (hz : Recorded t z) : Wrote recordAddrs s r i u z :=
  ⟨fun hr => (hz.rd r i hr).trans (h.word hr), fun q j hq hne => (hz.rd q j hq).trans (h.other q j hq hne),
    hz.quiet.staged.trans h.staged, hz.quiet.mem.trans h.mem, hz.quiet.posted.trans h.posted, hz.quiet.net.trans h.net,
    hz.quiet.holdHi.trans h.holdHi, hz.quiet.pwm.trans h.pwm⟩

/-- The register itself: it is written where its word changes. -/
theorem of_fields (s : State) (r : RegId) (i : Nat) (u : Upd) : Wrote off s r i u
    (if u.word = (s.rd r i).toNat then { s with staged := u.st } else { s.wr r i (BitVec.ofNat 32 u.word) with staged := u.st }) := by
  split
  next h =>
    refine ⟨fun _ => ?_, fun _ _ _ _ => rfl, rfl, rfl, rfl, rfl, rfl, rfl⟩
    rw [h, BitVec.ofNat_toNat, BitVec.setWidth_eq]
    rfl
  · exact ⟨fun _ => rd_wr_same .., fun q j _ hne => rd_wr_ne s r q i j _ hne, rfl, rfl, rfl, rfl, rfl, rfl⟩

end Wrote

/-- A register whose word stands in the register file, of which no field keeps a flag of ignored writes. -/
def plainReg (r : RegId) : Prop := isLive r = false ∧ isHeldHi r = false ∧ ∀ s i, State.ignFlag s r i = s

theorem applyReg_eq {s : State} {p : Port} {d a : Nat} {r : RegId} {i : Nat} {v : View} {w : Nat} (hr : plainReg r) :
    s.applyReg p d a r i v w =
      let u := s.written p d r i v w
      let s0 := State.unmarked (if u.word = (s.rd r i).toNat then { s with staged := u.st } else
        { s.wr r i (BitVec.ofNat 32 u.word) with staged := u.st }) r i
      let s1 := if u.rsvw || reservedOnes v (effFields r i) w then s0.rsvw (evDom p d) p.code a else s0
      let s2 := if u.viol then s1.violate d p.code a 1 else s1
      ((each u.coll.eraseDups (fun x s => s.wrcoll x p.code a) (s2.noteWrite s p d r i v w)).onWrite s p d a r i v w u.word
        (!u.cmdBad)).bakeNow p r i := by
  obtain ⟨hl, hh, hi⟩ := hr
  simp only [State.applyReg, hl, hh, hi, Bool.false_eq_true, if_false, Bool.false_or, decide_eq_true_eq, ite_self]
  rfl

/-- A write that records nothing. -/
structure Upd.Clean (u : Upd) : Prop where
  rsvw : u.rsvw = false
  cmdBad : u.cmdBad = false
  viol : u.viol = false
  coll : u.coll = []

/-- A write leaves its register written, and what it records; then comes what the register sets off. -/
theorem applyReg_wrote {s : State} {p : Port} {d : Dom} {a : Nat} {r : RegId} {i : Nat} {v : View} {w : Nat} (hr : plainReg r)
    (hcoll : ∀ x ∈ (s.written p d r i v w).coll, x < 4) : ∃ z, Wrote recordAddrs s r i (s.written p d r i v w) z ∧
      s.applyReg p d a r i v w =
        (z.onWrite s p d a r i v w (s.written p d r i v w).word (!(s.written p d r i v w).cmdBad)).bakeNow p r i := by
  rw [applyReg_eq hr]
  dsimp only
  generalize s.written p d r i v w = u at hcoll ⊢
  refine ⟨_, ?_, rfl⟩
  have hrsvw : ∀ (t : State) (b : Bool), Recorded t (if b then t.rsvw (evDom p d) p.code a else t) := fun t b =>
    .ite (.rsvw t _ _ (evDom_lt p d)) (.refl t)
  have hviol : ∀ (t : State) (b : Bool), Recorded t (if b then t.violate d p.code a 1 else t) := fun t b =>
    .ite (.violate t _ _ _ d.isLt) (.refl t)
  have hwrcoll : ∀ t : State, Recorded t (each u.coll.eraseDups (fun x s => s.wrcoll x p.code a) t) :=
    .each fun x hx t => .wrcoll t _ _ (hcoll x (List.mem_eraseDups.mp hx))
  exact ((((Wrote.of_fields s r i u).unmarked r i).recorded ((hrsvw ..).trans (hviol ..))).noteWrite ..).recorded (hwrcoll _)

/-- A write that records nothing leaves its register written, and no other. -/
theorem applyReg_clean {s : State} {p : Port} {d a : Nat} {r : RegId} {i : Nat} {v : View} {w : Nat} (hr : plainReg r)
    (hu : (s.written p d r i v w).Clean) (hres : reservedOnes v (effFields r i) w = false) :
    ∃ z, Wrote [] s r i (s.written p d r i v w) z ∧
      s.applyReg p d a r i v w = (z.onWrite s p d a r i v w (s.written p d r i v w).word true).bakeNow p r i := by
  rw [applyReg_eq hr]
  dsimp only
  generalize s.written p d r i v w = u at hu ⊢
  obtain ⟨hrsvw, hcmd, hviol, hcoll⟩ := hu
  simp only [hrsvw, hcmd, hviol, hcoll, hres, Bool.or_self, Bool.false_eq_true, if_false, List.eraseDups_nil, each, List.foldl_nil,
    Bool.not_false]
  exact ⟨_, .noteWrite (.unmarked (.of_fields ..) ..) .., rfl⟩

/-! ### The domains that collisions are recorded for (06 R218) -/

/-- A resource belongs to one of the four domains; a register that belongs to a domain by its index names it. -/
theorem State.regDom_lt (s : State) {r : RegId} {i : Nat} (h : r.rule.own = .dom → i / r.place.n2 < 4) : s.regDom r i < 4 := by
  have hsem : s.ownSem (i / r.place.n2) < 4 := by
    unfold State.ownSem
    split <;> exact s.own2_lt ..
  unfold State.regDom
  dsimp only
  split
  case h_1 hdom => exact h hdom
  exacts [s.own2_lt .., s.own2_lt .., s.own2_lt .., s.ownRack_lt _, hsem, s.own2_lt .., s.own2_lt .., s.own2_lt .., by decide,
    s.own2_lt .., by decide]

theorem State.collDom_lt (s : State) (p : Port) {r : RegId} (i : Nat) (f : Field) (h : r.rule.own ≠ .dom) : s.collDom p r i f < 4 := by
  have hirq : ∀ n, (s.irqOwner n).getD 0 < 4 := fun n => by
    cases ho : s.irqOwner n with
    | none => decide
    | some d => exact State.irqOwner_lt ho
  unfold State.collDom
  split
  · decide
  · split
    · exact hirq _
    · exact hirq _
    · exact s.regDom_lt fun e => absurd e h

theorem coll_writeField {s : State} {p : Port} {d : Nat} {r : RegId} {i : Nat} {v : View} {w : Nat} {u : Upd} {f : Field} {x : Nat}
    (hx : x ∈ (s.writeField p d r i v w u f).coll) : x ∈ u.coll ∨ x = s.collDom p r i f := by
  unfold State.writeField at hx
  dsimp only at hx
  split at hx
  · have hcolls : ∀ y, x ∈ s.colls p r i v w u f y → x ∈ u.coll ∨ x = s.collDom p r i f := fun y hy => by
      unfold State.colls at hy
      split at hy
      · exact (List.mem_append.mp hy).imp_right List.mem_singleton.mp
      · exact .inl hy
    cases ht : s.takes p d r i v w (s.present r i u f) f with
    | none => exact .inl ((writeRw_none ht).2.2 ▸ hx)
    | some y =>
      by_cases hb : f.bake = .i
      · rw [writeRw_immediate ht hb] at hx
        exact hcolls y hx
      · rw [writeRw_staged ht hb] at hx
        exact hcolls y hx
  · repeat' split at hx
    all_goals exact .inl hx
  · exact .inl hx
  · split at hx <;> exact .inl hx
  · exact .inl hx

/-- The collisions of a write are recorded for the domains of its fields. -/
theorem forall_coll_written {s : State} {p : Port} {d : Nat} {r : RegId} {i : Nat} {v : View} {w : Nat} {P : Nat → Prop}
    (h : ∀ f, P (s.collDom p r i f)) : ∀ x ∈ (s.written p d r i v w).coll, P x :=
  List.foldlRecOn (motive := fun u : Upd => ∀ x ∈ u.coll, P x) (effFields r i) _ (fun _ hx => absurd hx List.not_mem_nil)
    fun _ hu f _ x hx => (coll_writeField hx).elim (hu x) fun e => e ▸ h f

theorem coll_written_lt (s : State) (p : Port) (d : Nat) {r : RegId} (i : Nat) (v : View) (w : Nat) (h : r.rule.own ≠ .dom) :
    ∀ x ∈ (s.written p d r i v w).coll, x < 4 := forall_coll_written fun f => s.collDom_lt p i f h

/-! ### Registers whose fields take their values at once -/

/-- A staged copy is of no register whose fields all take their values at once. -/
theorem State.stagedOk.ne_addr {s : State} (hs : s.stagedOk) {r : RegId} {i : Nat} (hr : findReg (r.addr i) = some (r, i))
    (h : ∀ f ∈ effFields r i, f.bake = .i) : ∀ e ∈ s.staged, e.addr ≠ r.addr i := fun e he hea => by
  obtain ⟨q, j, f, hq, hf, -, hb, -⟩ := hs e he
  rw [hea, hr] at hq
  obtain ⟨rfl, rfl⟩ := Prod.mk.inj (Option.some.inj hq)
  exact hb (h f hf)

/-- With no other write in the cycle and no staged copy of the register, none collides (05 R162). -/
theorem collides_alone {s : State} {p : Port} {r : RegId} {i : Nat} (hacc : (s.cycFor p).accs = [])
    (hst : ∀ e ∈ s.staged, e.addr ≠ r.addr i) (f : Field) (v : View) (w x : Nat) : s.collides p (r.addr i) f v w x = false := by
  have hnone : s.staged.any (fun e => e.addr == r.addr i && e.lo == f.lo && e.writes.any (fun q => q.1 != p.code &&
      (bitsN (maskOf v w) f.lo f.w &&& q.2.1 &&& (x ^^^ q.2.2)) != 0)) = false := List.any_eq_false.mpr fun e he => by
    simp [hst e he]
  simp only [State.collides, hacc, List.any_nil, Bool.false_or, hnone]

/-- A write whose value every RW field takes, all at once, records nothing and stages nothing. -/
theorem written_clean {s : State} {p : Port} {d : Nat} {r : RegId} {i : Nat} {v : View} {w : Nat} (hacc : (s.cycFor p).accs = [])
    (hst : ∀ e ∈ s.staged, e.addr ≠ r.addr i) (h : ∀ f ∈ effFields r i, f.acc = .ro ∨
      f.acc = .rw ∧ f.bake = .i ∧ ∀ cur, ∃ x, s.takes p d r i v w cur f = some x) :
    (s.written p d r i v w).Clean ∧ (s.written p d r i v w).st = s.staged := by
  refine List.foldlRecOn (motive := fun u : Upd => u.Clean ∧ u.st = s.staged) (effFields r i) _ ⟨⟨rfl, rfl, rfl, rfl⟩, rfl⟩
    fun u hu f hf => ?_
  unfold State.writeField
  rcases h f hf with hro | ⟨hrw, hb, ht⟩
  · rw [hro]
    exact hu
  · obtain ⟨x, hx⟩ := ht (s.present r i u f)
    rw [hrw]
    dsimp only
    rw [writeRw_immediate hx hb, State.colls, collides_alone hacc hst]
    exact ⟨⟨hu.1.rsvw, hu.1.cmdBad, hu.1.viol, hu.1.coll⟩, hu.2⟩

/-! ### The command (06 R185) -/

/-- A write that passes the checks of a register in fSYS that is no rack port and holds no context state. -/
theorem writeCmd_view {s : State} {p : Port} {d : Dom} {a : Nat} {r : RegId} {i w : Nat} {v : View} (hlive : s.live = true)
    (hpost : s.posted = []) (hg : s.gateCause p d false = 0) (hn : s.noSession p d (isExempt (.reg v r i)) = false)
    (hw : s.writeRight p d r i v w = .ok true) (hf : s.frozenWrite p r i v w = false) (hd : decode a true = .reg v r i)
    (hp : postedReg r i = false) (hr : r ≠ .rackPush ∧ r ≠ .u2dCtxpc ∧ r ≠ .u2dCtxflg ∧ r ≠ .u2dCtxv ∧ r ≠ .u2dStep) :
    s.writeCmd p d a w = .next (((s.applyReg p d a r i v w).loose s p).result p 0 0) := by
  obtain ⟨h1, h2, h3, h4, h5⟩ := hr
  simp [State.writeCmd, hlive, State.portWrite, hg, hd, hn, State.regWrite, h1, hw, State.u2dCtxBusy, h2, h3, h4, h5,
    hp, State.regEffect, drain_empty s p hpost, hf, State.portFlag]

end Sys2Proof.Machine
end

section

/-!
PROOF. Capture reads, locks, snapshots and holds (06 R201, R214, R219, R220).
-/

namespace Sys2Proof.Machine

/-! ### Capture reads (06 R219) -/

theorem rd_result (s : State) (p : Port) (code data : Nat) (r : RegId) (i : Nat) : (s.result p code data).rd r i = s.rd r i := rfl

theorem bitN_eq_bitsN (n k : Nat) : bitN n k = (bitsN n k 1 == 1) := rfl

/-- A bit of a register read after it is cleared. -/
theorem rbit_clrBits_same (s : State) (r : RegId) (i : Nat) {k : Nat} (hk : k < 32) : (s.clrBits r i (2 ^ k)).rbit r i k = false := by
  have hlt : 2 ^ k % 2 ^ 32 = 2 ^ k := Nat.mod_eq_of_lt (Nat.pow_lt_pow_right (by decide) hk)
  simp only [State.rbit, State.clrBits, rd_wr_same, bitN_eq_testBit, BitVec.testBit_toNat, BitVec.getLsbD_and, BitVec.getLsbD_not,
    BitVec.getLsbD_ofNat, Nat.testBit_two_pow_self, hk]
  simp

theorem liveWord_regCap (s : State) (p : Port) (d i : Nat) : s.liveWord p d .regCap i = (s.rd .regCap i).toNat := rfl

theorem rcClear_regCap (s : State) (i : Nat) :
    s.rcClear .regCap i = if s.rbit .regCap i 31 then s.clrBits .regCap i (2 ^ 31) else s := rfl

theorem regCap_place : ∀ d : Dom, (RegId.regCap.loc d).toNat = RegId.regCap.addr d ∧
    decode (RegId.regCap.addr d) false = .reg .reg .regCap d ∧ d.val / RegId.regCap.place.n2 = d := by decide

/-- A domain reads its own capture, which is then cleared. -/
theorem exec_rcRead {s : State} {p : Port} {d : Dom} (hlive : s.live = true) (hpost : s.posted = []) (hg : s.gateCause p d.val false = 0)
    (hn : s.noSession p d.val false = false) : exec (.rcRead p d (RegId.regCap.loc d)) s =
      .next ((s.rcClear .regCap d).result p 0 (s.rd .regCap d).toNat) := by
  obtain ⟨hloc, hdec, hhome⟩ := regCap_place d
  have hright : s.readRight p d .regCap d = .ok true := by
    unfold State.readRight
    split
    · rfl
    · simp only [RegId.rule, readHome, hhome, if_true]
  have hident : isIdent (.reg .reg .regCap d) = false := rfl
  have hexempt : isExempt (.reg .reg .regCap d) = false := rfl
  have hread : ∀ use, s.regRead p d .regCap d use = ((s.rd .regCap d).toNat, if use then s.rcClear .regCap d else s) := fun use => by
    simp only [State.regRead, liveWord_regCap, State.maskRead, byField, RegId.rule, Bool.not_false, Bool.or_true, if_true]
  change execRcRead p d (RegId.regCap.loc d) s = _
  simp [execRcRead, State.readCmd, hlive, State.portRead, drain_empty s p hpost, State.readAt, hloc, hdec, hident, hg, hexempt, hn, hright,
    State.u2dCtxBusy, hread, State.portFlag]

theorem rcRead_gives (s : State) (p : Port) (d : Dom) (hlive : s.live = true) (hpost : s.posted = []) (hg : s.gateCause p d.val false = 0)
    (hn : s.noSession p d.val false = false) : Gives (.rcRead p d (RegId.regCap.loc d)) s fun t => t.b F.regCap_VALID d = false ∧
      kvD t.acc p.code {} = ⟨0, s.rd .regCap d⟩ ∧ ∀ r j, r.addr j ≠ RegId.regCap.addr d → t.rd r j = s.rd r j := by
  refine gives_of (exec_rcRead hlive hpost hg hn) ⟨?_, ?_, fun r j hne => ?_⟩
  · change (s.rcClear .regCap d).rbit .regCap d 31 = false
    rw [rcClear_regCap]
    split
    · exact rbit_clrBits_same s .regCap d (by decide)
    · exact Bool.eq_false_iff.mpr ‹_›
  · have hacc : ∀ t : State, kvD (t.result p 0 (s.rd .regCap d).toNat).acc p.code {} = ⟨0, s.rd .regCap d⟩ := fun t => by
      rw [State.result, kvD_kvSet_same, BitVec.ofNat_toNat, BitVec.setWidth_eq]
    exact hacc _
  · rw [rd_result, rcClear_regCap]
    split
    · exact rd_wr_ne _ _ _ _ _ _ hne
    · rfl

/-! ### Locks (06 R214) -/

/-- What an accepted write of a plain register that records nothing and sets nothing off leaves. -/
theorem writeReg_clean {s : State} {p : Port} {d : Dom} {r : RegId} {i w : Nat} (h : s.accepts p d r i w = true)
    (hd : decode (r.addr i) true = .reg .reg r i) (hp : postedReg r i = false)
    (hr : r ≠ .rackPush ∧ r ≠ .u2dCtxpc ∧ r ≠ .u2dCtxflg ∧ r ≠ .u2dCtxv ∧ r ≠ .u2dStep) (hplain : plainReg r)
    (hu : (s.written p d r i .reg w).Clean) (hres : reservedOnes .reg (effFields r i) w = false) :
    ∃ z, Wrote [] s r i (s.written p d r i .reg w) z ∧ s.writeReg p d r i w = .next ((((z.onWrite s p d (r.addr i) r i .reg w
      (s.written p d r i .reg w).word true).bakeNow p r i).loose s p).result p 0 0) := by
  obtain ⟨z, hz, hx⟩ := applyReg_clean (a := r.addr i) hplain hu hres
  exact ⟨z, hz, by rw [writeCmd_accepts s p d r i w h hd hp hr, hx]⟩

theorem plainReg_lockCtl : plainReg .lockCtl := ⟨rfl, rfl, fun _ _ => rfl⟩

/-- The word of LOCK_CTL after a write: its four lock bits are set, never cleared. -/
theorem written_lockCtl (s : State) (p : Port) (d : Nat) (w : Nat) : s.written p d .lockCtl 0 .reg w =
    { word := [0, 1, 2, 3].foldl (fun n k => putN n k 1 (bitsN n k 1 ||| bitsN (w % 2 ^ 32) k 1)) (s.rd .lockCtl).toNat, st := s.staged } :=
  rfl

theorem lockWord (n : Word) (bits : BitVec 4) :
    BitVec.ofNat 32 ([0, 1, 2, 3].foldl (fun n k => putN n k 1 (bitsN n k 1 ||| bitsN (bits.toNat % 2 ^ 32) k 1)) n.toNat) =
      n ||| bits.setWidth 32 := by
  have hput : ∀ (n : Nat) (k j : Nat), (putN n k 1 (bitsN n k 1 ||| bitsN (bits.toNat % 2 ^ 32) k 1)).testBit j =
      if j = k then n.testBit j || (decide (j < 32) && bits.getLsbD j) else n.testBit j := fun n k j => by
    rw [putN_testBit]
    by_cases hj : j = k
    · rw [hj, if_pos (by omega), if_pos rfl, Nat.testBit_or, bitsN_testBit, bitsN_testBit, Nat.testBit_mod_two_pow]
      simp [BitVec.testBit_toNat]
    · rw [if_neg (by omega), if_neg hj]
  refine BitVec.eq_of_getLsbD_eq fun j hj => ?_
  simp only [BitVec.getLsbD_ofNat, hj, decide_true, Bool.true_and, List.foldl_cons, List.foldl_nil, hput, BitVec.getLsbD_or,
    BitVec.getLsbD_setWidth, BitVec.testBit_toNat]
  by_cases h4 : j < 4
  · interval_cases j <;> simp
  · have hbits : bits.getLsbD j = false := BitVec.getLsbD_of_ge bits j (by omega)
    simp [hbits, show j ≠ 0 ∧ j ≠ 1 ∧ j ≠ 2 ∧ j ≠ 3 by omega]

theorem lockSet_gives (s : State) (p : Port) (d : Dom) (bits : BitVec 4) (h : s.accepts p d .lockCtl 0 bits.toNat = true) :
    Gives (.lockSet p d bits) s fun t => t.done p = true ∧ t.rd .lockCtl = s.rd .lockCtl ||| bits.setWidth 32 ∧
      ∀ r j, r.addr j ≠ 0x50 → t.rd r j = s.rd r j := by
  have hres : ∀ bits : BitVec 4, reservedOnes .reg (effFields .lockCtl 0) bits.toNat = false := by decide
  have hclean : (s.written p d .lockCtl 0 .reg bits.toNat).Clean := ⟨rfl, rfl, rfl, rfl⟩
  obtain ⟨z, hz, hx⟩ := writeReg_clean h (by decide) (by decide) (by decide) plainReg_lockCtl hclean (hres bits)
  refine gives_of hx ⟨done_result .., ?_, fun r j hne => ?_⟩
  · exact (hz.word List.not_mem_nil).trans (lockWord ..)
  · exact hz.other r j List.not_mem_nil hne

/-! ### Snapshots (06 R220) -/

/-- The value that a snapshot of domain `e` captures. -/
def State.snapValue (s : State) (e sel : Nat) : Nat :=
  match sel with
  | 0 => s.time
  | 1 => s.slice.last
  | 2 => ((kvD s.net.trays e []).map PTray.ptime).min?.getD 0
  | 3 => kvD s.net.tx e 0
  | _ => kvD s.net.h e 0

theorem snap_snapTake (s : State) (p : Port) (d sel : Nat) : (s.snapTake p d sel).snap (bankOf p d) =
    ⟨bankOf p d, sel, true, BitVec.ofNat 32 (s.snapValue d sel / 2 ^ 32), BitVec.ofNat 32 (s.snapValue d sel)⟩ := by
  have hnone : ((s.snaps.filter (fun x => x.bank != bankOf p d)).find? (fun x => x.bank == bankOf p d)) = none :=
    List.find?_eq_none.mpr fun x hx => by simpa using (List.mem_filter.mp hx).2
  unfold State.snap State.snapTake
  rw [List.find?_append, hnone]
  simp only [List.find?_cons, beq_self_eq_true, Option.none_or, Option.getD_some]
  rfl

theorem onWrite_snapReq (s old : State) (p : Port) (d a w nw : Nat) :
    s.onWrite old p d a .snapReq 0 .reg w nw true = s.snapTake p (evDom p d) (w % 16) := rfl

theorem snapReq_gives (s : State) (p : Port) (d : Dom) (sel : BitVec 4) (h : s.accepts p d .snapReq 0 sel.toNat = true)
    (hsel : sel.toNat ≤ 4) : Gives (.snapReq p d sel) s fun t =>
      let e := evDom p d
      let v := match sel.toNat with
        | 0 => s.time
        | 1 => s.slice.last
        | 2 => ((kvD s.net.trays e []).map PTray.ptime).min?.getD 0
        | 3 => kvD s.net.tx e 0
        | _ => kvD s.net.h e 0
      t.done p = true ∧ t.regs = s.regs ∧
        t.snap (bankOf p d) = ⟨bankOf p d, sel.toNat, true, BitVec.ofNat 32 (v / 2 ^ 32), BitVec.ofNat 32 v⟩ := by
  have hplain : ∀ sel : BitVec 4, sel.toNat ≤ 4 → plainCommand .snapReq 0 sel.toNat = true := by decide
  have hx := writeReg_command s p d .snapReq 0 sel.toNat h (by decide) (by decide) (by decide) (hplain sel hsel)
  have hmod : sel.toNat % 16 = sel.toNat := Nat.mod_eq_of_lt sel.isLt
  rw [onWrite_snapReq, hmod] at hx
  refine gives_of hx ⟨done_result .., rfl, ?_⟩
  have hbank : bankOf p (evDom p d) = bankOf p d := by
    unfold bankOf evDom
    split <;> rfl
  have hsnap := snap_snapTake ((s.unmarked .snapReq 0).noteWrite s p d .snapReq 0 .reg sel.toNat) p (evDom p d) sel.toNat
  rw [hbank] at hsnap
  exact hsnap

/-! ### Holds (06 R201) -/

/-- A bake writes registers of which copies were staged alone. -/
theorem rd_bake {s : State} {r : RegId} {i : Nat} (h : ∀ e ∈ s.staged, e.addr ≠ r.addr i) (sel : Staged → Bool) :
    (s.bake sel).rd r i = s.rd r i := by
  unfold State.bake
  dsimp only
  refine (each_keeps_mem (fun t : State => t.rd r i) _ _ _ fun e he t => ?_).trans rfl
  split
  · rfl
  · unfold State.putAt
    split
    next q j hq => exact rd_wr_ne _ _ _ _ _ _ fun hr => h e (List.mem_of_mem_filter he) ((addr_of_findReg hq).symm.trans hr.symm)
    · rfl

theorem bakeCtl_place : ∀ x : Dom, findReg (RegId.bakeCtl.addr x) = some (.bakeCtl, x.val) ∧
    decode (RegId.bakeCtl.addr x) true = .reg .reg .bakeCtl x ∧ postedReg .bakeCtl x = false ∧
    outAddr (RegId.bakeCtl.addr x) = false := by decide

theorem fields_bakeCtl {i : Nat} : ∀ f ∈ effFields .bakeCtl i, f.bake = .i :=
  show ∀ f ∈ RegId.bakeCtl.fields, f.bake = .i by decide

theorem oview_bakeStopped (s : State) (n : Fin 6) : (s.bakeStopped n).oview = s.oview := by
  simp only [State.bakeStopped, State.pPoint, apply_ite State.oview, oview_modeBaked, oview_bake_pOf, oview_ffPoint, ite_self]

/-- The end of a hold bakes no copy of BAKE_CTL, whose field takes its value at once. -/
theorem rd_bakeCtl_releaseHold {s : State} (hs : s.stagedOk) (p : Port) (d : Nat) (x : Dom) :
    (s.releaseHold p d).rd .bakeCtl x = s.rd .bakeCtl x := by
  obtain ⟨hfind, -, -, hout⟩ := bakeCtl_place x
  have hstop : (each strs (fun n s => s.bakeStopped n) s).Tidy :=
    State.Tidy.each (State.tidy_iff.mpr hs) fun n _ ht => ht.bakeStopped n
  have hidle := State.tidy_iff.mp hstop.bakeIdleGrid
  have hrd : ((each strs (fun n s => s.bakeStopped n) s).bakeIdleGrid).rd .bakeCtl x = s.rd .bakeCtl x := by
    refine rd_of_oview ?_ hout
    simp only [State.bakeIdleGrid, apply_ite State.oview, oview_bakeF _ (State.tidy_iff.mp hstop), ite_self]
    exact oview_each (fun n t => oview_bakeStopped t n) s
  unfold State.releaseHold
  dsimp only
  split
  · exact hrd
  · exact (rd_bake (hidle.ne_addr hfind fields_bakeCtl) _).trans hrd

/-- The write of a hold bit. -/
theorem onWrite_bakeCtl (s old : State) (p : Port) (d a i w nw : Nat) : s.onWrite old p d a .bakeCtl i .reg w nw true =
    if bitN (old.rd .bakeCtl i).toNat 0 && !bitN nw 0 then s.releaseHold p i else s := rfl

theorem bakeHoldWrite_gives (s : State) (p : Port) (d x : Dom) (hold : Bool)
    (h : s.accepts p d .bakeCtl x (if hold then 1 else 0) = true) (hs : s.stagedOk) :
    Gives (.bakeHoldWrite p d x hold) s fun t => t.done p = true ∧ t.b F.bakeCtl_HOLD x = hold := by
  obtain ⟨hfind, hdec, hpost, hout⟩ := bakeCtl_place x
  obtain ⟨-, -, -, -, -, -, -, hacc⟩ := (accepts_iff ..).mp h
  have hopen : openReg .bakeCtl := fun _ _ _ _ _ => ⟨Bool.or_true _, fun _ _ => ⟨rfl, Bool.and_true _⟩⟩
  have hfields : ∀ f ∈ RegId.bakeCtl.fields, f.acc = .ro ∨ f.acc = .rw ∧ f.bake = .i ∧ f.ok = .any := by decide
  have htakes : ∀ f ∈ effFields .bakeCtl x, f.acc = .ro ∨ f.acc = .rw ∧ f.bake = .i ∧ ∀ cur, ∃ y,
      s.takes p d .bakeCtl x .reg (if hold then 1 else 0) cur f = some y := fun f hf =>
    (hfields f hf).imp_right fun ⟨hrw, hb, hok⟩ => ⟨hrw, hb, fun cur => ⟨_, takes_open hopen rfl (by rw [hok]; rfl)⟩⟩
  obtain ⟨hclean, hst⟩ := written_clean hacc (hs.ne_addr hfind fields_bakeCtl) htakes
  have hres : ∀ b : Bool, reservedOnes .reg RegId.bakeCtl.fields (if b then 1 else 0) = false := by decide
  obtain ⟨z, hz, hx⟩ := writeReg_clean h hdec hpost (by decide) ⟨rfl, rfl, fun _ _ => rfl⟩ hclean (hres hold)
  rw [onWrite_bakeCtl, bakeNow_immediate _ _ _ (by decide)] at hx
  have hold_z : z.b F.bakeCtl_HOLD x = hold := by
    have hword := word_fields_takes (s := s) (p := p) (d := d) (v := .reg) (w := if hold then 1 else 0)
      (u := { word := (s.rd .bakeCtl x).toNat, st := s.staged }) (r := .bakeCtl) (i := x) (f := fl "HOLD" 0 1 .rw 0 .i)
      (show RegId.bakeCtl.fields.Pairwise fun f g => f.apart g = true by decide)
      (show fl "HOLD" 0 1 .rw 0 .i ∈ RegId.bakeCtl.fields by decide) rfl rfl (takes_open hopen rfl rfl)
    rw [inOrder_alone hacc] at hword
    rw [State.b, State.g, show F.bakeCtl_HOLD.r = .bakeCtl from rfl, hz.word List.not_mem_nil, bitsN_toNat_ofNat _ _ _ (by decide)]
    refine (congrArg (· == 1) hword).trans ?_
    cases hold <;> rfl
  have hok : z.stagedOk := fun e he => hs e (hst ▸ hz.staged ▸ he)
  refine gives_of hx ⟨done_result .., ?_⟩
  have hrd : ∀ b : Bool, (if b then z.releaseHold p x else z).rd .bakeCtl x = z.rd .bakeCtl x := fun b => by
    cases b
    · rfl
    · exact rd_bakeCtl_releaseHold hok p x x
  refine Eq.trans (congrArg (fun n : Word => bitsN n.toNat 0 1 == 1) (hrd _)) hold_z

end Sys2Proof.Machine
end

section

/-!
PROOF. Parity checks (06 R207-R209), with the bit of a fault that contains no channel.
-/

namespace Sys2Proof.Machine

/-! ### The fault of a record (18 R691) -/

/-- The bits of faults lie apart from what else a fault writes. -/
theorem fltStat_ne : ∀ k : Fin 4, RegId.fltStat.addr k / 0x1000 ∉ [0x2, 0x9] ∧
    (∀ d : Fin 4, RegId.fltStat.addr k ≠ RegId.fltCap.addr d) ∧ RegId.fltStat.addr k ≠ RegId.fltCnt.addr 0 ∧
    RegId.fltStat.addr k ≠ RegId.u2dTrstat.addr 0 ∧ RegId.fltStat.addr k ≠ RegId.fltGstat.addr 0 ∧
    RegId.fltStat.addr k ≠ RegId.hearthStat.addr 0 := by decide

theorem rd_fltStat_fltNotify (s : State) (cls d : Nat) (k : Fin 4) : (s.fltNotify cls d).rd .fltStat k = s.rd .fltStat k := by
  obtain ⟨hirq, -, -, -, hg, hst⟩ := fltStat_ne k
  unfold State.fltNotify
  split
  · rw [rd_flagIrq _ _ _ _ _ _ hirq, rd_pb_ne _ _ _ _ hg]
  · rw [rd_flagIrq _ _ _ _ _ _ hirq, rd_pb_ne _ _ _ _ hg]
  · exact ((IrqFrame.pendIrq ..).rd _ _ hirq).trans (rd_wr_ne _ _ _ _ _ _ hg)
  · rw [rd_flagIrq _ _ _ _ _ _ hirq, rd_pb_ne _ _ _ _ hst]

theorem rd_fltReact (s : State) (n : Nat) {react : Nat} (chans d : Nat) (h : react ≠ 1) (r : RegId) (j : Nat) :
    (s.fltReact n react chans d).rd r j = s.rd r j := by
  unfold State.fltReact
  dsimp only
  split
  · exact absurd rfl h
  · exact rd_containDomain ..
  · rfl
  · rfl

/-- A fault that contains no channel sets its bit and no other. -/
theorem rd_fltStat_raise {s : State} {n : Nat} (hs : s.clk.fsys = true) (hrsv : fltRsv n = false) (hr : s.fltReactOf n ≠ 1) (k : Fin 4) :
    (s.raise n).rd .fltStat k = (s.setBits .fltStat (n / 32) (2 ^ (n % 32))).rd .fltStat k := by
  obtain ⟨-, hcap, hcnt, htr, -, -⟩ := fltStat_ne k
  simp only [State.raise, State.raiseOn, hrsv, hs, Bool.not_true, Bool.false_eq_true, if_false]
  have hrec : ∀ t : State, ((((t.fltCapture n (s.charged n) (s.fltReactOf n)).fltCount (fltClass n)).trace 5 n
      (fltClass n + 4 * s.fltReactOf n) 0).fltNotify (fltClass n) (s.charged n)).rd .fltStat k = t.rd .fltStat k := fun t => by
    rw [rd_fltStat_fltNotify, rd_trace _ _ _ _ _ _ _ htr, rd_fltCount _ _ _ _ hcnt,
      rd_fltCapture _ _ _ _ _ _ (hcap ⟨s.charged n, s.charged_lt n⟩)]
  split
  · exact hrec _
  · rw [rd_fltReact _ _ _ _ hr, hrec]

theorem fltBit_raise_quiet {s : State} {n : Nat} (hs : s.clk.fsys = true) (hrsv : fltRsv n = false) (hr : s.fltReactOf n ≠ 1) :
    (s.raise n).fltBit n = true := by
  have hn := fltRsv_lt (Bool.eq_false_iff.mp hrsv)
  rw [State.fltBit, State.rbit, rd_fltStat_raise hs hrsv hr ⟨n / 32, by omega⟩]
  exact rbit_setBits_same s .fltStat (n / 32) (Nat.mod_lt n (by decide))

/-! ### Parity (06 R207-R209) -/

theorem parity_fault {d : Nat} (hd : d < 4) : fltRsv (88 + d) = false ∧ ∀ s : State, s.fltReactOf (88 + d) ≠ 1 := by
  have h : ∀ d : Fin 4, fltRsv (88 + d) = false ∧ fltChan (88 + d) = 0 ∧ 88 + d.val ≠ 24 := by decide
  obtain ⟨hrsv, hchan, h24⟩ := h ⟨d, hd⟩
  exact ⟨hrsv, fun s => fltReactOf_ne_one s hchan h24⟩

/-- Registers that belong to a domain by their index have entries for four domains at most. -/
theorem entries_of_dom (r : RegId) : r.rule.own = .dom → r.place.n1 ≤ 4 := by cases r <;> decide

/-- The first index of a register that is found lies within its array. -/
theorem entry_lt_of_index {r : RegId} {a i : Nat} (h : r.place.index a = some i) : i / r.place.n2 < r.place.n1 := by
  unfold Place.index at h
  split at h
  · cases h
  · simp only [Option.ite_none_right_eq_some, Bool.and_eq_true, decide_eq_true_eq, Option.some.injEq] at h
    obtain ⟨⟨⟨hi, hj⟩, -⟩, rfl⟩ := h
    rwa [Nat.mul_comm, Nat.mul_add_div (by omega), Nat.div_eq_of_lt hj, Nat.add_zero]

theorem index_of_findIn {a : Nat} {l : List RegId} {r : RegId} {i : Nat} (h : findIn a l = some (r, i)) : r.place.index a = some i := by
  induction l with
  | nil => cases h
  | cons q t ih =>
    simp only [findIn] at h
    split at h
    next j hj =>
      obtain ⟨rfl, rfl⟩ := Prod.mk.inj (Option.some.inj h)
      exact hj
    · exact ih h

/-- A register that is found belongs to one of the four domains. -/
theorem regDom_lt_of_findReg (s : State) {a : Nat} {r : RegId} {i : Nat} (h : findReg a = some (r, i)) : s.regDom r i < 4 :=
  s.regDom_lt fun hdom => Nat.lt_of_lt_of_le (entry_lt_of_index (index_of_findIn h)) (entries_of_dom r hdom)

/-- The first report of a mismatch: REG_PAR, and the fault of the domain. -/
theorem parityReport_first {s : State} {a d : Nat} (hclk : s.clk.fsys = true) (ha : a < 2 ^ 24) (hd : d < 4)
    (hpar : s.b F.regPar_CFGPAR = false) :
    (s.parityReport a d).g F.regPar_ADDR = a ∧ (s.parityReport a d).g F.regPar_DOM = d % 4 ∧
      (s.parityReport a d).b F.regPar_CFGPAR = true ∧ (s.parityReport a d).fltBit (88 + d) = true ∧
      (s.parityReport a d).parityBad = s.parityBad := by
  let u1 := s.p F.regPar_ADDR 0 a
  let u2 := u1.p F.regPar_DOM 0 d
  let u := u2.pb F.regPar_CFGPAR 0 true
  have hu : s.parityReport a d = u.raise (88 + d) := by simp only [State.parityReport, hpar, Bool.false_eq_true, if_false, u, u2, u1]
  have hrd : (u.raise (88 + d)).rd .regPar 0 = u.rd .regPar 0 := rd_of_oview (oview_raise ..) (by decide)
  have hg : ∀ f : Fld, f.r = .regPar → (u.raise (88 + d)).g f = u.g f := fun f hf => by rw [State.g, State.g, hf, hrd]
  obtain ⟨hrsv, hreact⟩ := parity_fault hd
  rw [hu]
  refine ⟨?_, ?_, ?_, fltBit_raise_quiet hclk hrsv (hreact u), (Quiet.raise ..).parityBad⟩
  · calc (u.raise (88 + d)).g F.regPar_ADDR
        = u.g F.regPar_ADDR := hg _ rfl
      _ = u2.g F.regPar_ADDR := g_p_field u2 F.regPar_CFGPAR F.regPar_ADDR 0 _ rfl (by decide) (by decide)
      _ = u1.g F.regPar_ADDR := g_p_field u1 F.regPar_DOM F.regPar_ADDR 0 _ rfl (by decide) (by decide)
      _ = a % 2 ^ 24 := g_p_same s F.regPar_ADDR 0 a (by decide)
      _ = a := Nat.mod_eq_of_lt ha
  · calc (u.raise (88 + d)).g F.regPar_DOM
        = u.g F.regPar_DOM := hg _ rfl
      _ = u2.g F.regPar_DOM := g_p_field u2 F.regPar_CFGPAR F.regPar_DOM 0 _ rfl (by decide) (by decide)
      _ = d % 4 := g_p_same u1 F.regPar_DOM 0 d (by decide)
  · rw [State.b, hg _ rfl]
    exact b_pb_same u2 F.regPar_CFGPAR 0 true (by decide) rfl

/-- A sign is entered in the list of mismatches, once. -/
def mark (b : Bool) (k : Nat) (l : List Nat) : List Nat := if b && !l.contains k then l ++ [k] else l

theorem mem_mark_same {b : Bool} {k : Nat} {l : List Nat} (h : b = true) : k ∈ mark b k l := by
  unfold mark
  split
  · simp
  next hn =>
    rw [h] at hn
    simpa using hn

theorem mem_mark_of_mem {b : Bool} {j k : Nat} {l : List Nat} (h : j ∈ l) : j ∈ mark b k l := by
  unfold mark
  split
  · exact List.mem_append_left _ h
  · exact h

theorem parityCheck_gives (s : State) (a : Addr) (r : RegId) (i : Nat) (bad badStaged : Bool) (hlive : s.live = true)
    (hr : findReg a.toNat = some (r, i)) (hcov : covered r i = true) (hbad : (bad || badStaged) = true)
    (hnew : s.parityBad.any (fun x => x % 2 ^ 24 == a.toNat) = false) (hpar : s.b F.regPar_CFGPAR = false) :
    Gives (.parityCheck a bad badStaged) s fun t =>
      t.g F.regPar_ADDR = a.toNat ∧ t.g F.regPar_DOM = s.regDom r i % 4 ∧ t.b F.regPar_CFGPAR = true ∧
        t.fltBit (88 + s.regDom r i) = true ∧ (bad = true → a.toNat ∈ t.parityBad) ∧
        (badStaged = true → t.stagedBad a.toNat = true) := by
  let s1 := { s with parityBad := mark badStaged (a.toNat + 2 ^ 24) (mark bad a.toNat s.parityBad) }
  have hx : exec (.parityCheck a bad badStaged) s = .next (s1.parityReport a.toNat (s.regDom r i)) := by
    change execParityCheck a bad badStaged s = _
    simp only [execParityCheck, hr, hlive, hcov, hbad, hnew, Bool.not_true, Bool.or_self, Bool.false_eq_true, if_false, Bool.not_false,
      Bool.and_self, if_true]
    rfl
  have hclk : s.clk.fsys = true := (Bool.and_eq_true_iff.mp hlive).2
  obtain ⟨haddr, hdom, hflag, hflt, hmark⟩ := parityReport_first (s := s1) hclk a.isLt (regDom_lt_of_findReg s hr) hpar
  refine gives_of hx ⟨haddr, hdom, hflag, hflt, fun h => ?_, fun h => ?_⟩
  · rw [hmark]
    exact mem_mark_of_mem (mem_mark_same h)
  · rw [State.stagedBad, hmark]
    exact List.contains_iff_mem.mpr (mem_mark_same h)

end Sys2Proof.Machine
end

section

/-!
PROOF. Votes on lock bits (06 R210-R212); from these the commands of the register model.
-/

namespace Sys2Proof.Machine

/-! ### Votes (06 R210-R212) -/

/-- The record of a vote on a lock bit that restored it (06 R211, R233). -/
def State.fixNoted (t : State) : Prop := t.b F.regTmr_TMRFIX = true ∧ t.g F.regTmr_ADDR = 0x50 ∧ t.fltBit 10 = true

/-- Three copies agree on bit `k`. -/
abbrev agree (c0 c1 c2 : Word) (k : Nat) : Prop := c0.getLsbD k = c1.getLsbD k ∧ c1.getLsbD k = c2.getLsbD k

/-- The value of bit `k` that two of three copies hold. -/
def majority (c0 c1 c2 : Word) (k : Nat) : Bool :=
  c0.getLsbD k && c1.getLsbD k || c0.getLsbD k && c2.getLsbD k || c1.getLsbD k && c2.getLsbD k

theorem bitsN_one (c : Word) (k : Nat) : bitsN c.toNat k 1 = (c.getLsbD k).toNat := by
  rw [← BitVec.testBit_toNat, Nat.testBit_eq_decide_div_mod_eq, bitsN]
  rcases Nat.mod_two_eq_zero_or_one (c.toNat / 2 ^ k) with h | h <;> simp [h]

theorem vote3_bool (x y z : Bool) : vote3 x.toNat y.toNat z.toNat = (x && y || x && z || y && z).toNat := by
  cases x <;> cases y <;> cases z <;> rfl

/-- The vote on the lock bit `f`. -/
def State.voteLock (s : State) (c0 c1 c2 : Word) (f : Field) : State :=
  s.voteField .lockCtl 0 f (bitsN c0.toNat f.lo f.w) (bitsN c1.toNat f.lo f.w) (bitsN c2.toNat f.lo f.w)

section
variable {s : State} {c0 c1 c2 : Word} {f : Field}

theorem voteLock_agree (hw : f.w = 1) (h : agree c0 c1 c2 f.lo) : s.voteLock c0 c1 c2 f = s := by
  simp only [State.voteLock, State.voteField, hw, bitsN_one, h.1, h.2, beq_self_eq_true, Bool.and_self, if_true]

/-- A lock bit on which two copies agree: it takes their value, and the vote is recorded. -/
theorem voteLock_fix (hw : f.w = 1) (h : ¬agree c0 c1 c2 f.lo) : s.voteLock c0 c1 c2 f =
    (((s.wr .lockCtl 0 (BitVec.ofNat 32 (putN (s.rd .lockCtl).toNat f.lo 1 (majority c0 c1 c2 f.lo).toNat))).tmrNote 0x50
      F.regTmr_TMRFIX).incSat F.regTmrCnt_COUNT).raise 10 := by
  have hne : ∀ x y z : Bool, ¬(x = y ∧ y = z) → ((x.toNat == y.toNat) && (y.toNat == z.toNat)) = false := by decide
  have htwo : ∀ x y z : Bool, (x.toNat == y.toNat || x.toNat == z.toNat || y.toNat == z.toNat) = true := by decide
  simp only [State.voteLock, State.voteField, hw, bitsN_one, hne _ _ _ h, Bool.false_eq_true, if_false, htwo, if_true, vote3_bool,
      State.putVote]
  rfl

theorem voteLock_fix_spec (hclk : s.clk.fsys = true) (hw : f.w = 1) (h : ¬agree c0 c1 c2 f.lo) :
    (s.voteLock c0 c1 c2 f).fixNoted ∧ (s.voteLock c0 c1 c2 f).clk.fsys = true ∧ (s.voteLock c0 c1 c2 f).rd .lockCtl =
      BitVec.ofNat 32 (putN (s.rd .lockCtl).toNat f.lo 1 (majority c0 c1 c2 f.lo).toNat) := by
  rw [voteLock_fix hw h]
  let u1 := s.wr .lockCtl 0 (BitVec.ofNat 32 (putN (s.rd .lockCtl).toNat f.lo 1 (majority c0 c1 c2 f.lo).toNat))
  let u2 := u1.p F.regTmr_ADDR 0 0x50
  let u3 := u2.pb F.regTmr_TMRFIX 0 true
  let u := u3.incSat F.regTmrCnt_COUNT
  change (u.raise 10).fixNoted ∧ (u.raise 10).clk.fsys = true ∧ (u.raise 10).rd .lockCtl = _
  have hrd : ∀ r : RegId, outAddr (r.addr 0) = false → r.addr 0 ≠ RegId.regTmrCnt.addr 0 → (u.raise 10).rd r = u3.rd r := fun r hout hne =>
    (rd_of_oview (oview_raise ..) hout).trans (rd_wr_ne _ _ _ _ _ _ hne)
  have hreact : u.fltReactOf 10 ≠ 1 := fltReactOf_ne_one u (by decide) (by decide)
  have htmr := hrd .regTmr (by decide) (by decide)
  have hlock : u3.rd .lockCtl = u1.rd .lockCtl := (rd_pb_ne _ _ _ _ (by decide)).trans (rd_wr_ne _ _ _ _ _ _ (by decide))
  refine ⟨⟨?_, ?_, fltBit_raise_quiet hclk (by decide) hreact⟩, (fsys_of_pview (pview_raise ..)).trans hclk, ?_⟩
  · rw [State.b, State.g, show F.regTmr_TMRFIX.r = .regTmr from rfl, htmr]
    exact b_pb_same u2 F.regTmr_TMRFIX 0 true (by decide) rfl
  · rw [State.g, show F.regTmr_ADDR.r = .regTmr from rfl, htmr]
    exact (g_p_field u2 F.regTmr_TMRFIX F.regTmr_ADDR 0 _ rfl (by decide) (by decide)).trans (g_p_same u1 F.regTmr_ADDR 0 0x50 (by decide))
  · rw [hrd .lockCtl (by decide) (by decide), hlock]
    exact rd_wr_same ..

end

/-- A lock bit after votes on some: where its copies disagree, what two of them hold. -/
theorem each_voteLock (c0 c1 c2 : Word) {l : List Field} (hl : ∀ f ∈ l, f.w = 1) {s : State} (hclk : s.clk.fsys = true) :
    (∀ k < 32, (each l (fun f s => s.voteLock c0 c1 c2 f) s).rbit .lockCtl 0 k =
      if k ∈ l.map Field.lo ∧ ¬agree c0 c1 c2 k then majority c0 c1 c2 k else s.rbit .lockCtl 0 k) ∧
    ((∃ f ∈ l, ¬agree c0 c1 c2 f.lo) ∨ s.fixNoted → (each l (fun f s => s.voteLock c0 c1 c2 f) s).fixNoted) := by
  induction l generalizing s with
  | nil => exact ⟨fun k _ => by simp [each], fun h => by simpa [each] using h⟩
  | cons f t ih =>
    have hw := hl f List.mem_cons_self
    have ih := fun {s : State} => ih (fun g hg => hl g (List.mem_cons_of_mem f hg)) (s := s)
    by_cases hag : agree c0 c1 c2 f.lo
    · have hstep : each (f :: t) (fun f s => s.voteLock c0 c1 c2 f) s = each t (fun f s => s.voteLock c0 c1 c2 f) s := by
        change each t _ (s.voteLock c0 c1 c2 f) = _
        rw [voteLock_agree hw hag]
      rw [hstep]
      obtain ⟨hbits, hnote⟩ := ih hclk
      refine ⟨fun k hk => (hbits k hk).trans ?_, fun h => hnote (h.imp_left fun ⟨g, hg, hne⟩ => ?_)⟩
      · have hk : (k ∈ (f :: t).map Field.lo ∧ ¬agree c0 c1 c2 k) ↔ (k ∈ t.map Field.lo ∧ ¬agree c0 c1 c2 k) := by
          rw [List.map_cons, List.mem_cons]
          exact and_congr_left fun hne => or_iff_right fun e => hne (e ▸ hag)
        simp only [hk]
      · exact ⟨g, (List.mem_cons.mp hg).resolve_left fun e => hne (e ▸ hag), hne⟩
    · obtain ⟨hfix, hclk', hrd⟩ := voteLock_fix_spec hclk hw hag
      obtain ⟨hbits, hnote⟩ := ih hclk'
      refine ⟨fun k hk => (hbits k hk).trans ?_, fun _ => hnote (.inr hfix)⟩
      have hput : (s.voteLock c0 c1 c2 f).rbit .lockCtl 0 k = if k = f.lo then majority c0 c1 c2 f.lo else s.rbit .lockCtl 0 k := by
        rw [State.rbit, hrd, bitN_eq_testBit, BitVec.toNat_ofNat, Nat.testBit_mod_two_pow, putN_testBit, State.rbit, bitN_eq_testBit]
        by_cases e : k = f.lo
        · cases hm : majority c0 c1 c2 f.lo <;> simp [e, e ▸ hk]
        · rw [if_neg (by omega), if_neg e, decide_eq_true hk, Bool.true_and]
      simp only [hput, List.map_cons, List.mem_cons]
      by_cases e : k = f.lo
      · simp [e, hag]
      · simp only [e, false_or, if_false]

/-- The lock bits, each critical. -/
theorem critical_lockCtl : (effFields .lockCtl 0).filter (critical .lockCtl) = effFields .lockCtl 0 := by decide

theorem exec_tmrVote {s : State} (hlive : s.live = true) (c0 c1 c2 : Word) : exec (.tmrVote 0x50 c0 c1 c2) s =
    .next (each (effFields .lockCtl 0) (fun f s => s.voteLock c0 c1 c2 f) s) := by
  have hfind : findReg (0x50 : Addr).toNat = some (.lockCtl, 0) := by decide
  change execTmrVote 0x50 c0 c1 c2 s = _
  simp only [execTmrVote, hfind, hlive, Bool.not_true, Bool.false_eq_true, if_false, critical_lockCtl]
  rfl

/-- Copies that differ in their low four bits disagree on one of these. -/
theorem exists_not_agree {c0 c1 c2 : Word} (h : ¬(c0.setWidth 4 = c1.setWidth 4 ∧ c1.setWidth 4 = c2.setWidth 4)) :
    ∃ k < 4, ¬agree c0 c1 c2 k := by
  by_contra hno
  have hall : ∀ k < 4, agree c0 c1 c2 k := fun k hk => by
    by_contra hne
    exact hno ⟨k, hk, hne⟩
  refine h ⟨BitVec.eq_of_getLsbD_eq fun k hk => ?_, BitVec.eq_of_getLsbD_eq fun k hk => ?_⟩
  · simp only [BitVec.getLsbD_setWidth, (hall k hk).1]
  · simp only [BitVec.getLsbD_setWidth, (hall k hk).2]

theorem tmrVote_gives (s : State) (c0 c1 c2 : Word) (hlive : s.live = true) : Gives (.tmrVote 0x50 c0 c1 c2) s fun t =>
    (∀ k : Fin 4, t.rbit .lockCtl 0 k = if c0.getLsbD k = c1.getLsbD k ∧ c1.getLsbD k = c2.getLsbD k then s.rbit .lockCtl 0 k
      else (c0.getLsbD k && c1.getLsbD k || c0.getLsbD k && c2.getLsbD k || c1.getLsbD k && c2.getLsbD k)) ∧
    (¬(c0.setWidth 4 = c1.setWidth 4 ∧ c1.setWidth 4 = c2.setWidth 4) →
      t.b F.regTmr_TMRFIX = true ∧ t.g F.regTmr_ADDR = 0x50 ∧ t.fltBit 10 = true) := by
  have hclk : s.clk.fsys = true := (Bool.and_eq_true_iff.mp hlive).2
  have hw : ∀ f ∈ effFields .lockCtl 0, f.w = 1 := by decide
  have hlos : (effFields .lockCtl 0).map Field.lo = [0, 1, 2, 3] := by decide
  obtain ⟨hbits, hnote⟩ := each_voteLock c0 c1 c2 hw hclk
  refine gives_of (exec_tmrVote hlive c0 c1 c2) ⟨fun k => ?_, fun h => hnote (.inl ?_)⟩
  · have hk : k.val ∈ (effFields .lockCtl 0).map Field.lo := by
      rw [hlos]
      revert k
      decide
    rw [hbits k (by omega)]
    by_cases hag : agree c0 c1 c2 k
    · rw [if_neg (fun h => h.2 hag), if_pos hag]
    · rw [if_pos ⟨hk, hag⟩, if_neg hag]
      rfl
  · obtain ⟨k, hk, hne⟩ := exists_not_agree h
    have hmem : k ∈ (effFields .lockCtl 0).map Field.lo := by
      rw [hlos]
      simp only [List.mem_cons, List.not_mem_nil, or_false]
      omega
    obtain ⟨f, hf, rfl⟩ := List.mem_map.mp hmem
    exact ⟨f, hf, hne⟩

/-- Settles O19: capture reads, holds, locks, snapshots, parity checks and votes. -/
theorem registerCommandsComplete : Obligations.RegisterCommandsComplete :=
  ⟨rcRead_gives, bakeHoldWrite_gives, lockSet_gives, snapReq_gives, parityCheck_gives, tmrVote_gives⟩

end Sys2Proof.Machine
end

section

/-!
PROOF. Writes of GPIO_CFG through each view and of OWN_STR (06 R185, R190, R192, R197).
-/

namespace Sys2Proof.Machine

/-! ### The command and its answer -/

theorem loc_toNat {r : RegId} {i : Nat} (h : r.addr i < 2 ^ 24) : (r.loc i).toNat = r.addr i := by
  rw [RegId.loc, BitVec.toNat_ofNat, Nat.mod_eq_of_lt h]

/-- An accepted write through a view, and the cycle that it has for itself. -/
theorem writeCmd_accepts_view {s : State} {p : Port} {d : Dom} {a : Nat} {r : RegId} {i w : Nat} {v : View}
    (h : s.accepts p d r i w v = true) (hd : decode a true = .reg v r i) (hp : postedReg r i = false)
    (hr : r ≠ .rackPush ∧ r ≠ .u2dCtxpc ∧ r ≠ .u2dCtxflg ∧ r ≠ .u2dCtxv ∧ r ≠ .u2dStep) :
    s.writeCmd p d a w = .next (((s.applyReg p d a r i v w).loose s p).result p 0 0) ∧ (s.cycFor p).accs = [] := by
  simp only [State.accepts, Bool.and_eq_true, Bool.not_eq_true', List.isEmpty_iff, beq_iff_eq] at h
  obtain ⟨⟨⟨⟨⟨⟨⟨hlive, -⟩, hpost⟩, hg⟩, hw⟩, hf⟩, hn⟩, hacc⟩ := h
  exact ⟨writeCmd_view hlive hpost hg hn hw hf hd hp hr, hacc⟩

/-- A write that has staged nothing leaves the staged copies (log 14). -/
theorem staged_loose_same {s t : State} (p : Port) (h : t.staged = s.staged) : (t.loose s p).staged = s.staged := by
  change t.staged.map _ = s.staged
  rw [h]
  exact (List.map_congr_left fun e he => if_neg (by simp [he])).trans (List.map_id _)

theorem stagedVal_loose (s old : State) (p : Port) (a lo : Nat) : stagedVal (s.loose old p).staged a lo = stagedVal s.staged a lo :=
  stagedVal_map _ _ _ _ fun e => by split <;> exact ⟨rfl, rfl, rfl⟩

/-! ### What a write carries through each view (06 R192) -/

section
variable (cur w : Nat) (f : Field)

theorem fieldNew_set : (fieldNew .set cur w f).getD cur = cur ||| bitsN w f.lo f.w := by
  unfold fieldNew
  dsimp only
  split
  next h => rw [h, Nat.or_zero]; rfl
  · rfl

theorem fieldNew_clr : (fieldNew .clr cur w f).getD cur = cur - (cur &&& bitsN w f.lo f.w) := by
  unfold fieldNew
  dsimp only
  split
  next h => rw [h, Nat.and_zero]; rfl
  · rfl

theorem fieldNew_tgl : (fieldNew .tgl cur w f).getD cur = cur ^^^ bitsN w f.lo f.w := by
  unfold fieldNew
  dsimp only
  split
  next h => rw [h, Nat.xor_zero]; rfl
  · rfl

end

/-! ### GPIO_CFG: a register whose fields take their values at once -/

theorem gpioCfg_place : ∀ n : Fin 6, findReg (RegId.gpioCfg.addr n) = some (.gpioCfg, n.val) ∧ RegId.gpioCfg.addr n < 0x80000 ∧
    RegId.gpioCfg.addr n ∉ recordAddrs ∧ postedReg .gpioCfg n = false := by decide

theorem gpioCfg_views : ∀ n : Fin 6, decode (RegId.gpioCfg.addr n) true = .reg .reg .gpioCfg n ∧
    decode (0x100000 + RegId.gpioCfg.addr n) true = .reg .set .gpioCfg n ∧
    decode (0x200000 + RegId.gpioCfg.addr n) true = .reg .clr .gpioCfg n ∧
    decode (0x300000 + RegId.gpioCfg.addr n) true = .reg .tgl .gpioCfg n := by decide

theorem plainReg_gpioCfg : plainReg .gpioCfg := ⟨rfl, rfl, fun _ _ => rfl⟩
theorem openReg_gpioCfg : openReg .gpioCfg := fun _ _ _ _ _ => ⟨Bool.or_true _, fun _ _ => ⟨rfl, Bool.and_true _⟩⟩

theorem fields_gpioCfg : ∀ f ∈ RegId.gpioCfg.fields, f.acc = .rw ∧ f.bake = .i ∧ f.lo + f.w ≤ 32 := by decide

theorem split_gpioCfg (i : Nat) : splitFields .gpioCfg i :=
  show RegId.gpioCfg.fields.Pairwise fun f g => f.apart g = true by decide

/-- A write of GPIO_CFG sets nothing off. -/
theorem onWrite_gpioCfg (s old : State) (p : Port) (d a i : Nat) (v : View) (w nw : Nat) (cmd : Bool) :
    (s.onWrite old p d a .gpioCfg i v w nw cmd).bakeNow p .gpioCfg i = s :=
  bakeNow_immediate _ _ _ (by decide)

/-- A field of GPIO_CFG of which no value is reserved, after a write through a view. -/
theorem bits_written_gpioCfg {s : State} {p : Port} {d i : Nat} {v : View} {w : Nat} {f : Field} (hacc : (s.cycFor p).accs = [])
    (hf : f ∈ RegId.gpioCfg.fields) (hok : f.ok = .any) : bitsN (s.written p d .gpioCfg i v w).word f.lo f.w =
      (fieldNew v (bitsN (s.rd .gpioCfg i).toNat f.lo f.w) w f).getD (bitsN (s.rd .gpioCfg i).toNat f.lo f.w) % 2 ^ f.w := by
  obtain ⟨hrw, hb, -⟩ := fields_gpioCfg f hf
  cases hx : fieldNew v (bitsN (s.rd .gpioCfg i).toNat f.lo f.w) w f with
  | none =>
    rw [Option.getD_none, Nat.mod_eq_of_lt (bitsN_lt ..)]
    exact word_fields_none (split_gpioCfg i) hf hrw hb (takes_open_none hx)
  | some x =>
    refine (word_fields_takes (split_gpioCfg i) hf hrw hb (takes_open openReg_gpioCfg hx (by rw [hok]; rfl))).trans ?_
    rw [inOrder_alone hacc]
    rfl

/-- An accepted write of GPIO_CFG at the address `a` of a view. -/
theorem gpioCfg_gives {s : State} {p : Port} {d : Dom} {n : Fin 6} {v : View} {w a : Nat} (h : s.accepts p d .gpioCfg n w v = true)
    (hd : decode a true = .reg v .gpioCfg n) : ∃ t, s.writeCmd p d a w = .next t ∧ t.done p = true ∧
      ∀ f ∈ RegId.gpioCfg.fields, f.ok = .any → bitsN (t.rd .gpioCfg n).toNat f.lo f.w =
        (fieldNew v (bitsN (s.rd .gpioCfg n).toNat f.lo f.w) w f).getD (bitsN (s.rd .gpioCfg n).toNat f.lo f.w) % 2 ^ f.w := by
  obtain ⟨-, -, hrec, hpost⟩ := gpioCfg_place n
  obtain ⟨hx, hacc⟩ := writeCmd_accepts_view h hd hpost (by decide)
  obtain ⟨z, hz, happ⟩ := applyReg_wrote (a := a) plainReg_gpioCfg (coll_written_lt s p d n v w (by decide))
  rw [happ, onWrite_gpioCfg] at hx
  refine ⟨_, hx, done_result .., fun f hf hok => ?_⟩
  refine Eq.trans (congrArg (fun c : Word => bitsN c.toNat f.lo f.w) (hz.word hrec)) ?_
  rw [bitsN_toNat_ofNat _ _ _ (fields_gpioCfg f hf).2.2, bits_written_gpioCfg hacc hf hok]

theorem aliasAddr_gpioCfg (base : Nat) (n : Fin 6) : aliasAddr base (RegId.gpioCfg.loc n) = base + RegId.gpioCfg.addr n := by
  obtain ⟨-, hlt, -⟩ := gpioCfg_place n
  rw [aliasAddr, loc_toNat (by omega), if_pos hlt]

/-- OUT and EDGE of GPIO_CFG, whose values are never reserved. -/
theorem out_edge_gpioCfg : fl "OUT" 8 1 .rw 0 .i ∈ RegId.gpioCfg.fields ∧ fl "EDGE" 9 2 .rw 0 .i ∈ RegId.gpioCfg.fields := by decide

section
variable (s : State) (p : Port) (d : Dom) (n : Fin 6) (w : Word)

theorem setAliasWrite_gives (h : s.accepts p d .gpioCfg n w.toNat .set = true) :
    Gives (.setAliasWrite p d (RegId.gpioCfg.loc n) w) s fun t => t.done p = true ∧
      t.g F.gpioCfg_OUT n = s.g F.gpioCfg_OUT n ||| bitsN w.toNat 8 1 ∧
      t.g F.gpioCfg_EDGE n = s.g F.gpioCfg_EDGE n ||| bitsN w.toNat 9 2 := by
  obtain ⟨-, hset, -, -⟩ := gpioCfg_views n
  obtain ⟨t, hx, hdone, hf⟩ := gpioCfg_gives h hset
  have hor : ∀ k lo, (bitsN (s.rd .gpioCfg n).toNat lo k ||| bitsN w.toNat lo k) % 2 ^ k =
      bitsN (s.rd .gpioCfg n).toNat lo k ||| bitsN w.toNat lo k := fun k lo =>
    Nat.mod_eq_of_lt (Nat.or_lt_two_pow (bitsN_lt ..) (bitsN_lt ..))
  refine gives_of (t := t) ?_ ⟨hdone, ?_, ?_⟩
  · change execSetAliasWrite p d _ w s = _
    rw [execSetAliasWrite, aliasAddr_gpioCfg, hx]
  · exact (hf _ out_edge_gpioCfg.1 rfl).trans ((congrArg (· % 2 ^ 1) (fieldNew_set ..)).trans (hor 1 8))
  · exact (hf _ out_edge_gpioCfg.2 rfl).trans ((congrArg (· % 2 ^ 2) (fieldNew_set ..)).trans (hor 2 9))

theorem clearAliasWrite_gives (h : s.accepts p d .gpioCfg n w.toNat .clr = true) :
    Gives (.clearAliasWrite p d (RegId.gpioCfg.loc n) w) s fun t => t.done p = true ∧
      t.g F.gpioCfg_OUT n = s.g F.gpioCfg_OUT n &&& (1 - bitsN w.toNat 8 1) ∧
      t.g F.gpioCfg_EDGE n = s.g F.gpioCfg_EDGE n &&& (3 - bitsN w.toNat 9 2) := by
  obtain ⟨-, -, hclr, -⟩ := gpioCfg_views n
  obtain ⟨t, hx, hdone, hf⟩ := gpioCfg_gives h hclr
  have hone : ∀ c m : Fin 2, (c.val - (c.val &&& m.val)) % 2 ^ 1 = c.val &&& (1 - m.val) := by decide
  have htwo : ∀ c m : Fin 4, (c.val - (c.val &&& m.val)) % 2 ^ 2 = c.val &&& (3 - m.val) := by decide
  refine gives_of (t := t) ?_ ⟨hdone, ?_, ?_⟩
  · change execClearAliasWrite p d _ w s = _
    rw [execClearAliasWrite, aliasAddr_gpioCfg, hx]
  · exact (hf _ out_edge_gpioCfg.1 rfl).trans ((congrArg (· % 2 ^ 1) (fieldNew_clr ..)).trans
      (hone ⟨_, bitsN_lt _ 8 1⟩ ⟨_, bitsN_lt _ 8 1⟩))
  · exact (hf _ out_edge_gpioCfg.2 rfl).trans ((congrArg (· % 2 ^ 2) (fieldNew_clr ..)).trans
      (htwo ⟨_, bitsN_lt _ 9 2⟩ ⟨_, bitsN_lt _ 9 2⟩))

theorem toggleAliasWrite_gives (h : s.accepts p d .gpioCfg n w.toNat .tgl = true) :
    Gives (.toggleAliasWrite p d (RegId.gpioCfg.loc n) w) s fun t => t.done p = true ∧
      t.g F.gpioCfg_OUT n = s.g F.gpioCfg_OUT n ^^^ bitsN w.toNat 8 1 ∧
      t.g F.gpioCfg_EDGE n = s.g F.gpioCfg_EDGE n ^^^ bitsN w.toNat 9 2 := by
  obtain ⟨-, -, -, htgl⟩ := gpioCfg_views n
  obtain ⟨t, hx, hdone, hf⟩ := gpioCfg_gives h htgl
  have hxor : ∀ k lo, (bitsN (s.rd .gpioCfg n).toNat lo k ^^^ bitsN w.toNat lo k) % 2 ^ k =
      bitsN (s.rd .gpioCfg n).toNat lo k ^^^ bitsN w.toNat lo k := fun k lo =>
    Nat.mod_eq_of_lt (Nat.xor_lt_two_pow (bitsN_lt ..) (bitsN_lt ..))
  refine gives_of (t := t) ?_ ⟨hdone, ?_, ?_⟩
  · change execToggleAliasWrite p d _ w s = _
    rw [execToggleAliasWrite, aliasAddr_gpioCfg, hx]
  · exact (hf _ out_edge_gpioCfg.1 rfl).trans ((congrArg (· % 2 ^ 1) (fieldNew_tgl ..)).trans (hxor 1 8))
  · exact (hf _ out_edge_gpioCfg.2 rfl).trans ((congrArg (· % 2 ^ 2) (fieldNew_tgl ..)).trans (hxor 2 9))

end

/-! ### A whole write of GPIO_CFG -/

theorem outside_testBit (l : List Field) (w k : Nat) : (outside l w).testBit k =
    (decide (k < 32) && w.testBit k && !l.any (fun f => decide (f.lo ≤ k) && decide (k < f.lo + f.w))) := by
  have hfold : ∀ n : Nat, (l.foldl (fun w f => putN w f.lo f.w 0) n).testBit k =
      (n.testBit k && !l.any (fun f => decide (f.lo ≤ k) && decide (k < f.lo + f.w))) := by
    induction l with
    | nil => simp
    | cons f t ih =>
      intro n
      rw [List.foldl_cons, ih, putN_testBit, List.any_cons]
      by_cases h : f.lo ≤ k ∧ k < f.lo + f.w
      · simp [h]
      · rw [if_neg h]
        simp [← Bool.decide_and, h]
  rw [outside, hfold, Nat.testBit_mod_two_pow]

/-- A word with the bits outside the fields of GPIO_CFG clear carries no 1 to a reserved bit. -/
theorem reservedOnes_gpioCfg {w : Word} (h : w &&& 0xFFFFF808 = 0) (i : Nat) :
    reservedOnes .reg (effFields .gpioCfg i) w.toNat = false := by
  have hmask : ∀ k : Fin 32, (!RegId.gpioCfg.fields.any (fun f => decide (f.lo ≤ k) && decide (k < f.lo + f.w))) =
      (0xFFFFF808 : Word).getLsbD k := by decide
  have hzero : outside RegId.gpioCfg.fields w.toNat = 0 := by
    refine Nat.eq_of_testBit_eq fun k => ?_
    rw [outside_testBit, Nat.zero_testBit]
    by_cases hk : k < 32
    · have hbit := congrArg (fun x : Word => x.getLsbD k) h
      simp only [BitVec.getLsbD_and] at hbit
      rw [hmask ⟨k, hk⟩, BitVec.testBit_toNat, decide_eq_true hk, Bool.true_and, hbit]
      exact BitVec.getLsbD_zero
    · simp [hk]
  exact bne_eq_false_iff_eq.mpr hzero

/-- The reserved values of GPIO_CFG. -/
theorem ok_gpioCfg {w : Nat} (hfunc : bitsN w 0 3 ≤ 4) (hpull : bitsN w 4 2 ≤ 2) :
    ∀ f ∈ RegId.gpioCfg.fields, f.ok.ok (bitsN w f.lo f.w) = true := by
  have h : ∀ f ∈ RegId.gpioCfg.fields, f.ok = .any ∨ (f.lo = 0 ∧ f.w = 3 ∧ f.ok = .range 0 4) ∨
      (f.lo = 4 ∧ f.w = 2 ∧ f.ok = .range 0 2) := by decide
  intro f hf
  rcases h f hf with hok | ⟨hlo, hw, hok⟩ | ⟨hlo, hw, hok⟩
  · rw [hok]
    rfl
  · simp [hok, hlo, hw, ValRule.ok, hfunc]
  · simp [hok, hlo, hw, ValRule.ok, hpull]

theorem registerWrite_gives (s : State) (p : Port) (d : Dom) (n : Fin 6) (w : Word) (h : s.accepts p d .gpioCfg n w.toNat = true)
    (hfunc : bitsN w.toNat 0 3 ≤ 4) (hpull : bitsN w.toNat 4 2 ≤ 2) (hzero : w &&& 0xFFFFF808 = 0) (hs : s.stagedOk) :
    Gives (.registerWrite p d (RegId.gpioCfg.loc n) w) s fun t => t.done p = true ∧
      t.g F.gpioCfg_FUNC n = bitsN w.toNat 0 3 ∧ t.g F.gpioCfg_OD n = bitsN w.toNat 6 1 ∧
      t.g F.gpioCfg_INV n = bitsN w.toNat 7 1 ∧ t.g F.gpioCfg_OUT n = bitsN w.toNat 8 1 ∧
      t.g F.gpioCfg_EDGE n = bitsN w.toNat 9 2 ∧
      (∀ r j, r.addr j ≠ RegId.gpioCfg.addr n → t.rd r j = s.rd r j) ∧ t.mem = s.mem ∧ t.staged = s.staged := by
  obtain ⟨hfind, hlt, -, hpost⟩ := gpioCfg_place n
  obtain ⟨hd, -⟩ := gpioCfg_views n
  obtain ⟨hx, hacc⟩ := writeCmd_accepts_view h hd hpost (by decide)
  have hok := ok_gpioCfg hfunc hpull
  have htakes : ∀ f ∈ RegId.gpioCfg.fields, ∀ cur, s.takes p d .gpioCfg n .reg w.toNat cur f = some (bitsN w.toNat f.lo f.w) :=
    fun f hf cur => takes_open openReg_gpioCfg rfl (hok f hf)
  obtain ⟨hclean, hst⟩ := written_clean (s := s) (p := p) (d := d) (r := .gpioCfg) (i := n) (v := .reg) (w := w.toNat) hacc
    (hs.ne_addr hfind fun f hf => (fields_gpioCfg f hf).2.1) fun f hf =>
      .inr ⟨(fields_gpioCfg f hf).1, (fields_gpioCfg f hf).2.1, fun cur => ⟨_, htakes f hf cur⟩⟩
  obtain ⟨z, hz, happ⟩ := applyReg_clean (a := RegId.gpioCfg.addr n) plainReg_gpioCfg hclean (reservedOnes_gpioCfg hzero n)
  rw [happ, onWrite_gpioCfg] at hx
  have hword : ∀ f ∈ RegId.gpioCfg.fields, bitsN (z.rd .gpioCfg n).toNat f.lo f.w = bitsN w.toNat f.lo f.w := fun f hf => by
    obtain ⟨hrw, hb, h32⟩ := fields_gpioCfg f hf
    rw [hz.word List.not_mem_nil, bitsN_toNat_ofNat _ _ _ h32]
    refine (word_fields_takes (split_gpioCfg n) hf hrw hb (htakes f hf _)).trans ?_
    rw [inOrder_alone hacc, Nat.mod_eq_of_lt (bitsN_lt ..)]
  have hfields : ∀ lo k, (∃ f ∈ RegId.gpioCfg.fields, f.lo = lo ∧ f.w = k) → bitsN (z.rd .gpioCfg n).toNat lo k = bitsN w.toNat lo k := by
    rintro _ _ ⟨f, hf, rfl, rfl⟩
    exact hword f hf
  refine gives_of (t := (z.loose s p).result p 0 0) ?_ ⟨done_result .., hfields 0 3 (by decide), hfields 6 1 (by decide),
    hfields 7 1 (by decide), hfields 8 1 (by decide), hfields 9 2 (by decide), fun r j hne => hz.other r j List.not_mem_nil hne, hz.mem,
    staged_loose_same p (hz.staged.trans hst)⟩
  change execRegisterWrite p d _ w s = _
  rw [execRegisterWrite, loc_toNat (by omega), hx]

/-! ### OWN_STR: a register whose fields wait for the slice boundary -/

theorem ownStr_place : decode (RegId.ownStr.addr 0) true = .reg .reg .ownStr 0 ∧ RegId.ownStr.addr 0 ∉ recordAddrs := by decide

theorem openReg_ownStr : openReg .ownStr := fun _ _ _ _ _ => ⟨Bool.or_true _, fun _ _ => ⟨rfl, Bool.and_true _⟩⟩

theorem fields_ownStr : ∀ f ∈ RegId.ownStr.fields, f.acc = .rw ∧ f.bake ≠ .i := by decide

theorem split_ownStr : splitFields .ownStr 0 := show RegId.ownStr.fields.Pairwise fun f g => f.apart g = true by decide

theorem exists_field_ownStr : ∀ k : Fin 7, ∃ f ∈ RegId.ownStr.fields, f.lo = 2 * k ∧ f.w = 2 ∧ f.ok = .any := by decide

/-- A write of OWN_STR sets nothing off, and nothing bakes at once. -/
theorem onWrite_ownStr (s old : State) (p : Port) (d a i : Nat) (v : View) (w nw : Nat) (cmd : Bool) :
    (s.onWrite old p d a .ownStr i v w nw cmd).bakeNow p .ownStr i = s := by
  have hbake : ∀ c ∈ [Bake.p, .f, .k], RegId.ownStr.fields.any (fun f => f.bake == c) = false := by decide
  simp only [State.bakeNow, hbake .p (by decide), hbake .f (by decide), hbake .k (by decide), Bool.false_eq_true, if_false,
    Bool.false_and]
  rfl

theorem ownStrWrite_gives (s : State) (p : Port) (d : Dom) (w : Word) (h : s.accepts p d .ownStr 0 w.toNat = true) :
    Gives (.registerWrite p d (RegId.ownStr.loc 0) w) s fun t => t.done p = true ∧ t.rd .ownStr = s.rd .ownStr ∧
      ∀ k, k < 7 → stagedVal t.staged 0x1000 (2 * k) = some (bitsN w.toNat (2 * k) 2) := by
  obtain ⟨hd, hrec⟩ := ownStr_place
  obtain ⟨hx, hacc⟩ := writeCmd_accepts_view h hd (by decide) (by decide)
  obtain ⟨z, hz, happ⟩ := applyReg_wrote (a := RegId.ownStr.addr 0) ⟨rfl, rfl, fun _ _ => rfl⟩
    (coll_written_lt s p d 0 .reg w.toNat (r := .ownStr) (by decide))
  rw [happ, onWrite_ownStr] at hx
  refine gives_of (t := (z.loose s p).result p 0 0) ?_ ⟨done_result .., ?_, fun k hk => ?_⟩
  · change execRegisterWrite p d _ w s = _
    rw [execRegisterWrite, loc_toNat (by decide), hx]
  · refine (hz.word hrec).trans ?_
    rw [State.written, word_fields_staged (r := .ownStr) fields_ownStr, BitVec.ofNat_toNat, BitVec.setWidth_eq]
  · obtain ⟨f, hf, hlo, hw, hok⟩ := exists_field_ownStr ⟨k, hk⟩
    obtain ⟨hrw, hb⟩ := fields_ownStr f hf
    have hval := st_fields_takes (s := s) (p := p) (d := d) (v := .reg) (w := w.toNat) (r := .ownStr)
      (u := { word := (s.rd .ownStr).toNat, st := s.staged }) split_ownStr hf hrw hb (takes_open openReg_ownStr rfl (by rw [hok]; rfl))
    rw [inOrder_alone hacc, hlo, hw] at hval
    exact (stagedVal_loose ..).trans (hz.staged ▸ hval)

end Sys2Proof.Machine
end

section

/-!
PROOF. Writes of one bit, in halves, posted, and of two ports in one cycle (04 R121; 05 R161, R162; 06 R195, R222); from these the register writes.
-/

namespace Sys2Proof.Machine

/-! ### INTd_ENk: one bit through its own address (06 R195) -/

/-- Bits that no field changes: each field lies beside them or takes no value. -/
theorem word_fields_kept {s : State} {p : Port} {d : Nat} {r : RegId} {i : Nat} {v : View} {w lo n : Nat} {u : Upd}
    (h : ∀ f ∈ effFields r i, (lo + n ≤ f.lo ∨ f.lo + f.w ≤ lo) ∨ f.acc = .rw ∧ ∀ cur, fieldNew v cur w f = none) :
    bitsN (s.fields p d r i v w u).word lo n = bitsN u.word lo n :=
  each_keeps_mem (fun u : Upd => bitsN u.word lo n) _ (fun f u => s.writeField p d r i v w u f) u fun f hf u => by
    rcases h f hf with hapart | ⟨hrw, hnone⟩
    · exact word_writeField_apart hapart
    · rw [State.writeField, hrw]
      exact congrArg (bitsN · lo n) (writeRw_none (takes_open_none (hnone _))).1

/-- The address of one bit of a register of the register blocks. -/
theorem decode_bitAddr {r : RegId} {i b : Nat} (h : findReg (r.addr i) = some (r, i)) (h4 : r.addr i % 4 = 0) (hlt : r.addr i < 0x20000)
    (hb : b < 32) (hbit : r.rule.bitAlias = true) (htop : b < topBit (effFields r i)) :
    decode (0x400000 + r.addr i * 32 + 4 * b) true = .reg (.bit b) r i := by
  have hview : viewOf (0x400000 + r.addr i * 32 + 4 * b) = (.bit b, r.addr i) := by
    unfold viewOf
    rw [if_neg (by omega), if_neg (by omega), if_neg (by omega), if_neg (by omega), if_neg (by omega)]
    exact Prod.ext (congrArg View.bit (by omega)) (by dsimp only; omega)
  unfold decode
  rw [if_pos (by omega), if_neg (by omega)]
  simp only [hview, h, hbit, htop, decide_true, Bool.and_self, if_true]

theorem intEn_place : ∀ i : Fin 12, findReg (RegId.intEn.addr i) = some (.intEn, i.val) ∧ RegId.intEn.addr i % 4 = 0 ∧
    RegId.intEn.addr i < 0x20000 ∧ topBit (effFields .intEn i) = 32 ∧ RegId.intEn.addr i ∉ recordAddrs ∧
    postedReg .intEn i = false := by decide

theorem fields_intEn : ∀ f ∈ RegId.intEn.fields, f.acc = .rw ∧ f.bake = .i ∧ f.w = 1 ∧ f.ok = .any := by decide

theorem mem_fields_intEn {i : Nat} {f : Field} : f ∈ effFields .intEn i ↔ f ∈ RegId.intEn.fields ∧ ¬(i % 3 = 0 ∧ f.lo = 23) := by
  rw [effFields, List.mem_filter]
  simp [imp_iff_not_or]

theorem split_intEn (i : Nat) : splitFields .intEn i :=
  List.Pairwise.filter _ (show RegId.intEn.fields.Pairwise fun f g => f.apart g = true by decide)

theorem exists_field_intEn : ∀ b : Fin 32, ∃ f ∈ RegId.intEn.fields, f.lo = b := by decide

/-- A write of an enable forgets events that assert no more, which no register shows (05 R150). -/
theorem onWrite_intEn (s old : State) (p : Port) (d a i : Nat) (v : View) (w nw : Nat) (cmd : Bool) :
    (s.onWrite old p d a .intEn i v w nw cmd).bakeNow p .intEn i = s.evPrune :=
  bakeNow_immediate _ _ _ (by decide)

theorem fieldNew_bit_ne {cur w b : Nat} {f : Field} (hw : f.w = 1) (h : f.lo ≠ b) : fieldNew (.bit b) cur w f = none := by
  unfold fieldNew
  dsimp only
  rw [hw, if_neg (by simp; omega)]

theorem fieldNew_bit_same {cur w : Nat} {f : Field} (hw : f.w = 1) (hcur : cur < 2) :
    fieldNew (.bit f.lo) cur w f = some (w % 2) := by
  have hput : putN cur 0 1 (w % 2) = w % 2 := by
    simp only [putN, bitsN]
    omega
  simp [fieldNew, hw, hput]

theorem bitAliasWrite_gives (s : State) (p : Port) (d : Dom) (i : Fin 12) (b : Fin 32) (v : Bool)
    (h : s.accepts p d .intEn i (if v then 1 else 0) (.bit b) = true) (hown : s.irqOwner (32 * (i.val % 3) + b) = some d.val) :
    Gives (.bitAliasWrite p d (RegId.intEn.loc i) b v) s fun t =>
      t.done p = true ∧ t.rbit .intEn i b = v ∧ ∀ k : Fin 32, k ≠ b → t.rbit .intEn i k = s.rbit .intEn i k := by
  obtain ⟨hfind, h4, hlt, htop, hrec, hpost⟩ := intEn_place i
  obtain ⟨hx, hacc⟩ := writeCmd_accepts_view h (decode_bitAddr hfind h4 hlt b.isLt rfl (by rw [htop]; exact b.isLt)) hpost (by decide)
  obtain ⟨z, hz, happ⟩ := applyReg_wrote (a := 0x400000 + RegId.intEn.addr i * 32 + 4 * b) (d := d) ⟨rfl, rfl, fun _ _ => rfl⟩
    (coll_written_lt s p d i (.bit b) (if v then 1 else 0) (r := .intEn) (by decide))
  rw [happ, onWrite_intEn] at hx
  have hbit : ∀ k < 32, bitsN (z.rd .intEn i).toNat k 1 =
      bitsN (s.written p d .intEn i (.bit b) (if v then 1 else 0)).word k 1 := fun k hk => by
    rw [hz.word hrec, bitsN_toNat_ofNat _ _ _ (by omega)]
  refine gives_of (t := (z.evPrune.loose s p).result p 0 0) ?_ ⟨done_result .., ?_, fun k hk => ?_⟩
  · change execBitAliasWrite p d _ b v s = _
    rw [execBitAliasWrite, bitAddr, loc_toNat (by omega), if_pos hlt, hx]
  · obtain ⟨f, hf, hlo⟩ := exists_field_intEn b
    obtain ⟨hrw, hb, hw, hok⟩ := fields_intEn f hf
    have hmem : f ∈ effFields .intEn i := mem_fields_intEn.mpr ⟨hf, fun ⟨hi, h23⟩ => by
      rw [hi, ← hlo, h23] at hown
      cases hown⟩
    have htakes : s.takes p d .intEn i (.bit f.lo) (if v then 1 else 0) (bitsN (s.rd .intEn i).toNat f.lo f.w) f =
        some ((if v then 1 else 0) % 2) := by
      have howned : s.fieldOwned p d .intEn i f = true := by
        have : (s.irqOwner (32 * (i.val % 3) + f.lo) == some d.val) = true := by rw [hlo, hown, beq_self_eq_true]
        exact (Bool.or_eq_true ..).mpr (.inr this)
      have hcur : bitsN (s.rd .intEn i).toNat f.lo f.w < 2 := hw ▸ bitsN_lt _ f.lo 1
      simp [State.takes, fieldNew_bit_same hw hcur, howned, State.ignores, State.valueOk, hok, ValRule.ok]
    have hval := word_fields_takes (u := { word := (s.rd .intEn i).toNat, st := s.staged }) (split_intEn i) hmem hrw hb htakes
    rw [inOrder_alone hacc, hw, hlo] at hval
    refine (congrArg (· == 1) ((hbit b b.isLt).trans hval)).trans ?_
    cases v <;> rfl
  · have hkept := word_fields_kept (s := s) (p := p) (d := d) (r := .intEn) (i := i) (v := .bit b) (w := if v then 1 else 0) (lo := k)
      (n := 1) (u := { word := (s.rd .intEn i).toNat, st := s.staged }) fun f hf => by
        obtain ⟨hrw, -, hw, -⟩ := fields_intEn f (mem_fields_intEn.mp hf).1
        by_cases hlo : f.lo = b
        · refine .inl ?_
          have : k.val ≠ b.val := fun e => hk (Fin.ext e)
          omega
        · exact .inr ⟨hrw, fun cur => fieldNew_bit_ne hw hlo⟩
    exact congrArg (· == 1) ((hbit k k.isLt).trans hkept)

/-! ### NET_TFLOOR: the _LO half takes the held _HI half with it (06 R222) -/

theorem netTfloorLo_place : decode (RegId.netTfloorLo.addr 0) true = .reg .reg .netTfloorLo 0 ∧
    RegId.netTfloorLo.addr 0 ∉ recordAddrs ∧ postedReg .netTfloorLo 0 = false ∧
    RegId.netTfloorLo.addr 0 ≠ RegId.netTfloorHi.addr 0 := by decide

theorem onWrite_netTfloorLo (s old : State) (p : Port) (d a i : Nat) (v : View) (w nw : Nat) (cmd : Bool) :
    (s.onWrite old p d a .netTfloorLo i v w nw cmd).bakeNow p .netTfloorLo i =
      (s.wr .netTfloorHi 0 (BitVec.ofNat 32 (s.heldHi p (RegId.netTfloorHi.addr 0) % 65536))).modNet
        (fun n => { n with ht := s.heldHi p (RegId.netTfloorHi.addr 0) % 65536 * 2 ^ 32 + nw }) :=
  bakeNow_immediate _ _ _ (by decide)

theorem putN_whole {n x : Nat} (hn : n < 2 ^ 32) (hx : x < 2 ^ 32) : putN n 0 32 x = x := by
  simp only [putN, bitsN]
  omega

/-- NET_TFLOOR_LO is one field. -/
theorem written_netTfloorLo {s : State} {p : Port} {d w : Nat} (hacc : (s.cycFor p).accs = []) (hw : w < 2 ^ 32) :
    (s.written p d .netTfloorLo 0 .reg w).word = w := by
  have hopen : openReg .netTfloorLo := fun _ _ _ _ _ => ⟨Bool.or_true _, fun _ _ => ⟨rfl, Bool.and_true _⟩⟩
  have hbits : bitsN w 0 32 = w := by
    rw [bitsN, Nat.pow_zero, Nat.div_one, Nat.mod_eq_of_lt hw]
  have hx := writeRw_immediate (s := s) (p := p) (d := d) (i := 0) (u := { word := (s.rd .netTfloorLo).toNat, st := s.staged })
    (f := fl "FLOOR" 0 32 .rw 0 .i) (takes_open hopen (v := .reg) (w := w) rfl rfl) rfl
  calc (s.written p d .netTfloorLo 0 .reg w).word
      = (s.writeRw p d .netTfloorLo 0 .reg w { word := (s.rd .netTfloorLo).toNat, st := s.staged } (fl "FLOOR" 0 32 .rw 0 .i)).word := rfl
    _ = putN (s.rd .netTfloorLo).toNat 0 32 (bitsN w 0 32) := by
        rw [hx, inOrder_alone hacc]
        rfl
    _ = w := by rw [hbits, putN_whole (s.rd .netTfloorLo).isLt hw]

theorem netTfloorLo_gives {s : State} {p : Port} {d : Dom} {w : Word} (h : s.accepts p d .netTfloorLo 0 w.toNat = true) :
    ∃ t, s.writeReg p d .netTfloorLo 0 w.toNat = .next t ∧ t.done p = true ∧ t.rd .netTfloorLo = w ∧
      (t.rd .netTfloorHi).toNat = s.heldHi p (RegId.netTfloorHi.addr 0) % 65536 ∧
      t.net.ht = s.heldHi p (RegId.netTfloorHi.addr 0) % 65536 * 2 ^ 32 + w.toNat := by
  obtain ⟨hd, hrec, hpost, hne⟩ := netTfloorLo_place
  obtain ⟨hx, hacc⟩ := writeCmd_accepts_view h hd hpost (by decide)
  obtain ⟨z, hz, happ⟩ := applyReg_wrote (a := RegId.netTfloorLo.addr 0) ⟨rfl, rfl, fun _ _ => rfl⟩
    (coll_written_lt s p d 0 .reg w.toNat (r := .netTfloorLo) (by decide))
  have hheld : z.heldHi p (RegId.netTfloorHi.addr 0) = s.heldHi p (RegId.netTfloorHi.addr 0) := by
    rw [State.heldHi, hz.holdHi, State.heldHi]
  have hword := hz.word hrec
  rw [happ, onWrite_netTfloorLo, hheld, written_netTfloorLo hacc w.isLt] at hx
  rw [written_netTfloorLo hacc w.isLt] at hword
  refine ⟨_, hx, done_result .., ?_, ?_, rfl⟩
  · refine (rd_wr_ne z .netTfloorHi .netTfloorLo 0 0 _ hne).trans (hword.trans ?_)
    rw [BitVec.ofNat_toNat, BitVec.setWidth_eq]
  · refine (congrArg BitVec.toNat (rd_wr_same z .netTfloorHi 0 _)).trans ?_
    rw [BitVec.toNat_ofNat, Nat.mod_eq_of_lt (by omega)]

theorem netTfloorWrite_gives (s : State) (p : Port) (d : Dom) (w : Word) (h : s.accepts p d .netTfloorLo 0 w.toNat = true) :
    ∀ i ∈ [Instr.wideLoWrite p d (RegId.netTfloorLo.loc 0) w, .netTfloorWrite p d w], Gives i s fun t =>
      let h := s.heldHi p (RegId.netTfloorHi.addr 0) % 65536
      t.done p = true ∧ t.rd .netTfloorLo = w ∧ (t.rd .netTfloorHi).toNat = h ∧ t.net.ht = h * 2 ^ 32 + w.toNat := by
  obtain ⟨t, hx, ht⟩ := netTfloorLo_gives h
  have hwide : exec (.wideLoWrite p d (RegId.netTfloorLo.loc 0) w) s = s.writeReg p d .netTfloorLo 0 w.toNat := by
    change execWideLoWrite p d _ w s = _
    rw [execWideLoWrite, loc_toNat (by decide)]
    rfl
  intro i hi
  simp only [List.mem_cons, List.not_mem_nil, or_false] at hi
  rcases hi with rfl | rfl
  · exact gives_of (hwide.trans hx) ht
  · exact gives_of hx ht

/-! ### PPWMn_TRG: a posted write (04 R121) -/

theorem pwmTrg_place : ∀ n : Fin 6, decode (RegId.pwmTrg.addr n) true = .reg .reg .pwmTrg n ∧ RegId.pwmTrg.addr n ∉ recordAddrs ∧
    Fin.ofNat 6 n.val = n := by decide

theorem openReg_pwmTrg : openReg .pwmTrg := fun _ _ _ _ _ => ⟨Bool.or_true _, fun _ _ => ⟨rfl, Bool.and_true _⟩⟩

theorem fields_pwmTrg : ∀ f ∈ RegId.pwmTrg.fields, f.acc = .rw ∧ f.bake ≠ .i ∧ f.ok = .any := by decide

theorem split_pwmTrg (i : Nat) : splitFields .pwmTrg i := show RegId.pwmTrg.fields.Pairwise fun f g => f.apart g = true by decide

/-- A write of PPWMn_TRG sets nothing off; while the generator runs its values wait for a P point (06 R200). -/
theorem onWrite_pwmTrg {s : State} {n : Fin 6} (hrun : (s.pw n).run = true) (old : State) (p : Port) (d a : Nat) (v : View) (w nw : Nat)
    (cmd : Bool) : (s.onWrite old p d a .pwmTrg n v w nw cmd).bakeNow p .pwmTrg n = s := by
  have hbake : ∀ c ∈ [Bake.f, .k], RegId.pwmTrg.fields.any (fun f => f.bake == c) = false := by decide
  have hstop : s.bakeStopped n = s := by simp [State.bakeStopped, hrun]
  change s.bakeNow p .pwmTrg n = s
  simp only [State.bakeNow, hbake .f (by decide), hbake .k (by decide), (pwmTrg_place n).2.2, hstop, Bool.false_eq_true, if_false,
    Bool.false_and, ite_self]

/-- Whatever a write records, its staged copies stand, and the buffers and generators are as before. -/
theorem applyReg_stages {s : State} {p : Port} {d a : Nat} {r : RegId} {i : Nat} {v : View} {w : Nat} (hr : plainReg r) :
    ∃ z : State, (z.staged = (s.written p d r i v w).st ∧ z.posted = s.posted ∧ z.pwm = s.pwm) ∧ s.applyReg p d a r i v w =
      (z.onWrite s p d a r i v w (s.written p d r i v w).word (!(s.written p d r i v w).cmdBad)).bakeNow p r i := by
  rw [applyReg_eq hr]
  dsimp only
  generalize s.written p d r i v w = u
  refine ⟨_, ?_, rfl⟩
  have hwrote := (Wrote.of_fields (off := []) s r i u).unmarked r i
  have hrsvw : ∀ (t : State) (b : Bool), Quiet t (if b then t.rsvw (evDom p d) p.code a else t) := fun t b =>
    .ite (.rsvw ..) (.refl t)
  have hviol : ∀ (t : State) (b : Bool), Quiet t (if b then t.violate d p.code a 1 else t) := fun t b => .ite (.violate ..) (.refl t)
  have hq := fun t => (hrsvw t (u.rsvw || reservedOnes v (effFields r i) w)).trans (hviol _ u.viol)
  have hcoll := fun t => Quiet.each (l := u.coll.eraseDups) (fun x t => Quiet.wrcoll t x p.code a) t
  exact ⟨(hcoll _).staged.trans ((hq _).staged.trans hwrote.staged), (hcoll _).posted.trans ((hq _).posted.trans hwrote.posted),
    (hcoll _).pwm.trans ((hq _).pwm.trans hwrote.pwm)⟩

theorem frozenWrite_pwmTrg (s : State) (p : Port) (i : Nat) (v : View) (w : Nat) : s.frozenWrite p .pwmTrg i v w = false := rfl

theorem postedWriteEffect_gives (s : State) (q : Posted) (n : Fin 6) (hpost : s.posted = [q]) (haddr : q.addr = RegId.pwmTrg.addr n)
    (hclk : s.clk.fsys = true) (hacc : (s.cycFor q.port).accs = [])
    (hright : s.writeRight q.port q.dom .pwmTrg n .reg q.data.toNat = .ok true) (hrun : (s.pw n).run = true) :
    Gives (.postedWriteEffect q.port) s fun t => t.posted = [] ∧
      stagedVal t.staged q.addr 0 = some (bitsN q.data.toNat 0 16) ∧
      stagedVal t.staged q.addr 16 = some (bitsN q.data.toNat 16 2) ∧
      stagedVal t.staged q.addr 18 = some (bitsN q.data.toNat 18 4) := by
  obtain ⟨hd, -, -⟩ := pwmTrg_place n
  let s0 := { s with posted := [] }
  have hright0 : s0.writeRight q.port q.dom .pwmTrg n .reg q.data.toNat = .ok true := hright
  obtain ⟨z, ⟨hst, hposted, hpwm⟩, happ⟩ := applyReg_stages (s := s0) (p := q.port) (d := q.dom) (a := q.addr) (r := .pwmTrg) (i := n)
    (v := .reg) (w := q.data.toNat) ⟨rfl, rfl, fun _ _ => rfl⟩
  have hrun_z : (z.pw n).run = true := by
    rw [State.pw, hpwm]
    exact hrun
  rw [onWrite_pwmTrg hrun_z] at happ
  have hx : exec (.postedWriteEffect q.port) s = .next z := by
    change execPostedWriteEffect q.port s = _
    have hhead : s.postHead q.port = s0.postEffect q := by simp [State.postHead, hpost, s0]
    rw [execPostedWriteEffect, if_pos hclk, hhead]
    simp only [State.postEffect, haddr, hd, hright0, State.regEffect, frozenWrite_pwmTrg, Bool.false_eq_true, if_false]
    rw [← haddr, happ]
  have hstaged : ∀ f ∈ RegId.pwmTrg.fields, stagedVal z.staged q.addr f.lo = some (bitsN q.data.toNat f.lo f.w) := fun f hf => by
    obtain ⟨hrw, hb, hok⟩ := fields_pwmTrg f hf
    have hval := st_fields_takes (s := s0) (p := q.port) (d := q.dom) (v := .reg) (w := q.data.toNat) (r := .pwmTrg) (i := n)
      (u := { word := (s0.rd .pwmTrg n).toNat, st := s0.staged }) (split_pwmTrg n) hf hrw hb
      (takes_open openReg_pwmTrg rfl (by rw [hok]; rfl))
    rw [inOrder_alone (s := s0) hacc] at hval
    rw [hst, haddr]
    exact hval
  have hfield : ∀ lo k, (∃ f ∈ RegId.pwmTrg.fields, f.lo = lo ∧ f.w = k) →
      stagedVal z.staged q.addr lo = some (bitsN q.data.toNat lo k) := by
    rintro _ _ ⟨f, hf, rfl, rfl⟩
    exact hstaged f hf
  exact gives_of hx ⟨hposted, hfield 0 16 (by decide), hfield 16 2 (by decide), hfield 18 4 (by decide)⟩

/-! ### Two ports in one cycle (05 R161, R162) -/

/-- A collision of one field stands among those of the register. -/
theorem mem_coll_foldl {s : State} {p : Port} {d : Nat} {r : RegId} {i : Nat} {v : View} {w c : Nat} {f : Field} {l : List Field}
    (hrw : ∀ g ∈ l, g.acc = .rw) (hf : f ∈ l) (h : ∀ u, c ∈ (s.writeRw p d r i v w u f).coll) (u : Upd) :
    c ∈ (l.foldl (s.writeField p d r i v w) u).coll := by
  have hmono : ∀ (u : Upd) (g : Field), c ∈ u.coll → c ∈ (s.writeRw p d r i v w u g).coll := fun u g hc => by
    have hcolls : ∀ x, c ∈ s.colls p r i v w u g x := fun x => by
      unfold State.colls
      split
      · exact List.mem_append_left _ hc
      · exact hc
    cases hx : s.takes p d r i v w (s.present r i u g) g with
    | none => exact (writeRw_none hx).2.2 ▸ hc
    | some x =>
      by_cases hb : g.bake = .i
      · rw [writeRw_immediate hx hb]
        exact hcolls x
      · rw [writeRw_staged hx hb]
        exact hcolls x
  induction l generalizing u with
  | nil => cases hf
  | cons g t ih =>
    have hstep : s.writeField p d r i v w u g = s.writeRw p d r i v w u g := by rw [State.writeField, hrw g List.mem_cons_self]
    have hrwt := fun g hg => hrw g (List.mem_cons_of_mem _ hg)
    rw [List.foldl_cons, hstep]
    rcases List.mem_cons.mp hf with rfl | hf
    · exact List.foldlRecOn (motive := fun u : Upd => c ∈ u.coll) t _ (h u) fun u hu g hg => by
        rw [State.writeField, hrwt g hg]
        exact hmono u g hu
    · exact ih hrwt hf _

theorem mem_coll_written {s : State} {p : Port} {d : Nat} {r : RegId} {i : Nat} {v : View} {w c : Nat} {f : Field}
    (hrw : ∀ g ∈ effFields r i, g.acc = .rw) (hf : f ∈ effFields r i) (h : ∀ u, c ∈ (s.writeRw p d r i v w u f).coll) :
    c ∈ (s.written p d r i v w).coll := mem_coll_foldl hrw hf h _

/-- A recorded collision of domain 0 sets its flag. -/
theorem b_wrcoll_same (s : State) (port addr : Nat) : (s.wrcoll 0 port addr).b F.regStat_WRCOLL 0 = true := by
  let s1 := s.pb F.regStat_WRCOLL 0 true
  have hset : s1.b F.regStat_WRCOLL 0 = true := b_pb_same s F.regStat_WRCOLL 0 true (by decide) rfl
  have hirq : ∀ t : State, ∀ n, (t.pendIrq n).b F.regStat_WRCOLL 0 = t.b F.regStat_WRCOLL 0 := fun t n =>
    congrArg (fun w : Word => bitsN w.toNat 2 1 == 1) ((IrqFrame.pendIrq t n).rd .regStat 0 (by decide))
  rw [State.wrcoll, State.regEvent, hirq]
  split
  · exact (b_pb_field s1 (f := F.regStat_CAPOVF) (f' := F.regStat_WRCOLL) 0 true rfl (by decide) (by decide)).trans hset
  · exact (congrArg (fun w : Word => bitsN w.toNat 2 1 == 1) (rd_wr_ne s1 .regCap .regStat 0 0 _ (by decide))).trans hset

theorem each_wrcoll {l : List Nat} (h0 : ∀ x ∈ l, x = 0) (hne : l ≠ []) (port addr : Nat) (s : State) :
    (each l (fun x s => s.wrcoll x port addr) s).b F.regStat_WRCOLL 0 = true := by
  obtain ⟨x, t, rfl⟩ := List.exists_cons_of_ne_nil hne
  obtain rfl := h0 x List.mem_cons_self
  exact List.foldlRecOn (motive := fun s : State => s.b F.regStat_WRCOLL 0 = true) t _ (b_wrcoll_same s port addr) fun u _ y hy => by
    rw [h0 y (List.mem_cons_of_mem _ hy)]
    exact b_wrcoll_same u port addr

/-- The cycle in which the network port has written `w` to the register at `a`, of word `b` before. -/
def netWrote (tick a w b : Nat) : Cyc :=
  { tick := tick, seen := [1], accs := [⟨1, a, 0, w, 2 ^ 32 - 1, w⟩], base := [(a, b)], locks := 0 }

section
variable {s : State} {n : Fin 6} {w x : Word} {b : Nat} (hcyc : s.cyc = netWrote s.tick (RegId.gpioCfg.addr n) w.toNat b)
include hcyc

theorem cycFor_netWrote : s.cycFor .spi = netWrote s.tick (RegId.gpioCfg.addr n) w.toNat b := by
  simp [State.cycFor, hcyc, netWrote, Port.code]

/-- What the network port wrote stands, for its turn comes later. -/
theorem inOrder_netWrote : s.inOrder .spi (RegId.gpioCfg.addr n) (fl "OUT" 8 1 .rw 0 .i) .reg x.toNat (bitsN x.toNat 8 1) =
    bitsN w.toNat 8 1 := by
  have hmask : bitsN (2 ^ 32 - 1) 8 1 = 1 := by decide
  simp only [State.inOrder, cycFor_netWrote hcyc, netWrote, List.filter_cons, beq_self_eq_true, if_true, List.filter_nil, List.any_cons,
    List.any_nil, Port.code, fl, hmask, insAcc]
  rw [if_pos (by simp), if_neg (by simp)]
  simp only [List.foldl_cons, List.foldl_nil, Nat.and_zero, Nat.zero_xor]
theorem collides_netWrote (hne : bitsN w.toNat 8 1 ≠ bitsN x.toNat 8 1) :
    s.collides .spi (RegId.gpioCfg.addr n) (fl "OUT" 8 1 .rw 0 .i) .reg x.toNat (bitsN x.toNat 8 1) = true := by
  have hmask : bitsN (2 ^ 32 - 1) 8 1 = 1 := by decide
  have hmeet : ∀ y z : Fin 2, y ≠ z → 1 &&& 1 &&& (z.val ^^^ y.val) ≠ 0 := by decide
  have hbits := hmeet ⟨_, bitsN_lt w.toNat 8 1⟩ ⟨_, bitsN_lt x.toNat 8 1⟩ fun e => hne (congrArg Fin.val e)
  refine (Bool.or_eq_true ..).mpr (.inl (List.any_eq_true.mpr ⟨⟨1, RegId.gpioCfg.addr n, 0, w.toNat, 2 ^ 32 - 1, w.toNat⟩, ?_, ?_⟩))
  · rw [cycFor_netWrote hcyc]
    exact List.mem_cons_self
  · simp only [beq_self_eq_true, Port.code, fl, maskOf, hmask, bne_iff_ne, ne_eq, Bool.and_eq_true, true_and]
    exact ⟨by decide, hbits⟩

theorem collisionWrite_gives (hlive : s.live = true) (hpost : s.posted = []) (hg : s.gateCause .spi 0 false = 0)
    (hn : s.noSession .spi 0 false = false) (hne : bitsN w.toNat 8 1 ≠ bitsN x.toNat 8 1) :
    Gives (.registerWrite .spi 0 (RegId.gpioCfg.loc n) x) s fun t => t.done .spi = true ∧
      t.g F.gpioCfg_OUT n = bitsN w.toNat 8 1 ∧ t.b F.regStat_WRCOLL 0 = true := by
  obtain ⟨-, hlt, hrec, hpp⟩ := gpioCfg_place n
  obtain ⟨hd, -⟩ := gpioCfg_views n
  have hx := writeCmd_view (d := 0) (r := .gpioCfg) (i := n) (v := .reg) (w := x.toNat) hlive hpost hg hn rfl rfl hd hpp (by decide)
  have htakes : ∀ cur, s.takes .spi 0 .gpioCfg n .reg x.toNat cur (fl "OUT" 8 1 .rw 0 .i) = some (bitsN x.toNat 8 1) := fun cur =>
    takes_open openReg_gpioCfg rfl rfl
  refine gives_of (t := (((s.applyReg .spi 0 (RegId.gpioCfg.addr n) .gpioCfg n .reg x.toNat).loose s .spi).result .spi 0 0)) ?_
    ⟨done_result .., ?_, ?_⟩
  · change execRegisterWrite .spi 0 _ x s = _
    rw [execRegisterWrite, loc_toNat (by omega)]
    exact hx
  · obtain ⟨z, hz, happ⟩ := applyReg_wrote (a := RegId.gpioCfg.addr n) (d := 0) plainReg_gpioCfg
      (coll_written_lt s .spi 0 n .reg x.toNat (by decide))
    have hword := (congrArg (fun c : Word => bitsN c.toNat 8 1) (hz.word hrec)).trans (bitsN_toNat_ofNat _ 8 1 (by decide))
    have hout := word_fields_takes (u := { word := (s.rd .gpioCfg n).toNat, st := s.staged }) (split_gpioCfg n) out_edge_gpioCfg.1 rfl rfl
      (htakes _)
    rw [inOrder_netWrote hcyc] at hout
    have happ_z : s.applyReg .spi 0 (RegId.gpioCfg.addr n) .gpioCfg n .reg x.toNat = z := happ.trans (onWrite_gpioCfg ..)
    rw [happ_z]
    exact hword.trans (hout.trans (Nat.mod_eq_of_lt (bitsN_lt ..)))
  · have hout : ∀ u, 0 ∈ (s.writeRw .spi 0 .gpioCfg n .reg x.toNat u (fl "OUT" 8 1 .rw 0 .i)).coll := fun u => by
      rw [writeRw_immediate (htakes _) rfl, State.colls, collides_netWrote hcyc hne, if_pos rfl]
      exact List.mem_append_right _ List.mem_cons_self
    have hcoll := mem_coll_written (r := .gpioCfg) (i := n) (fun f hf => (fields_gpioCfg f hf).1) out_edge_gpioCfg.1 hout
    have hzero : ∀ c ∈ (s.written .spi 0 .gpioCfg n .reg x.toNat).coll, c = 0 := forall_coll_written fun _ => rfl
    change (s.applyReg .spi 0 (RegId.gpioCfg.addr n) .gpioCfg n .reg x.toNat).b F.regStat_WRCOLL 0 = true
    rw [applyReg_eq plainReg_gpioCfg]
    dsimp only
    rw [onWrite_gpioCfg]
    exact each_wrcoll (fun c hc => hzero c (List.mem_eraseDups.mp hc)) (List.ne_nil_of_mem (List.mem_eraseDups.mpr hcoll)) _ _ _

end

/-- Settles O18: writes through each view, as staged copies, in halves, posted, and by two ports in one cycle. -/
theorem registerWritesTakeEffect : Obligations.RegisterWritesTakeEffect :=
  ⟨registerWrite_gives, ownStrWrite_gives, setAliasWrite_gives, clearAliasWrite_gives, toggleAliasWrite_gives, bitAliasWrite_gives,
    netTfloorWrite_gives, postedWriteEffect_gives,
    fun _ _ _ _ _ hlive hpost hg hn hne hcyc => collisionWrite_gives hcyc hlive hpost hg hn hne⟩

end Sys2Proof.Machine
end

section

/-!
PROOF. O38: the D0 session (07 R257-R260, R268).
-/

namespace Sys2Proof.Machine

/-! ### The session registers at the end of a session (07 R260) -/

/-- Of SPI_SESSSTAT the end of a session leaves FAILCNT and LOCKOUT alone. -/
theorem sessstat_sessionEnd (s : State) : s.sessionEnd.rd .spiSessstat =
    BitVec.ofNat 32 (s.g F.spiSessstat_FAILCNT * 2 ^ 8 + s.g F.spiSessstat_LOCKOUT * 2 ^ 12) :=
  (rd_wr_ne _ .spiChalLo .spiSessstat 0 0 _ (by decide)).trans
    ((rd_wr_ne _ .spiChalHi .spiSessstat 0 0 _ (by decide)).trans (rd_wr_same ..))

theorem closed_sessionEnd (s : State) : s.sessionEnd.b F.spiSessstat_SESS = false ∧ s.sessionEnd.b F.spiSessstat_CHAL = false := by
  have hbit : ∀ lo < 2, (bitsN (s.sessionEnd.rd .spiSessstat).toNat lo 1 == 1) = false := fun lo hlo => by
    rw [sessstat_sessionEnd, bitsN_toNat_ofNat _ _ _ (by omega), beq_eq_false_iff_ne, bitsN]
    interval_cases lo <;> omega
  exact ⟨hbit 0 (by decide), hbit 1 (by decide)⟩

/-! ### OPEN and CLOSE (07 R257, R258, R260) -/

theorem onWrite_spiSesscmd (s old : State) (p : Port) (d a i w nw : Nat) :
    s.onWrite old p d a .spiSesscmd i .reg w nw true = s.sessCommand w := rfl

/-- OPEN of a usable slot outside a lockout: the session before it ends, and a challenge is asked for. -/
theorem sessCommand_open {s : State} {w : Nat} {k : Fin 4} (hcmd : bitsN w 0 2 = 1) (hsel : bitsN w 4 2 = k.val)
    (hlock : s.b F.spiSessstat_LOCKOUT = false) (hk : s.usable k 0 = true) :
    s.sessCommand w = (s.sessionEnd.p F.spiSessstat_KSEL 0 k).modSec fun c => { c with spiReq := some k.val } := by
  have hofNat : Fin.ofNat 4 k.val = k := Fin.ofNat_val_eq_self k
  simp only [State.sessCommand, hcmd, hsel, hofNat, hlock, hk, Bool.false_eq_true, if_false, if_true]

/-- The words of OPEN. -/
theorem openWord : ∀ k : Fin 4, plainCommand .spiSesscmd 0 (1 + 16 * k) = true ∧ bitsN (1 + 16 * k) 0 2 = 1 ∧
    bitsN (1 + 16 * k) 4 2 = k := by decide

theorem sessionOpen_gives (s : State) (p : Port) (d : Dom) (k : Fin 4) (h : s.accepts p d .spiSesscmd 0 (1 + 16 * k) = true)
    (hlock : s.b F.spiSessstat_LOCKOUT = false) (hk : s.usable k 0 = true) : Gives (.sessionOpen p d k) s fun t =>
      t.done p = true ∧ t.sec.spiReq = some k.val ∧ t.g F.spiSessstat_KSEL = k ∧ t.b F.spiSessstat_SESS = false ∧
        t.b F.spiSessstat_CHAL = false := by
  obtain ⟨hplain, hcmd, hsel⟩ := openWord k
  let u := (s.unmarked .spiSesscmd 0).noteWrite s p d .spiSesscmd 0 .reg (1 + 16 * k)
  have hu : u.sessCommand (1 + 16 * k) = (u.sessionEnd.p F.spiSessstat_KSEL 0 k).modSec fun c => { c with spiReq := some k.val } :=
    sessCommand_open (s := u) hcmd hsel hlock hk
  have hx : s.writeReg p d .spiSesscmd 0 (1 + 16 * k) = .next (((u.sessCommand (1 + 16 * k)).loose s p).result p 0 0) :=
    writeReg_command s p d .spiSesscmd 0 (1 + 16 * k) h (by decide) (by decide) (by decide) hplain
  rw [hu] at hx
  obtain ⟨hsess, hchal⟩ := closed_sessionEnd u
  have hword : 1 + at' 4 k = 1 + 16 * k.val := by rw [at', Nat.mul_comm]; rfl
  have hexec : exec (.sessionOpen p d k) s = s.writeReg p d .spiSesscmd 0 (1 + 16 * k) := by
    change execSessionOpen p d k s = _
    rw [execSessionOpen, hword]
  refine gives_of (hexec.trans hx) ⟨done_result .., rfl, ?_, ?_, ?_⟩
  · exact (g_p_same u.sessionEnd F.spiSessstat_KSEL 0 k (by decide)).trans (Nat.mod_eq_of_lt k.isLt)
  · exact (congrArg (· == 1) (g_p_field u.sessionEnd F.spiSessstat_KSEL F.spiSessstat_SESS 0 k rfl (by decide) (by decide))).trans hsess
  · exact (congrArg (· == 1) (g_p_field u.sessionEnd F.spiSessstat_KSEL F.spiSessstat_CHAL 0 k rfl (by decide) (by decide))).trans hchal

/-- CLOSE: no session is open after it. -/
theorem closed_sessCommand (s : State) : (s.sessCommand 2).b F.spiSessstat_SESS = false := by
  change (if s.b F.spiSessstat_SESS then s.sessionEnd else s).b F.spiSessstat_SESS = false
  split
  · exact (closed_sessionEnd s).1
  · exact Bool.eq_false_iff.mpr ‹_›

theorem sessionClose_gives (s : State) (p : Port) (d : Dom) (h : s.accepts p d .spiSesscmd 0 2 = true) :
    Gives (.sessionClose p d) s fun t => t.b F.spiSessstat_SESS = false := by
  have hx := writeReg_command s p d .spiSesscmd 0 2 h (by decide) (by decide) (by decide) (by decide)
  rw [onWrite_spiSesscmd] at hx
  exact gives_of hx (closed_sessCommand _)

/-! ### The challenge (07 R257 step 1; log 2) -/

/-- A number from 1 to 2^64 - 1 has a half that is not zero. -/
theorem halves_random_ne_zero (n : Nat) : ¬(BitVec.ofNat 32 ((1 + n % (2 ^ 64 - 1)) / 2 ^ 32) = 0 ∧
    BitVec.ofNat 32 (1 + n % (2 ^ 64 - 1)) = 0) := by
  rintro ⟨hhi, hlo⟩
  have hhi : (1 + n % (2 ^ 64 - 1)) / 2 ^ 32 % 2 ^ 32 = 0 := congrArg BitVec.toNat hhi
  have hlo : (1 + n % (2 ^ 64 - 1)) % 2 ^ 32 = 0 := congrArg BitVec.toNat hlo
  omega

theorem sessionChallengeReady_gives (s : State) (k : Nat) (h : s.sec.spiReq = some k) : Gives .sessionChallengeReady s fun t =>
    t.b F.spiSessstat_CHAL = true ∧ t.sec.spiReq = none ∧ ¬(t.rd .spiChalHi = 0 ∧ t.rd .spiChalLo = 0) := by
  let r := s.random 64
  let hi := r.2.wr .spiChalHi 0 (BitVec.ofNat 32 (r.1 / 2 ^ 32))
  let lo := hi.wr .spiChalLo 0 (BitVec.ofNat 32 r.1)
  have hx : exec .sessionChallengeReady s = .next ((lo.pb F.spiSessstat_CHAL 0 true).modSec fun c => { c with spiReq := none }) := by
    change execSessionChallengeReady s = _
    rw [execSessionChallengeReady, h]
  have hrhi : (lo.pb F.spiSessstat_CHAL 0 true).rd .spiChalHi = BitVec.ofNat 32 (r.1 / 2 ^ 32) :=
    (rd_pb_ne _ _ _ _ (by decide)).trans ((rd_wr_ne hi .spiChalLo .spiChalHi 0 0 _ (by decide)).trans (rd_wr_same ..))
  have hrlo : (lo.pb F.spiSessstat_CHAL 0 true).rd .spiChalLo = BitVec.ofNat 32 r.1 :=
    (rd_pb_ne _ _ _ _ (by decide)).trans (rd_wr_same ..)
  refine gives_of hx ⟨b_pb_same lo F.spiSessstat_CHAL 0 true (by decide) rfl, rfl, fun hz => ?_⟩
  exact halves_random_ne_zero (s.fresh 64).1.toNat ⟨hrhi.symm.trans hz.1, hrlo.symm.trans hz.2⟩

/-! ### The response (07 R257 steps 2 to 4, R259) -/

theorem onWrite_spiRespLo (s old : State) (p : Port) (d a i : Nat) (v : View) (w nw : Nat) (cmd : Bool) :
    s.onWrite old p d a .spiRespLo i v w nw cmd = s.sessCommit (s.heldHi p (RegId.spiRespHi.addr 0) * 2 ^ 32 + w) := rfl

/-- A whole-word command register takes every word. -/
theorem plainCommand_spiRespLo (w : Nat) : plainCommand .spiRespLo 0 w = true := by
  have hout : outside (effFields .spiRespLo 0) w = 0 := by
    change putN (w % 2 ^ 32) 0 32 0 = 0
    exact putN_whole (Nat.mod_lt _ (by decide)) (by decide)
  rw [plainCommand, hout]
  rfl

/-- The message of the challenge that waits (07 R257 step 2). -/
def State.chalMsg (s : State) : List Nat := beBytes 4 (s.rd .spiChalHi).toNat ++ beBytes 4 (s.rd .spiChalLo).toNat ++ s.uidBytes

/-- A response spends its challenge. -/
def State.chalSpent (s : State) : State := ((s.pb F.spiSessstat_CHAL 0 false).wr .spiChalHi 0 0).wr .spiChalLo 0 0

/-- Of SPI_SESSSTAT a response that comes clears CHAL alone. -/
theorem sessstat_chalSpent (s : State) : s.chalSpent.rd .spiSessstat = (s.pb F.spiSessstat_CHAL 0 false).rd .spiSessstat :=
  (rd_wr_ne _ .spiChalLo .spiSessstat 0 0 _ (by decide)).trans (rd_wr_ne _ .spiChalHi .spiSessstat 0 0 _ (by decide))

theorem chal_chalSpent (s : State) : s.chalSpent.b F.spiSessstat_CHAL = false := by
  rw [State.b, State.g, show F.spiSessstat_CHAL.r = .spiSessstat from rfl, sessstat_chalSpent]
  exact b_pb_same s F.spiSessstat_CHAL 0 false (by decide) rfl

theorem sess_chalSpent (s : State) : s.chalSpent.b F.spiSessstat_SESS = s.b F.spiSessstat_SESS := by
  rw [State.b, State.g, show F.spiSessstat_SESS.r = .spiSessstat from rfl, sessstat_chalSpent]
  exact b_pb_field s (f := F.spiSessstat_CHAL) (f' := F.spiSessstat_SESS) 0 false rfl (by decide) (by decide)

/-- The session that a right response opens. -/
def State.sessOpened (s : State) : State :=
  ((s.chalSpent.pb F.spiSessstat_SESS 0 true).p F.spiSessstat_RESULT 0 1).p F.spiSessstat_FAILCNT 0 0

/-- The lockout that a wrong response starts. -/
def State.sessLocked (s : State) : State :=
  (((s.chalSpent.p F.spiSessstat_RESULT 0 2).incSat F.spiSessstat_FAILCNT).pb F.spiSessstat_LOCKOUT 0 true).pendIrq 94

theorem sessCommit_eq {s : State} {k : Fin 4} (t : Nat) (hc : s.b F.spiSessstat_CHAL = true) (hsel : s.g F.spiSessstat_KSEL = k.val)
    (hk : s.usable k 0 = true) : s.sessCommit t = if t = cmac64 (s.slot k).key s.chalMsg then s.sessOpened else s.sessLocked := by
  have hofNat : Fin.ofNat 4 k.val = k := Fin.ofNat_val_eq_self k
  simp only [State.sessCommit, hc, hsel, hofNat, hk, Bool.not_true, Bool.false_eq_true, if_false, Bool.true_and, beq_iff_eq,
    eq_comm (b := t)]
  rfl

theorem sessOpened_shows (s : State) : s.sessOpened.b F.spiSessstat_SESS = true ∧ s.sessOpened.b F.spiSessstat_CHAL = false ∧
    s.sessOpened.g F.spiSessstat_RESULT = 1 ∧ s.sessOpened.g F.spiSessstat_FAILCNT = 0 := by
  let u1 := s.chalSpent.pb F.spiSessstat_SESS 0 true
  let u2 := u1.p F.spiSessstat_RESULT 0 1
  have hfield : ∀ f : Fld, f.r = .spiSessstat → f.lo + f.w ≤ 2 → s.sessOpened.g f = u1.g f := fun f hr hlo =>
    (g_p_field u2 F.spiSessstat_FAILCNT f 0 0 hr (by decide) (.inl (hlo.trans (by decide)))).trans
      (g_p_field u1 F.spiSessstat_RESULT f 0 1 hr (by decide) (.inl hlo))
  refine ⟨?_, ?_, ?_, g_p_same u2 F.spiSessstat_FAILCNT 0 0 (by decide)⟩
  · rw [State.b, hfield _ rfl (by decide)]
    exact b_pb_same s.chalSpent F.spiSessstat_SESS 0 true (by decide) rfl
  · rw [State.b, hfield _ rfl (by decide)]
    exact (b_pb_field s.chalSpent (f := F.spiSessstat_SESS) (f' := F.spiSessstat_CHAL) 0 true rfl (by decide) (by decide)).trans
      (chal_chalSpent s)
  · exact (g_p_field u2 F.spiSessstat_FAILCNT F.spiSessstat_RESULT 0 0 rfl (by decide) (by decide)).trans
      (g_p_same u1 F.spiSessstat_RESULT 0 1 (by decide))

theorem sessLocked_shows (s : State) : s.sessLocked.b F.spiSessstat_LOCKOUT = true ∧ s.sessLocked.b F.spiSessstat_CHAL = false ∧
    s.sessLocked.g F.spiSessstat_RESULT = 2 ∧ s.sessLocked.b F.spiSessstat_SESS = s.b F.spiSessstat_SESS := by
  let u1 := s.chalSpent.p F.spiSessstat_RESULT 0 2
  let u2 := u1.incSat F.spiSessstat_FAILCNT
  let u := u2.pb F.spiSessstat_LOCKOUT 0 true
  have hirq : s.sessLocked.rd .spiSessstat = u.rd .spiSessstat := (IrqFrame.pendIrq u 94).rd .spiSessstat 0 (by decide)
  have hg : ∀ f : Fld, f.r = .spiSessstat → s.sessLocked.g f = u.g f := fun f hr => by rw [State.g, State.g, hr, hirq]
  have hlow : ∀ f : Fld, f.r = .spiSessstat → f.lo + f.w ≤ 8 → s.sessLocked.g f = u1.g f := fun f hr hlo =>
    (hg f hr).trans ((g_p_field u2 F.spiSessstat_LOCKOUT f 0 1 hr (by decide) (.inl (hlo.trans (by decide)))).trans
      (g_p_field u1 F.spiSessstat_FAILCNT f 0 _ hr (by decide) (.inl hlo)))
  have hflag : ∀ f : Fld, f.r = .spiSessstat → f.lo + f.w ≤ 2 → s.sessLocked.b f = s.chalSpent.b f := fun f hr hlo =>
    congrArg (· == 1) ((hlow f hr (by omega)).trans (g_p_field s.chalSpent F.spiSessstat_RESULT f 0 2 hr (by decide) (.inl hlo)))
  refine ⟨?_, ?_, ?_, ?_⟩
  · rw [State.b, hg _ rfl]
    exact b_pb_same u2 F.spiSessstat_LOCKOUT 0 true (by decide) rfl
  · exact (hflag _ rfl (by decide)).trans (chal_chalSpent s)
  · exact (hlow _ rfl (by decide)).trans (g_p_same s.chalSpent F.spiSessstat_RESULT 0 2 (by decide))
  · exact (hflag _ rfl (by decide)).trans (sess_chalSpent s)

theorem sessionResponse_gives (s : State) (p : Port) (d : Dom) (w : Word) (k : Fin 4) (h : s.accepts p d .spiRespLo 0 w.toNat = true)
    (hc : s.b F.spiSessstat_CHAL = true) (hsel : s.g F.spiSessstat_KSEL = k.val) (hk : s.usable k 0 = true) :
    let m := beBytes 4 (s.rd .spiChalHi).toNat ++ beBytes 4 (s.rd .spiChalLo).toNat ++ s.uidBytes
    let resp := s.heldHi p (RegId.spiRespHi.addr 0) * 2 ^ 32 + w.toNat
    (resp = cmac64 (s.slot k).key m → Gives (.sessionResponse p d w) s fun t => t.b F.spiSessstat_SESS = true ∧
      t.b F.spiSessstat_CHAL = false ∧ t.g F.spiSessstat_RESULT = 1 ∧ t.g F.spiSessstat_FAILCNT = 0) ∧
    (resp ≠ cmac64 (s.slot k).key m → Gives (.sessionResponse p d w) s fun t => t.b F.spiSessstat_LOCKOUT = true ∧
      t.b F.spiSessstat_CHAL = false ∧ t.g F.spiSessstat_RESULT = 2 ∧ t.b F.spiSessstat_SESS = s.b F.spiSessstat_SESS) := by
  intro m resp
  let u := (s.unmarked .spiRespLo 0).noteWrite s p d .spiRespLo 0 .reg w.toNat
  have hu : u.sessCommit resp = if resp = cmac64 (s.slot k).key m then u.sessOpened else u.sessLocked :=
    sessCommit_eq (s := u) resp hc hsel hk
  have hx : exec (.sessionResponse p d w) s = .next (((u.sessCommit resp).loose s p).result p 0 0) :=
    writeReg_command s p d .spiRespLo 0 w.toNat h (by decide) (by decide) (by decide) (plainCommand_spiRespLo _)
  rw [hu] at hx
  refine ⟨fun he => ?_, fun hne => ?_⟩
  · rw [if_pos he] at hx
    exact gives_of hx (sessOpened_shows u)
  · rw [if_neg hne] at hx
    exact gives_of hx (sessLocked_shows u)

/-! ### The end of a lockout; the counters (07 R259, R268) -/

theorem sessionLockoutEnd_gives (s : State) : Gives .sessionLockoutEnd s fun t => t.b F.spiSessstat_LOCKOUT = false :=
  gives_of rfl (b_pb_same s F.spiSessstat_LOCKOUT 0 false (by decide) rfl)

theorem onWrite_spiCtl_clear (s old : State) (p : Port) (d a i : Nat) (v : View) (nw : Nat) (cmd : Bool) :
    s.onWrite old p d a .spiCtl i v 1 nw cmd = s.wr .spiErrcnt 0 0 := rfl

theorem spiCounterClear_gives (s : State) (p : Port) (d : Dom) (h : s.accepts p d .spiCtl 0 1 = true) :
    Gives (.spiCounterClear p d) s fun t => t.rd .spiErrcnt = 0 := by
  have hx := writeReg_command s p d .spiCtl 0 1 h (by decide) (by decide) (by decide) (by decide)
  rw [onWrite_spiCtl_clear] at hx
  exact gives_of hx (rd_wr_same ..)

/-- Settles O38: challenge, response, lockout, close and the counters. -/
theorem sessionsComplete : Obligations.SessionsComplete :=
  ⟨sessionOpen_gives, sessionChallengeReady_gives, sessionResponse_gives, sessionClose_gives, sessionLockoutEnd_gives,
    spiCounterClear_gives⟩

end Sys2Proof.Machine
end

section

/-!
PROOF. SPI frames (07 R240-R255): the bytes of a frame, the check of its command, and what the end of a frame leaves.
-/

namespace Sys2Proof.Machine

/-! ### Bytes and CRCs (07 R246) -/

theorem beBytes_lt (w n : Nat) : ∀ b ∈ beBytes w n, b < 256 := by
  induction w with
  | zero => exact fun _ hb => absurd hb List.not_mem_nil
  | succ w ih =>
    intro b hb
    rcases List.mem_cons.mp hb with rfl | hb
    · exact Nat.mod_lt _ (by decide)
    · exact ih b hb

theorem length_beBytes (w n : Nat) : (beBytes w n).length = w := by
  induction w with
  | zero => rfl
  | succ w ih => rw [beBytes, List.length_cons, ih]

theorem crc8Shift_lt {c : Nat} (k : Nat) (h : c < 2 ^ 8) : crc8Shift k c < 2 ^ 8 := by
  induction k generalizing c with
  | zero => exact h
  | succ k ih =>
    refine ih ?_
    split
    · exact Nat.xor_lt_two_pow (Nat.mod_lt _ (by decide)) (by decide)
    · omega

/-- The CRC of bytes is a byte. -/
theorem crc8_lt {l : List Nat} (h : ∀ b ∈ l, b < 256) : crc8 l < 256 :=
  Nat.xor_lt_two_pow (n := 8) (List.foldlRecOn (motive := fun c => c < 2 ^ 8) l _ (by decide) fun _ hc b hb =>
    crc8Shift_lt 8 (Nat.xor_lt_two_pow hc (h b hb))) (by decide)

theorem toNat_ofNat_bytes {l : List Nat} (h : ∀ b ∈ l, b < 256) : (l.map (BitVec.ofNat 8)).map (·.toNat) = l := by
  rw [List.map_map]
  exact (List.map_congr_left fun b hb => Nat.mod_eq_of_lt (h b hb)).trans (List.map_id l)

/-- A word with its CRC is a row of bytes. -/
theorem withCrc_lt (n : Nat) : ∀ b ∈ beBytes 4 n ++ [crc8 (beBytes 4 n)], b < 256 := fun b hb => by
  rcases List.mem_append.mp hb with hb | hb
  · exact beBytes_lt 4 n b hb
  · exact List.mem_singleton.mp hb ▸ crc8_lt (beBytes_lt 4 n)

/-- A frame shifts out the status word with its CRC, then the bytes of its words, where it clocks neither more nor fewer. -/
theorem sdoOf_exact {n status fill : Nat} {rest : List Nat} (hn : n = 5 + rest.length) (hrest : ∀ b ∈ rest, b < 256) :
    (sdoOf n status rest fill).map (·.toNat) = beBytes 4 status ++ [crc8 (beBytes 4 status)] ++ rest := by
  have hlen : (beBytes 4 status ++ [crc8 (beBytes 4 status)] ++ rest).length = n := by
    simp only [List.length_append, length_beBytes, List.length_singleton, hn]
  have hbytes : ∀ b ∈ beBytes 4 status ++ [crc8 (beBytes 4 status)] ++ rest, b < 256 := fun b hb =>
    (List.mem_append.mp hb).elim (withCrc_lt status b) (hrest b)
  dsimp only [sdoOf]
  rw [hlen, Nat.sub_self, List.replicate_zero, List.append_nil, ← hlen, List.take_length, toNat_ofNat_bytes hbytes]

/-! ### The commands (07 R241) -/

section
variable (f : SpiFrame) (s : State)

theorem exec_spiStatus : exec (.spiStatus f) s = s.spiFrame 0 f fun r => { r with long := 5 < f.sdi.length || f.odd != 0 } := rfl
theorem exec_spiWrite : exec (.spiWrite f) s = s.spiFrame 1 f fun r => spiWrites f r 0 (cmdWords (frCmd f)) := rfl
theorem exec_spiWritef : exec (.spiWritef f) s = s.spiFrame 3 f fun r => spiWrites f r 0 (cmdWords (frCmd f)) := rfl
theorem exec_spiRead (waits : List (Fin 49)) :
    exec (.spiRead f waits) s = s.spiFrame 2 f fun r => spiReads f waits r 0 5 (cmdWords (frCmd f)) := rfl

end

/-! ### The command word (07 R240, R254) -/

/-- The operation of a command word is that of its first byte. -/
theorem cmdOp_frCmd {f : SpiFrame} (h : 5 ≤ f.sdi.length) : cmdOp (frCmd f) = frOp f := by
  obtain ⟨sdi, odd, quick, cut, unpowered⟩ := f
  obtain ⟨a, b, c, d, l, rfl⟩ : ∃ a b c d l, sdi = a :: b :: c :: d :: l := by
    match sdi, h with
    | a :: b :: c :: d :: l, _ => exact ⟨a, b, c, d, l, rfl⟩
  have ha := a.isLt
  have hb := b.isLt
  have hc := c.isLt
  have hd := d.isLt
  change bitsN (256 * (256 * (256 * (256 * 0 + a.toNat) + b.toNat) + c.toNat) + d.toNat) 30 2 = a.toNat / 64
  rw [bitsN]
  omega

theorem cmdDom_lt (w : Nat) : cmdDom w < 4 := bitsN_lt w 28 2

theorem wholeFrame_iff (f : SpiFrame) (op n : Nat) : wholeFrame f op n = true ↔ f.sdi.length = n ∧ f.odd = 0 ∧ f.cut = false ∧
    f.quick = false ∧ frOp f = op ∧ frCrc f = true ∧ cmdBad (frCmd f) = false := by
  simp [wholeFrame, and_assoc]

/-- A whole frame is counted at its end (07 R264). -/
theorem counted_of_whole {f : SpiFrame} {op n : Nat} (h : wholeFrame f op n = true) : (f.cut && f.unpowered) = false := by
  obtain ⟨-, -, hcut, -⟩ := (wholeFrame_iff f op n).mp h
  rw [hcut, Bool.false_and]

theorem noSession_open {s : State} (h : s.sessionOpenFor = true) (p : Port) (d : Nat) (e : Bool) : s.noSession p d e = false := by
  rcases (Bool.or_eq_true ..).mp h with h | h
  · simp [State.noSession, bne_iff_ne.mp h]
  · simp [State.noSession, h]

/-- A port that a domain may use lets it read the identification registers too. -/
theorem gateCause_ident {s : State} {p : Port} {d : Nat} (h : s.gateCause p d false = 0) (e : Bool) : s.gateCause p d e = 0 := by
  cases e
  · exact h
  · unfold State.gateCause at h ⊢
    split
    · rfl
    next hp =>
      rw [if_neg hp] at h
      split
      next hport => rw [if_pos hport] at h; cases h
      · simp

/-- The check of the command of a frame that has its CRC, asks for words and may have them. -/
theorem spiCheck_passes {s : State} {f : SpiFrame} (hcrc : frCrc f = true) (hbad : cmdBad (frCmd f) = false)
    (hgate : s.gateCause .spi (cmdDom (frCmd f)) false = 0) (hopen : s.sessionOpenFor = true) : s.spiCheck f = (0, s) := by
  simp [State.spiCheck, hcrc, hbad, gateCause_ident hgate, noSession_open hopen]

theorem spiCheck_status {s : State} {f : SpiFrame} (hcrc : frCrc f = true) (hbad : cmdBad (frCmd f) = false)
    (hop : cmdOp (frCmd f) = 0) : s.spiCheck f = (0, s) := by
  simp [State.spiCheck, hcrc, hbad, hop]

theorem spiCheck_crc (s : State) {f : SpiFrame} (hcrc : frCrc f = false) : s.spiCheck f = (8, s) := by
  simp [State.spiCheck, hcrc]

/-! ### The end of a burst (06 R200; 07 R251) -/

theorem Quiet.spiFlag (s : State) (c : Nat) : Quiet s (s.spiFlag c) := by
  have h : Quiet s ((s.setBits .spiStat 0 (2 ^ (c - 8))).pendIrq 85) := (Quiet.setBits ..).trans (.pendIrq ..)
  unfold State.spiFlag
  split
  · exact h.trans (.incSat ..)
  · exact h.trans (.incSat ..)
  · exact h.trans (.incSat ..)
  · exact h.trans (.incSat ..)
  · exact h

/-- A bake writes registers alone, beside the staged copies it spends. -/
theorem mem_spi_bake (s : State) (sel : Staged → Bool) : ((s.bake sel).mem, (s.bake sel).spi) = (s.mem, s.spi) := by
  unfold State.bake
  dsimp only
  refine (each_keeps (fun t : State => (t.mem, t.spi)) _ _ _ fun e t => ?_).trans rfl
  split
  · rfl
  · unfold State.putAt
    split <;> rfl

/-- The end of a burst leaves memory and the record of the SPI port. -/
theorem mem_spi_endBurst (s : State) (p : Port) : ((s.endBurst p).mem, (s.endBurst p).spi) = (s.mem, s.spi) := by
  refine (mem_spi_bake (s.endPart p.code) _).trans (each_keeps (fun t : State => (t.mem, t.spi)) _ _ _ fun q t => ?_)
  have hq := Quiet.flagIrq t F.rackStat_PARTIAL (q.1 % 32) (32 + q.1 % 32)
  exact Prod.ext hq.mem hq.spi

/-- The end of a burst writes no register of the identity and domain blocks whose fields take their values at once. -/
theorem rd_endBurst {s : State} {r : RegId} {i : Nat} (hs : s.stagedOk) (hr : findReg (r.addr i) = some (r, i))
    (hb : ∀ f ∈ effFields r i, f.bake = .i) (ha : domAddr (r.addr i) = true) (p : Port) : (s.endBurst p).rd r i = s.rd r i := by
  have hst : (s.endPart p.code).staged = s.staged := by simp
  exact (rd_bake (by rw [hst]; exact hs.ne_addr hr hb) _).trans (rd_of_dview (dview_dropParts s _) ha)

/-! ### The end of a frame (07 R247, R255) -/

/-- A failure after which the class K values of the burst do not bake (07 R251). -/
def discards (fails : List Fail) : Bool := fails.any (fun x => x.2.1 == 1 && (x.2.2 == 9 || x.2.2 == 10 || x.2.2 == 14))

/-- A frame has ended: its class K values have baked or gone, and bytes after it are flagged. -/
def Run.over (r : Run) (fails : List Fail) : State :=
  let t := (if discards fails then r.s.dropK .spi else r.s).endBurst .spi
  if r.long then t.pb F.spiStat_LONG 0 true else t

/-- The state after a frame of operation `op` in which a transfer `r` has ended with `fails`; `sent` is the status word shifted out. -/
def Run.ends (r : Run) (f : SpiFrame) (op sent fill : Nat) (fails : List Fail) : State :=
  let e := (r.over fails).spiEnd (cmdDom (frCmd f)) op r.done fails (f.cut && f.unpowered)
  { e with spi := { e.spi with sdo := sdoOf f.sdi.length sent r.out fill }, pins := { e.pins with csnLow := false } }

/-- A status word sent with PEND is flagged (07 R248). -/
def State.gapNoted (s : State) (f : SpiFrame) : State := if f.quick && s.spi.counted then s.pb F.spiStat_SHORTGAP 0 true else s

section
variable {s : State} {f : SpiFrame} {op : Nat} {go : Run → Run}

/-- What a frame with a whole command word does while the port takes it. -/
theorem spiFrame_eq (hready : s.spiReady = true) (h5 : 5 ≤ f.sdi.length) (hop : frOp f = op) : s.spiFrame op f go =
    let c := (s.gapNoted f).spiCheck f
    let r := go { s := c.2 }
    .next (if c.1 ≠ 0 then Run.ends { s := c.2, long := failedLong f } f op (s.spiSent f.quick) (if op = 2 then 0xE7 else 0)
        [(0, if c.1 = 5 then 0 else 1, c.1)]
      else r.ends f op (s.spiSent f.quick) 0 (if f.cut && !r.fails.any (fun x => x.2.2 == 14) then r.fails ++ [(16, 1, 14)] else r.fails)) := by
  simp only [State.spiReady, State.live, Bool.and_eq_true, Bool.not_eq_true', Option.isNone_iff_eq_none] at hready
  obtain ⟨⟨⟨⟨hrun, hclk⟩, hvdd⟩, hwake⟩, howed⟩ := hready
  have hwoken : s.spiWoken = s := by simp [State.spiWoken, howed, hwake]
  have hempty : f.sdi.isEmpty = false := by
    rw [List.isEmpty_eq_false_iff_exists_mem]
    exact List.exists_mem_of_length_pos (by omega)
  have hchecked : frChecked f = true := decide_eq_true h5
  have hgap : (s.gapNoted f).clk.fsys = true := by
    unfold State.gapNoted
    split <;> exact hclk
  have hnoted : (if f.quick && s.spi.counted then s.pb F.spiStat_SHORTGAP 0 true else s) = s.gapNoted f := rfl
  have hguard : (!s.running || !s.pins.vddio || f.sdi.isEmpty || frOp f ≠ op) = false := by simp [hrun, hvdd, hempty, hop]
  rw [State.spiFrame, hguard]
  simp only [hwoken, hnoted, hgap, hchecked, Bool.not_true, Bool.or_false, Bool.false_eq_true, if_false, if_true]
  generalize (s.gapNoted f).spiCheck f = c
  by_cases hc : c.1 = 0
  · rw [if_neg (not_not.mpr hc), if_neg (not_not.mpr hc)]
    rfl
  · rw [if_pos hc, if_pos hc]
    rfl

/-- A frame whose command passes, clocked to its end after a full gap. -/
theorem spiFrame_whole {n : Nat} (hready : s.spiReady = true) (h : wholeFrame f op n = true) (h5 : 5 ≤ n)
    (hc : s.spiCheck f = (0, s)) : s.spiFrame op f go = .next ((go { s := s }).ends f op s.spi.status.toNat 0 (go { s := s }).fails) := by
  obtain ⟨hlen, -, hcut, hquick, hop, -, -⟩ := (wholeFrame_iff f op n).mp h
  have hgap : s.gapNoted f = s := by rw [State.gapNoted, hquick, Bool.false_and]; rfl
  have hsent : s.spiSent f.quick = s.spi.status.toNat := by rw [State.spiSent, hquick, Bool.false_and]; rfl
  rw [spiFrame_eq hready (hlen ▸ h5) hop, hgap, hc, hsent, hcut]
  rfl

end

section
variable (r : Run) (f : SpiFrame) (op sent fill : Nat) (fails : List Fail)

theorem mem_spi_over : ((r.over fails).mem, (r.over fails).spi) = (r.s.mem, r.s.spi) := by
  have h : ∀ t : State, (if r.long then t.pb F.spiStat_LONG 0 true else t).mem = t.mem ∧
      (if r.long then t.pb F.spiStat_LONG 0 true else t).spi = t.spi := fun t => by split <;> exact ⟨rfl, rfl⟩
  have hdrop : ∀ b : Bool, ((if b then r.s.dropK .spi else r.s).mem, (if b then r.s.dropK .spi else r.s).spi) = (r.s.mem, r.s.spi) :=
    fun b => by cases b <;> rfl
  exact (Prod.ext (h _).1 (h _).2).trans ((mem_spi_endBurst _ .spi).trans (hdrop _))

/-- The flags of the failures of a frame. -/
def State.spiFlags (s : State) (fails : List Fail) : State := each (fails.filter (fun x => x.2.1 == 1)) (fun x s => s.spiFlag x.2.2) s

theorem Quiet.spiFlags (s : State) : Quiet s (s.spiFlags fails) := .each (fun _ s => .spiFlag s _) s

theorem spiEnd_eq (s : State) (dom done : Nat) (later : Bool) : s.spiEnd dom op done fails later =
    if later then { s.spiFlags fails with spi := { (s.spiFlags fails).spi with owed := some (dom, op, done, firstFail fails) } }
    else (s.spiFlags fails).spiCount dom op done (firstFail fails) := rfl

/-- The frame itself stores nothing. -/
theorem mem_ends : (r.ends f op sent fill fails).mem = r.s.mem := by
  have hflags := (Quiet.spiFlags fails (r.over fails)).mem.trans (congrArg Prod.fst (mem_spi_over r fails))
  refine Eq.trans ?_ hflags
  change (State.spiEnd ..).mem = _
  rw [spiEnd_eq]
  split <;> rfl

theorem regs_ends (q : RegId) (j : Nat) : (r.ends f op sent fill fails).rd q j = ((r.over fails).spiFlags fails).rd q j := by
  change (State.spiEnd ..).rd q j = _
  rw [spiEnd_eq]
  split <;> rfl

theorem sdo_ends : (r.ends f op sent fill fails).spi.sdo = sdoOf f.sdi.length sent r.out fill := rfl

theorem spi_over_flags : ((r.over fails).spiFlags fails).spi = r.s.spi :=
  (Quiet.spiFlags fails _).spi.trans (congrArg Prod.snd (mem_spi_over r fails))

/-- A frame that VDDIO has cut is counted with the next one (07 R264). -/
theorem spi_ends_later (h : (f.cut && f.unpowered) = true) : (r.ends f op sent fill fails).spi.owed.isSome = true ∧
    (r.ends f op sent fill fails).spi.status = r.s.spi.status := by
  have hspi : (r.ends f op sent fill fails).spi =
      { r.s.spi with owed := some (cmdDom (frCmd f), op, r.done, firstFail fails), sdo := sdoOf f.sdi.length sent r.out fill } := by
    simp only [Run.ends, spiEnd_eq, h, if_true, spi_over_flags]
  rw [hspi]
  exact ⟨rfl, rfl⟩

end

/-! ### The status word (07 R247) -/

theorem statusLow_lt (s : State) {dom op : Nat} (seq : Nat) (int pend : Bool) (hd : dom < 4) (hop : op < 4) :
    s.statusLow dom op seq int pend < 2 ^ 18 := by
  have hbit : ∀ (x : Bool) (k : Nat), (if x then 2 ^ k else 0) ≤ 2 ^ k := fun x k => by
    split
    · exact le_rfl
    · exact Nat.zero_le _
  have h8 := hbit pend 8
  have h9 := hbit (s.lcState == 2) 9
  have h10 := hbit (s.b F.hwdtStat_EXPIRED) 10
  have h11 := hbit (s.b F.spiSessstat_SESS) 11
  have h12 := hbit s.hearthOn 12
  have h13 := hbit int 13
  unfold State.statusLow
  dsimp only
  omega

/-- CODE with ERR, and DONE, of a status word. -/
theorem statusWord_fields (s : State) {dom op done : Nat} (seq : Nat) {fail : Nat × Nat} (hd : dom < 4) (hop : op < 4) (hn : done < 32)
    (hc : fail.1 < 16) : bitsN (BitVec.ofNat 32 (s.statusWord dom op seq done fail)).toNat 27 5 = (if fail.1 = 0 then 0 else 16 + fail.1) ∧
      bitsN (BitVec.ofNat 32 (s.statusWord dom op seq done fail)).toNat 18 5 = done := by
  rw [bitsN_toNat_ofNat _ _ _ (by decide), bitsN_toNat_ofNat _ _ _ (by decide), State.statusWord]
  have hlow := statusLow_lt s seq (bitN (s.intTopWord dom).toNat 31) false hd hop
  generalize s.statusLow dom op seq (bitN (s.intTopWord dom).toNat 31) false = low at hlow ⊢
  unfold bitsN
  split <;> omega

/-- The transaction of a frame is counted, with its outcome and the number of its words. -/
theorem spi_ends {r : Run} {f : SpiFrame} {op sent fill : Nat} {fails : List Fail} (h : (f.cut && f.unpowered) = false) (hop : op < 4)
    (hn : r.done < 32) (hc : (firstFail fails).1 < 16) :
    (r.ends f op sent fill fails).spi.seq = (r.s.spi.seq + 1) % 256 ∧
      bitsN (r.ends f op sent fill fails).spi.status.toNat 27 5 =
        (if (firstFail fails).1 = 0 then 0 else 16 + (firstFail fails).1) ∧
      bitsN (r.ends f op sent fill fails).spi.status.toNat 18 5 = r.done := by
  let u := (r.over fails).spiFlags fails
  have hspi : (r.ends f op sent fill fails).spi = { (u.spiCount (cmdDom (frCmd f)) op r.done (firstFail fails)).spi with
      sdo := sdoOf f.sdi.length sent r.out fill } := by
    simp only [Run.ends, spiEnd_eq, h, Bool.false_eq_true, if_false, u]
  have hu : u.spi = r.s.spi := spi_over_flags r fails
  rw [hspi]
  refine ⟨congrArg (fun x : Spi => (x.seq + 1) % 256) hu, ?_⟩
  exact statusWord_fields u _ (cmdDom_lt _) hop hn hc

/-! ### The flags of a failure (07 R255) -/

theorem rbit_spiFlag (s : State) {c : Nat} (hc : c < 16) : (s.spiFlag c).rbit .spiStat 0 (c - 8) = true := by
  let u := (s.setBits .spiStat 0 (2 ^ (c - 8))).pendIrq 85
  have hset : u.rbit .spiStat 0 (c - 8) = true :=
    (congrArg (fun w : Word => bitN w.toNat (c - 8)) ((IrqFrame.pendIrq ..).rd .spiStat 0 (by decide))).trans
      (rbit_setBits_same s .spiStat 0 (by omega))
  have hinc : ∀ f : Fld, RegId.spiStat.addr 0 ≠ f.r.addr 0 → (u.incSat f).rbit .spiStat 0 (c - 8) = true := fun f hf =>
    (congrArg (fun w : Word => bitN w.toNat (c - 8)) (rd_wr_ne _ _ _ _ _ _ hf)).trans hset
  unfold State.spiFlag
  split
  · exact hinc _ (by decide)
  · exact hinc _ (by decide)
  · exact hinc _ (by decide)
  · exact hinc _ (by decide)
  · exact hset

/-- The one failure of a frame sets its flag. -/
theorem rbit_ends (r : Run) (f : SpiFrame) (op sent fill i : Nat) {c : Nat} (hc : c < 16) :
    (r.ends f op sent fill [(i, 1, c)]).rbit .spiStat 0 (c - 8) = true :=
  (congrArg (fun w : Word => bitN w.toNat (c - 8)) (regs_ends r f op sent fill [(i, 1, c)] .spiStat 0)).trans
    (rbit_spiFlag (r.over [(i, 1, c)]) hc)

/-- After its words a frame without a failure writes no register of the identity and domain blocks whose fields take their values at
once. -/
theorem rd_ends {r : Run} {q : RegId} {j : Nat} (hs : r.s.stagedOk) (hlong : r.long = false) (hq : findReg (q.addr j) = some (q, j))
    (hb : ∀ f ∈ effFields q j, f.bake = .i) (ha : domAddr (q.addr j) = true) (f : SpiFrame) (op sent fill : Nat) :
    (r.ends f op sent fill []).rd q j = r.s.rd q j := by
  have hover : r.over [] = r.s.endBurst .spi := by rw [Run.over, hlong]; rfl
  refine (regs_ends r f op sent fill [] q j).trans ?_
  rw [hover]
  exact rd_endBurst hs hq hb ha .spi

end Sys2Proof.Machine
end

section

/-!
PROOF. O37: frames with a wrong CRC (07 R246, R250, R254, R255, R264).
-/

namespace Sys2Proof.Machine

/-! ### Data words (07 R250) -/

section
variable {f : SpiFrame} {i : Nat}

/-- Data word `i` of a frame that holds it, with its CRC. -/
theorem sub8_data (h : 10 + 5 * i ≤ f.sdi.length) : (sub8 (frBytes f) (5 + 5 * i) 5).length = 5 ∧
    (sub8 (frBytes f) (5 + 5 * i) 5).take 4 = sub8 (frBytes f) (5 + 5 * i) 4 ∧
    nth8 (sub8 (frBytes f) (5 + 5 * i) 5) 4 = nth8 (frBytes f) (9 + 5 * i) := by
  refine ⟨?_, ?_, ?_⟩
  · simp only [sub8, frBytes, List.length_take, List.length_drop, List.length_map]
    omega
  · simp [sub8, List.take_take]
  · simp [nth8, sub8, List.getElem?_drop, show 5 + 5 * i + 4 = 9 + 5 * i by omega]

/-- A data word with a right CRC is submitted. -/
theorem spiWrites_right {r : Run} (k : Nat) (h : 10 + 5 * i ≤ f.sdi.length) (hr : r.fails = []) (hok : frameDataOk f i = true) :
    spiWrites f r i (k + 1) =
      let o := r.s.portWrite .spi (cmdDom (frCmd f)) (wordAddr (frCmd f) i) (frameData f i)
      spiWrites f { r with fails := if o.1 = 0 then r.fails else r.fails ++ [(i, 0, o.1)], done := r.done + 1, s := o.2 } (i + 1) k := by
  obtain ⟨hlen, htake, hcrc⟩ := sub8_data h
  have hok : crc8 (sub8 (frBytes f) (5 + 5 * i) 4) = nth8 (frBytes f) (9 + 5 * i) := beq_iff_eq.mp hok
  rw [spiWrites]
  simp [hlen, htake, hcrc, hok, hr, frameData]

/-- A data word with a wrong CRC is not submitted. -/
theorem spiWrites_wrong {r : Run} (k : Nat) (h : 10 + 5 * i ≤ f.sdi.length) (hr : r.fails = []) (hok : frameDataOk f i = false) :
    spiWrites f r i (k + 1) = spiWrites f { r with fails := [(i, 1, 9)] } (i + 1) k := by
  obtain ⟨hlen, htake, hcrc⟩ := sub8_data h
  have hok : crc8 (sub8 (frBytes f) (5 + 5 * i) 4) ≠ nth8 (frBytes f) (9 + 5 * i) := beq_eq_false_iff_ne.mp hok
  rw [spiWrites]
  simp [hlen, htake, hcrc, hok, hr]

/-- After the last word of a frame clocked to its end. -/
theorem spiWrites_done (r : Run) (hlen : f.sdi.length = 5 + 5 * cmdWords (frCmd f)) (hodd : f.odd = 0) :
    spiWrites f r i 0 = { r with long := false } := by
  simp [spiWrites, hlen, hodd]

end

/-! ### Wrong CRCs -/

/-- A frame whose command word fails its CRC. -/
theorem spiFrame_crc {s : State} {f : SpiFrame} {op : Nat} (go : Run → Run) (hready : s.spiReady = true) (h5 : 5 ≤ f.sdi.length)
    (hop : frOp f = op) (hcrc : frCrc f = false) : ∃ r : Run, ∃ sent fill, r.done = 0 ∧ r.s.mem = s.mem ∧ r.s.spi = s.spi ∧
      s.spiFrame op f go = .next (r.ends f op sent fill [(0, 1, 8)]) := by
  have hgap : (s.gapNoted f).mem = s.mem ∧ (s.gapNoted f).spi = s.spi := by
    unfold State.gapNoted
    split <;> exact ⟨rfl, rfl⟩
  refine ⟨{ s := s.gapNoted f, long := failedLong f }, s.spiSent f.quick, if op = 2 then 0xE7 else 0, rfl, hgap.1, hgap.2, ?_⟩
  rw [spiFrame_eq hready h5 hop, spiCheck_crc _ hcrc]
  rfl

theorem commandCrc_gives {s : State} {f : SpiFrame} {op : Nat} {i : Instr} {go : Run → Run} (hready : s.spiReady = true)
    (h5 : 5 ≤ f.sdi.length) (hop : frOp f = op) (hop4 : op < 4) (hcrc : frCrc f = false) (hi : exec i s = s.spiFrame op f go) :
    Gives i s fun t => t.rbit .spiStat 0 0 = true ∧ t.mem = s.mem ∧
      if f.cut && f.unpowered then t.spi.owed.isSome = true ∧ t.spi.status = s.spi.status else bitsN t.spi.status.toNat 27 5 = 16 + 8 := by
  obtain ⟨r, sent, fill, hdone, hmem, hspi, hx⟩ := spiFrame_crc go hready h5 hop hcrc
  refine gives_of (hi.trans hx) ⟨rbit_ends r f op sent fill 0 (c := 8) (by decide), (mem_ends ..).trans hmem, ?_⟩
  split
  next hlater =>
    obtain ⟨howed, hstatus⟩ := spi_ends_later r f op sent fill [(0, 1, 8)] hlater
    exact ⟨howed, hstatus.trans (congrArg Spi.status hspi)⟩
  next hnow => exact (spi_ends (Bool.eq_false_iff.mpr hnow) hop4 (by omega) (by decide)).2.1

theorem dataCrc_gives (s : State) (f : SpiFrame) (hready : s.spiReady = true) (h : wholeFrame f 1 10 = true)
    (hok : frameDataOk f 0 = false) (hwords : cmdWords (frCmd f) = 1) (hopen : s.sessionOpenFor = true)
    (hgate : s.gateCause .spi (cmdDom (frCmd f)) false = 0) : Gives (.spiWrite f) s fun t =>
      bitsN t.spi.status.toNat 27 5 = 16 + 9 ∧ bitsN t.spi.status.toNat 18 5 = 0 ∧ t.rbit .spiStat 0 1 = true ∧ t.mem = s.mem := by
  obtain ⟨hlen, hodd, -, -, -, hcrc, hbad⟩ := (wholeFrame_iff f 1 10).mp h
  let r : Run := { s := s, fails := [(0, 1, 9)] }
  have hr : spiWrites f { s := s } 0 (cmdWords (frCmd f)) = r := by
    rw [hwords, spiWrites_wrong 0 (by omega) rfl hok, spiWrites_done _ (by omega) hodd]
  have hx : exec (.spiWrite f) s = .next (r.ends f 1 s.spi.status.toNat 0 r.fails) := by
    rw [exec_spiWrite, spiFrame_whole hready h (by decide) (spiCheck_passes hcrc hbad hgate hopen), hr]
  obtain ⟨-, hcode, hdone⟩ := spi_ends (r := r) (sent := s.spi.status.toNat) (fill := 0) (fails := [(0, 1, 9)]) (counted_of_whole h)
    (by decide : 1 < 4) (show 0 < 32 by decide) (by decide)
  exact gives_of hx ⟨hcode, hdone, rbit_ends r f 1 _ 0 0 (c := 9) (by decide), mem_ends ..⟩

/-- Settles O37: a wrong CRC of the command word, in each operation, and of a data word. -/
theorem spiCrcErrorsAreReported : Obligations.SpiCrcErrorsAreReported := by
  unfold Obligations.SpiCrcErrorsAreReported
  intro s f hready
  refine ⟨fun ws i h5 hcrc hi => ?_, dataCrc_gives s f hready⟩
  rcases hi with ⟨rfl, hop⟩ | ⟨rfl, hop⟩ | ⟨rfl, hop⟩ | ⟨rfl, hop⟩
  · exact commandCrc_gives hready h5 hop (by decide) hcrc (exec_spiStatus f s)
  · exact commandCrc_gives hready h5 hop (by decide) hcrc (exec_spiWrite f s)
  · exact commandCrc_gives hready h5 hop (by decide) hcrc (exec_spiRead f s ws)
  · exact commandCrc_gives hready h5 hop (by decide) hcrc (exec_spiWritef f s)

end Sys2Proof.Machine
end

section

/-!
PROOF. O36: whole SPI frames of each operation (07 R241-R250), on GPIO_CFG.
-/

namespace Sys2Proof.Machine

/-! ### A GPIO_CFG word from the SPI port (06 R185; 07 R242) -/

/-- D0 may reach registers through the SPI port, nothing waits in its buffer, and the port has its fSYS cycle for itself. -/
structure SpiFree (s : State) : Prop where
  gate : s.gateCause .spi 0 false = 0
  session : s.noSession .spi 0 false = false
  posted : s.posted = []
  alone : (s.cycFor .spi).accs = []

theorem spiFree_of_accepts {s : State} {d n : Nat} (h : s.accepts .spi d .gpioCfg n 0 = true) : d = 0 ∧ SpiFree s := by
  obtain ⟨-, -, hpost, hg, hright, -, hn, hacc⟩ := (accepts_iff ..).mp h
  have hd : d = 0 := by
    by_contra hd
    change (if d = 0 then Right.ok true else .no 3 4) = .ok true at hright
    rw [if_neg hd] at hright
    cases hright
  subst hd
  exact ⟨rfl, hg, hn, hpost, hacc⟩

/-- A port makes one access a cycle (log 68). -/
theorem cycFor_seen {s : State} {p : Port} (h : p.code ∈ s.cyc.seen) : (s.cycFor p).accs = [] := by
  simp [State.cycFor, h]

/-- A write of GPIO_CFG joins the cycle of its port. -/
theorem seen_applyReg_gpioCfg (s : State) (p : Port) (d a i : Nat) (v : View) (w : Nat) :
    p.code ∈ (s.applyReg p d a .gpioCfg i v w).cyc.seen := by
  rw [applyReg_eq plainReg_gpioCfg]
  dsimp only
  rw [onWrite_gpioCfg, (Quiet.each (fun x t => Quiet.wrcoll t x p.code a) _).cyc]
  exact List.mem_append_right _ List.mem_cons_self

/-- The registers by which an access is checked lie apart from GPIO_CFG and the records of the register model. -/
theorem checkRegs_apart : ∀ r ∈ [RegId.domPorten, .domStat, .lcStat, .spiSessstat], r.addr 0 ∉ recordAddrs ∧
    ∀ n : Fin 6, r.addr 0 ≠ RegId.gpioCfg.addr n := by decide

theorem gpioCfg_apart : ∀ n j : Fin 6, j ≠ n → RegId.gpioCfg.addr j ≠ RegId.gpioCfg.addr n := by decide

/-- A word that the port writes to GPIO_CFG: OUT and EDGE take their values, the other GPIO_CFG registers and memory stay, and the port
may write again. -/
structure GpioWritten (s : State) (n : Fin 6) (w : Nat) (t : State) : Prop where
  mem : t.mem = s.mem
  out : t.g F.gpioCfg_OUT n = bitsN w 8 1
  edge : t.g F.gpioCfg_EDGE n = bitsN w 9 2
  other : ∀ j : Fin 6, j ≠ n → t.rd .gpioCfg j = s.rd .gpioCfg j
  free : SpiFree t

theorem applyReg_gpioCfg {s : State} (n : Fin 6) (w : Nat) (h : SpiFree s) :
    GpioWritten s n w (s.applyReg .spi 0 (RegId.gpioCfg.addr n) .gpioCfg n .reg w) := by
  obtain ⟨-, -, hrec, -⟩ := gpioCfg_place n
  obtain ⟨z, hz, happ⟩ := applyReg_wrote (s := s) (p := .spi) (d := 0) (a := RegId.gpioCfg.addr n) (v := .reg) (w := w)
    plainReg_gpioCfg (coll_written_lt s .spi 0 n .reg w (by decide))
  have hcyc := cycFor_seen (seen_applyReg_gpioCfg s .spi 0 (RegId.gpioCfg.addr n) n .reg w)
  have happ_z : s.applyReg .spi 0 (RegId.gpioCfg.addr n) .gpioCfg n .reg w = z := happ.trans (onWrite_gpioCfg ..)
  rw [happ_z] at hcyc ⊢
  have hcheck : ∀ r ∈ [RegId.domPorten, .domStat, .lcStat, .spiSessstat], z.rd r = s.rd r := fun r hr =>
    hz.other r 0 (checkRegs_apart r hr).1 ((checkRegs_apart r hr).2 n)
  have hfield : ∀ f ∈ RegId.gpioCfg.fields, f.ok = .any → bitsN (z.rd .gpioCfg n).toNat f.lo f.w = bitsN w f.lo f.w := fun f hf hok => by
    rw [hz.word hrec, bitsN_toNat_ofNat _ _ _ (fields_gpioCfg f hf).2.2, bits_written_gpioCfg h.alone hf hok]
    exact Nat.mod_eq_of_lt (bitsN_lt ..)
  refine ⟨hz.mem, hfield _ out_edge_gpioCfg.1 rfl, hfield _ out_edge_gpioCfg.2 rfl,
    fun j hj => hz.other _ _ (gpioCfg_place j).2.2.1 (gpioCfg_apart n j hj), ?_, ?_, hz.posted.trans h.posted, hcyc⟩
  · have hgate := h.gate
    simp only [State.gateCause, State.portOk, State.g, show F.domPorten_SPI.r = .domPorten from rfl,
      show F.domStat_RSTBUSY.r = .domStat from rfl] at hgate ⊢
    rw [hcheck .domPorten (by decide), hcheck .domStat (by decide)]
    exact hgate
  · have hsession := h.session
    simp only [State.noSession, State.lcState, State.b, State.g, show F.lcStat_STATE.r = .lcStat from rfl,
      show F.spiSessstat_SESS.r = .spiSessstat from rfl] at hsession ⊢
    rw [hcheck .lcStat (by decide), hcheck .spiSessstat (by decide)]
    exact hsession

theorem portWrite_gpioCfg {s : State} (n : Fin 6) (w : Nat) (h : SpiFree s) :
    ∃ t, s.portWrite .spi 0 (RegId.gpioCfg.addr n) w = (0, t) ∧ GpioWritten s n w t := by
  obtain ⟨-, -, -, hpost⟩ := gpioCfg_place n
  obtain ⟨hd, -⟩ := gpioCfg_views n
  refine ⟨_, ?_, applyReg_gpioCfg n w h⟩
  have hexempt : isExempt (.reg .reg .gpioCfg n) = false := rfl
  have hright : s.writeRight .spi 0 .gpioCfg n .reg w = .ok true := rfl
  have hfrozen : s.frozenWrite .spi .gpioCfg n .reg w = false := rfl
  simp [State.portWrite, h.gate, hd, hexempt, h.session, State.regWrite, hright, State.u2dCtxBusy, hpost, drain_empty s .spi h.posted,
    State.regEffect, hfrozen]

theorem portRead_gpioCfg {s : State} (n : Fin 6) (h : SpiFree s) :
    s.portRead .spi 0 (RegId.gpioCfg.addr n) = (0, (s.rd .gpioCfg n).toNat, false, s) := by
  have hdec : ∀ n : Fin 6, decode (RegId.gpioCfg.addr n) false = .reg .reg .gpioCfg n := by decide
  have hexempt : isExempt (.reg .reg .gpioCfg n) = false := rfl
  have hident : isIdent (.reg .reg .gpioCfg n) = false := rfl
  have hright : s.readRight .spi 0 .gpioCfg n = .ok true := rfl
  have hread : s.regRead .spi 0 .gpioCfg n true = ((s.rd .gpioCfg n).toNat, s) := rfl
  simp [State.portRead, drain_empty s .spi h.posted, State.readAt, hdec, hident, h.gate, hexempt, h.session, hright, State.u2dCtxBusy, hread]

/-! ### Two data words -/

/-- A frame of two right data words, for GPIO_CFG registers `m` and `n`. -/
theorem spiWrites_gpioCfg {s : State} {f : SpiFrame} {m n : Fin 6} (hlen : f.sdi.length = 15) (hodd : f.odd = 0)
    (hwords : cmdWords (frCmd f) = 2) (hdom : cmdDom (frCmd f) = 0) (hfree : SpiFree s) (hs : s.stagedOk)
    (hok0 : frameDataOk f 0 = true) (hok1 : frameDataOk f 1 = true) (hm : wordAddr (frCmd f) 0 = RegId.gpioCfg.addr m)
    (hn : wordAddr (frCmd f) 1 = RegId.gpioCfg.addr n) : ∃ u t, GpioWritten s m (frameData f 0) u ∧ GpioWritten u n (frameData f 1) t ∧
      t.stagedOk ∧ spiWrites f { s := s } 0 (cmdWords (frCmd f)) = { s := t, done := 2 } := by
  obtain ⟨u, hu, hwu⟩ := portWrite_gpioCfg m (frameData f 0) hfree
  obtain ⟨t, ht, hwt⟩ := portWrite_gpioCfg n (frameData f 1) hwu.free
  have htidy : t.Tidy := by
    have h1 := (State.tidy_iff.mpr hs).portWrite .spi 0 (RegId.gpioCfg.addr m) (frameData f 0)
    rw [hu] at h1
    have h2 := h1.portWrite .spi 0 (RegId.gpioCfg.addr n) (frameData f 1)
    rwa [ht] at h2
  refine ⟨u, t, hwu, hwt, State.tidy_iff.mp htidy, ?_⟩
  rw [hwords, spiWrites_right 1 (by omega) rfl hok0]
  simp only [hdom, hm, hu, if_true]
  rw [spiWrites_right 0 (by omega) rfl hok1]
  simp only [hdom, hn, ht, if_true]
  exact spiWrites_done _ (by omega) hodd

/-- A GPIO_CFG register after the end of a frame without a failure. -/
theorem rd_gpioCfg_ends {r : Run} (hs : r.s.stagedOk) (hlong : r.long = false) (n : Fin 6) (f : SpiFrame) (op sent fill : Nat) :
    (r.ends f op sent fill []).rd .gpioCfg n = r.s.rd .gpioCfg n := by
  have hdom : ∀ n : Fin 6, domAddr (RegId.gpioCfg.addr n) = true := by decide
  exact rd_ends hs hlong (gpioCfg_place n).1 (fun f hf => (fields_gpioCfg f hf).2.1) (hdom n) ..

/-- A whole write frame of two right words, of either operation. -/
theorem writeFrame_gives {s : State} {f : SpiFrame} {op : Nat} {i : Instr} {m n : Fin 6} (hready : s.spiReady = true) (hs : s.stagedOk)
    (hopen : s.sessionOpenFor = true) (hwhole : wholeFrame f op 15 = true) (hop4 : op < 4) (hok0 : frameDataOk f 0 = true)
    (hok1 : frameDataOk f 1 = true) (hwords : cmdWords (frCmd f) = 2) (hacc : s.accepts .spi (cmdDom (frCmd f)) .gpioCfg m 0 = true)
    (hm : wordAddr (frCmd f) 0 = RegId.gpioCfg.addr m) (hn : wordAddr (frCmd f) 1 = RegId.gpioCfg.addr n)
    (hi : exec i s = s.spiFrame op f fun r => spiWrites f r 0 (cmdWords (frCmd f))) :
    Gives i s fun t => bitsN t.spi.status.toNat 27 5 = 0 ∧ bitsN t.spi.status.toNat 18 5 = 2 ∧ t.mem = s.mem ∧
      t.g F.gpioCfg_OUT n = bitsN (frameData f 1) 8 1 ∧ t.g F.gpioCfg_EDGE n = bitsN (frameData f 1) 9 2 ∧
      (m ≠ n → t.g F.gpioCfg_OUT m = bitsN (frameData f 0) 8 1 ∧ t.g F.gpioCfg_EDGE m = bitsN (frameData f 0) 9 2) := by
  obtain ⟨hlen, hodd, -, -, -, hcrc, hbad⟩ := (wholeFrame_iff f op 15).mp hwhole
  obtain ⟨hdom, hfree⟩ := spiFree_of_accepts hacc
  obtain ⟨u, t, hu, ht, hst, hrun⟩ := spiWrites_gpioCfg hlen hodd hwords hdom hfree hs hok0 hok1 hm hn
  let r : Run := { s := t, done := 2 }
  have hcheck := spiCheck_passes hcrc hbad (hdom ▸ hfree.gate) hopen
  have hx : exec i s = .next (r.ends f op s.spi.status.toNat 0 []) := by
    rw [hi, spiFrame_whole hready hwhole (by decide) hcheck, hrun]
  obtain ⟨-, hcode, hdone⟩ := spi_ends (r := r) (sent := s.spi.status.toNat) (fill := 0) (fails := [])
    (counted_of_whole hwhole) hop4 (show 2 < 32 by decide) (by decide)
  have hend : ∀ (g : Fld) (j : Fin 6), g.r = .gpioCfg → (r.ends f op s.spi.status.toNat 0 []).g g j = t.g g j := fun g j hg => by
    rw [State.g, State.g, hg, rd_gpioCfg_ends hst rfl]
  have hfirst : ∀ g : Fld, g.r = .gpioCfg → m ≠ n → t.g g m = u.g g m := fun g hg hne => by
    rw [State.g, State.g, hg, ht.other m hne]
  refine gives_of hx ⟨hcode, hdone, (mem_ends ..).trans (ht.mem.trans hu.mem), ?_, ?_, fun hne => ⟨?_, ?_⟩⟩
  · exact (hend _ n rfl).trans ht.out
  · exact (hend _ n rfl).trans ht.edge
  · exact (hend _ m rfl).trans ((hfirst _ rfl hne).trans hu.out)
  · exact (hend _ m rfl).trans ((hfirst _ rfl hne).trans hu.edge)

/-! ### The four operations (07 R241) -/

section
variable (s : State) (f : SpiFrame) (hready : s.spiReady = true)
include hready

theorem spiStatus_gives (h : wholeFrame f 0 5 = true) : Gives (.spiStatus f) s fun t =>
    t.spi.seq = (s.spi.seq + 1) % 256 ∧ bitsN t.spi.status.toNat 27 5 = 0 ∧ bitsN t.spi.status.toNat 18 5 = 0 ∧
      t.spi.sdo.map (·.toNat) = beBytes 4 s.spi.status.toNat ++ [crc8 (beBytes 4 s.spi.status.toNat)] ∧ t.mem = s.mem := by
  obtain ⟨hlen, hodd, -, -, hop, hcrc, hbad⟩ := (wholeFrame_iff f 0 5).mp h
  let r : Run := { s := s }
  have hcheck := spiCheck_status (s := s) hcrc hbad ((cmdOp_frCmd (by omega)).trans hop)
  have hx : exec (.spiStatus f) s = .next (r.ends f 0 s.spi.status.toNat 0 []) := by
    rw [exec_spiStatus, spiFrame_whole hready h (by decide) hcheck]
    simp [hlen, hodd, r]
  obtain ⟨hseq, hcode, hdone⟩ := spi_ends (r := r) (op := 0) (sent := s.spi.status.toNat) (fill := 0) (fails := [])
    (counted_of_whole h) (by decide) (show 0 < 32 by decide) (by decide)
  exact gives_of hx ⟨hseq, hcode, hdone, (sdoOf_exact (rest := []) hlen (by simp)).trans (List.append_nil _), mem_ends ..⟩

theorem spiWrite_gives (n : Nat) (hn : n < 5) (hs : s.stagedOk) (hopen : s.sessionOpenFor = true) (hwhole : wholeFrame f 1 15 = true)
    (hok0 : frameDataOk f 0 = true) (hok1 : frameDataOk f 1 = true) (hwords : cmdWords (frCmd f) = 2)
    (haddr : cmdAddr (frCmd f) = RegId.gpioCfg.addr n) (hacc : s.accepts .spi (cmdDom (frCmd f)) .gpioCfg n 0 = true) :
    Gives (.spiWrite f) s fun t => bitsN t.spi.status.toNat 27 5 = 0 ∧ bitsN t.spi.status.toNat 18 5 = 2 ∧
      t.g F.gpioCfg_OUT n = bitsN (frameData f 0) 8 1 ∧ t.g F.gpioCfg_EDGE n = bitsN (frameData f 0) 9 2 ∧
      t.g F.gpioCfg_OUT (n + 1) = bitsN (frameData f 1) 8 1 ∧ t.g F.gpioCfg_EDGE (n + 1) = bitsN (frameData f 1) 9 2 ∧ t.mem = s.mem := by
  obtain ⟨hlen, -, -, -, hop, -, -⟩ := (wholeFrame_iff f 1 15).mp hwhole
  have hop : cmdOp (frCmd f) = 1 := (cmdOp_frCmd (by omega)).trans hop
  have hword : ∀ j, wordAddr (frCmd f) j = RegId.gpioCfg.addr n + 4 * j := fun j => by rw [wordAddr, hop, haddr]; rfl
  have hnext : ∀ n : Fin 5, RegId.gpioCfg.addr n + 4 * 1 = RegId.gpioCfg.addr (n + 1) := by decide
  obtain ⟨t, hx, hcode, hdone, hmem, hout1, hedge1, hfirst⟩ := writeFrame_gives (m := ⟨n, by omega⟩) (n := ⟨n + 1, by omega⟩) hready hs
    hopen hwhole (by decide) hok0 hok1 hwords hacc (hword 0) ((hword 1).trans (hnext ⟨n, hn⟩)) (exec_spiWrite f s)
  obtain ⟨hout0, hedge0⟩ := hfirst (by simp)
  exact ⟨t, hx, hcode, hdone, hout0, hedge0, hout1, hedge1, hmem⟩

theorem spiWritef_gives (n : Nat) (hn : n < 6) (hs : s.stagedOk) (hopen : s.sessionOpenFor = true) (hwhole : wholeFrame f 3 15 = true)
    (hok0 : frameDataOk f 0 = true) (hok1 : frameDataOk f 1 = true) (hwords : cmdWords (frCmd f) = 2)
    (haddr : cmdAddr (frCmd f) = RegId.gpioCfg.addr n) (hacc : s.accepts .spi (cmdDom (frCmd f)) .gpioCfg n 0 = true) :
    Gives (.spiWritef f) s fun t => bitsN t.spi.status.toNat 27 5 = 0 ∧ bitsN t.spi.status.toNat 18 5 = 2 ∧
      t.g F.gpioCfg_OUT n = bitsN (frameData f 1) 8 1 ∧ t.g F.gpioCfg_EDGE n = bitsN (frameData f 1) 9 2 ∧ t.mem = s.mem := by
  obtain ⟨hlen, -, -, -, hop, -, -⟩ := (wholeFrame_iff f 3 15).mp hwhole
  have hop : cmdOp (frCmd f) = 3 := (cmdOp_frCmd (by omega)).trans hop
  have hword : ∀ j, wordAddr (frCmd f) j = RegId.gpioCfg.addr n := fun j => by rw [wordAddr, hop, haddr]; rfl
  obtain ⟨t, hx, hcode, hdone, hmem, hout, hedge, -⟩ := writeFrame_gives (m := ⟨n, hn⟩) (n := ⟨n, hn⟩) hready hs hopen hwhole (by decide)
    hok0 hok1 hwords hacc (hword 0) (hword 1) (exec_spiWritef f s)
  exact ⟨t, hx, hcode, hdone, hout, hedge, hmem⟩

theorem spiRead_gives (n : Nat) (hn : n < 6) (hopen : s.sessionOpenFor = true) (hwhole : wholeFrame f 2 12 = true)
    (hwords : cmdWords (frCmd f) = 1) (haddr : cmdAddr (frCmd f) = RegId.gpioCfg.addr n)
    (hacc : s.accepts .spi (cmdDom (frCmd f)) .gpioCfg n 0 = true) : Gives (.spiRead f []) s fun t =>
      bitsN t.spi.status.toNat 27 5 = 0 ∧ bitsN t.spi.status.toNat 18 5 = 1 ∧
        t.spi.sdo.map (·.toNat) = beBytes 4 s.spi.status.toNat ++ [crc8 (beBytes 4 s.spi.status.toNat)] ++ [0xA5, 0x3C] ++
          beBytes 4 (s.rd .gpioCfg n).toNat ++ [crc8 (beBytes 4 (s.rd .gpioCfg n).toNat)] ∧ t.mem = s.mem := by
  obtain ⟨hlen, hodd, -, -, hop, hcrc, hbad⟩ := (wholeFrame_iff f 2 12).mp hwhole
  obtain ⟨hdom, hfree⟩ := spiFree_of_accepts hacc
  have hop : cmdOp (frCmd f) = 2 := (cmdOp_frCmd (by omega)).trans hop
  have hword : wordAddr (frCmd f) 0 = RegId.gpioCfg.addr n := by rw [wordAddr, hop, haddr]; rfl
  let data := beBytes 4 (s.rd .gpioCfg n).toNat ++ [crc8 (beBytes 4 (s.rd .gpioCfg n).toNat)]
  let r : Run := { s := s, done := 1, out := [0xA5, 0x3C] ++ data }
  have hr : spiReads f [] { s := s } 0 5 (cmdWords (frCmd f)) = r := by
    rw [hwords]
    simp [spiReads, hdom, hword, portRead_gpioCfg ⟨n, hn⟩ hfree, hlen, hodd, r, data]
  have hx : exec (.spiRead f []) s = .next (r.ends f 2 s.spi.status.toNat 0 []) := by
    rw [exec_spiRead, spiFrame_whole hready hwhole (by decide) (spiCheck_passes hcrc hbad (hdom ▸ hfree.gate) hopen), hr]
  obtain ⟨-, hcode, hdone⟩ := spi_ends (r := r) (sent := s.spi.status.toNat) (fill := 0) (fails := [])
    (counted_of_whole hwhole) (by decide : 2 < 4) (show 1 < 32 by decide) (by decide)
  have hrest : ∀ b ∈ [0xA5, 0x3C] ++ data, b < 256 := fun b hb => by
    rcases List.mem_append.mp hb with hb | hb
    · simp only [List.mem_cons, List.not_mem_nil, or_false] at hb
      omega
    · exact withCrc_lt _ b hb
  refine gives_of hx ⟨hcode, hdone, ?_, mem_ends ..⟩
  have hout := sdoOf_exact (n := f.sdi.length) (status := s.spi.status.toNat) (fill := 0) (by simp [hlen, data, length_beBytes]) hrest
  refine hout.trans ?_
  simp only [data, List.append_assoc]

end

/-- Settles O36: status, write and read frames. -/
theorem spiFramesComplete : Obligations.SpiFramesComplete := by
  unfold Obligations.SpiFramesComplete
  intro s f hready
  exact ⟨spiStatus_gives s f hready, spiWrite_gives s f hready, spiWritef_gives s f hready, spiRead_gives s f hready⟩

end Sys2Proof.Machine
end

section
/-!
PROOF. O41: PHY and PLCA, beacons, holdover, the network counters (08 R274, R275, R301, R304, R316).
-/

namespace Sys2Proof.Machine

/-! ### Flags of NET_STAT -/

/-- NET_STAT lies outside the interrupt sets and the dispatcher. -/
theorem netStat_apart : RegId.netStat.addr 0 / 0x1000 ∉ [0x2, 0x9] := by decide

section
variable (s : State) {f : Fld} (hr : f.r = .netStat)
include hr

/-- A flag of NET_STAT, after it is set. -/
theorem b_netFlag_same (h32 : f.lo + f.w ≤ 32) (hw : f.w = 1) : (s.netFlag f).b f = true := by
  rw [State.b, State.g, State.netFlag, rd_flagIrq _ _ _ _ _ _ (hr ▸ netStat_apart)]
  exact b_pb_same s f 0 true h32 hw

/-- Another flag of NET_STAT stays. -/
theorem b_netFlag_apart (h32 : f.lo + f.w ≤ 32) {g : Fld} (hg : g.r = .netStat) (h : g.lo + g.w ≤ f.lo ∨ f.lo + f.w ≤ g.lo) :
    (s.netFlag f).b g = s.b g := by
  rw [State.b, State.g, State.netFlag, rd_flagIrq _ _ _ _ _ _ (hg ▸ netStat_apart)]
  exact b_pb_field s 0 true (hg.trans hr.symm) h32 h

/-- A register outside NET_STAT, the interrupt sets and the dispatcher stays. -/
theorem rd_netFlag_apart {r : RegId} {j : Nat} (hj : r.addr j / 0x1000 ∉ [0x2, 0x9]) (hne : r.addr j ≠ RegId.netStat.addr 0) :
    (s.netFlag f).rd r j = s.rd r j :=
  (rd_flagIrq _ _ _ _ _ _ hj).trans (rd_pb_ne _ _ _ _ (hr ▸ hne))

end

/-! ### PLCAOK (08 R275) -/

theorem plcaok_setPlca (s : State) (ok : Bool) : (s.setPlca ok).b F.netStat_PLCAOK = ok := by
  unfold State.setPlca
  split
  next h => exact beq_iff_eq.mp h
  · rw [b_netFlag_apart _ rfl (by decide) rfl (by decide)]
    exact b_pb_same s F.netStat_PLCAOK 0 ok (by decide) rfl

/-- Of NET_STAT a change of PLCAOK touches PLCAOK and PLCACHG. -/
theorem b_setPlca_apart (s : State) (ok : Bool) {g : Fld} (hg : g.r = .netStat)
    (hok : g.lo + g.w ≤ 1 ∨ 2 ≤ g.lo) (hchg : g.lo + g.w ≤ 9 ∨ 10 ≤ g.lo) : (s.setPlca ok).b g = s.b g := by
  unfold State.setPlca
  split
  · rfl
  · rw [b_netFlag_apart _ rfl (by decide) hg hchg]
    exact b_pb_field s (f := F.netStat_PLCAOK) 0 ok hg (by decide) hok

theorem net_setPlca (s : State) (ok : Bool) : (s.setPlca ok).net = s.net := by
  unfold State.setPlca
  split
  · rfl
  · exact (Quiet.flagIrq ..).net

/-- A change of PLCAOK is flagged. -/
theorem plcachg_setPlca {s : State} {ok : Bool} (h : s.b F.netStat_PLCAOK ≠ ok) : (s.setPlca ok).b F.netStat_PLCACHG = true := by
  rw [State.setPlca, if_neg (by simpa using h)]
  exact b_netFlag_same _ rfl (by decide) rfl

/-! ### The commands -/

/-- The port after PHYON, before a coordinator's PLCAOK. -/
def State.phyOn (s : State) : State :=
  let s1 := (s.pb F.netStat_PHYON 0 true).modNet (fun n => { n with plca := (s.rd .netPlca).toNat, beacon := none, cycleUsed := false })
  s1.pb F.netStat_COORD 0 (s1.plcaId == 0)

theorem exec_phyReady {s : State} (hlive : s.live = true) (hen : s.b F.netCfg_PHYEN = true) (href : s.b F.clkStat_REFACT = true)
    (hoff : s.b F.netStat_PHYON = false) :
    exec .phyReady s = .next (if s.phyOn.plcaId = 0 then s.phyOn.setPlca true else s.phyOn) :=
  if_pos (by simp [hlive, hen, href, hoff])

theorem phyOn_shows (s : State) : s.phyOn.b F.netStat_PHYON = true ∧ s.phyOn.b F.netStat_COORD = (s.phyOn.plcaId == 0) ∧
    s.phyOn.net.plca = (s.rd .netPlca).toNat := by
  refine ⟨?_, b_pb_same _ F.netStat_COORD 0 _ (by decide) rfl, rfl⟩
  refine (b_pb_field _ (f := F.netStat_COORD) (f' := F.netStat_PHYON) 0 _ rfl (by decide) (by decide)).trans ?_
  exact b_pb_same s F.netStat_PHYON 0 true (by decide) rfl

theorem phyReady_gives (s : State) (hlive : s.live = true) (hen : s.b F.netCfg_PHYEN = true) (href : s.b F.clkStat_REFACT = true)
    (hoff : s.b F.netStat_PHYON = false) : Gives .phyReady s fun t => t.b F.netStat_PHYON = true ∧
      t.net.plca = (s.rd .netPlca).toNat ∧ (t.b F.netStat_COORD = true ↔ t.plcaId = 0) ∧
      (t.plcaId = 0 → t.b F.netStat_PLCAOK = true) := by
  obtain ⟨hon, hcoord, hplca⟩ := phyOn_shows s
  refine gives_of (exec_phyReady hlive hen href hoff) ?_
  split
  next h0 =>
    have hnet := net_setPlca s.phyOn true
    have hid : (s.phyOn.setPlca true).plcaId = s.phyOn.plcaId := congrArg (fun n : Net => n.plca % 16) hnet
    rw [b_setPlca_apart _ _ rfl (by decide) (by decide), b_setPlca_apart _ _ rfl (by decide) (by decide), hnet, hid, hcoord]
    exact ⟨hon, hplca, beq_iff_eq, fun _ => plcaok_setPlca ..⟩
  next h0 =>
    rw [hcoord]
    exact ⟨hon, hplca, beq_iff_eq, fun h => absurd h h0⟩

theorem beaconReceive_gives (s : State) (hlive : s.live = true) (hon : s.b F.netStat_PHYON = true) (hid : s.plcaId ≠ 0) :
    Gives .beaconReceive s fun t => t.net.beacon = some (s.time, s.tick) ∧ t.b F.netStat_PLCAOK = true :=
  gives_then (c := (s.live && s.b F.netStat_PHYON && s.plcaId != 0) = true) rfl (by simp [hlive, hon, hid])
    ⟨congrArg Net.beacon (net_setPlca ..), plcaok_setPlca ..⟩

theorem beaconTransmit_gives (s : State) (hlive : s.live = true) (hon : s.b F.netStat_PHYON = true) (hid : s.plcaId = 0) :
    Gives .beaconTransmit s fun t => t.net.beacon = some (s.time, s.tick) :=
  gives_then (c := (s.live && s.b F.netStat_PHYON && s.plcaId == 0) = true) rfl (by simp [hlive, hon, hid]) rfl

theorem plcaBeaconLoss_gives (s : State) (hlive : s.live = true) (hid : s.plcaId ≠ 0) : Gives .plcaBeaconLoss s fun t =>
    t.net.beacon = none ∧ t.b F.netStat_PLCAOK = false ∧ (s.b F.netStat_PLCAOK = true → t.b F.netStat_PLCACHG = true) :=
  gives_then (c := (s.live && s.plcaId != 0) = true) rfl (by simp [hlive, hid])
    ⟨rfl, plcaok_setPlca s false, fun h => plcachg_setPlca (s := s) (by simp [h])⟩

/-! ### The time state (08 R304) -/

/-- NET_TSTAT.STATE takes its value, TLOCK follows, and of the registers outside NET_TSTAT, NET_STAT, the interrupt sets and the
dispatcher none changes. -/
theorem timeState_shows (s : State) (st : Nat) : (s.timeState st).g F.netTstat_STATE = st % 4 ∧
    (s.timeState st).b F.netStat_TLOCK = (st == 2 || s.g F.netTimecfg_ROLE == 1) ∧ Quiet s (s.timeState st) ∧
    ∀ r j, r.addr j / 0x1000 ∉ [0x2, 0x9] → r.addr j ≠ RegId.netTstat.addr 0 → r.addr j ≠ RegId.netStat.addr 0 →
      (s.timeState st).rd r j = s.rd r j := by
  let u := s.p F.netTstat_STATE 0 st
  let v := u.pb F.netStat_TLOCK 0 (st == 2 || s.g F.netTimecfg_ROLE == 1)
  have hstate : v.g F.netTstat_STATE = st % 4 :=
    (g_p_addr u F.netStat_TLOCK F.netTstat_STATE 0 0 _ (by decide)).trans (g_p_same s F.netTstat_STATE 0 st (by decide))
  have hlock : v.b F.netStat_TLOCK = (st == 2 || s.g F.netTimecfg_ROLE == 1) := b_pb_same u F.netStat_TLOCK 0 _ (by decide) rfl
  have hrd : ∀ r j, r.addr j ≠ RegId.netTstat.addr 0 → r.addr j ≠ RegId.netStat.addr 0 → v.rd r j = s.rd r j := fun r j ht hs =>
    (rd_wr_ne u .netStat r 0 j _ hs).trans (rd_wr_ne s .netTstat r 0 j _ ht)
  have hq : Quiet s v := (Quiet.p ..).trans (.pb ..)
  have heq : s.timeState st =
      if s.g F.netTstat_STATE ≠ st && (s.g F.netTstat_STATE = 2 || st = 2) then v.netFlag F.netStat_TCHG else v := rfl
  rw [heq]
  split
  · refine ⟨?_, ?_, hq.trans (.flagIrq ..), fun r j hirq ht hs => ?_⟩
    · rw [State.g, rd_netFlag_apart v rfl (by decide) (by decide)]
      exact hstate
    · rw [b_netFlag_apart v rfl (by decide) rfl (by decide)]
      exact hlock
    · rw [rd_netFlag_apart v rfl hirq hs]
      exact hrd r j ht hs
  · exact ⟨hstate, hlock, hq, fun r j _ => hrd r j⟩

/-- Entry into and exit from LOCKED set TCHG. -/
theorem tchg_timeState {s : State} {st : Nat} (hne : s.g F.netTstat_STATE ≠ st) (h2 : s.g F.netTstat_STATE = 2 ∨ st = 2) :
    (s.timeState st).b F.netStat_TCHG = true := by
  rw [State.timeState, if_pos (by simp [hne, h2])]
  exact b_netFlag_same _ rfl (by decide) rfl

theorem timeHoldover_gives (s : State) (hlive : s.live = true) (hrole : s.g F.netTimecfg_ROLE = 0) (hst : s.g F.netTstat_STATE = 2) :
    Gives .timeHoldover s fun t => t.g F.netTstat_STATE = 3 ∧ t.b F.netStat_TLOCK = false ∧ t.b F.netStat_TCHG = true := by
  obtain ⟨hstate, hlock, -, -⟩ := timeState_shows s 3
  refine gives_then (c := (s.live && s.g F.netTimecfg_ROLE = 0 && s.g F.netTstat_STATE = 2) = true) rfl (by simp [hlive, hrole, hst])
    ⟨hstate, ?_, tchg_timeState (by rw [hst]; decide) (.inl hst)⟩
  rw [hlock, hrole]
  rfl

/-! ### The counters (08 R316) -/

theorem onWrite_netCtl_clear (s old : State) (p : Port) (d a i : Nat) (v : View) (nw : Nat) (cmd : Bool) :
    s.onWrite old p d a .netCtl i v 1 nw cmd = ((s.wr .netCnt0 0 0).wr .netCnt1 0 0).wr .netCnt2 0 0 := rfl

theorem netCounterClear_gives (s : State) (p : Port) (d : Dom) (h : s.accepts p d .netCtl 0 1 = true) :
    Gives (.netCounterClear p d) s fun t => t.rd .netCnt0 = 0 ∧ t.rd .netCnt1 = 0 ∧ t.rd .netCnt2 = 0 := by
  have hx := writeReg_command s p d .netCtl 0 1 h (by decide) (by decide) (by decide) (by decide)
  rw [onWrite_netCtl_clear] at hx
  refine gives_of hx ⟨?_, ?_, rd_wr_same ..⟩
  · exact (rd_wr_ne _ .netCnt2 .netCnt0 0 0 _ (by decide)).trans ((rd_wr_ne _ .netCnt1 .netCnt0 0 0 _ (by decide)).trans (rd_wr_same ..))
  · exact (rd_wr_ne _ .netCnt2 .netCnt1 0 0 _ (by decide)).trans (rd_wr_same ..)

/-- Settles O41: one lemma for each command. -/
theorem phyAndBeaconsComplete : Obligations.PhyAndBeaconsComplete :=
  ⟨phyReady_gives, beaconReceive_gives, beaconTransmit_gives, plcaBeaconLoss_gives, timeHoldover_gives, netCounterClear_gives⟩

end Sys2Proof.Machine
end

section
/-!
PROOF. What the racks leave of memory and of the network port (09 R329-R343), and the racks on which nothing waits.
-/

namespace Sys2Proof.Machine

/-! ### Memory and the network port -/

/-- Memory and the network port beside its registers are as before. -/
structure NetFrame (s t : State) : Prop where
  mem : t.mem = s.mem
  net : t.net = s.net

theorem Quiet.netFrame {s t : State} (h : Quiet s t) : NetFrame s t := ⟨h.mem, h.net⟩

namespace NetFrame

theorem refl (s : State) : NetFrame s s := ⟨rfl, rfl⟩

theorem trans {s t u : State} (a : NetFrame s t) (b : NetFrame t u) : NetFrame s u := ⟨b.mem.trans a.mem, b.net.trans a.net⟩

theorem ite {s t u : State} {c : Prop} [Decidable c] (a : NetFrame s t) (b : NetFrame s u) : NetFrame s (if c then t else u) := by
  split
  · exact a
  · exact b

theorem each {α : Type} {l : List α} {f : α → State → State} (h : ∀ a s, NetFrame s (f a s)) (s : State) :
    NetFrame s (Machine.each l f s) := by
  induction l generalizing s with
  | nil => exact .refl s
  | cons a t ih => exact (h a s).trans (ih (f a s))

theorem modRack (s : State) (f : Rack → Rack) : NetFrame s (s.modRack f) := ⟨rfl, rfl⟩

theorem granted (s : State) (w : Wait) (regs : List (Nat × Word)) : NetFrame s (s.granted w regs) := .ite ⟨rfl, rfl⟩ ⟨rfl, rfl⟩

theorem rackClean (s : State) (n k : Nat) : NetFrame s (s.rackClean n k) := by
  have hfix : ∀ (l : List Nat) (t : State), NetFrame t (Machine.each l (fun _ u => u.incSat F.rackGstat_ECCFIX) t) := fun _ =>
    .each fun _ u => (Quiet.incSat u _ _).netFrame
  induction k generalizing s with
  | zero => exact .refl s
  | succ k ih =>
    rw [State.rackClean]
    split
    · exact .refl s
    · refine .ite (.refl s) (.ite ?_ ((hfix ..).trans (.modRack ..)))
      exact ((((hfix ..).trans (.modRack ..)).trans (Quiet.flagIrq ..).netFrame).trans (Quiet.raise ..).netFrame).trans (ih _)

theorem rackAppend (s : State) (n : Nat) (d : Desc) : NetFrame s (s.rackAppend n d) := (modRack ..).trans (Quiet.rackAppend s n d).netFrame

theorem rackServe (s : State) (n k : Nat) : NetFrame s (s.rackServe n k) := by
  induction k generalizing s with
  | zero => exact .refl s
  | succ k ih =>
    rw [State.rackServe]
    refine .ite (.refl s) ?_
    have hclean : NetFrame s (if (s.popWaiter n).isSome then s.rackClean n ((s.rq n).length + 1) else s) := .ite (.rackClean ..) (.refl s)
    generalize (if (s.popWaiter n).isSome then s.rackClean n ((s.rq n).length + 1) else s) = u at hclean
    dsimp only
    split
    · exact (hclean.trans ((modRack ..).trans (.modRack ..))).trans ((granted ..).trans (ih _))
    split
    · refine .ite hclean ?_
      split
      · exact hclean.trans ((rackAppend ..).trans ((granted ..).trans (ih _)))
      · exact hclean
    · exact hclean

theorem rackCommit (s : State) (n : Nat) (d : Desc) : NetFrame s (s.rackCommit n d) := (rackAppend ..).trans (.rackServe ..)

theorem rackTake (s : State) (n : Nat) : NetFrame s (s.rackTake n).2 := by
  have hclean := rackClean s n ((s.rq n).length + 1)
  unfold State.rackTake
  dsimp only
  split
  · exact hclean
  · exact (hclean.trans (.modRack ..)).trans (.rackServe ..)

theorem egress (s : State) (d : Nat) (f : List Nat) : NetFrame s (s.egress d f) := .ite (.rackCommit ..) (.modRack ..)

end NetFrame

/-- A retirement writes registers and makes an interrupt pending. -/
theorem Quiet.retire (s : State) (n : Nat) (d : Desc) (status erridx : Nat) : Quiet s (s.retire n d status erridx) :=
  ((((Quiet.p ..).trans (.p ..)).trans (.p ..)).trans (.p ..)).trans (.flagIrq ..)

/-- A retirement writes RACK_RET and RACK_STAT of its rack. -/
theorem rd_retire (s : State) (n : Nat) (d : Desc) (status erridx : Nat) {r : RegId} {j : Nat} (hirq : r.addr j / 0x1000 ∉ [0x2, 0x9])
    (hstat : r.addr j ≠ RegId.rackStat.addr n) (hret : r.addr j ≠ RegId.rackRet.addr n) :
    (s.retire n d status erridx).rd r j = s.rd r j := by
  have hf : (if status = 1 then F.rackStat_DONE else F.rackStat_ABORT).r = .rackStat := by split <;> rfl
  refine (rd_flagIrq _ _ n _ r j hirq).trans ((rd_pb_ne _ _ _ _ (hf ▸ hstat)).trans ?_)
  exact (rd_wr_ne _ .rackRet r n j _ hret).trans ((rd_wr_ne _ .rackRet r n j _ hret).trans
    ((rd_wr_ne _ .rackRet r n j _ hret).trans (rd_wr_ne _ .rackRet r n j _ hret)))

/-- Registers below the rack block stay. -/
theorem rd_retire_low (s : State) (n : Nat) (d : Desc) (status erridx : Nat) {r : RegId} {j : Nat} (hirq : r.addr j / 0x1000 ∉ [0x2, 0x9])
    (hlow : r.addr j < 0x6000) : (s.retire n d status erridx).rd r j = s.rd r j :=
  rd_retire _ _ _ _ _ hirq (by simp only [RegId.addr, RegId.place] at hlow ⊢; omega)
    (by simp only [RegId.addr, RegId.place] at hlow ⊢; omega)

/-! ### Racks on which nothing waits -/

theorem rq_setRq (s : State) (n : Nat) (l : List Desc) : (s.setRq n l).rq n = l := by
  cases l with
  | nil => simp [State.rq, State.setRq, State.modRack, kvD]
  | cons x t => exact rq_setRq_same s n (List.cons_ne_nil x t)

theorem rq_congr {s t : State} (h : t.rack = s.rack) (n : Nat) : t.rq n = s.rq n := congrArg (fun r : Rack => kvD r.q n []) h

/-- The descriptors of a rack after a commit that nothing waits for. -/
theorem rq_rackAppend (s : State) (n : Nat) (d : Desc) : (s.rackAppend n d).rq n = s.rq n ++ [d] :=
  (rq_congr (Quiet.rackAppend s n d).rack n).trans (rq_setRq ..)

theorem rackCommit_noWaits {s : State} (h : s.rack.waits = []) (n : Nat) (d : Desc) : s.rackCommit n d = s.rackAppend n d := by
  rw [State.rackCommit, rackServe_noWaits (by rw [(Quiet.rackAppend s n d).rack]; exact h)]

/-- The parts of a rack on which nothing waits. -/
theorem rackCalm_iff (s : State) (n : Nat) : s.rackCalm n = true ↔ s.rack.waits = [] ∧ (s.rq n).all (·.errs.isEmpty) = true := by
  simp [State.rackCalm]

/-- The oldest descriptor of a calm rack is taken as it is. -/
theorem rackTake_calm {s : State} {n : Nat} {x : Desc} {rest : List Desc} (hc : s.rackCalm n = true) (hq : s.rq n = x :: rest) :
    s.rackTake n = (some x, s.setRq n rest) := by
  obtain ⟨hwaits, herrs⟩ := (rackCalm_iff ..).mp hc
  have hx : x.errs.isEmpty = true := List.all_eq_true.mp herrs x (hq ▸ List.mem_cons_self)
  have hclean : s.rackClean n ((s.rq n).length + 1) = s := by
    rw [State.rackClean, hq]
    exact if_pos hx
  rw [State.rackTake, hclean, hq]
  dsimp only
  rw [rackServe_noWaits (show (s.setRq n rest).rack.waits = [] from hwaits)]

end Sys2Proof.Machine
end

section
/-!
PROOF. O42: received frames (08 R278-R289): the receive buffer, the checks, freshness, the ingress rack.
-/

namespace Sys2Proof.Machine

/-! ### Counters -/

theorem Quiet.received {s t : State} (h : Quiet s t) : t.rack = s.rack ∧ t.net = s.net ∧ t.mem = s.mem := ⟨h.rack, h.net, h.mem⟩

/-- A counter field that goes up by one. -/
theorem counts_incSat (s : State) {c : Fld} (h : c.lo + c.w ≤ 32) : Counts c s (s.incSat c) := g_incSat_same s c 0 h

/-- A count stands while its register does. -/
theorem counts_of_rd {s t u : State} {c : Fld} (h : Counts c s t) (hr : u.rd c.r = t.rd c.r) : Counts c s u := by
  rw [Counts, State.g, hr]
  exact h

/-! ### The receive buffer (08 R279) -/

/-- A frame taken into an empty buffer is processed, and leaves it. -/
theorem rxServe_one {s : State} (h : s.net.rx = []) (f : List Nat) (uni : Bool) :
    (s.modNet (fun n => { n with rx := n.rx ++ [(f, uni)] })).rxServe = s.rxFrame f uni := by
  have hnet : ({ s.net with rx := [] } : Net) = s.net := by rw [← h]
  have hs : (s.modNet (fun n => { n with rx := n.rx ++ [(f, uni)] })).modNet (fun n => { n with rx := [] }) = s := by
    change { s with net := { s.net with rx := [] } } = s
    rw [hnet]
  have hrx : (s.modNet (fun n => { n with rx := n.rx ++ [(f, uni)] })).net.rx = [(f, uni)] := by
    change s.net.rx ++ [(f, uni)] = _
    rw [h, List.nil_append]
  rw [State.rxServe, hs, hrx]
  rfl

/-! ### A message that its rack takes (08 R284 steps 4 to 7, R287) -/

theorem bitN_add_two_pow {n i : Nat} (h : bitN n i = false) : bitN (n + 2 ^ i) i = true := by
  rw [bitN_eq_testBit] at h ⊢
  rw [Nat.add_comm, Nat.testBit_two_pow_add_eq, h]
  rfl

/-- A mark in the window sets its bit and leaves H, the registers and the racks. -/
theorem markWin_shows (s : State) (d c : Nat) : bitN (kvD (s.markWin d c).net.win d 0) (kvD s.net.h d 0 - c) = true ∧
    (s.markWin d c).net.h = s.net.h ∧ (s.markWin d c).rack = s.rack ∧ (s.markWin d c).regs = s.regs ∧ (s.markWin d c).img = s.img := by
  unfold State.markWin
  dsimp only
  split
  next h => exact ⟨h, rfl, rfl, rfl, rfl⟩
  next h =>
    refine ⟨?_, rfl, rfl, rfl, rfl⟩
    change bitN (kvD (kvSet s.net.win d _) d 0) _ = true
    rw [kvD_kvSet_same]
    exact bitN_add_two_pow (Bool.eq_false_iff.mpr h)

/-- What a message leaves that went to its ingress rack: it is the newest there, whole, with the domain of its rack, its counter is
marked, and it is counted. -/
structure Ingressed (s : State) (f : List Nat) (t : State) : Prop where
  bodies : (t.rq (4 + zDom f)).map (·.body) = (s.rq (4 + zDom f)).map (·.body) ++ [f]
  word0 : (t.rq (4 + zDom f)).getLast?.map (·.w0) = some (2 + zDom f * 2 ^ 22)
  h : kvD t.net.h (zDom f) 0 = kvD s.net.h (zDom f) 0
  marked : bitN (kvD t.net.win (zDom f) 0) (kvD s.net.h (zDom f) 0 - zRctr f) = true
  counted : Counts F.netCnt0_RXOK s t

theorem ingressed_ingress {s : State} {f : List Nat} (hopen : s.rackOpen (4 + zDom f) = true) (hty : zType f ≠ 4) :
    Ingressed s f (s.ingress f true) := by
  obtain ⟨hwaits, -, hen, hfull⟩ := (rackOpen_iff ..).mp hopen
  obtain ⟨hbit, hh, hrack, hregs, himg⟩ := markWin_shows s (zDom f) (zRctr f)
  have hrd : ∀ r j, (s.markWin (zDom f) (zRctr f)).rd r j = s.rd r j := fun r j => by rw [State.rd, State.rd, hregs, himg]
  let u := (s.markWin (zDom f) (zRctr f)).incSat F.netCnt0_RXOK
  obtain ⟨x, hbody, hw0, hx⟩ : ∃ x : Desc, x.body = f ∧ x.w0 = 2 + zDom f * 2 ^ 22 ∧ s.ingress f true = u.rackCommit (4 + zDom f) x := by
    rw [State.ingress]
    dsimp only
    rw [if_neg (by simp [hen, hfull])]
    simp only [if_true, hty, decide_false, Bool.false_and, Bool.false_eq_true, if_false]
    exact ⟨_, rfl, rfl, rfl⟩
  have hu : u.rack = s.rack := hrack
  rw [hx, rackCommit_noWaits (by rw [hu]; exact hwaits)]
  have hnet : (u.rackAppend (4 + zDom f) x).net = (s.markWin (zDom f) (zRctr f)).net := (NetFrame.rackAppend ..).net
  have hq : (u.rackAppend (4 + zDom f) x).rq (4 + zDom f) = s.rq (4 + zDom f) ++ [x] := by rw [rq_rackAppend, rq_congr hu]
  refine ⟨?_, ?_, ?_, ?_, ?_⟩
  · rw [hq, List.map_append, List.map_singleton, hbody]
  · rw [hq, List.getLast?_concat, Option.map_some, hw0]
  · rw [hnet, hh]
  · rw [hnet]
    exact hbit
  · have hcount : Counts F.netCnt0_RXOK s u := by
      have hg : (s.markWin (zDom f) (zRctr f)).g F.netCnt0_RXOK = s.g F.netCnt0_RXOK := by rw [State.g, State.g, hrd]
      rw [Counts, ← hg]
      exact counts_incSat _ (by decide)
    exact counts_of_rd hcount ((IrqFrame.rackAppend ..).rd _ _ (by decide))

/-- A message of a type and a payload that the port takes goes to its ingress rack. -/
theorem rxAccept_admitted {s : State} {f : List Nat} (h : s.admits f = true) : s.rxAccept f true = s.ingress f true ∧
    zType f ≠ 4 ∧ s.rackOpen (4 + zDom f) = true := by
  simp only [State.admits, Bool.and_eq_true, Bool.or_eq_true, beq_iff_eq] at h
  obtain ⟨⟨hty, hpay⟩, hopen⟩ := h
  refine ⟨?_, by omega, hopen⟩
  rw [State.rxAccept]
  dsimp only
  rw [if_neg (by simp; omega), if_neg (by simp [hpay])]

/-! ### FRAME_RECEIVE -/

section
variable {s : State} {fr : List Byte} {f : List Nat} (hf : fr.map (·.toNat) = f)
include hf

/-- A frame at a port that listens, addressed to the X648. -/
theorem exec_frameReceive (held : Bool) (hlive : s.live = true) (hon : s.b F.netStat_PHYON = true)
    (hme : s.forMe f = true) : exec (.frameReceive fr held) s = .next (
      if !s.frameOk f then s.rxDrop
      else if 4 ≤ s.net.rx.length then s.rxDrop.netFlag F.netStat_RXOVF
      else
        let s1 := s.modNet (fun n => { n with rx := n.rx ++ [(f, f.take 6 == s.mac)] })
        if held then s1 else s1.rxServe) := by
  subst hf
  change execFrameReceive fr held s = _
  rw [execFrameReceive]
  dsimp only
  rw [if_neg (by simp [hlive, hon, hme])]

/-- A right frame that finds the receive buffer empty is processed at once. -/
theorem exec_frameReceive_served (hlive : s.live = true) (hon : s.b F.netStat_PHYON = true)
    (hme : s.forMe f = true) (hok : s.frameOk f = true) (hrx : s.net.rx = []) :
    exec (.frameReceive fr false) s = .next (s.rxFrame f (f.take 6 == s.mac)) := by
  rw [exec_frameReceive hf false hlive hon hme, if_neg (by simp [hok]), if_neg (by simp [hrx])]
  exact congrArg Host.Outcome.next (rxServe_one hrx ..)

theorem frameDropped_gives (held : Bool) (hlive : s.live = true) (hon : s.b F.netStat_PHYON = true)
    (hme : s.forMe f = true) (h : s.frameOk f = false ∨ 4 ≤ s.net.rx.length) :
    Gives (.frameReceive fr held) s fun t => Counts F.netCnt0_RXDROP s t ∧ (t.rack = s.rack ∧ t.net = s.net ∧ t.mem = s.mem) ∧
      (s.frameOk f = true → t.b F.netStat_RXOVF = true) := by
  have hcount : Counts F.netCnt0_RXDROP s s.rxDrop := counts_incSat s (by decide)
  cases hok : s.frameOk f with
  | false =>
    refine gives_of ((exec_frameReceive hf held hlive hon hme).trans (congrArg _ (if_pos (by simp [hok])))) ⟨hcount, ⟨rfl, rfl, rfl⟩, ?_⟩
    exact fun h => Bool.noConfusion h
  | true =>
    have hfull : 4 ≤ s.net.rx.length := h.resolve_left (by simp [hok])
    refine gives_of ((exec_frameReceive hf held hlive hon hme).trans (congrArg _ ((if_neg (by simp [hok])).trans (if_pos hfull)))) ?_
    refine ⟨counts_of_rd hcount (rd_netFlag_apart _ rfl (by decide) (by decide)), ?_, fun _ => b_netFlag_same _ rfl (by decide) rfl⟩
    exact ((Quiet.incSat ..).trans (.flagIrq ..)).received

/-! ### Authentication (08 R282) -/

theorem authFail_gives (hrx : s.net.rx = []) (hlive : s.live = true) (hon : s.b F.netStat_PHYON = true)
    (hme : s.forMe f = true) (hok : s.frameOk f = true) (hver : nth8 f 14 / 16 = 1)
    (hflags : nth8 f 15 % 32 = 0) (hlen : 42 + zPlen f ≤ f.length)
    (htag : s.zspTag (zDom f) (f.take (30 + zPlen f)) ≠ zTag f) :
    Gives (.frameReceive fr false) s fun t => Counts F.netCnt1_AUTHFAIL s t ∧ t.b F.netStat_AUTHFAIL = true ∧
      t.rack = s.rack ∧ t.net = s.net ∧ t.mem = s.mem := by
  have hx := exec_frameReceive_served hf hlive hon hme hok hrx
  have hframe : ∀ uni, s.rxFrame f uni = (s.incSat F.netCnt1_AUTHFAIL).netFlag F.netStat_AUTHFAIL := fun uni => by
    rw [State.rxFrame, if_neg (by simp [hver, hflags]; omega), if_pos (by simp [htag])]
  rw [hframe] at hx
  refine gives_of hx ⟨?_, b_netFlag_same _ rfl (by decide) rfl, ((Quiet.incSat ..).trans (.flagIrq ..)).received⟩
  exact counts_of_rd (counts_incSat s (by decide)) (rd_netFlag_apart _ rfl (by decide) (by decide))

/-- An authentic frame goes on to the freshness check of NET_MAC. -/
theorem exec_frameReceive_authentic (h : s.authentic f = true) :
    exec (.frameReceive fr false) s = .next (s.rxUni f) ∧ zEpoch f = (s.rd .netEpoch).toNat := by
  simp only [State.authentic, Bool.and_eq_true, List.isEmpty_iff, beq_iff_eq, decide_eq_true_eq] at h
  obtain ⟨⟨⟨⟨⟨⟨⟨⟨⟨⟨⟨hlive, hon⟩, hrx⟩, hok⟩, hme⟩, hmac⟩, hver⟩, hflags⟩, hlen⟩, hkey⟩, htag⟩, hepoch⟩ := h
  refine ⟨?_, hepoch⟩
  rw [exec_frameReceive_served hf hlive hon hme hok hrx]
  rw [State.rxFrame, if_neg (by simp [hver, hflags]; omega), if_neg (by simp [hkey, htag]), if_pos (by simp [hmac])]

/-! ### Freshness (08 R286-R288) -/

theorem fresh_gives (ha : s.authentic f = true) (hadm : s.admits f = true)
    (hc : kvD s.net.h (zDom f) 0 < zRctr f) :
    Gives (.frameReceive fr false) s fun t =>
      (t.rq (4 + zDom f)).map (·.body) = (s.rq (4 + zDom f)).map (·.body) ++ [f] ∧
      (t.rq (4 + zDom f)).getLast?.map (·.w0) = some (2 + zDom f * 2 ^ 22) ∧
      kvD t.net.h (zDom f) 0 = zRctr f ∧
      bitN (kvD t.net.win (zDom f) 0) 0 = true ∧ Counts F.netCnt0_RXOK s t := by
  obtain ⟨hx, hepoch⟩ := exec_frameReceive_authentic hf ha
  have hmoved : (s.moveWin (zDom f) (zRctr f)).admits f = true := hadm
  obtain ⟨hacc, hty, hopen⟩ := rxAccept_admitted hmoved
  have hrx : s.rxUni f = (s.moveWin (zDom f) (zRctr f)).ingress f true := by
    rw [State.rxUni, if_neg (not_not.mpr hepoch), if_neg (by simp; omega), if_pos hc, hacc]
  obtain ⟨hbodies, hw0, hh, hmark, hcount⟩ := ingressed_ingress hopen hty
  have hnew : kvD (s.moveWin (zDom f) (zRctr f)).net.h (zDom f) 0 = zRctr f := kvD_kvSet_same ..
  rw [hnew, Nat.sub_self] at hmark
  exact gives_of (hx.trans (congrArg _ hrx)) ⟨hbodies, hw0, hh.trans hnew, hmark, hcount⟩

theorem within_gives (ha : s.authentic f = true) (hadm : s.admits f = true)
    (h0 : zRctr f ≠ 0) (hle : zRctr f ≤ kvD s.net.h (zDom f) 0)
    (hwin : kvD s.net.h (zDom f) 0 ≤ zRctr f + 31)
    (hun : bitN (kvD s.net.win (zDom f) 0) (kvD s.net.h (zDom f) 0 - zRctr f) = false) :
    Gives (.frameReceive fr false) s fun t =>
      (t.rq (4 + zDom f)).map (·.body) = (s.rq (4 + zDom f)).map (·.body) ++ [f] ∧
      kvD t.net.h (zDom f) 0 = kvD s.net.h (zDom f) 0 ∧
      bitN (kvD t.net.win (zDom f) 0) (kvD s.net.h (zDom f) 0 - zRctr f) = true := by
  obtain ⟨hx, hepoch⟩ := exec_frameReceive_authentic hf ha
  obtain ⟨hacc, hty, hopen⟩ := rxAccept_admitted hadm
  have hrx : s.rxUni f = s.ingress f true := by
    rw [State.rxUni, if_neg (not_not.mpr hepoch), if_neg (by simp; omega), if_neg (by omega), if_neg (by simp [hun]), hacc]
  obtain ⟨hbodies, -, hh, hmark, -⟩ := ingressed_ingress hopen hty
  exact gives_of (hx.trans (congrArg _ hrx)) ⟨hbodies, hh, hmark⟩

theorem replayed_gives (ha : s.authentic f = true)
    (h : zRctr f = 0 ∨ zRctr f + 31 < kvD s.net.h (zDom f) 0 ∨
      (zRctr f ≤ kvD s.net.h (zDom f) 0 ∧
        bitN (kvD s.net.win (zDom f) 0) (kvD s.net.h (zDom f) 0 - zRctr f) = true ∧
        kvD s.net.kept (zDom f) [] = [])) :
    Gives (.frameReceive fr false) s fun t => Counts F.netCnt1_REPLAY s t ∧ t.b F.netStat_REPLAY = true ∧
      t.rack = s.rack ∧ t.net = s.net ∧ t.mem = s.mem := by
  obtain ⟨hx, hepoch⟩ := exec_frameReceive_authentic hf ha
  have hrx : s.rxUni f = s.replay := by
    rw [State.rxUni, if_neg (not_not.mpr hepoch)]
    by_cases hold : zRctr f = 0 ∨ zRctr f + 31 < kvD s.net.h (zDom f) 0
    · exact if_pos (by simpa using hold)
    · obtain ⟨hle, hmark, hkept⟩ := (h.resolve_left fun e => hold (.inl e)).resolve_left fun e => hold (.inr e)
      rw [if_neg (by simpa using hold), if_neg (by omega), if_pos hmark, State.duplicate, hkept]
      rfl
  refine gives_of (hx.trans (congrArg _ hrx)) ⟨?_, b_netFlag_same _ rfl (by decide) rfl, ((Quiet.incSat ..).trans (.flagIrq ..)).received⟩
  exact counts_of_rd (counts_incSat s (by decide)) (rd_netFlag_apart _ rfl (by decide) (by decide))

end

/-- Settles O42: the buffer, the checks, and the three ends of the freshness check. -/
theorem framesAreReceived : Obligations.FramesAreReceived := by
  intro s fr
  refine ⟨frameDropped_gives rfl, fun hlive hon hme hok hroom => ?_, authFail_gives rfl, fresh_gives rfl,
    within_gives rfl, replayed_gives rfl⟩
  rw [exec_frameReceive rfl true hlive hon hme, if_neg (by simp [hok]), if_neg (by omega)]
  rfl

end Sys2Proof.Machine
end

section
/-!
PROOF. O43: REGRD and REGWR messages of one word (08 R291-R294), on GPIO_CFG.
-/

namespace Sys2Proof.Machine

/-! ### The message that is taken (08 R285) -/

theorem takeMsg_type {s s1 : State} {ty d : Nat} {x : Desc} (h : s.takeMsg ty = (some (d, x), s1)) : zType x.body = ty := by
  unfold State.takeMsg at h
  split at h
  · cases h
  dsimp only at h
  split at h
  · cases h
  split at h
  · split at h
    · cases h
    next y _ hty =>
      obtain ⟨-, rfl⟩ := Prod.mk.inj (Option.some.inj (Prod.mk.inj h).1)
      exact not_not.mp hty
  · cases (Prod.mk.inj h).1

/-- A message of a type other than 0 reaches beyond its addresses. -/
theorem length_of_zType {f : List Nat} (h : zType f ≠ 0) : 14 < f.length := by
  by_contra hle
  exact h (by simp [zType, nth8, List.getElem?_eq_none (Nat.le_of_not_lt hle)])

/-! ### Answers (08 R280, R292) -/

/-- Six bytes of destination, and the fields of a message that a receiver reads. -/
theorem newFrame_answer (s : State) {ty dom seq : Nat} {dst pay : List Nat} (hdst : dst.length = 6) (hty : ty < 16)
    (hp : pay.length < 65536) : ∀ a, a = (s.newFrame ty dom false seq dst pay).1 →
      zType a = ty ∧ zSeq a = seq % 65536 ∧ zPay a = pay := by
  match dst, hdst with
  | [d0, d1, d2, d3, d4, d5], _ =>
    rintro _ rfl
    generalize ha : (s.newFrame ty dom false seq [d0, d1, d2, d3, d4, d5] pay).1 = a
    have h14 : nth8 a 14 = 0x10 + ty := by rw [← ha]; rfl
    have h16 : sub8 a 16 2 = beBytes 2 seq := by rw [← ha]; rfl
    have h28 : sub8 a 28 2 = beBytes 2 pay.length := by rw [← ha]; rfl
    have h30 : ∃ tag, a.drop 30 = pay ++ tag := by rw [← ha]; exact ⟨_, rfl⟩
    obtain ⟨tag, hdrop⟩ := h30
    refine ⟨?_, ?_, ?_⟩
    · rw [zType, h14]
      omega
    · rw [zSeq, h16, beNat_beBytes_two]
    · rw [zPay, zPlen, h28, beNat_beBytes_two, Nat.mod_eq_of_lt hp, sub8, hdrop, List.take_left' rfl]

/-- The payload of an answer. -/
def answerPay (f : List Nat) (code widx done : Nat) (data : List Nat) : List Nat :=
  [zType f, code] ++ beBytes 2 widx ++ beBytes 2 done ++ data.flatMap (beBytes 4)

/-- An answer is on its egress rack, with memory and every register as before but for the interrupt sets and the dispatcher. -/
theorem answer_open {s : State} {f : List Nat} {code widx done : Nat} {data : List Nat} (hopen : s.rackOpen (8 + zDom f) = true)
    (hlen : 12 ≤ f.length) (hp : (answerPay f code widx done data).length < 65536) :
    (∃ a, (s.answer f code widx done data).newest (zDom f) = some a ∧ zType a = 6 ∧ zSeq a = zSeq f % 65536 ∧
      zPay a = answerPay f code widx done data) ∧ (s.answer f code widx done data).mem = s.mem ∧
    ∀ r j, r.addr j / 0x1000 ∉ [0x2, 0x9] → (s.answer f code widx done data).rd r j = s.rd r j := by
  have hdst : (sub8 f 6 6).length = 6 := by
    rw [sub8, List.length_take, List.length_drop]
    omega
  obtain ⟨hty, hseq, hpay⟩ := newFrame_answer s (dom := zDom f) (seq := zSeq f) hdst (by decide : 6 < 16) hp _ rfl
  have hsent : ∀ g, ((s.newFrame 6 (zDom f) false (zSeq f) (sub8 f 6 6) (answerPay f code widx done data)).2.modNet g).rackOpen
      (8 + zDom f) = true := fun _ => hopen
  obtain ⟨hnew, -, hrd⟩ := egress_open (hsent _) (s.newFrame 6 (zDom f) false (zSeq f) (sub8 f 6 6) (answerPay f code widx done data)).1
  exact ⟨⟨_, hnew, hty, hseq, hpay⟩, (NetFrame.egress ..).mem, hrd⟩

/-! ### A job of one word (08 R285, R294) -/

/-- Nothing is staged and no descriptor is half pushed: the end of a packet changes nothing. -/
theorem endBurst_idle {s : State} (hst : s.staged = []) (hpart : s.rack.part = []) (p : Port) : s.endBurst p = s := by
  have hrack : ({ s.rack with part := [] } : Rack) = s.rack := by rw [← hpart]
  have hend : s.endPart p.code = s := by
    simp only [State.endPart, State.dropParts, hpart, List.filter_nil, State.modRack, hrack]
    rfl
  have hfilter : s.parityBad.filter (fun _ => true) = s.parityBad := List.filter_eq_self.mpr fun _ _ => rfl
  have hsame : ({ s with staged := [] } : State) = s := by rw [← hst]
  have hbake : ∀ sel, s.bake sel = s := fun sel => by
    simp only [State.bake, hst, List.filter_nil, List.any_nil, Bool.false_and, Bool.not_false, hfilter]
    exact hsame
  simp only [State.endBurst, hend, State.bakeK, hbake, hst, List.map_nil]
  exact hsame

/-- The end of a job whose words are done: its packet ends and it is answered. -/
def State.jobEnd (s : State) (j : NetJob) : State :=
  ((((s.setJob none).drain .net).endBurst .net).answerIf j.body j.code j.widx j.done
    (if zType j.body = 1 then padData (pCnt (zPay j.body)) j.data else [])).msgEnd j.dom { w0 := 2 + j.dom * 2 ^ 22 } false 0

/-- A job of one word is that word and its end. -/
theorem jobRun_one {s u : State} {j k : NetJob} (hjob : s.net.job = some j) (hslot : j.slot = true) (hi : j.i = 0)
    (hcnt : pCnt (zPay j.body) = 1) (hword : s.jobWord j = u.setJob (some k)) (hk : k.i = 1) (hbody : k.body = j.body) :
    s.jobRun 0 = u.jobEnd k := by
  have hkcnt : pCnt (zPay k.body) = 1 := by rw [hbody, hcnt]
  have hwords : s.jobWords 64 = u.setJob (some k) := by
    rw [State.jobWords, hjob]
    dsimp only
    rw [if_neg (by omega), if_pos hslot, hword, State.jobWords]
    exact if_pos (by omega)
  rw [State.jobRun, if_pos rfl, hwords]
  exact if_neg (by omega)

theorem exec_regrd {s s1 : State} {d : Nat} {f : List Nat} (h : TakesMsg s 1 d f s1) :
    ∃ x, x.body = f ∧ exec (.regrd 0) s = .next ((s1.setJob (some (jobOf d x))).jobRun 0) := by
  obtain ⟨hjob, -, x, hx, htake⟩ := h
  refine ⟨x, hx, ?_⟩
  change Host.Outcome.next (s.regMsg 1 0) = _
  rw [State.regMsg, hjob]
  dsimp only
  rw [htake]

theorem exec_regwr {s s1 : State} {d : Nat} {f : List Nat} (h : TakesMsg s 2 d f s1) :
    ∃ x, x.body = f ∧ exec (.regwr 0) s = .next ((s1.setJob (some (jobOf d x))).jobRun 0) := by
  obtain ⟨hjob, -, x, hx, htake⟩ := h
  refine ⟨x, hx, ?_⟩
  change Host.Outcome.next (s.regMsg 2 0) = _
  rw [State.regMsg, hjob]
  dsimp only
  rw [htake]

/-- An answered job leaves its answer newest on the egress rack; memory and the registers below the rack block stay, but for the
interrupt sets. -/
theorem jobEnd_answers {s : State} {k : NetJob} (hst : s.staged = []) (hpost : s.posted = []) (hpart : s.rack.part = [])
    (hopen : s.rackOpen (8 + zDom k.body) = true) (hlen : 12 ≤ k.body.length) (hdue : zType k.body = 1 ∨ zAckreq k.body = true)
    {data : List Nat} (hdata : data = if zType k.body = 1 then padData (pCnt (zPay k.body)) k.data else [])
    (hp : (answerPay k.body k.code k.widx k.done data).length < 65536) :
    (∃ a, (s.jobEnd k).newest (zDom k.body) = some a ∧ zType a = 6 ∧ zSeq a = zSeq k.body % 65536 ∧
      zPay a = answerPay k.body k.code k.widx k.done data) ∧ (s.jobEnd k).mem = s.mem ∧
    ∀ r j, r.addr j / 0x1000 ∉ [0x2, 0x9] → r.addr j < 0x6000 → (s.jobEnd k).rd r j = s.rd r j := by
  have hidle : ((s.setJob none).drain .net).endBurst .net = s.setJob none := by
    have hdrain := drain_empty (s.setJob none) .net hpost
    rw [hdrain]
    exact endBurst_idle (s := s.setJob none) hst hpart .net
  have hend : s.jobEnd k = ((s.setJob none).answer k.body k.code k.widx k.done data).msgEnd k.dom { w0 := 2 + k.dom * 2 ^ 22 } false 0 := by
    rw [State.jobEnd, hidle, ← hdata, State.answerIf, if_pos (by rcases hdue with h | h <;> simp [h])]
  obtain ⟨⟨a, hnew, ha⟩, hmem, hrd⟩ := answer_open (s := s.setJob none) hopen hlen hp
  rw [hend, State.msgEnd]
  have hq := Quiet.retire ((s.setJob none).answer k.body k.code k.widx k.done data) (4 + k.dom) { w0 := 2 + k.dom * 2 ^ 22 } 1 0
  refine ⟨⟨a, ?_, ha⟩, hq.mem.trans hmem, fun r j hirq hlow => (rd_retire_low _ _ _ _ _ hirq hlow).trans (hrd r j hirq)⟩
  rw [State.newest]
  exact (congrArg (fun l : List Desc => l.getLast?.map (·.body)) (rq_congr hq.rack (8 + zDom k.body))).trans hnew

/-! ### GPIO_CFG from the network port (06 R185) -/

/-- D0 may reach registers through the network port, which has its fSYS cycle for itself, and no write is posted. -/
structure NetFree (s : State) : Prop where
  gate : s.gateCause .net 0 false = 0
  session : s.noSession .net 0 false = false
  posted : s.posted = []
  alone : (s.cycFor .net).accs = []

theorem netFree_of_accepts {s : State} {d n : Nat} (h : s.accepts .net d .gpioCfg n 0 = true) : d = 0 ∧ NetFree s := by
  obtain ⟨-, -, hpost, hg, hright, -, hn, hacc⟩ := (accepts_iff ..).mp h
  have hd : d = 0 := by
    by_contra hd
    change (if d = 0 then Right.ok true else .no 3 4) = .ok true at hright
    rw [if_neg hd] at hright
    cases hright
  subst hd
  exact ⟨rfl, hg, hn, hpost, hacc⟩

theorem netRead_gpioCfg {s : State} (n : Fin 6) (h : NetFree s) :
    s.portRead .net 0 (RegId.gpioCfg.addr n) = (0, (s.rd .gpioCfg n).toNat, false, s) := by
  have hdec : ∀ n : Fin 6, decode (RegId.gpioCfg.addr n) false = .reg .reg .gpioCfg n := by decide
  have hexempt : isExempt (.reg .reg .gpioCfg n) = false := rfl
  have hident : isIdent (.reg .reg .gpioCfg n) = false := rfl
  have hright : s.readRight .net 0 .gpioCfg n = .ok true := rfl
  have hread : s.regRead .net 0 .gpioCfg n true = ((s.rd .gpioCfg n).toNat, s) := rfl
  simp [State.portRead, drain_empty s .net h.posted, State.readAt, hdec, hident, h.gate, hexempt, h.session, hright, State.u2dCtxBusy,
    hread]

/-- Fields that take their values at once stage nothing. -/
theorem st_fields_immediate {s : State} {p : Port} {d : Nat} {r : RegId} {i : Nat} {v : View} {w : Nat} {u : Upd}
    (h : ∀ f ∈ effFields r i, f.acc = .rw ∧ f.bake = .i) : (s.fields p d r i v w u).st = u.st :=
  each_keeps_mem Upd.st _ (fun f u => s.writeField p d r i v w u f) u fun f hf u => by
    obtain ⟨hacc, hb⟩ := h f hf
    rw [State.writeField, hacc]
    dsimp only
    cases hx : s.takes p d r i v w (s.present r i u f) f with
    | none => exact (writeRw_none hx).2.1
    | some x => rw [writeRw_immediate hx hb]

/-- A write of GPIO_CFG leaves the racks. -/
theorem rack_applyReg_gpioCfg (s : State) (p : Port) (d a i : Nat) (v : View) (w : Nat) :
    (s.applyReg p d a .gpioCfg i v w).rack = s.rack := by
  have hrsvw : ∀ (t : State) (b : Bool), (if b then t.rsvw (evDom p d) p.code a else t).rack = t.rack := fun t b =>
    (Quiet.ite (.rsvw ..) (.refl t)).rack
  have hviol : ∀ (t : State) (b : Bool), (if b then t.violate d p.code a 1 else t).rack = t.rack := fun t b =>
    (Quiet.ite (.violate ..) (.refl t)).rack
  rw [applyReg_eq plainReg_gpioCfg]
  dsimp only
  rw [onWrite_gpioCfg, (Quiet.each (fun x t => Quiet.wrcoll t x p.code a) _).rack]
  refine (hviol ..).trans ((hrsvw ..).trans ?_)
  split <;> rfl

/-- What a write of GPIO_CFG by the network port leaves. -/
structure NetWrote (s : State) (n : Fin 6) (w : Nat) (t : State) : Prop where
  out : t.g F.gpioCfg_OUT n = bitsN w 8 1
  edge : t.g F.gpioCfg_EDGE n = bitsN w 9 2
  mem : t.mem = s.mem
  net : t.net = s.net
  rack : t.rack = s.rack
  staged : t.staged = s.staged
  posted : t.posted = s.posted
  rackCfg : ∀ k : Fin 32, t.rd .rackCfg k = s.rd .rackCfg k
  rackPart : ∀ k : Fin 32, t.rd .rackPart k = s.rd .rackPart k

theorem netWrite_gpioCfg {s : State} (n : Fin 6) (w : Nat) (h : NetFree s) :
    ∃ t, s.portWrite .net 0 (RegId.gpioCfg.addr n) w = (0, t) ∧ NetWrote s n w t := by
  obtain ⟨-, -, hrec, hpost⟩ := gpioCfg_place n
  obtain ⟨hd, -⟩ := gpioCfg_views n
  obtain ⟨z, hz, happ⟩ := applyReg_wrote (s := s) (p := .net) (d := 0) (a := RegId.gpioCfg.addr n) (v := .reg) (w := w)
    plainReg_gpioCfg (coll_written_lt s .net 0 n .reg w (by decide))
  have happ_z : s.applyReg .net 0 (RegId.gpioCfg.addr n) .gpioCfg n .reg w = z := happ.trans (onWrite_gpioCfg ..)
  have hfield : ∀ f ∈ RegId.gpioCfg.fields, f.ok = .any → bitsN (z.rd .gpioCfg n).toNat f.lo f.w = bitsN w f.lo f.w := fun f hf hok => by
    rw [hz.word hrec, bitsN_toNat_ofNat _ _ _ (fields_gpioCfg f hf).2.2, bits_written_gpioCfg h.alone hf hok]
    exact Nat.mod_eq_of_lt (bitsN_lt ..)
  have hracks : ∀ r ∈ [RegId.rackCfg, .rackPart], ∀ k : Fin 32, r.addr k ∉ recordAddrs ∧ ∀ m : Fin 6, r.addr k ≠ RegId.gpioCfg.addr m := by
    decide
  have hrd : ∀ r ∈ [RegId.rackCfg, .rackPart], ∀ k : Fin 32, z.rd r k = s.rd r k := fun r hr k =>
    hz.other r k (hracks r hr k).1 ((hracks r hr k).2 n)
  refine ⟨z, ?_, hfield _ out_edge_gpioCfg.1 rfl, hfield _ out_edge_gpioCfg.2 rfl, hz.mem, hz.net,
    happ_z ▸ rack_applyReg_gpioCfg .., hz.staged.trans (st_fields_immediate fun f hf => ?_), hz.posted, hrd _ (by decide),
    hrd _ (by decide)⟩
  · have hexempt : isExempt (.reg .reg .gpioCfg n) = false := rfl
    have hright : s.writeRight .net 0 .gpioCfg n .reg w = .ok true := rfl
    have hfrozen : s.frozenWrite .net .gpioCfg n .reg w = false := rfl
    simp [State.portWrite, h.gate, hd, hexempt, h.session, State.regWrite, hright, State.u2dCtxBusy, hpost, drain_empty s .net h.posted,
      State.regEffect, hfrozen, happ_z]
  · exact ⟨(fields_gpioCfg f hf).1, (fields_gpioCfg f hf).2.1⟩

/-! ### The two messages (08 R291-R293) -/

theorem takesMsg_facts {s s1 : State} {ty d : Nat} {f : List Nat} (h : TakesMsg s ty d f s1) (h0 : ty ≠ 0) :
    zDom f = d ∧ zType f = ty ∧ 12 ≤ f.length := by
  obtain ⟨-, hdom, x, rfl, htake⟩ := h
  have hty := takeMsg_type htake
  exact ⟨hdom, hty, (by decide : 12 ≤ 14).trans (length_of_zType (hty ▸ h0)).le⟩

theorem portsCalm_iff (s : State) : s.portsCalm = true ↔ s.staged = [] ∧ s.posted = [] ∧ s.rack.part = [] := by
  simp [State.portsCalm, and_assoc]

theorem netFree_setJob {s : State} (h : NetFree s) (j : Option NetJob) : NetFree (s.setJob j) := ⟨h.gate, h.session, h.posted, h.alone⟩

/-- The job as its word runs. -/
def jobUnderway (x : Desc) : NetJob := { jobOf 0 x with i := 1, slot := true }

/-- The port's access of the job's only word goes to the message's address, FIX or not. -/
theorem jobWord_first (s : State) (x : Desc) : (s.setJob (some (jobOf 0 x))).jobWord (jobOf 0 x) =
    let u := s.setJob (some (jobUnderway x))
    let a := pAddr (zPay x.body)
    let keep (t : State) (k : NetJob) : State := if t.net.job.isSome then t.setJob (some k) else t
    if zType x.body = 1 then keep (u.portRead .net 0 a).2.2.2 ((jobOf 0 x).note (u.portRead .net 0 a).1 [(u.portRead .net 0 a).2.1])
    else keep (u.portWrite .net 0 a (beNat (sub8 (zPay x.body) 6 4))).2
      ((jobOf 0 x).note (u.portWrite .net 0 a (beNat (sub8 (zPay x.body) 6 4))).1 []) := by
  have haddr : (if pFix (zPay (jobOf 0 x).body) = true then pAddr (zPay (jobOf 0 x).body)
      else pAddr (zPay (jobOf 0 x).body) + 4 * (jobOf 0 x).i) = pAddr (zPay x.body) := ite_self ..
  unfold State.jobWord
  dsimp only
  rw [haddr]
  rfl

section
variable {s : State} {x : Desc} {n : Fin 6} (hfree : NetFree s) (haddr : pAddr (zPay x.body) = RegId.gpioCfg.addr n)
include hfree haddr

/-- The word of a REGRD: the register is noted. -/
theorem jobWord_read (hty : zType x.body = 1) : (s.setJob (some (jobOf 0 x))).jobWord (jobOf 0 x) =
    s.setJob (some ((jobOf 0 x).note 0 [(s.rd .gpioCfg n).toNat])) := by
  have hread := netRead_gpioCfg n (netFree_setJob hfree (some (jobUnderway x)))
  rw [jobWord_first, if_pos hty, haddr, hread]
  rfl

/-- The word of a REGWR: the register is written. -/
theorem jobWord_write (hty : zType x.body = 2) : ∃ z, NetWrote (s.setJob (some (jobUnderway x))) n (beNat (sub8 (zPay x.body) 6 4)) z ∧
    (s.setJob (some (jobOf 0 x))).jobWord (jobOf 0 x) = z.setJob (some ((jobOf 0 x).note 0 [])) := by
  obtain ⟨z, hz, hw⟩ := netWrite_gpioCfg n (beNat (sub8 (zPay x.body) 6 4)) (netFree_setJob hfree (some (jobUnderway x)))
  refine ⟨z, hw, ?_⟩
  rw [jobWord_first, if_neg (by omega), haddr, hz]
  exact if_pos (by rw [hw.net]; rfl)

end

theorem gpioCfg_low (n : Fin 6) : RegId.gpioCfg.addr n / 0x1000 ∉ [0x2, 0x9] ∧ RegId.gpioCfg.addr n < 0x6000 := by
  revert n
  decide

section
variable {s s1 : State} {d : Nat} {f : List Nat} {n : Nat} (hcalm : s1.portsCalm = true) (hopen : s1.rackOpen (8 + d) = true) (hn : n < 6)
  (hacc : s1.accepts .net d .gpioCfg n 0 = true) (haddr : pAddr (zPay f) = RegId.gpioCfg.addr n) (hcnt : pCnt (zPay f) = 1)
include hcalm hopen hn hacc haddr hcnt

theorem regrd_gives (h : TakesMsg s 1 d f s1) : Gives (.regrd 0) s fun t => ∃ a, t.newest d = some a ∧ zType a = 6 ∧
    zSeq a = zSeq f % 65536 ∧ zPay a = [1, 0, 0, 0, 0, 1] ++ beBytes 4 (s1.rd .gpioCfg n).toNat ∧ t.mem = s1.mem := by
  obtain ⟨hdom, hty, hlen⟩ := takesMsg_facts h (by decide)
  obtain ⟨rfl, hfree⟩ := netFree_of_accepts hacc
  obtain ⟨hst, hpost, hpart⟩ := (portsCalm_iff s1).mp hcalm
  obtain ⟨x, rfl, hex⟩ := exec_regrd h
  let w := (s1.rd .gpioCfg n).toNat
  let k := (jobOf 0 x).note 0 [w]
  have hword := jobWord_read (n := ⟨n, hn⟩) hfree haddr hty
  have hrun := jobRun_one (j := jobOf 0 x) (k := k) rfl rfl rfl hcnt hword rfl rfl
  have hpay : answerPay k.body k.code k.widx k.done [w] = [1, 0, 0, 0, 0, 1] ++ beBytes 4 w := by
    simp [answerPay, k, jobOf, NetJob.note, hty, beBytes]
  have hdata : [w] = if zType k.body = 1 then padData (pCnt (zPay k.body)) k.data else [] := by
    rw [if_pos (show zType k.body = 1 from hty), show pCnt (zPay k.body) = 1 from hcnt]
    rfl
  have hopen' : s1.rackOpen (8 + zDom x.body) = true := hdom ▸ hopen
  obtain ⟨⟨a, hnew, hta, hsa, hpa⟩, hmem, -⟩ := jobEnd_answers (k := k) hst hpost hpart hopen' hlen (.inl hty) hdata
    (by rw [hpay]; simp [length_beBytes])
  refine gives_of (hex.trans (congrArg _ hrun)) ⟨a, ?_, hta, hsa, hpa.trans hpay, hmem⟩
  exact hdom ▸ hnew

theorem regwr_gives (h : TakesMsg s 2 d f s1) (hack : zAckreq f = true) : Gives (.regwr 0) s fun t =>
    let w := beNat (sub8 (zPay f) 6 4)
    (∃ a, t.newest d = some a ∧ zType a = 6 ∧ zSeq a = zSeq f % 65536 ∧ zPay a = [2, 0, 0, 0, 0, 1]) ∧
      t.g F.gpioCfg_OUT n = bitsN w 8 1 ∧ t.g F.gpioCfg_EDGE n = bitsN w 9 2 ∧ t.mem = s1.mem := by
  obtain ⟨hdom, hty, hlen⟩ := takesMsg_facts h (by decide)
  obtain ⟨rfl, hfree⟩ := netFree_of_accepts hacc
  obtain ⟨hst, hpost, hpart⟩ := (portsCalm_iff s1).mp hcalm
  obtain ⟨x, rfl, hex⟩ := exec_regwr h
  let k := (jobOf 0 x).note 0 []
  obtain ⟨z, hw, hword⟩ := jobWord_write (n := ⟨n, hn⟩) hfree haddr hty
  have hrun := jobRun_one (j := jobOf 0 x) (k := k) rfl rfl rfl hcnt hword rfl rfl
  have hpay : answerPay k.body k.code k.widx k.done [] = [2, 0, 0, 0, 0, 1] := by
    simp [answerPay, k, jobOf, NetJob.note, hty, beBytes]
  have hdata : [] = if zType k.body = 1 then padData (pCnt (zPay k.body)) k.data else [] :=
    (if_neg (by simp [k, jobOf, NetJob.note, hty])).symm
  have hopen' : z.rackOpen (8 + zDom x.body) = true := by
    rw [hdom]
    exact (rackOpen_congr (s := s1.setJob (some (jobUnderway x))) hw.rack (hw.rackCfg 8) (hw.rackPart 8)).trans hopen
  obtain ⟨⟨a, hnew, hta, hsa, hpa⟩, hmem, hrd⟩ := jobEnd_answers (k := k) (hw.staged.trans hst) (hw.posted.trans hpost)
    (hw.rack ▸ hpart) hopen' hlen (.inr hack) hdata (by rw [hpay]; simp)
  obtain ⟨hirq, hlow⟩ := gpioCfg_low ⟨n, hn⟩
  have hg : ∀ e : Fld, e.r = .gpioCfg → (z.jobEnd k).g e n = z.g e n := fun e he => by rw [State.g, State.g, he, hrd .gpioCfg n hirq hlow]
  refine gives_of (hex.trans (congrArg _ hrun)) ⟨⟨a, hdom ▸ hnew, hta, hsa, hpa.trans hpay⟩, ?_, ?_, hmem.trans hw.mem⟩
  · exact (hg _ rfl).trans hw.out
  · exact (hg _ rfl).trans hw.edge

end

/-- Settles O43: the message's one word is an access of GPIO_CFG, and its job ends with it. -/
theorem registerMessagesComplete : Obligations.RegisterMessagesComplete := fun _ _ _ _ _ hcalm hopen hn hacc haddr hcnt =>
  ⟨regrd_gives hcalm hopen hn hacc haddr hcnt, regwr_gives hcalm hopen hn hacc haddr hcnt⟩

end Sys2Proof.Machine
end

section
/-!
PROOF. O44: TRAY messages (08 R297, R298), and the two bytes of a pixel word in memory.
-/

namespace Sys2Proof.Machine

/-! ### Bytes and words (00 R6) -/

/-- The bytes of a word. -/
theorem bitsN_memWord (m : List Host.Cell) (a : Nat) {k : Nat} (hk : k < 4) : bitsN (memWord m a) (8 * k) 8 = (memGet m (a + k)).toNat := by
  unfold bitsN memWord
  have h0 := (memGet m a).isLt
  have h1 := (memGet m (a + 1)).isLt
  have h2 := (memGet m (a + 2)).isLt
  have h3 := (memGet m (a + 3)).isLt
  match k, hk with
  | 0, _ | 1, _ | 2, _ | 3, _ =>
    norm_num
    omega

/-- A pixel word is a half of its memory word. -/
theorem pixelAt_eq (m : List Host.Cell) {a : Nat} (ha : a % 2 = 0) : pixelAt m a = bitsN (memWord m (a / 4 * 4)) (16 * (a / 2 % 2)) 16 := by
  obtain ⟨w, c, hc, rfl⟩ : ∃ w c, c < 2 ∧ a = 4 * w + 2 * c := ⟨a / 4, a / 2 % 2, by omega, by omega⟩
  have hlt : ∀ x, (memGet m x).toNat < 256 := fun x => (memGet m x).isLt
  have h0 := hlt (4 * w)
  have h1 := hlt (4 * w + 1)
  have h2 := hlt (4 * w + 2)
  have h3 := hlt (4 * w + 3)
  rw [show (4 * w + 2 * c) / 4 * 4 = 4 * w by omega, show (4 * w + 2 * c) / 2 % 2 = c by omega, pixelAt, bitsN, memWord]
  match c, hc with
  | 0, _ =>
    norm_num
    omega
  | 1, _ =>
    rw [show 4 * w + 2 * 1 + 1 = 4 * w + 3 by omega]
    norm_num
    omega

/-- What the write of one pixel word does. -/
structure PixelPut (m : List Host.Cell) (a v : Nat) (m' : List Host.Cell) : Prop where
  wf : Memory.wf m' = true
  pixel : pixelAt m' a = v % 65536
  other : ∀ b, b < a ∨ a + 2 ≤ b → memGet m' b = memGet m b

/-- A word with one half replaced holds the pixel word there, and its other half. -/
theorem pixelPut_memSetWord {m : List Host.Cell} (hwf : Memory.wf m = true) {a : Nat} (ha : a % 2 = 0) (v : Nat) :
    PixelPut m a v (memSetWord m (a / 4 * 4) (putN (memWord m (a / 4 * 4)) (16 * (a / 2 % 2)) 16 v)) := by
  let w := a / 4 * 4
  let x := putN (memWord m w) (16 * (a / 2 % 2)) 16 v
  have hword : memWord m w < 2 ^ 32 := by
    have hlt : ∀ x, (memGet m x).toNat < 256 := fun x => (memGet m x).isLt
    have h0 := hlt w
    have h1 := hlt (w + 1)
    have h2 := hlt (w + 2)
    have h3 := hlt (w + 3)
    rw [memWord]
    omega
  have hx : memWord (memSetWord m w x) w = x := by
    rw [memWord_memSetWord hwf]
    exact Nat.mod_eq_of_lt (putN_lt _ _ _ _ 32 hword (by omega))
  refine ⟨Memory.wf_memSetWord hwf _ _, ?_, fun b hb => ?_⟩
  · rw [pixelAt_eq _ ha]
    exact (congrArg (bitsN · (16 * (a / 2 % 2)) 16) hx).trans (bitsN_putN_same ..)
  · by_cases hin : b < w ∨ w + 4 ≤ b
    · exact memGet_memSetWord_out _ _ hin
    · obtain ⟨k, rfl⟩ := Nat.exists_eq_add_of_le (Nat.le_of_not_lt fun h => hin (.inl h))
      have hk : k < 4 := by omega
      apply BitVec.eq_of_toNat_eq
      rw [← bitsN_memWord _ w hk, ← bitsN_memWord m w hk]
      exact (congrArg (bitsN · (8 * k) 8) hx).trans (bitsN_putN_ne _ _ _ _ _ _ (by omega))

/-! ### Reads and writes where no word holds an error -/

theorem readMem_clean {s : State} (h : s.ecc = []) (req a : Nat) : s.readMem req a = (memWord s.mem a, false, s) := by
  have hdata : dataFlip 0 = 0 := by decide
  have hx : kvD s.ecc a 0 = 0 := by rw [h]; rfl
  rw [State.readMem, hx, if_pos (by decide), hdata, Nat.xor_zero]

theorem mergeMem_clean {s : State} (h : s.ecc = []) (req a lo w v : Nat) :
    s.mergeMem req a lo w v = (false, s.writeMem a (putN (memWord s.mem a) lo w v)) := by
  rw [State.mergeMem, readMem_clean h]
  rfl

theorem writeMem_shows (s : State) (a w : Nat) :
    (s.writeMem a w).mem = memSetWord s.mem a w ∧ (s.writeMem a w).ecc = kvDel s.ecc a ∧ (s.writeMem a w).net = s.net := by
  unfold State.writeMem
  dsimp only
  split <;> exact ⟨rfl, rfl, rfl⟩

theorem rdBytes_clean {s : State} (h : s.ecc = []) (req a n : Nat) : ∃ l, s.rdBytes req a n = (l, false, s) := by
  unfold State.rdBytes
  generalize hacc : (([], false, s) : List Nat × Bool × State) = acc
  replace hacc : acc = (acc.1, false, s) := by rw [← hacc]
  induction upto (n / 4) generalizing acc with
  | nil => exact ⟨_, hacc⟩
  | cons i t ih =>
    rw [List.foldl_cons, hacc, readMem_clean h]
    exact ih _ rfl

/-! ### The streamer (08 R297) -/

/-- What the streamer leaves after `k` pixel words from the `i`-th on. -/
structure Streamed (s : State) (base : Nat) (px : List Nat) (i k : Nat) (t : State) : Prop where
  wf : t.memOk
  ecc : t.ecc = []
  net : t.net = s.net
  pixel : ∀ j, i ≤ j → j < i + k → pixelAt t.mem (base + 2 * j) = px.getD j 0 % 65536
  other : ∀ b, b < base + 2 * i ∨ base + 2 * (i + k) ≤ b → memGet t.mem b = memGet s.mem b

theorem streamPx_clean {base : Nat} (hbase : base % 2 = 0) (px : List Nat) (k : Nat) :
    ∀ {s : State} (i : Nat), s.memOk → s.ecc = [] → ∃ t, s.streamPx base px i k = (k, none, t) ∧ Streamed s base px i k t := by
  induction k with
  | zero => exact fun i hwf hecc => ⟨_, rfl, hwf, hecc, rfl, fun _ _ _ => by omega, fun _ _ => rfl⟩
  | succ k ih =>
    intro s i hwf hecc
    let a := base + 2 * i
    let u := s.writeMem (a / 4 * 4) (putN (memWord s.mem (a / 4 * 4)) (16 * (a / 2 % 2)) 16 (px.getD i 0))
    obtain ⟨hmem, heccu, hnet⟩ : u.mem = _ ∧ u.ecc = _ ∧ u.net = _ := writeMem_shows s _ _
    have hput : PixelPut s.mem a (px.getD i 0) u.mem := hmem ▸ pixelPut_memSetWord hwf (by omega) _
    obtain ⟨t, ht, hs⟩ := ih (s := u) (i + 1) hput.wf (by rw [heccu, hecc]; rfl)
    refine ⟨t, ?_, hs.wf, hs.ecc, hs.net.trans hnet, fun j hij hj => ?_, fun b hb => ?_⟩
    · simp only [State.streamPx, mergeMem_clean hecc]
      rw [ht]
      rfl
    · rcases hij.eq_or_lt with rfl | hlt
      · rw [← hput.pixel, pixelAt, pixelAt, hs.other _ (.inl (by omega)), hs.other _ (.inl (by omega))]
      · exact hs.pixel j hlt (by omega)
    · rw [hs.other b (by omega)]
      exact hput.other b (by omega)

/-! ### The commit and the answer (08 R292, R298) -/

/-- A committed tray is the youngest of its domain. -/
theorem commitTray_clean {s : State} (h : s.ecc = []) (d : Nat) (p : List Nat) : (s.commitTray d p).1 = false ∧
    (s.commitTray d p).2.mem = s.mem ∧ ∃ q : PTray, kvD (s.commitTray d p).2.net.trays d [] = kvD s.net.trays d [] ++ [q] ∧
      q.hot = tHot p ∧ q.ptime = tPtime p := by
  obtain ⟨l, hl⟩ := rdBytes_clean h 7 (trayBase (0x80 + tHot p)) 32
  rw [State.commitTray, hl]
  exact ⟨rfl, rfl, _, kvD_kvSet_same .., rfl, rfl⟩

/-- An answer leaves memory and the pending trays. -/
theorem answerIf_trays (s : State) (f : List Nat) (code widx done : Nat) (data : List Nat) :
    (s.answerIf f code widx done data).mem = s.mem ∧ (s.answerIf f code widx done data).net.trays = s.net.trays := by
  unfold State.answerIf
  split
  · obtain ⟨u, hframe, hmem, htrays⟩ : ∃ u, NetFrame u (s.answer f code widx done data) ∧ u.mem = s.mem ∧ u.net.trays = s.net.trays :=
      ⟨_, NetFrame.egress .., rfl, rfl⟩
    exact ⟨hframe.mem.trans hmem, (congrArg Net.trays hframe.net).trans htrays⟩
  · exact ⟨rfl, rfl⟩

/-! ### The message -/

theorem execTray_eq {s s1 : State} {d : Nat} {x : Desc} (h : s.takeMsg 3 = (some (d, x), s1)) : exec .tray s =
    let r := s1.trayRun d (zPay x.body)
    .next ((r.2.answerIf x.body r.1.1 r.1.2.1 r.1.2.2 []).msgEnd d x (r.1.1 == 2) r.1.2.1) := by
  change execTray s = _
  rw [execTray, h]

/-- The pixel words of a TRAY message with payload `p`. -/
def trayPx (p : List Nat) : List Nat := (upto (tCount p)).map fun i => beNat (sub8 p (14 + 2 * i) 2)

/-- The message's pixel words are written; a commit follows them. -/
theorem trayRun_clean {s : State} (hwf : s.memOk) (hecc : s.ecc = []) {d : Nat} {p : List Nat} (href : s.trayRefusal d p = (0, s)) :
    ∃ t, Streamed s (trayBase (0x80 + tHot p) + 32 + 2 * tFirst p) (trayPx p) 0 (tCount p) t ∧
      s.trayRun d p = ((0, 0, tCount p), if tCommit p = true then (t.commitTray d p).2 else t) := by
  have heven : (trayBase (0x80 + tHot p) + 32 + 2 * tFirst p) % 2 = 0 := by
    unfold trayBase
    split <;> omega
  obtain ⟨t, ht, hs⟩ := streamPx_clean heven (trayPx p) (tCount p) 0 hwf hecc
  refine ⟨t, hs, ?_⟩
  obtain ⟨hok, -, -⟩ := commitTray_clean hs.ecc d p
  unfold State.trayRun
  rw [href]
  dsimp only
  rw [if_neg (by decide)]
  unfold trayPx at ht
  rw [ht]
  dsimp only
  split
  · rw [hok]
    rfl
  · rfl

/-- Settles O44: the streamer's words lie in the hot tray, and what follows them leaves memory. -/
theorem trayMessagesComplete : Obligations.TrayMessagesComplete := by
  rintro s s1 d f ⟨-, -, x, rfl, htake⟩ p a l hwf hecc - href
  obtain ⟨t, hs, hrun⟩ := trayRun_clean hwf hecc href
  let u := if tCommit p = true then (t.commitTray d p).2 else t
  obtain ⟨-, hcmem, q, hq⟩ := commitTray_clean hs.ecc d p
  have hmem : u.mem = t.mem := by
    simp only [u]
    split
    · exact hcmem
    · rfl
  obtain ⟨hamem, hatrays⟩ := answerIf_trays u x.body 0 0 (tCount p) []
  let v := u.answerIf x.body 0 0 (tCount p) []
  have hend : Quiet v (v.msgEnd d x false 0) := Quiet.retire ..
  have hpix : (v.msgEnd d x false 0).mem = t.mem := hend.mem.trans (hamem.trans hmem)
  have htrays : (v.msgEnd d x false 0).net.trays = u.net.trays := (congrArg Net.trays hend.net).trans hatrays
  have hex : exec .tray s = .next (v.msgEnd d x false 0) := by
    rw [execTray_eq htake]
    dsimp only
    rw [hrun]
    rfl
  refine gives_of hex ⟨fun i hi => ?_, fun b hb => ?_, fun hno => ?_, fun hyes => ?_⟩
  · rw [hpix, hs.pixel i (Nat.zero_le i) (by omega)]
    simp [trayPx, upto, hi]
  · rw [hpix]
    exact hs.other b (by omega)
  · rw [htrays, show u = t from if_neg (by simp [hno]), hs.net]
  · refine ⟨q, ?_, hq.2⟩
    rw [htrays, show u = (t.commitTray d p).2 from if_pos hyes, hq.1, hs.net]

end Sys2Proof.Machine
end

section
/-!
PROOF. O45: TIME messages and the acknowledgement of an EVENT (08 R296, R303, R304).
-/

namespace Sys2Proof.Machine

/-! ### The servo (08 R304) -/

theorem servoState_lt (st good e : Nat) : servoState st good e < 4 := by
  unfold servoState
  repeat' split
  all_goals decide

/-- What the use of a TIME message with offset `e` leaves. -/
structure Servoed (s : State) (e : Int) (t : State) : Prop where
  tofs : t.rd .netTofs = BitVec.ofInt 32 e
  step : 16000 < e.natAbs → t.time = timeBack s.time e ∧ t.g F.netTstat_STATE = 1 ∧ t.net.slew = 0
  slew : e.natAbs ≤ 16000 → t.time = s.time ∧ t.net.slew = -e ∧
    t.g F.netTstat_STATE = servoState (s.g F.netTstat_STATE) t.net.good e.natAbs

/-- Only device time, two registers and the network state count. -/
theorem Servoed.congr {s t u : State} {e : Int} (h : Servoed s e t) (htime : u.time = t.time) (hnet : u.net = t.net)
    (hrd : ∀ r ∈ [RegId.netTofs, .netTstat], u.rd r = t.rd r) : Servoed s e u := by
  have hstate : u.g F.netTstat_STATE = t.g F.netTstat_STATE :=
    congrArg (fun w : Word => bitsN w.toNat F.netTstat_STATE.lo F.netTstat_STATE.w) (hrd .netTstat (by decide))
  refine ⟨(hrd .netTofs (by decide)).trans h.tofs, fun hbig => ?_, fun hsmall => ?_⟩
  · rw [htime, hnet, hstate]
    exact h.step hbig
  · rw [htime, hnet, hstate]
    exact h.slew hsmall

theorem Servoed.realign {s t : State} {e : Int} (h : Servoed s e t) : Servoed s e t.realign := by
  unfold State.realign
  split
  · exact h.congr rfl rfl fun _ _ => rfl
  · exact h

/-- The end of the message leaves what counts. -/
theorem Servoed.msgEnd {s t : State} {e : Int} (h : Servoed s e t) (d : Nat) (x : Desc) : Servoed s e (t.msgEnd d x false 0) := by
  have hlow : ∀ r ∈ [RegId.netTofs, .netTstat], r.addr 0 / 0x1000 ∉ [0x2, 0x9] ∧ r.addr 0 < 0x6000 := by decide
  have hq : Quiet t (t.msgEnd d x false 0) := Quiet.retire ..
  exact h.congr hq.time hq.net fun r hr => rd_retire_low _ _ _ _ _ (hlow r hr).1 (hlow r hr).2

theorem servo_step {s : State} {e : Int} (hbig : 16000 < e.natAbs) (b tint : Nat) : ∃ u : State,
    s.servo e b tint = (u.timeState 1).realign ∧ u.rd .netTofs = BitVec.ofInt 32 e ∧ u.time = timeBack s.time e ∧ u.net.slew = 0 :=
  ⟨_, if_pos hbig, rd_wr_same .., rfl, rfl⟩

theorem servo_slew {s : State} {e : Int} (hsmall : ¬ 16000 < e.natAbs) (b tint : Nat) : ∃ u : State,
    s.servo e b tint = u.timeState (servoState (s.g F.netTstat_STATE) u.net.good e.natAbs) ∧
    u.rd .netTofs = BitVec.ofInt 32 e ∧ u.time = s.time ∧ u.net.slew = -e :=
  ⟨_, if_neg hsmall, (rd_wr_ne (s.wr .netTofs 0 (BitVec.ofInt 32 e)) .netTrate .netTofs 0 0 _ (by decide)).trans (rd_wr_same ..), rfl, rfl⟩

theorem servoed_servo (s : State) (e : Int) (b tint : Nat) : Servoed s e (s.servo e b tint) := by
  by_cases hbig : 16000 < e.natAbs
  · obtain ⟨u, heq, hofs, htime, hslew⟩ := servo_step (s := s) hbig b tint
    obtain ⟨hstate, -, hq, hrd⟩ := timeState_shows u 1
    rw [heq]
    refine Servoed.realign ⟨(hrd .netTofs 0 (by decide) (by decide) (by decide)).trans hofs, fun _ => ⟨hq.time.trans htime, hstate, ?_⟩,
      fun h => absurd hbig (Nat.not_lt.mpr h)⟩
    rw [hq.net, hslew]
  · obtain ⟨u, heq, hofs, htime, hslew⟩ := servo_slew (s := s) hbig b tint
    obtain ⟨hstate, -, hq, hrd⟩ := timeState_shows u (servoState (s.g F.netTstat_STATE) u.net.good e.natAbs)
    rw [heq]
    refine ⟨(hrd .netTofs 0 (by decide) (by decide) (by decide)).trans hofs, fun h => absurd h hbig, fun _ => ⟨hq.time.trans htime, ?_, ?_⟩⟩
    · rw [hq.net, hslew]
    · rw [hstate, hq.net]
      exact Nat.mod_eq_of_lt (servoState_lt ..)

theorem time_gives (s s1 : State) (d : Nat) (f : List Nat) (x : Desc) (_ : s.net.job = none) (htake : s.takeMsg 4 = (some (d, x), s1))
    (hbody : x.body = f) (_ : zDom f = d) (hstamp : x.w1 = 1) (hrole : s1.g F.netTimecfg_ROLE = 0) (hdom : s1.g F.netTimecfg_TDOM = d)
    (huse : 128 ≤ nth8 (zPay f) 0) :
    let e : Int := (x.w2 : Int) - s1.g F.netTimecfg_PDLY - beNat (sub8 (zPay f) 4 8)
    Gives .time s (Servoed s1 e) := by
  subst hbody
  intro e
  have hex : exec .time s = .next ((s1.servo e x.w3 (beNat (sub8 (zPay x.body) 2 2))).msgEnd d x false 0) := by
    change execTime s = _
    rw [execTime, htake]
    dsimp only
    rw [if_pos (by simp [hrole, hdom, huse, hstamp])]
  exact gives_of hex ((servoed_servo ..).msgEnd d x)

/-! ### ACK (08 R296) -/

theorem exec_ack {s s1 : State} {d : Nat} {x : Desc} (htake : s.takeMsg 6 = (some (d, x), s1)) : exec .ack s =
    .next ((if (kvGet s1.net.evOut d).any (fun e => nth8 (zPay x.body) 0 == 5 && nth8 (zPay x.body) 1 == 0 && zSeq x.body == e.seq) = true
      then s1.modNet (fun n => { n with evOut := kvDel n.evOut d }) else s1).msgEnd d x false 0) := by
  change execAck s = _
  rw [execAck, htake]

theorem ack_gives (s s1 : State) (d : Nat) (f : List Nat) (e : EvOut) (h : TakesMsg s 6 d f s1) (hout : kvGet s1.net.evOut d = some e) :
    (zSeq f = e.seq → nth8 (zPay f) 0 = 5 → nth8 (zPay f) 1 = 0 → Gives .ack s fun t => kvGet t.net.evOut d = none) ∧
    (zSeq f ≠ e.seq → Gives .ack s fun t => kvGet t.net.evOut d = some e) := by
  obtain ⟨-, -, x, rfl, htake⟩ := h
  have hex := exec_ack htake
  rw [hout, Option.any_some] at hex
  have hnet : ∀ t : State, (t.msgEnd d x false 0).net = t.net := fun t => (Quiet.retire t (4 + d) x 1 0).net
  refine ⟨fun hseq h5 h0 => ?_, fun hseq => ?_⟩
  · rw [if_pos (by simp [hseq, h5, h0])] at hex
    refine gives_of hex ?_
    rw [hnet]
    exact kvGet_kvDel_same ..
  · rw [if_neg (by simp [hseq])] at hex
    refine gives_of hex ?_
    rw [hnet]
    exact hout

/-- Settles O45: a TIME message is used by the servo, and its end leaves what the servo did. -/
theorem timeAndAckMessagesComplete : Obligations.TimeAndAckMessagesComplete := by
  refine ⟨fun s s1 d f x hjob htake hbody hzdom hstamp hrole hdom huse => ?_, ack_gives⟩
  obtain ⟨t, hex, ht⟩ := time_gives s s1 d f x hjob htake hbody hzdom hstamp hrole hdom huse
  exact ⟨t, hex, ht.tofs, ht.step, ht.slew⟩

end Sys2Proof.Machine
end

section
/-!
PROOF. O47: transmission, collisions and time messages (08 R276, R302; 09 R342).
-/

namespace Sys2Proof.Machine

/-! ### The frame that is sent next (09 R342) -/

/-- A choice among the members of a list is its start or one of them. -/
theorem foldl_chooses {α : Type} {f : Option α → α → Option α} (h : ∀ b a, f b a = b ∨ f b a = some a) (l : List α) (b : Option α) :
    l.foldl f b = b ∨ ∃ a ∈ l, l.foldl f b = some a := by
  induction l generalizing b with
  | nil => exact .inl rfl
  | cons a t ih =>
    rcases ih (f b a) with hb | ⟨a', ha', hf⟩
    · rcases h b a with hstep | hstep
      · exact .inl (hb.trans hstep)
      · exact .inr ⟨a, List.mem_cons_self, hb.trans hstep⟩
    · exact .inr ⟨a', List.mem_cons_of_mem a ha', hf⟩

theorem mem_of_foldl_chooses {α : Type} {f : Option α → α → Option α} {l : List α} {x : α} (hx : l.foldl f none = some x)
    (h : ∀ b a, f b a = b ∨ f b a = some a) : x ∈ l := by
  rcases foldl_chooses h l none with hb | ⟨a, ha, hf⟩
  · cases hb.symm.trans hx
  · exact Option.some.inj (hf.symm.trans hx) ▸ ha

/-- An arbiter grants a domain. -/
theorem pick_lt {a : Arb} {ready : List Nat} {weight : Nat → Nat} {d : Nat} (h : (a.pick ready weight).1 = some d) : d < 4 := by
  unfold Arb.pick at h
  dsimp only at h
  split at h
  next g hg =>
    obtain rfl : g = d := Option.some.inj h
    have hmem := mem_of_foldl_chooses hg fun b d => by
      split
      · exact .inl rfl
      · cases b with
        | none => exact .inr rfl
        | some x => exact (ite_eq_or_eq ..).symm
    obtain ⟨k, -, hk⟩ := List.mem_map.mp hmem
    omega
  · cases h

theorem egressPick_lt {s s1 : State} {d : Nat} (h : s.egressPick = (some d, s1)) : d < 4 := pick_lt (congrArg Prod.fst h)

/-- The choice leaves memory and the network port beside the racks. -/
theorem NetFrame.egressPick (s : State) : NetFrame s s.egressPick.2 := by
  have hwait : NetFrame s (s.quotaWait 19 8) := .each (fun d t => by
    rw [if_pos rfl]
    exact .ite (Quiet.flagIrq ..).netFrame (.refl t)) s
  exact ⟨hwait.mem, hwait.net⟩

/-! ### The frame that leaves (08 R276) -/

/-- Of the port a frame that leaves changes its repeats alone. -/
theorem sent_egressTake (s : State) (d status : Nat) : (s.egressTake d status).2.net.sent = s.net.sent := by
  have htake : (s.rackTake (8 + d)).2.net.sent = s.net.sent := congrArg Net.sent (NetFrame.rackTake s (8 + d)).net
  unfold State.egressTake
  dsimp only
  split
  · exact (congrArg Net.sent (Quiet.retire ..).net).trans htake
  · exact htake

/-- The head of a calm egress rack leaves as it is. -/
theorem egressTake_calm {s : State} {d : Nat} {x : Desc} {rest : List Desc} (hc : s.rackCalm (8 + d) = true) (hq : s.rq (8 + d) = x :: rest)
    (status : Nat) : s.egressTake d status =
      (some x, ((s.setRq (8 + d) rest).modNet (fun n => { n with tries := kvDel n.tries d })).retire (8 + d) x status 0) := by
  rw [State.egressTake, rackTake_calm hc hq]

/-- Frames sent follow those that were. -/
theorem sent_sendFrames (n : Nat) : ∀ s : State, ∃ l, (s.sendFrames n).net.sent = s.net.sent ++ l := by
  induction n with
  | zero => exact fun s => ⟨[], (List.append_nil _).symm⟩
  | succ n ih =>
    intro s
    have hpick := (NetFrame.egressPick s).net
    rw [State.sendFrames]
    split
    next s1 he =>
      rw [he] at hpick
      exact ⟨[], by rw [hpick, List.append_nil]⟩
    next d s1 he =>
      rw [he] at hpick
      have htake := sent_egressTake s1 d 1
      split
      next x s2 ht =>
        obtain ⟨l, hl⟩ := ih ((s2.incSat F.netCnt2_TXOK).modNet (fun k => { k with sent := k.sent ++ [x.body] }))
        rw [ht, hpick] at htake
        refine ⟨[x.body] ++ l, hl.trans ?_⟩
        rw [← List.append_assoc, ← htake]
        rfl
      next s2 ht =>
        rw [ht, hpick] at htake
        exact ⟨[], by rw [htake, List.append_nil]⟩

/-- A retirement reports its status in RACK_RET. -/
theorem last_retire (s : State) {n : Nat} (d : Desc) (status erridx : Nat) (hn : n < 32) :
    (s.retire n d status erridx).g F.rackRet_LAST n = status % 16 := by
  have hplace : ∀ n : Fin 32, RegId.rackRet.addr n / 0x1000 ∉ [0x2, 0x9] ∧ RegId.rackRet.addr n ≠ RegId.rackStat.addr n := by decide
  obtain ⟨hirq, hne⟩ := hplace ⟨n, hn⟩
  let s1 := s.p F.rackRet_LAST n status
  let s2 := s1.p F.rackRet_TAG n (d.w0 / 256)
  let s3 := s2.p F.rackRet_ERRIDX n (if status = 5 then erridx else s.g F.rackRet_ERRIDX n)
  have hret : (s3.incMod F.rackRet_RETCNT n).g F.rackRet_LAST n = status % 16 := by
    refine (g_p_field s3 F.rackRet_RETCNT F.rackRet_LAST n _ rfl (by decide) (by decide)).trans ?_
    refine (g_p_field s2 F.rackRet_ERRIDX F.rackRet_LAST n _ rfl (by decide) (by decide)).trans ?_
    refine (g_p_field s1 F.rackRet_TAG F.rackRet_LAST n _ rfl (by decide) (by decide)).trans ?_
    exact g_p_same s F.rackRet_LAST n status (by decide)
  have hf : (if status = 1 then F.rackStat_DONE else F.rackStat_ABORT).r = .rackStat := by split <;> rfl
  refine .trans ?_ hret
  have hrd : (s.retire n d status erridx).rd .rackRet n = (s3.incMod F.rackRet_RETCNT n).rd .rackRet n :=
    (rd_flagIrq _ _ n _ .rackRet n hirq).trans (rd_pb_ne _ _ _ _ (hf ▸ hne))
  exact congrArg (fun w : Word => bitsN w.toNat F.rackRet_LAST.lo F.rackRet_LAST.w) hrd

/-! ### An opportunity (08 R276) -/

/-- The head of the calm rack that is picked is sent first. -/
theorem sendFrames_head {s s1 : State} {d : Nat} {x : Desc} {rest : List Desc} (hpick : s.egressPick = (some d, s1))
    (hq : s1.rq (8 + d) = x :: rest) (hc : s1.rackCalm (8 + d) = true) (n : Nat) :
    ∃ l, (s.sendFrames (n + 1)).net.sent = s.net.sent ++ x.body :: l := by
  have hnet : s1.net = s.net := (congrArg (fun r => r.2.net) hpick).symm.trans (NetFrame.egressPick s).net
  have hsent := sent_egressTake s1 d 1
  rw [State.sendFrames, hpick]
  dsimp only
  rw [egressTake_calm hc hq 1] at hsent ⊢
  dsimp only at hsent ⊢
  generalize ((s1.setRq (8 + d) rest).modNet _).retire (8 + d) x 1 0 = s2 at hsent ⊢
  obtain ⟨l, hl⟩ := sent_sendFrames n ((s2.incSat F.netCnt2_TXOK).modNet (fun k => { k with sent := k.sent ++ [x.body] }))
  refine ⟨l, hl.trans ?_⟩
  change s2.net.sent ++ [x.body] ++ l = _
  rw [hsent, hnet, List.append_assoc]
  rfl

theorem transmit_gives (s s1 : State) (d : Nat) (x : Desc) (rest : List Desc) (hsend : s.canSend = true)
    (hpick : ({ s with net := { s.net with sent := [] } } : State).egressPick = (some d, s1)) (hq : s1.rq (8 + d) = x :: rest)
    (hc : s1.rackCalm (8 + d) = true) : Gives (.transmitOpportunity false) s fun t => t.net.sent.head? = some x.body := by
  have hex : exec (.transmitOpportunity false) s =
      .next (({ s with net := { s.net with sent := [] } } : State).sendFrames (bitsN s.net.plca 24 8 + 1)) := by
    change execTransmitOpportunity false s = _
    rw [execTransmitOpportunity, if_neg (by simp [hsend]), if_neg (by decide)]
    rfl
  obtain ⟨l, hl⟩ := sendFrames_head hpick hq hc (bitsN s.net.plca 24 8)
  exact gives_of hex (by rw [hl]; rfl)

/-! ### A collision (08 R276) -/

/-- Of a frame dropped, the count of repeats and the report. -/
theorem dropped_shows {s : State} {d : Nat} (hd : d < 4) {x : Desc} {rest : List Desc} (hc : s.rackCalm (8 + d) = true)
    (hq : s.rq (8 + d) = x :: rest) :
    let t := (s.egressTake d 5).2.netFlag F.netStat_TXDROP
    t.rd .netCnt2 = s.rd .netCnt2 ∧ t.rq (8 + d) = rest ∧ kvD t.net.tries d 0 = 0 ∧ t.b F.netStat_TXDROP = true ∧
      t.g F.rackRet_LAST (8 + d) = 5 := by
  have hplace : ∀ n : Fin 32, RegId.rackRet.addr n / 0x1000 ∉ [0x2, 0x9] ∧ RegId.rackRet.addr n ≠ RegId.netStat.addr 0 := by decide
  obtain ⟨hirq, hne⟩ := hplace ⟨8 + d, by omega⟩
  rw [egressTake_calm hc hq 5]
  let u := (s.setRq (8 + d) rest).modNet (fun n => { n with tries := kvDel n.tries d })
  let v := u.retire (8 + d) x 5 0
  have hv : Quiet u v := Quiet.retire ..
  have ht : Quiet v (v.netFlag F.netStat_TXDROP) := Quiet.flagIrq ..
  have hgone : kvD (kvDel s.net.tries d) d 0 = 0 := by simp [kvD]
  refine ⟨?_, ?_, ?_, b_netFlag_same v rfl (by decide) rfl, ?_⟩
  · exact (rd_netFlag_apart v rfl (by decide) (by decide)).trans (rd_retire_low _ _ _ _ _ (by decide) (by decide))
  · exact (rq_congr (ht.rack.trans hv.rack) (8 + d)).trans (rq_setRq s (8 + d) rest)
  · exact (congrArg (fun n : Net => kvD n.tries d 0) (ht.net.trans hv.net)).trans hgone
  · have hrd : (v.netFlag F.netStat_TXDROP).rd .rackRet (8 + d) = v.rd .rackRet (8 + d) := rd_netFlag_apart v rfl hirq hne
    refine (congrArg (fun w : Word => bitsN w.toNat F.rackRet_LAST.lo F.rackRet_LAST.w) hrd).trans ?_
    exact last_retire u x 5 0 (by omega)

theorem collide_gives (s s1 : State) (d : Nat) (x : Desc) (rest : List Desc) (hsend : s.canSend = true)
    (hpick : s.egressPick = (some d, s1)) (hq : s1.rq (8 + d) = x :: rest) (hc : s1.rackCalm (8 + d) = true) :
    Gives (.transmitOpportunity true) s fun t => Counts F.netCnt2_TXRETRY s1 t ∧
      (kvD s1.net.tries d 0 < 3 → t.rq (8 + d) = x :: rest ∧ kvD t.net.tries d 0 = kvD s1.net.tries d 0 + 1) ∧
      (3 ≤ kvD s1.net.tries d 0 → t.rq (8 + d) = rest ∧ kvD t.net.tries d 0 = 0 ∧ t.b F.netStat_TXDROP = true ∧
        t.g F.rackRet_LAST (8 + d) = 5) := by
  have hex : exec (.transmitOpportunity true) s = .next s.collide := by
    change execTransmitOpportunity true s = _
    rw [execTransmitOpportunity, if_neg (by simp [hsend]), if_pos rfl]
  let s2 := s1.incSat F.netCnt2_TXRETRY
  have hcount : Counts F.netCnt2_TXRETRY s1 s2 := counts_incSat s1 (by decide)
  have hcollide : s.collide =
      if kvD s1.net.tries d 0 < 3 then s2.modNet (fun n => { n with tries := kvSet n.tries d (kvD s1.net.tries d 0 + 1) })
      else (s2.egressTake d 5).2.netFlag F.netStat_TXDROP := by
    rw [State.collide, hpick]
    rfl
  refine gives_of hex ?_
  rw [hcollide]
  split
  next hfew => exact ⟨hcount, fun _ => ⟨hq, kvD_kvSet_same ..⟩, fun h => absurd hfew (Nat.not_lt.mpr h)⟩
  next hmany =>
    obtain ⟨hcnt, hdrop⟩ := dropped_shows (s := s2) (egressPick_lt hpick) hc hq
    exact ⟨counts_of_rd hcount hcnt, fun h => absurd h hmany, fun _ => hdrop⟩

/-! ### An ACK held too long (08 R276) -/

theorem findIdx_append_cons {α : Type} {p : α → Bool} {l : List α} {x : α} (rest : List α) (hl : ∀ y ∈ l, p y = false) (hx : p x = true) :
    (l ++ x :: rest).findIdx p = l.length := by
  rw [List.findIdx_append, List.findIdx_eq_length.mpr hl, if_neg (Nat.lt_irrefl _), List.findIdx_cons, hx]
  simp

theorem ackTimeout_gives (s : State) (d : Dom) (l : List Desc) (x : Desc) (rest : List Desc) (hlive : s.live = true)
    (hq : s.rq (8 + d.val) = l ++ x :: rest) (hc : s.rackCalm (8 + d.val) = true)
    (hl : l.all (fun y => zType y.body != 6) = true) (hx : zType x.body = 6) :
    Gives (.egressAckTimeout d) s fun t => t.rq (8 + d.val) = l ++ rest ∧ t.b F.netStat_TXDROP = true := by
  obtain ⟨hwaits, -⟩ := (rackCalm_iff ..).mp hc
  have hfind : (s.rq (8 + d.val)).findIdx (fun y => zType y.body == 6) = l.length := by
    rw [hq]
    exact findIdx_append_cons rest (fun y hy => by simpa using List.all_eq_true.mp hl y hy) (by simp [hx])
  let s1 := if l.length = 0 then s.modNet (fun n => { n with tries := kvDel n.tries d.val }) else s
  have hs1 : s1.rack = s.rack := by
    simp only [s1]
    split <;> rfl
  let u := (s1.setRq (8 + d.val) (l ++ rest))
  have hwu : u.rack.waits = [] := (congrArg Rack.waits hs1).trans hwaits
  have hdrop : s.egressDrop d.val l.length = (u.retire (8 + d.val) x 5 0).netFlag F.netStat_TXDROP := by
    have hserve : u.rackServe (8 + d.val) 64 = u := rackServe_noWaits hwu _ _
    rw [State.egressDrop, hq, List.getElem?_append_right (Nat.le_refl _), Nat.sub_self, List.eraseIdx_append_of_length_le (Nat.le_refl _),
      Nat.sub_self]
    exact congrArg (fun v : State => (v.retire (8 + d.val) x 5 0).netFlag F.netStat_TXDROP) hserve
  have hex : exec (.egressAckTimeout d) s = .next ((u.retire (8 + d.val) x 5 0).netFlag F.netStat_TXDROP) := by
    change execEgressAckTimeout d s = _
    rw [execEgressAckTimeout, if_pos hlive, hfind, hdrop]
  have hquiet : Quiet u ((u.retire (8 + d.val) x 5 0).netFlag F.netStat_TXDROP) := (Quiet.retire ..).trans (.flagIrq ..)
  exact gives_of hex ⟨(rq_congr hquiet.rack (8 + d.val)).trans (rq_setRq ..), b_netFlag_same _ rfl (by decide) rfl⟩

/-! ### TIME messages of a master (08 R302; log 73) -/

/-- The TIME message of the cycle whose BEACON came at time `b`, and the state that has formed it. -/
def State.timeMsg (s : State) (b : Nat) : List Nat × State :=
  (s.fresh 16).2.newFrame 4 (s.g F.netTimecfg_TDOM) false (s.fresh 16).1.toNat (s.macOf .netMcastHi .netMcastLo 0)
    ([0x80, s.plcaId] ++ beBytes 2 (s.g F.netTimecfg_TINT) ++ beBytes 8 b)

theorem exec_timeTransmit {s : State} {b : Nat × Nat} (hb : s.net.beacon = some b) (hsend : s.canSend = true)
    (hrole : s.g F.netTimecfg_ROLE = 1) (collided : Bool) : exec (.timeTransmit collided) s =
      if !collided then
        .next (((s.timeMsg b.1).2.incSat F.netCnt2_TXOK).modNet (fun n => { n with sent := [(s.timeMsg b.1).1], timeTries := 0 }))
      else .next (if s.net.timeTries < 3 then
          ((s.timeMsg b.1).2.incSat F.netCnt2_TXRETRY).modNet (fun n => { n with timeTries := n.timeTries + 1 })
        else (((s.timeMsg b.1).2.incSat F.netCnt2_TXRETRY).modNet (fun n => { n with timeTries := 0 })).netFlag F.netStat_TXDROP) := by
  change execTimeTransmit s collided = _
  rw [execTimeTransmit, hb]
  dsimp only
  rw [if_pos (by simp [hsend, hrole])]
  rfl

theorem timeCollided_gives (s : State) (b : Nat × Nat) (hb : s.net.beacon = some b) (hsend : s.canSend = true)
    (hrole : s.g F.netTimecfg_ROLE = 1) : Gives (.timeTransmit true) s fun t =>
      Counts F.netCnt2_TXRETRY s t ∧ t.net.sent = s.net.sent ∧ (s.net.timeTries < 3 → t.net.timeTries = s.net.timeTries + 1) ∧
      (3 ≤ s.net.timeTries → t.net.timeTries = 0 ∧ t.b F.netStat_TXDROP = true) := by
  let u := (s.timeMsg b.1).2.incSat F.netCnt2_TXRETRY
  have hcount : Counts F.netCnt2_TXRETRY s u := counts_incSat (s.timeMsg b.1).2 (by decide)
  refine gives_of (exec_timeTransmit hb hsend hrole true) ?_
  split
  next hfew => exact ⟨hcount, rfl, fun _ => rfl, fun h => absurd hfew (Nat.not_lt.mpr h)⟩
  next hmany =>
    let v := u.modNet (fun n => { n with timeTries := 0 })
    have hnet : (v.netFlag F.netStat_TXDROP).net = v.net := (Quiet.flagIrq ..).net
    have hsent : (v.netFlag F.netStat_TXDROP).net.sent = s.net.sent := (congrArg Net.sent hnet).trans rfl
    exact ⟨counts_of_rd hcount (rd_netFlag_apart v rfl (by decide) (by decide)), hsent, fun h => absurd h hmany,
      fun _ => ⟨congrArg Net.timeTries hnet, b_netFlag_same v rfl (by decide) rfl⟩⟩

theorem timeSent_gives (s : State) (b : Nat × Nat) (hb : s.net.beacon = some b) (hsend : s.canSend = true)
    (hrole : s.g F.netTimecfg_ROLE = 1) : Gives (.timeTransmit false) s fun t =>
      ∃ f, t.net.sent = [f] ∧ zType f = 4 ∧ zDom f = s.g F.netTimecfg_TDOM ∧ f.take 6 = s.macOf .netMcastHi .netMcastLo 0 ∧
        zPay f = [128, s.plcaId] ++ beBytes 2 (s.g F.netTimecfg_TINT) ++ beBytes 8 b.1 := by
  obtain ⟨hty, hdom, -, hpay⟩ := newFrame_fields (s.fresh 16).2 false (s.fresh 16).1.toNat .netMcastHi .netMcastLo 0 (by decide : 4 < 16)
    (show ([0x80, s.plcaId] ++ beBytes 2 (s.g F.netTimecfg_TINT) ++ beBytes 8 b.1).length < 65536 by simp [length_beBytes])
    (s.timeMsg b.1).1 rfl
  exact gives_of (exec_timeTransmit hb hsend hrole false) ⟨(s.timeMsg b.1).1, rfl, hty, hdom, rfl, hpay⟩

/-- Settles O47: one lemma for each way in which a transmission ends. -/
theorem framesAreTransmitted : Obligations.FramesAreTransmitted :=
  ⟨transmit_gives, collide_gives, ackTimeout_gives, timeCollided_gives, timeSent_gives⟩

end Sys2Proof.Machine
end

section

/-!
PROOF. The ports of a rack (09 R331-R336): the words that an accepted write of RACKn_PUSH and an accepted read of RACKn_POP move.
-/

namespace Sys2Proof.Machine

/-! ### An accepted write of a command register -/

/-- The state in which an accepted write takes effect: parity marks of its register are gone, and the write has joined its cycle. -/
def State.noted (s : State) (p : Port) (d : Nat) (r : RegId) (i w : Nat) : State := (s.unmarked r i).noteWrite s p d r i .reg w

/-! ### Words pushed (09 R331-R335) -/

theorem rackPush_place : ∀ n : Fin 32, decode (RegId.rackPush.addr n) true = .reg .reg .rackPush n ∧ postedReg .rackPush n = false ∧
    RegId.rackStat.addr n / 0x1000 ∉ [0x2, 0x9] := by decide

/-- RACKn_PUSH takes every word. -/
theorem plainCommand_rackPush (n w : Nat) : plainCommand .rackPush n w = true := by
  have hout : outside (effFields .rackPush n) w = 0 := by
    change putN (w % 2 ^ 32) 0 32 0 = 0
    exact putN_whole (Nat.mod_lt _ (by decide)) (by decide)
  rw [plainCommand, hout]
  rfl

/-- An accepted write of the push port of a rack that ports push: its whole effect. -/
theorem exec_rackPush {s : State} {p : Port} {d : Dom} {n : Fin 32} {w : Word} (h : s.accepts p d .rackPush n w.toNat = true)
    (hprod : s.prod n < 17) : exec (.rackPush p d n w) s =
      .next ((((s.noted p d .rackPush n w.toNat).pushWord p.code (s.useDom p d .rackPush n) n w.toNat
        (RegId.rackPush.addr n)).loose s p).result p 0 0) := by
  obtain ⟨hlive, -, hpost, hg, hw, hf, hn, -⟩ := (accepts_iff ..).mp h
  obtain ⟨hd, hp, -⟩ := rackPush_place n
  have hroom : ¬ 17 ≤ s.prod n := Nat.not_le.mpr hprod
  have happ : s.applyReg p d (RegId.rackPush.addr n) .rackPush n .reg w.toNat = (s.noted p d .rackPush n w.toNat).pushWord p.code
      (s.useDom p d .rackPush n) n w.toNat (RegId.rackPush.addr n) := applyReg_command s p d _ .rackPush n _ (plainCommand_rackPush ..)
  change s.writeCmd p d (RegId.rackPush.addr n) w.toNat = _
  simp [State.writeCmd, hlive, State.portWrite, hg, hd, hn, State.regWrite, hroom, hw, State.u2dCtxBusy, hp, State.regEffect,
    drain_empty s p hpost, hf, State.portFlag, happ]

section
variable {s : State} {port dom n w a : Nat} {l : List Nat} (hl : kvD s.rack.part (prKey port dom n) [] = l)
include hl

/-- The first three words are kept (09 R333). -/
theorem pushWord_keeps (h : l.length < 3) : s.pushWord port dom n w a =
    s.modRack fun r => { r with part := kvSet r.part (prKey port dom n) (l ++ [w]) } := by
  rw [State.pushWord, hl]
  exact if_pos (by rw [List.length_append]; exact Nat.add_lt_add_right h 1)

/-- The fourth word completes a descriptor (09 R333, R335). -/
theorem pushWord_fourth (h : l.length = 3) (hok : descOk (descOf (l ++ [w])) = true) : s.pushWord port dom n w a =
    let s1 := s.modRack fun r => { r with part := kvDel r.part (prKey port dom n) }
    if !s.rackEn n || s.rackFull n then s1.rackFlag F.rackStat_PUSHFULL n else s1.rackCommit n (descCommit (descOf (l ++ [w])) dom) := by
  rw [State.pushWord, hl]
  dsimp only
  rw [if_neg (by simp [h]), if_neg (by simp [hok])]
  rfl

end

theorem kvD_part_rackAppend (s : State) (n : Nat) (x : Desc) (k : Nat) : kvD (s.rackAppend n x).rack.part k [] = kvD s.rack.part k [] :=
  (congrArg (fun r : Rack => kvD r.part k []) (Quiet.rackAppend s n x).rack).trans rfl

/-- The answer of a port leaves the racks. -/
theorem rack_answered (t s : State) (p : Port) (code data : Nat) : ((t.loose s p).result p code data).rack = t.rack := rfl

theorem kvD_kvDel_same {α : Type} (m : List (Nat × α)) (k : Nat) (d : α) : kvD (kvDel m k) k d = d := by
  rw [kvD, kvGet_kvDel_same]
  rfl

/-- A flag of RACKn_STAT after it is set with its interrupt. -/
theorem b_rackFlag_same (s : State) {f : Fld} (n : Fin 32) (hr : f.r = .rackStat) (h32 : f.lo + f.w ≤ 32) (hw : f.w = 1) :
    (s.rackFlag f n).b f n = true := by
  obtain ⟨-, -, hirq⟩ := rackPush_place n
  rw [State.b, State.g, State.rackFlag, rd_flagIrq _ _ _ _ _ _ (hr ▸ hirq)]
  exact b_pb_same s f n true h32 hw

section
variable {s : State} {p : Port} {d : Dom} {n : Fin 32} {w : Word} (h : s.accepts p d .rackPush n w.toNat = true) (hprod : s.prod n < 17)
  {l : List Nat} (hl : kvD s.rack.part (prKey p.code (s.useDom p d .rackPush n) n) [] = l)
include h hprod hl

theorem rackPush_keeps (hlen : l.length < 3) : Gives (.rackPush p d n w) s fun t => t.done p = true ∧ t.rq n = s.rq n ∧
    kvD t.rack.part (prKey p.code (s.useDom p d .rackPush n) n) [] = l ++ [w.toNat] := by
  have hx := exec_rackPush h hprod
  rw [pushWord_keeps (s := s.noted p d .rackPush n w.toNat) hl hlen] at hx
  exact gives_of hx ⟨done_result .., rfl, kvD_kvSet_same ..⟩

theorem rackPush_commits (hlen : l.length = 3) (hok : descOk (descOf (l ++ [w.toNat])) = true) (hopen : s.rackOpen n = true) :
    Gives (.rackPush p d n w) s fun t => t.done p = true ∧
      t.rq n = s.rq n ++ [descCommit (descOf (l ++ [w.toNat])) (s.useDom p d .rackPush n)] ∧
      kvD t.rack.part (prKey p.code (s.useDom p d .rackPush n) n) [] = [] := by
  obtain ⟨hwaits, -, hen, hfull⟩ := (rackOpen_iff ..).mp hopen
  let u := (s.noted p d .rackPush n w.toNat).modRack fun r =>
    { r with part := kvDel r.part (prKey p.code (s.useDom p d .rackPush n) n) }
  let x := descCommit (descOf (l ++ [w.toNat])) (s.useDom p d .rackPush n)
  have hx := exec_rackPush h hprod
  rw [pushWord_fourth (s := s.noted p d .rackPush n w.toNat) hl hlen hok] at hx
  have hroom : (!(s.noted p d .rackPush n w.toNat).rackEn n || (s.noted p d .rackPush n w.toNat).rackFull n) = false := by
    change (!s.rackEn n || s.rackFull n) = false
    rw [hen, hfull]
    rfl
  dsimp only at hx
  rw [hroom, if_neg Bool.false_ne_true, rackCommit_noWaits (s := u) hwaits] at hx
  refine gives_of hx ⟨done_result .., ?_, ?_⟩
  · rw [rq_congr (rack_answered ..), rq_rackAppend]
    rfl
  · rw [rack_answered, kvD_part_rackAppend]
    exact kvD_kvDel_same ..

theorem rackPush_full (hlen : l.length = 3) (hok : descOk (descOf (l ++ [w.toNat])) = true)
    (hno : s.rackEn n = false ∨ s.rackFull n = true) :
    Gives (.rackPush p d n w) s fun t => t.b F.rackStat_PUSHFULL n = true ∧ t.rq n = s.rq n := by
  let u := (s.noted p d .rackPush n w.toNat).modRack fun r =>
    { r with part := kvDel r.part (prKey p.code (s.useDom p d .rackPush n) n) }
  have hx := exec_rackPush h hprod
  rw [pushWord_fourth (s := s.noted p d .rackPush n w.toNat) hl hlen hok] at hx
  have hroom : (!(s.noted p d .rackPush n w.toNat).rackEn n || (s.noted p d .rackPush n w.toNat).rackFull n) = true := by
    change (!s.rackEn n || s.rackFull n) = true
    rcases hno with hen | hfull
    · rw [hen]; rfl
    · rw [hfull, Bool.or_true]
  dsimp only at hx
  rw [hroom, if_pos rfl] at hx
  exact gives_of hx ⟨b_rackFlag_same u n rfl (by decide) rfl, rq_congr (Quiet.flagIrq u _ _ _).rack n⟩

end

/-! ### Words popped (09 R336) -/

theorem rackPop_place : ∀ n : Fin 32, decode (RegId.rackPop.addr n) false = .reg .reg .rackPop n ∧
    decode (RegId.semTake.addr n) false = .reg .reg .semTake n := by decide

/-- The owner of a rack or semaphore may read its port where it may write it. -/
theorem readRight_owned {s : State} {p : Port} {d : Nat} {r : RegId} {i w : Nat} (hr : r.rule.own = .rack ∨ r.rule.own = .sem)
    (h : s.writeRight p d r i .reg w = .ok true) : s.readRight p d r i = .ok true := by
  unfold State.writeRight at h
  unfold State.readRight
  split
  · rfl
  next hp =>
    rw [if_neg hp] at h
    have hown : d = s.resOwner r i := by
      rcases hr with hr | hr <;> simpa [hr] using h
    rcases hr with hr | hr <;> simp [hr, readOwned, ← hown]

/-- A read of a port whose write with no word would be accepted. -/
theorem readCmd_accepts {s : State} {p : Port} {d : Dom} {r : RegId} {n : Fin 32} (hr : r = .rackPop ∨ r = .semTake)
    (h : s.accepts p d r n 0 = true) (hbus : r = .rackPop → s.cons n < 17) : s.readCmd p d (r.addr n) =
      .next ((s.regRead p d r n true).2.result p 0 (s.regRead p d r n true).1) := by
  obtain ⟨hlive, -, hpost, hg, hw, -, hn, -⟩ := (accepts_iff ..).mp h
  obtain ⟨hpop, htake⟩ := rackPop_place n
  have hd : decode (r.addr n) false = .reg .reg r n := by rcases hr with rfl | rfl <;> assumption
  have hident : isIdent (.reg .reg r n) = false := by rcases hr with rfl | rfl <;> rfl
  have hexempt : isExempt (.reg .reg r n) = false := by rcases hr with rfl | rfl <;> rfl
  have hctx : s.u2dCtxBusy r = false := by rcases hr with rfl | rfl <;> rfl
  have hright : s.readRight p d r n = .ok true := readRight_owned (by rcases hr with rfl | rfl <;> decide) hw
  have hwords : (p != .dma && r == .rackPop && decide (17 ≤ s.cons n)) = false := by
    rcases hr with rfl | rfl
    · simp [Nat.not_le.mpr (hbus rfl)]
    · simp
  rw [hexempt] at hn
  simp [State.readCmd, hlive, State.portRead, drain_empty s p hpost, State.readAt, hd, hident, hg, hexempt, hn, hwords, hright, hctx,
    State.portFlag]

/-- Words with no flipped bit stay as they are in rack RAM. -/
theorem rackFlip_none (s : State) (n k : Nat) : s.rackFlip n k 0 = s := by
  unfold State.rackFlip
  split <;> rfl

/-- Bits 31:30 of the word that a pop of an empty rack answers. -/
theorem popWord_empty (y : Desc) : (BitVec.ofNat 32 (popWord y false)).toNat / 2 ^ 30 = 1 := by
  rw [popWord, BitVec.toNat_ofNat, if_neg Bool.false_ne_true]
  omega

/-- The word that a read answers. -/
theorem answer_data (s : State) (p : Port) (code data : Nat) : (kvD (s.result p code data).acc p.code {}).data = BitVec.ofNat 32 data :=
  congrArg Access.data (kvD_kvSet_same ..)

/-- An accepted read of the pop port of an enabled rack: its whole effect. -/
theorem exec_rackPop {s : State} {p : Port} {d : Dom} {n : Fin 32} (h : s.accepts p d .rackPop n 0 = true) (hcons : s.cons n < 17) :
    exec (.rackPop p d n) s = .next ((s.popRead p.code (s.useDom p d .rackPop n) n).2.result p 0
      (s.popRead p.code (s.useDom p d .rackPop n) n).1) := by
  change (s.rackFlip n 0 0).readCmd p d (RegId.rackPop.addr n) = _
  rw [rackFlip_none, readCmd_accepts (.inl rfl) h fun _ => hcons]
  rfl

section
variable {s : State} {p : Port} {d : Dom} {n : Fin 32} (h : s.accepts p d .rackPop n 0 = true) (hcons : s.cons n < 17)
  (hen : s.rackEn n = true)
include h hcons hen

/-- A pop of a rack that holds descriptors. -/
theorem rackPop_oldest (hcalm : s.rackCalm n = true) {y : Desc} {rest : List Desc} (hq : s.rq n = y :: rest) :
    Gives (.rackPop p d n) s fun t => t.rq n = rest ∧ t.done p = true ∧
      (kvD t.acc p.code {}).data = BitVec.ofNat 32 (popWord y true) ∧
      kvGet t.rack.hold (prKey p.code (s.useDom p d .rackPop n) n) = some y := by
  have hx := exec_rackPop h hcons
  rw [State.popRead, if_pos hen, rackTake_calm hcalm hq] at hx
  exact gives_of hx ⟨rq_setRq s n rest, done_result .., answer_data .., kvGet_kvSet_same ..⟩

/-- A pop of a rack that holds none. -/
theorem rackPop_empty (hq : s.rq n = []) : Gives (.rackPop p d n) s fun t => t.rq n = [] ∧ t.done p = true ∧
    (kvD t.acc p.code {}).data.toNat / 2 ^ 30 = 1 := by
  have htake : s.rackTake n = (none, s) := by
    have hclean : s.rackClean n ((s.rq n).length + 1) = s := by rw [State.rackClean, hq]
    rw [State.rackTake, hclean, hq]
  have hx := exec_rackPop h hcons
  rw [State.popRead, if_pos hen, htake] at hx
  refine gives_of hx ⟨hq, done_result .., ?_⟩
  rw [answer_data]
  exact popWord_empty _

end

end Sys2Proof.Machine
end

section

/-!
PROOF. Settings that racks and semaphores may refuse (09 R328, R344): a write of RACKn_CFG, RACKn_PART or SEMn_CFG, whose ignored values
leave a flag in another register. With them the rack commands (O48).
-/

namespace Sys2Proof.Machine

/-! ### Ignored values (06 R185) -/

section
variable {s : State} {p : Port} {d : Nat} {r : RegId} {i : Nat} {v : View} {w : Nat}

/-- A field ignores the value that the write brings it. -/
def State.ignored (s : State) (p : Port) (d : Nat) (r : RegId) (i : Nat) (v : View) (w : Nat) (u : Upd) (f : Field) : Bool :=
  (fieldNew v (s.present r i u f) w f).any fun x => s.fieldOwned p d r i f && s.ignores r i f (s.present r i u f) x

theorem ign_writeRw (u : Upd) (f : Field) : (s.writeRw p d r i v w u f).ign = (u.ign || s.ignored p d r i v w u f) := by
  unfold State.writeRw State.ignored State.present
  dsimp only
  generalize (if f.bake = .i then bitsN u.word f.lo f.w else _) = cur
  cases hx : fieldNew v cur w f with
  | none => simp
  | some x =>
    dsimp only [Option.any_some]
    cases ho : s.fieldOwned p d r i f
    · simp
    cases hg : s.ignores r i f cur x
    · cases hv : s.valueOk r i f x
      · simp
      · simp only [Bool.not_true, Bool.false_eq_true, if_false, Bool.true_and, Bool.or_false]
        split <;> split <;> rfl
    · simp

theorem ign_writeField (u : Upd) (f : Field) :
    (s.writeField p d r i v w u f).ign = (u.ign || (f.acc == .rw && s.ignored p d r i v w u f)) := by
  unfold State.writeField
  dsimp only
  cases f.acc
  case rw => exact ign_writeRw u f
  case w1c =>
    dsimp only
    repeat' split
    all_goals exact (Bool.or_false _).symm
  case wo =>
    dsimp only
    split <;> exact (Bool.or_false _).symm
  all_goals exact (Bool.or_false _).symm

/-- A write of fields that ignore no value. -/
theorem ign_written_none (h : ∀ f ∈ effFields r i, ∀ cur x, s.ignores r i f cur x = false) : (s.written p d r i v w).ign = false :=
  List.foldlRecOn (motive := fun u : Upd => u.ign = false) (effFields r i) _ rfl fun u hu f hf => by
    rw [ign_writeField, hu, State.ignored]
    simp [h f hf]

/-- A write whose first field ignores its value. -/
theorem ign_written_first {f : Field} {l : List Field} (hl : effFields r i = f :: l) (hacc : f.acc = .rw)
    (hx : s.ignored p d r i v w { word := (s.rd r i).toNat, st := s.staged } f = true) : (s.written p d r i v w).ign = true := by
  rw [State.written, State.fields, hl]
  refine List.foldlRecOn (motive := fun u : Upd => u.ign = true) l _ ?_ fun u hu g _ => ?_
  · rw [ign_writeField, hacc, hx]
    rfl
  · rw [ign_writeField, hu, Bool.true_or]

end

theorem rd_noteWrite (s old : State) (p : Port) (d : Nat) (r : RegId) (i : Nat) (v : View) (w : Nat) (q : RegId) (j : Nat) :
    (s.noteWrite old p d r i v w).rd q j = s.rd q j := rfl

/-- A register with its fields after a write, and the bits and values of the write that are recorded. -/
def State.fieldsSet (s : State) (p : Port) (d a : Nat) (r : RegId) (i : Nat) (v : View) (w : Nat) (u : Upd) : State :=
  let s0 := State.unmarked (if u.word = (s.rd r i).toNat then { s with staged := u.st } else
    { s.wr r i (BitVec.ofNat 32 u.word) with staged := u.st }) r i
  let s1 := if u.rsvw || reservedOnes v (effFields r i) w then s0.rsvw (evDom p d) p.code a else s0
  if u.viol then s1.violate d p.code a 1 else s1

theorem wrote_fieldsSet (s : State) (p : Port) (d : Dom) (a : Nat) (r : RegId) (i : Nat) (v : View) (w : Nat) (u : Upd) :
    Wrote recordAddrs s r i u (s.fieldsSet p d a r i v w u) :=
  ((Wrote.of_fields s r i u).unmarked r i).recorded ((Recorded.ite (.rsvw _ _ _ (evDom_lt p d)) (.refl _)).trans
    (.ite (.violate _ _ _ _ d.isLt) (.refl _)))

/-- The same with the flag of ignored values, and the collisions that are recorded. -/
def State.flagged (s : State) (p : Port) (d a : Nat) (r : RegId) (i : Nat) (v : View) (w : Nat) (u : Upd) : State :=
  let z := s.fieldsSet p d a r i v w u
  each u.coll.eraseDups (fun x s => s.wrcoll x p.code a) ((if u.ign then z.ignFlag r i else z).noteWrite s p d r i v w)

theorem rd_flagged (s : State) (p : Port) (d a : Nat) (r : RegId) (i : Nat) (v : View) (w : Nat) {u : Upd} (hcoll : ∀ x ∈ u.coll, x < 4)
    {q : RegId} {j : Nat} (hq : q.addr j ∉ recordAddrs) : (s.flagged p d a r i v w u).rd q j =
      (if u.ign then (s.fieldsSet p d a r i v w u).ignFlag r i else s.fieldsSet p d a r i v w u).rd q j := by
  have hrec : Recorded _ (s.flagged p d a r i v w u) := .each (fun x hx t => .wrcoll t _ _ (hcoll x (List.mem_eraseDups.mp hx))) _
  exact (hrec.rd q j hq).trans (rd_noteWrite ..)

/-- A write of a register of the register file. -/
theorem applyReg_flagged (s : State) (p : Port) (d a : Nat) {r : RegId} (i : Nat) (v : View) (w : Nat) (hl : isLive r = false)
    (hh : isHeldHi r = false) : s.applyReg p d a r i v w =
      let u := s.written p d r i v w
      ((s.flagged p d a r i v w u).onWrite s p d a r i v w u.word (!u.cmdBad)).bakeNow p r i := by
  simp only [State.applyReg, hl, hh, Bool.false_eq_true, if_false, Bool.false_or, decide_eq_true_eq]
  rfl

/-! ### The settings of racks and semaphores -/

/-- Settings that a rack or a semaphore may refuse. -/
def refusable (r : RegId) : Prop := r = .rackPart ∨ r = .rackCfg ∨ r = .semCfg

theorem refusable_place {r : RegId} (hr : refusable r) (n : Fin 32) : decode (r.addr n) true = .reg .reg r n ∧
    postedReg r n = false ∧ r.addr n ∉ recordAddrs := by
  have h : ∀ n : Fin 32, ∀ r ∈ [RegId.rackPart, .rackCfg, .semCfg], decode (r.addr n) true = .reg .reg r n ∧
    postedReg r n = false ∧ r.addr n ∉ recordAddrs := by decide
  exact h n r (by rcases hr with rfl | rfl | rfl <;> simp)

theorem refusable_fields {r : RegId} (hr : refusable r) (n : Fin 32) : splitFields r n := by
  have h : ∀ n : Fin 32, splitFields .rackPart n ∧ splitFields .rackCfg n ∧ splitFields .semCfg n := by
    unfold splitFields
    decide
  obtain ⟨hpart, hcfg, hsem⟩ := h n
  rcases hr with rfl | rfl | rfl <;> assumption

/-- An accepted write of such a setting: what it sets off follows its fields and flags. -/
theorem writeReg_refusable {s : State} {p : Port} {d : Dom} {r : RegId} {n : Fin 32} {w : Nat} (hr : refusable r)
    (h : s.accepts p d r n w = true) : s.writeReg p d r n w =
      let u := s.written p d r n .reg w
      .next ((((s.flagged p d (r.addr n) r n .reg w u).onWrite s p d (r.addr n) r n .reg w u.word (!u.cmdBad)).loose s
        p).result p 0 0) := by
  obtain ⟨hd, hp, -⟩ := refusable_place hr n
  have hlive : isLive r = false := by rcases hr with rfl | rfl | rfl <;> rfl
  have hhi : isHeldHi r = false := by rcases hr with rfl | rfl | rfl <;> rfl
  rw [writeCmd_accepts s p d r n w h hd hp (by rcases hr with rfl | rfl | rfl <;> decide), applyReg_flagged s p d _ _ _ _ hlive hhi,
    bakeNow_immediate _ _ _ (by rcases hr with rfl | rfl | rfl <;> decide)]

section
variable {s : State} {p : Port} {d : Dom} {r : RegId} {n : Fin 32} {w : Nat} (hr : refusable r)
include hr

/-- A setting that is taken holds its new word. -/
theorem rd_flagged_taken (hno : (s.written p d r n .reg w).ign = false) :
    (s.flagged p d (r.addr n) r n .reg w (s.written p d r n .reg w)).rd r n = BitVec.ofNat 32 (s.written p d r n .reg w).word := by
  obtain ⟨-, -, hrec⟩ := refusable_place hr n
  have hown : r.rule.own ≠ .dom := by rcases hr with rfl | rfl | rfl <;> decide
  rw [rd_flagged s p d _ r n .reg w (coll_written_lt s p d n .reg w hown) hrec, hno, if_neg Bool.false_ne_true,
    (wrote_fieldsSet ..).word hrec]

/-- A setting that is refused, with its flag. -/
theorem rd_flagged_refused (hset : (s.written p d r n .reg w).ign = true) {f : Fld} {k : Nat}
    (hflag : ∀ z : State, z.ignFlag r n = z.pb f k true) (hf : f.r.addr k ∉ recordAddrs) (hne : r.addr n ≠ f.r.addr k)
    (h32 : f.lo + f.w ≤ 32) (hw : f.w = 1) :
    let y := s.flagged p d (r.addr n) r n .reg w (s.written p d r n .reg w)
    y.rd r n = BitVec.ofNat 32 (s.written p d r n .reg w).word ∧ y.b f k = true := by
  obtain ⟨-, -, hrec⟩ := refusable_place hr n
  have hown : r.rule.own ≠ .dom := by rcases hr with rfl | rfl | rfl <;> decide
  have hrd := fun {q j} => rd_flagged s p d (r.addr n) r n .reg w (coll_written_lt s p d n .reg w hown) (q := q) (j := j)
  simp only [hset, if_true, hflag] at hrd
  constructor
  · rw [hrd hrec, rd_pb_ne _ _ _ _ hne, (wrote_fieldsSet ..).word hrec]
  · rw [State.b, State.g, hrd hf]
    exact b_pb_same _ f k true h32 hw

end

/-- A field that ignores its value is given none. -/
theorem takes_ignored {s : State} {p : Port} {d : Nat} {r : RegId} {n w : Nat} (cur : Nat) {f : Field}
    (hign : s.ignores r n f cur (bitsN w f.lo f.w) = true) :
    s.takes p d r n .reg w cur f = none := by simp [State.takes, fieldNew, hign]

section
variable {s : State} {p : Port} {d : Dom} {r : RegId} {n : Fin 32} {w : Nat} (hr : refusable r)
include hr

theorem takes_refusable (cur : Nat) {f : Field} (hign : s.ignores r n f cur (bitsN w f.lo f.w) = false)
    (hok : f.ok.ok (bitsN w f.lo f.w) = true) : s.takes p d r n .reg w cur f = some (bitsN w f.lo f.w) := by
  have hown : s.fieldOwned p d r n f = true := by rcases hr with rfl | rfl | rfl <;> exact Bool.or_true _
  have hval : s.valueOk r n f (bitsN w f.lo f.w) = true := by
    unfold State.valueOk
    rw [hok]
    rcases hr with rfl | rfl | rfl <;> rfl
  simp [State.takes, fieldNew, hown, hign, hval]

/-- A field that takes its value, read in the register. -/
theorem bits_written (h : s.accepts p d r n w = true) {f : Field} (hf : f ∈ effFields r n) (hacc : f.acc = .rw) (hb : f.bake = .i)
    (hign : s.ignores r n f (bitsN (s.rd r n).toNat f.lo f.w) (bitsN w f.lo f.w) = false) (hok : f.ok.ok (bitsN w f.lo f.w) = true) :
    bitsN (s.written p d r n .reg w).word f.lo f.w = bitsN w f.lo f.w := by
  obtain ⟨-, -, -, -, -, -, -, haccs⟩ := (accepts_iff ..).mp h
  rw [State.written, word_fields_takes (refusable_fields hr n) hf hacc hb (takes_refusable hr _ hign hok), inOrder_alone haccs]
  exact Nat.mod_eq_of_lt (bitsN_lt ..)

end

/-- A write of which every field ignores its value leaves the word. -/
theorem word_written_ignored {s : State} {p : Port} {d : Nat} {r : RegId} {i w : Nat} (hacc : ∀ f ∈ effFields r i, f.acc = .rw)
    (hign : ∀ f cur x, s.ignores r i f cur x = true) : (s.written p d r i .reg w).word = (s.rd r i).toNat :=
  each_keeps_mem Upd.word _ (fun f u => s.writeField p d r i .reg w u f) _ fun f hf u => by
    rw [State.writeField, hacc f hf]
    exact (writeRw_none (by simp [State.takes, fieldNew, hign])).1

/-! ### Partitions (09 R328) -/

section
variable {s : State} {p : Port} {d : Dom} {n : Fin 32} {w : Word} (h : s.accepts p d .rackPart n w.toNat = true)
include h

theorem rackPartWrite_taken (h1 : 1 ≤ bitsN w.toNat 16 10) (h512 : bitsN w.toNat 16 10 ≤ 512) (hen : s.rackEn n = false)
    (hq : s.rq n = []) : Gives (.rackPartWrite p d n w) s fun t =>
      t.g F.rackPart_BASE n = bitsN w.toNat 0 9 ∧ t.g F.rackPart_SIZE n = bitsN w.toNat 16 10 := by
  have hno : ∀ f cur x, s.ignores .rackPart n f cur x = false := fun f cur x => by
    change (s.rackEn n || !(s.rq n).isEmpty) = false
    rw [hen, hq]
    rfl
  let u := s.written p d .rackPart n .reg w.toNat
  let y := s.flagged p d (RegId.rackPart.addr n) .rackPart n .reg w.toNat u
  have hrd : y.rd .rackPart n = BitVec.ofNat 32 u.word := rd_flagged_taken (.inl rfl) (ign_written_none fun f _ => hno f)
  have hbase := bits_written (f := fl "BASE" 0 9 .rw 0 .i) (.inl rfl) h List.mem_cons_self rfl rfl (hno ..) rfl
  have hsize := bits_written (f := fl "SIZE" 16 10 .rw 0x10 .i (.range 1 512)) (.inl rfl) h
    (List.mem_cons_of_mem _ List.mem_cons_self) rfl rfl (hno ..)
    (by simp [fl, ValRule.ok, h1, h512])
  refine gives_of (show exec (.rackPartWrite p d n w) s = _ from writeReg_refusable (.inl rfl) h) ⟨?_, ?_⟩
  · change bitsN (y.rd .rackPart n).toNat 0 9 = _
    rw [hrd, bitsN_toNat_ofNat _ _ _ (by decide)]
    exact hbase
  · change bitsN (y.rd .rackPart n).toNat 16 10 = _
    rw [hrd, bitsN_toNat_ofNat _ _ _ (by decide)]
    exact hsize

/-- An enabled or filled rack keeps its partition. -/
theorem rackPartWrite_refused (hno : s.rackEn n = true ∨ s.rq n ≠ []) : Gives (.rackPartWrite p d n w) s fun t =>
    t.rd .rackPart n = s.rd .rackPart n ∧ t.b F.rackGstat_PARTERR = true := by
  have hign : ∀ f cur x, s.ignores .rackPart n f cur x = true := fun f cur x => by
    change (s.rackEn n || !(s.rq n).isEmpty) = true
    rcases hno with hen | hq
    · rw [hen, Bool.true_or]
    · simp [hq]
  have hset : (s.written p d .rackPart n .reg w.toNat).ign = true := ign_written_first rfl rfl (by
    simp [State.ignored, fieldNew, hign, State.fieldOwned, RegId.rule])
  have hapart : ∀ n : Fin 32, RegId.rackPart.addr n ≠ RegId.rackGstat.addr 0 := by decide
  obtain ⟨hrd, hflag⟩ := rd_flagged_refused (.inl rfl) hset (f := F.rackGstat_PARTERR) (k := 0) (fun _ => rfl) (by decide) (hapart n)
    (by decide) rfl
  refine gives_of (show exec (.rackPartWrite p d n w) s = _ from writeReg_refusable (.inl rfl) h) ⟨hrd.trans ?_, hflag⟩
  have hacc : ∀ f ∈ effFields .rackPart n, f.acc = .rw := show ∀ f ∈ fieldsRacks .rackPart, f.acc = .rw by decide
  rw [word_written_ignored hacc hign, BitVec.ofNat_toNat, BitVec.setWidth_eq]

end

/-! ### Enables (09 R328) -/

/-- What serves the waiters of a rack leaves the settings of the racks. -/
theorem rackCfg_place : ∀ n : Fin 32, RegId.rackCfg.addr n / 0x1000 ∉ [0x2, 0x9] ∧ outAddr (RegId.rackCfg.addr n) = false ∧
    (∀ m : Fin 32, RegId.rackCfg.addr n ≠ RegId.rackStat.addr m) ∧ RegId.rackCfg.addr n ≠ RegId.rackGstat.addr 0 := by decide

theorem rd_rackCfg_rackClean (s : State) (n m : Fin 32) (k : Nat) : (s.rackClean n k).rd .rackCfg m = s.rd .rackCfg m := by
  obtain ⟨hirq, hout, hstat, hgstat⟩ := rackCfg_place m
  induction k generalizing s with
  | zero => rfl
  | succ k ih =>
    have hfix : ∀ (l : List Nat) (t : State), (each l (fun _ u => u.incSat F.rackGstat_ECCFIX) t).rd .rackCfg m = t.rd .rackCfg m :=
      fun l t => each_keeps (fun u : State => u.rd .rackCfg m) l _ t fun _ u => rd_wr_ne _ _ _ _ _ _ hgstat
    rw [State.rackClean]
    split
    · rfl
    split
    · rfl
    dsimp only
    split
    · rw [ih, rd_of_oview (oview_raise ..) hout, State.rackFlag, rd_flagIrq _ _ _ _ _ _ hirq, rd_pb_ne _ _ _ _ (hstat n)]
      exact hfix ..
    · exact hfix ..

theorem rd_rackCfg_rackServe (s : State) (n m : Fin 32) (k : Nat) : (s.rackServe n k).rd .rackCfg m = s.rd .rackCfg m := by
  obtain ⟨hirq, -⟩ := rackCfg_place m
  have hgranted : ∀ (t : State) (x : Wait) (l : List (Nat × Word)), (t.granted x l).rd .rackCfg m = t.rd .rackCfg m := fun t x l => by
    unfold State.granted
    dsimp only
    split <;> rfl
  induction k generalizing s with
  | zero => rfl
  | succ k ih =>
    rw [State.rackServe]
    split
    · rfl
    have hclean : (if (s.popWaiter n).isSome then s.rackClean n ((s.rq n).length + 1) else s).rd .rackCfg m = s.rd .rackCfg m := by
      split
      · exact rd_rackCfg_rackClean ..
      · rfl
    generalize (if (s.popWaiter n).isSome then s.rackClean n ((s.rq n).length + 1) else s) = u at hclean ⊢
    dsimp only
    split
    · rw [ih, hgranted]
      exact hclean
    split
    · split
      · exact hclean
      split
      · rw [ih, hgranted, (IrqFrame.rackAppend ..).rd _ _ hirq]
        exact hclean
      · exact hclean
    · exact hclean

/-- A rack that is enabled or not stays so when its settings take effect. -/
theorem rackEn_rackCfgSet (s : State) (n : Fin 32) : (s.rackCfgSet n).rackEn n = s.rackEn n := by
  obtain ⟨hirq, -⟩ := rackCfg_place n
  have hserve := rd_rackCfg_rackServe s n n 64
  have hrd : (s.rackCfgSet n).rd .rackCfg n = s.rd .rackCfg n := by
    unfold State.rackCfgSet
    dsimp only
    split
    · rw [(IrqFrame.pendIrq ..).rd _ _ hirq, hserve]
    · exact hserve
  exact congrArg (fun x : Word => bitsN x.toNat 0 1 == 1) hrd

/-- The settings of a disabled rack serve nothing. -/
theorem rd_rackCfgSet_disabled {s : State} {n : Nat} (h : s.rackEn n = false) {r : RegId} {j : Nat}
    (hr : r.addr j / 0x1000 ∉ [0x2, 0x9]) : (s.rackCfgSet n).rd r j = s.rd r j := by
  have hserve : s.rackServe n 64 = s := by
    rw [State.rackServe, h]
    rfl
  unfold State.rackCfgSet
  dsimp only
  rw [hserve]
  split
  · exact (IrqFrame.pendIrq ..).rd _ _ hr
  · rfl

/-- EN is the first field of RACKn_CFG. -/
theorem effFields_rackCfg (n : Nat) : ∃ l, effFields .rackCfg n = fl "EN" 0 1 .rw 1 .i :: l := by
  change ∃ l, (if (12 ≤ n && n < 16) || 28 ≤ n then RegId.rackCfg.fields else _) = _
  split <;> exact ⟨_, rfl⟩

section
variable {s : State} {p : Port} {d : Dom} {n : Fin 32} {w : Word} (h : s.accepts p d .rackCfg n w.toNat = true) (hw : w.toNat % 2 = 1)
include h hw

theorem rackEnable_taken (hok : s.partOk n = true) : Gives (.rackEnable p d n w) s fun t => t.rackEn n = true := by
  have hno : ∀ f cur x, s.ignores .rackCfg n f cur x = false := fun f cur x => by
    change (f.lo == 0 && x == 1 && cur == 0 && !s.partOk n) = false
    rw [hok, Bool.not_true, Bool.and_false]
  obtain ⟨l, hl⟩ := effFields_rackCfg n
  have hrd := rd_flagged_taken (w := w.toNat) (p := p) (d := d) (n := n) (.inr (.inl rfl)) (ign_written_none fun f _ => hno f)
  have hen := bits_written (f := fl "EN" 0 1 .rw 1 .i) (.inr (.inl rfl)) h (hl ▸ List.mem_cons_self) rfl rfl (hno ..) rfl
  refine gives_of (show exec (.rackEnable p d n w) s = _ from writeReg_refusable (.inr (.inl rfl)) h) ?_
  refine (rackEn_rackCfgSet _ n).trans ?_
  rw [State.rackEn, State.b, State.g]
  simp only [F.rackCfg_EN, hrd, bitsN_toNat_ofNat _ 0 1 (by decide)]
  simp only [fl] at hen
  rw [hen]
  simp [bitsN, hw]

/-- A rack whose partition meets another stays disabled. -/
theorem rackEnable_refused (hoff : s.rackEn n = false) (hbad : s.partOk n = false) : Gives (.rackEnable p d n w) s fun t =>
    t.rackEn n = false ∧ t.b F.rackGstat_OVERLAP = true := by
  have hcur : bitsN (s.rd .rackCfg n).toNat 0 1 = 0 := by
    have hne : bitsN (s.rd .rackCfg n).toNat 0 1 ≠ 1 := beq_eq_false_iff_ne.mp hoff
    have hlt := bitsN_lt (s.rd .rackCfg n).toNat 0 1
    omega
  have hone : bitsN w.toNat 0 1 = 1 := by simp [bitsN, hw]
  have hign : s.ignores .rackCfg n (fl "EN" 0 1 .rw 1 .i) (bitsN (s.rd .rackCfg n).toNat 0 1) (bitsN w.toNat 0 1) = true := by
    rw [hcur, hone]
    change !s.partOk n
    rw [hbad]
    rfl
  obtain ⟨l, hl⟩ := effFields_rackCfg n
  have hset : (s.written p d .rackCfg n .reg w.toNat).ign = true := ign_written_first hl rfl (by
    simpa [State.ignored, fieldNew, State.fieldOwned, RegId.rule, State.present, fl] using hign)
  obtain ⟨-, -, -, hapart⟩ := rackCfg_place n
  obtain ⟨hrd, hflag⟩ := rd_flagged_refused (.inr (.inl rfl)) hset (f := F.rackGstat_OVERLAP) (k := 0) (fun _ => rfl) (by decide) hapart
    (by decide) rfl
  let y := s.flagged p d (RegId.rackCfg.addr n) .rackCfg n .reg w.toNat (s.written p d .rackCfg n .reg w.toNat)
  have hkept : bitsN (s.written p d .rackCfg n .reg w.toNat).word 0 1 = bitsN (s.rd .rackCfg n).toNat 0 1 :=
    word_fields_none (f := fl "EN" 0 1 .rw 1 .i) (refusable_fields (.inr (.inl rfl)) n) (hl ▸ List.mem_cons_self) rfl rfl
      (takes_ignored _ hign)
  have hstays : y.rackEn n = false := by
    change (bitsN (y.rd .rackCfg n).toNat 0 1 == 1) = false
    rw [hrd, bitsN_toNat_ofNat _ _ _ (by decide), hkept, hcur]
    rfl
  refine gives_of (show exec (.rackEnable p d n w) s = _ from writeReg_refusable (.inr (.inl rfl)) h)
    ⟨(rackEn_rackCfgSet y n).trans hstays, ?_⟩
  change (y.rackCfgSet n).b F.rackGstat_OVERLAP = true
  rw [State.b, State.g, rd_rackCfgSet_disabled hstays (by decide)]
  exact hflag

end

/-- Settles O48: pushes, pops, enables and partitions, each by its lemma. -/
theorem rackCommandsComplete : Obligations.RackCommandsComplete := by
  intro s p d n w
  refine ⟨fun h hprod => ⟨rackPush_keeps h hprod rfl, rackPush_commits h hprod rfl, rackPush_full h hprod rfl⟩,
    fun h hcons hen hcalm => ⟨fun y rest => rackPop_oldest h hcons hen hcalm, rackPop_empty h hcons hen⟩,
    fun h hw hoff => ⟨rackEnable_taken h hw, rackEnable_refused h hw hoff⟩,
    fun h h1 h512 => ⟨rackPartWrite_taken h h1 h512, rackPartWrite_refused h⟩⟩

end Sys2Proof.Machine
end

section

/-!
PROOF. Semaphores (09 R344-R346): takes, gives and settings.
-/

namespace Sys2Proof.Machine

/-! ### Fields once a port has its answer -/

theorem g_of_rd {s t : State} {f : Fld} {i : Nat} (h : t.rd f.r i = s.rd f.r i) : t.g f i = s.g f i := by rw [State.g, h, State.g]

theorem g_result (s : State) (p : Port) (code data : Nat) (f : Fld) (i : Nat) : (s.result p code data).g f i = s.g f i := rfl

theorem b_result (s : State) (p : Port) (code data : Nat) (f : Fld) (i : Nat) : (s.result p code data).b f i = s.b f i := rfl

theorem g_answered (t s : State) (p : Port) (code data : Nat) (f : Fld) (i : Nat) :
    ((t.loose s p).result p code data).g f i = t.g f i := rfl

theorem b_answered (t s : State) (p : Port) (code data : Nat) (f : Fld) (i : Nat) :
    ((t.loose s p).result p code data).b f i = t.b f i := rfl

/-- A field holds a value that fits it. -/
theorem g_p_fits (s : State) (f : Fld) (i : Nat) {v : Nat} (h : f.lo + f.w ≤ 32) (hv : v < 2 ^ f.w) : (s.p f i v).g f i = v :=
  (g_p_same s f i v h).trans (Nat.mod_eq_of_lt hv)

/-! ### Takes (09 R344) -/

section
variable {s : State} {n agent dom : Nat}

/-- Semaphore `n` is held by an agent for a domain. -/
def State.semHold (s : State) (n agent dom : Nat) : State :=
  ((s.pb F.semStat_HELD n true).p F.semStat_HOLDER n agent).p F.semStat_HDOM n dom

theorem semHold_shows (s : State) (n : Nat) (ha : agent < 32) (hd : dom < 4) : (s.semHold n agent dom).b F.semStat_HELD n = true ∧
    (s.semHold n agent dom).g F.semStat_HOLDER n = agent ∧ (s.semHold n agent dom).g F.semStat_HDOM n = dom := by
  refine ⟨?_, ?_, ?_⟩
  · rw [State.b, State.semHold, g_p_field _ F.semStat_HDOM F.semStat_HELD n _ rfl (by decide) (by decide),
      g_p_field _ F.semStat_HOLDER F.semStat_HELD n _ rfl (by decide) (by decide)]
    exact b_pb_same s F.semStat_HELD n true (by decide) rfl
  · rw [State.semHold, g_p_field _ F.semStat_HDOM F.semStat_HOLDER n _ rfl (by decide) (by decide), g_p_same _ _ _ _ (by decide)]
    exact Nat.mod_eq_of_lt ha
  · rw [State.semHold, g_p_same _ _ _ _ (by decide)]
    exact Nat.mod_eq_of_lt hd

theorem semTake_counts (hm : s.b F.semCfg_MODE n = true) (h0 : 0 < s.g F.semStat_COUNT n) :
    s.semTake n agent dom = (true, s.p F.semStat_COUNT n (s.g F.semStat_COUNT n - 1)) := by
  rw [State.semTake, if_pos hm, if_pos h0]

theorem semTake_free (hm : s.b F.semCfg_MODE n = false) (hf : s.b F.semStat_HELD n = false) :
    s.semTake n agent dom = (true, s.semHold n agent dom) := by
  rw [State.semTake, hm, hf]
  rfl

theorem semTake_refused (h : s.b F.semCfg_MODE n = true ∧ s.g F.semStat_COUNT n = 0 ∨
    s.b F.semCfg_MODE n = false ∧ s.b F.semStat_HELD n = true ∧ s.g F.semStat_HOLDER n ≠ agent) :
    s.semTake n agent dom = (false, s) := by
  rcases h with ⟨hm, h0⟩ | ⟨hm, hh, hne⟩
  · rw [State.semTake, if_pos hm, h0, if_neg (Nat.lt_irrefl 0)]
  · rw [State.semTake, hm, hh, beq_eq_false_iff_ne.mpr hne, Bool.false_and]
    rfl

end

/-- The code of a port's agent fits HOLDER. -/
theorem agentOf_lt : ∀ (p : Port) (d : Dom), agentOf p d < 32
  | .pe n, d => by
    change 4 * n.val + d.val + 1 < 32
    omega
  | .spi, _ | .net, _ | .u2d, _ | .dma, _ | .stream, _ => of_decide_eq_true rfl

/-- The domain of a take fits HDOM. -/
theorem useDom_semTake_lt (s : State) (p : Port) (d : Dom) (n : Nat) : s.useDom p d .semTake n < 4 := by
  unfold State.useDom
  split
  · exact s.regDom_lt fun e => absurd e (by decide)
  · exact d.isLt

theorem takeWord_granted : BitVec.ofNat 32 (takeWord true) = 0x80000000 := by decide

theorem takeWord_refused : BitVec.ofNat 32 (takeWord false) = 0x40000000 := by decide

/-- An accepted read of SEMn_TAKE: its whole effect. -/
theorem exec_semTake {s : State} {p : Port} {d : Dom} {n : Fin 32} {b : Bool} {t : State} (h : s.accepts p d .semTake n 0 = true)
    (ht : s.semTake n (agentOf p d) (s.useDom p d .semTake n) = (b, t)) : exec (.semTake p d n) s = .next (t.result p 0 (takeWord b)) := by
  have hread : s.regRead p d .semTake n true = (takeWord b, t) := by
    rw [State.regRead]
    dsimp only
    rw [ht]
    rfl
  change s.readCmd p d (RegId.semTake.addr n) = _
  rw [readCmd_accepts (.inr rfl) h (fun e => nomatch e), hread]

section
variable {s : State} {p : Port} {d : Dom} {n : Fin 32} (h : s.accepts p d .semTake n 0 = true)
include h

theorem semTake_counts_gives (hm : s.b F.semCfg_MODE n = true) (h0 : 0 < s.g F.semStat_COUNT n) : Gives (.semTake p d n) s fun t =>
    t.g F.semStat_COUNT n = s.g F.semStat_COUNT n - 1 ∧ (kvD t.acc p.code {}).data = 0x80000000 := by
  have hlt : s.g F.semStat_COUNT n < 2 ^ 16 := bitsN_lt ..
  have hcount : (s.p F.semStat_COUNT n (s.g F.semStat_COUNT n - 1)).g F.semStat_COUNT n = s.g F.semStat_COUNT n - 1 :=
    g_p_fits s F.semStat_COUNT n (by decide) (show _ < 2 ^ 16 by omega)
  exact gives_of (exec_semTake h (semTake_counts hm h0)) ⟨(g_result ..).trans hcount, (answer_data ..).trans takeWord_granted⟩

theorem semTake_free_gives (hm : s.b F.semCfg_MODE n = false) (hf : s.b F.semStat_HELD n = false) : Gives (.semTake p d n) s fun t =>
    t.b F.semStat_HELD n = true ∧ t.g F.semStat_HOLDER n = agentOf p d ∧ t.g F.semStat_HDOM n = s.useDom p d .semTake n ∧
      (kvD t.acc p.code {}).data = 0x80000000 := by
  obtain ⟨hheld, hholder, hdom⟩ := semHold_shows s n (agentOf_lt p d) (useDom_semTake_lt s p d n)
  exact gives_of (exec_semTake h (semTake_free hm hf)) 
    ⟨(b_result ..).trans hheld, (g_result ..).trans hholder, (g_result ..).trans hdom, (answer_data ..).trans takeWord_granted⟩

theorem semTake_refused_gives (hno : s.b F.semCfg_MODE n = true ∧ s.g F.semStat_COUNT n = 0 ∨
    s.b F.semCfg_MODE n = false ∧ s.b F.semStat_HELD n = true ∧ s.g F.semStat_HOLDER n ≠ agentOf p d) :
    Gives (.semTake p d n) s fun t => (kvD t.acc p.code {}).data = 0x40000000 ∧ t.regs = s.regs :=
  gives_of (exec_semTake h (semTake_refused hno)) ⟨(answer_data ..).trans takeWord_refused, rfl⟩

end

/-! ### Gives (09 R344, R346) -/

/-- Registers of semaphores stand apart, and their command registers lie in fSYS. -/
theorem sem_place : ∀ n : Fin 32, RegId.semCfg.addr n ≠ RegId.semStat.addr n ∧ RegId.semStat.addr n ∉ recordAddrs ∧
    decode (RegId.semGive.addr n) true = .reg .reg .semGive n ∧ postedReg .semGive n = false := by decide

section
variable {s : State} {n agent dom : Nat}

/-- Semaphore `n` is held by no agent. -/
def State.semClear (s : State) (n : Nat) : State := ((s.pb F.semStat_HELD n false).p F.semStat_HOLDER n 0).p F.semStat_HDOM n 0

theorem held_semClear (s : State) (n : Nat) : (s.semClear n).b F.semStat_HELD n = false := by
  rw [State.b, State.semClear, g_p_field _ F.semStat_HDOM F.semStat_HELD n _ rfl (by decide) (by decide),
    g_p_field _ F.semStat_HOLDER F.semStat_HELD n _ rfl (by decide) (by decide)]
  exact b_pb_same s F.semStat_HELD n false (by decide) rfl

theorem mode_semClear (s : State) (n : Fin 32) : (s.semClear n).b F.semCfg_MODE n = s.b F.semCfg_MODE n := by
  obtain ⟨hne, -⟩ := sem_place n
  rw [State.b, State.semClear, g_p_addr _ _ _ _ _ _ hne, g_p_addr _ _ _ _ _ _ hne, State.pb, g_p_addr _ _ _ _ _ _ hne]
  rfl

theorem semServe_none (h : s.semWaiters n = []) : s.semServe n = s := by rw [State.semServe, h]

theorem semGive_counts (hw : s.semWaiters n = []) (hm : s.b F.semCfg_MODE n = true) (hmax : s.g F.semStat_COUNT n < s.g F.semCfg_MAX n) :
    (s.semGive n agent dom).2 = s.p F.semStat_COUNT n (s.g F.semStat_COUNT n + 1) := by
  rw [State.semGive, if_pos hm, if_pos hmax]
  exact semServe_none hw

theorem semGive_frees (hm : s.b F.semCfg_MODE n = false) (hh : s.b F.semStat_HELD n = true) (ha : s.g F.semStat_HOLDER n = agent)
    (hd : s.g F.semStat_HDOM n = dom) : (s.semGive n agent dom).2 = (s.semClear n).semServe n := by
  rw [State.semGive, hm, hh, ha, hd, beq_self_eq_true, beq_self_eq_true]
  rfl

theorem semGive_bad (hm : s.b F.semCfg_MODE n = false) (hne : s.g F.semStat_HOLDER n ≠ agent) :
    (s.semGive n agent dom).2 = s.pb F.semStat_BADGIVE n true := by
  rw [State.semGive, hm, beq_eq_false_iff_ne.mpr hne, Bool.and_false, Bool.false_and]
  rfl

/-- A freed LOCK semaphore goes to its first waiter. -/
theorem semServe_first {x : Wait} {ws : List Wait} (hw : s.semWaiters n = x :: ws) (hm : s.b F.semCfg_MODE n = false)
    (hf : s.b F.semStat_HELD n = false) : s.semServe n = (s.semHold n x.agent x.dom).granted x [] := by
  rw [State.semServe, hw]
  dsimp only
  rw [semTake_free hm hf]
  rfl

end

/-- A context whose wait is granted goes on with DONE. -/
theorem granted_context (s : State) {x : Wait} (h1 : 1 ≤ x.agent) (h16 : x.agent ≤ 16) (l : List (Nat × Word)) :
    s.granted x l = (s.leaveWait x).modCx (ctxOfAgent x.agent) (·.waitDone 1 l) := by
  rw [State.granted]
  exact if_pos (by simp [h1, h16])

theorem granted_shows (s : State) {x : Wait} (h1 : 1 ≤ x.agent) (h16 : x.agent ≤ 16) (l : List (Nat × Word)) :
    (∀ r i, (s.granted x l).rd r i = s.rd r i) ∧ (s.granted x l).rack.waits = s.rack.waits.erase x ∧
      ((s.granted x l).cx (ctxOfAgent x.agent)).wst = 1 ∧ ((s.granted x l).cx (ctxOfAgent x.agent)).st = .runnable := by
  rw [granted_context s h1 h16, modCx_cx, if_pos rfl]
  exact ⟨fun _ _ => rfl, rfl, rfl, rfl⟩

theorem plainCommand_semGive (n : Nat) : plainCommand .semGive n 1 = true := by
  change plainCommand .semGive 0 1 = true
  decide

/-- An accepted give: its whole effect. -/
theorem exec_semGive {s : State} {p : Port} {d : Dom} {n : Fin 32} (h : s.accepts p d .semGive n 1 = true) :
    exec (.semGive p d n) s =
      .next (((((s.noted p d .semGive n 1).semGive n (agentOf p d) (s.useDom p d .semGive n)).2).loose s p).result p 0 0) := by
  obtain ⟨-, -, hd, hp⟩ := sem_place n
  exact writeReg_command s p d .semGive n 1 h hd hp (by decide) (plainCommand_semGive n)

section
variable {s : State} {p : Port} {d : Dom} {n : Fin 32} (h : s.accepts p d .semGive n 1 = true)
include h

theorem semGive_counts_gives (hw : s.semWaiters n = []) (hm : s.b F.semCfg_MODE n = true)
    (hmax : s.g F.semStat_COUNT n < s.g F.semCfg_MAX n) : Gives (.semGive p d n) s fun t =>
      t.g F.semStat_COUNT n = s.g F.semStat_COUNT n + 1 := by
  have hlt : s.g F.semCfg_MAX n < 2 ^ 16 := bitsN_lt ..
  have hcount := g_p_fits (s.noted p d .semGive n 1) F.semStat_COUNT n (v := s.g F.semStat_COUNT n + 1) (by decide)
    (show _ < 2 ^ 16 by omega)
  have hx := exec_semGive h
  rw [semGive_counts (s := s.noted p d .semGive n 1) hw hm hmax] at hx
  exact gives_of hx ((g_answered ..).trans hcount)

theorem semGive_frees_gives (hw : s.semWaiters n = []) (hm : s.b F.semCfg_MODE n = false) (hh : s.b F.semStat_HELD n = true)
    (ha : s.g F.semStat_HOLDER n = agentOf p d) (hd : s.g F.semStat_HDOM n = s.useDom p d .semGive n) :
    Gives (.semGive p d n) s fun t => t.b F.semStat_HELD n = false := by
  have hx := exec_semGive h
  rw [semGive_frees (s := s.noted p d .semGive n 1) hm hh ha hd,
    semServe_none (s := (s.noted p d .semGive n 1).semClear n) hw] at hx
  exact gives_of hx ((b_answered ..).trans (held_semClear ..))

theorem semGive_bad_gives (hm : s.b F.semCfg_MODE n = false) (hh : s.b F.semStat_HELD n = true)
    (hne : s.g F.semStat_HOLDER n ≠ agentOf p d) : Gives (.semGive p d n) s fun t =>
      t.b F.semStat_HELD n = true ∧ t.b F.semStat_BADGIVE n = true := by
  let y := s.noted p d .semGive n 1
  have hheld : (y.pb F.semStat_BADGIVE n true).b F.semStat_HELD n = y.b F.semStat_HELD n :=
    b_pb_field y n true rfl (by decide) (by decide)
  have hbad := b_pb_same y F.semStat_BADGIVE n true (by decide) rfl
  have hx := exec_semGive h
  rw [semGive_bad (s := y) hm hne] at hx
  exact gives_of hx ⟨(b_answered ..).trans (hheld.trans hh), (b_answered ..).trans hbad⟩

/-- A freed semaphore that a context waits for goes to it, and its instruction completes. -/
theorem semGive_grants_gives {x : Wait} {ws : List Wait} (hw : s.semWaiters n = x :: ws) (h1 : 1 ≤ x.agent) (h16 : x.agent ≤ 16)
    (h4 : x.dom < 4) (hm : s.b F.semCfg_MODE n = false) (hh : s.b F.semStat_HELD n = true) (ha : s.g F.semStat_HOLDER n = agentOf p d)
    (hd : s.g F.semStat_HDOM n = s.useDom p d .semGive n) : Gives (.semGive p d n) s fun t => t.b F.semStat_HELD n = true ∧
      t.g F.semStat_HOLDER n = x.agent ∧ t.rack.waits = s.rack.waits.erase x ∧ (t.cx (ctxOfAgent x.agent)).wst = 1 ∧
        (t.cx (ctxOfAgent x.agent)).st = .runnable := by
  let u := (s.noted p d .semGive n 1).semClear n
  have hmode : u.b F.semCfg_MODE n = false := (mode_semClear _ n).trans hm
  have hx := exec_semGive h
  rw [semGive_frees (s := s.noted p d .semGive n 1) hm hh ha hd, semServe_first (s := u) hw hmode (held_semClear ..)] at hx
  obtain ⟨hheld, hholder, -⟩ := semHold_shows u n (show x.agent < 32 by omega) h4
  obtain ⟨hrd, hwaits, hwst, hst⟩ := granted_shows (u.semHold n x.agent x.dom) h1 h16 []
  have hg : ∀ f : Fld, ((u.semHold n x.agent x.dom).granted x []).g f n = (u.semHold n x.agent x.dom).g f n := fun f =>
    g_of_rd (hrd f.r n)
  refine gives_of hx ⟨(b_answered ..).trans ?_, (g_answered ..).trans ((hg _).trans hholder), hwaits, hwst, hst⟩
  rw [State.b, hg]
  exact hheld

end

/-! ### Settings (09 R344) -/

section
variable {s : State} {p : Port} {d : Dom} {n : Fin 32} {w : Word} (h : s.accepts p d .semCfg n w.toNat = true)
include h

theorem semConfigWrite_taken (h1 : 1 ≤ bitsN w.toNat 16 16) (hidle : s.semIdle n = true) : Gives (.semConfigWrite p d n w) s fun t =>
    t.g F.semCfg_MODE n = w.toNat % 2 ∧ t.g F.semCfg_MAX n = bitsN w.toNat 16 16 := by
  have hno : ∀ f cur x, s.ignores .semCfg n f cur x = false := fun f cur x => by
    change (!s.semIdle n) = false
    rw [hidle]
    rfl
  let u := s.written p d .semCfg n .reg w.toNat
  let y := s.flagged p d (RegId.semCfg.addr n) .semCfg n .reg w.toNat u
  have hrd : y.rd .semCfg n = BitVec.ofNat 32 u.word := rd_flagged_taken (.inr (.inr rfl)) (ign_written_none fun f _ => hno f)
  have hmode := bits_written (f := fl "MODE" 0 1 .rw 0 .i) (.inr (.inr rfl)) h List.mem_cons_self rfl rfl (hno ..) rfl
  have hmax : bitsN w.toNat 16 16 < 2 ^ 16 := bitsN_lt ..
  have hbits := bits_written (f := fl "MAX" 16 16 .rw 0xFFFF .i (.range 1 65535)) (.inr (.inr rfl)) h
    (List.mem_cons_of_mem _ List.mem_cons_self) rfl rfl (hno ..) (by simp [fl, ValRule.ok, h1]; omega)
  obtain ⟨hne, -⟩ := sem_place n
  have hset : ∀ f : Fld, f.r = .semCfg → (if bitN u.word 0 == bitN (s.rd .semCfg n).toNat 0 then y else y.p F.semStat_COUNT n 0).g f n =
      y.g f n := fun f hf => by
    split
    · rfl
    · exact g_p_addr _ _ _ _ _ _ (hf ▸ hne)
  refine gives_of (show exec (.semConfigWrite p d n w) s = _ from writeReg_refusable (.inr (.inr rfl)) h)
    ⟨(hset F.semCfg_MODE rfl).trans ?_, (hset F.semCfg_MAX rfl).trans ?_⟩
  · change bitsN (y.rd .semCfg n).toNat 0 1 = _
    rw [hrd, bitsN_toNat_ofNat _ _ _ (by decide)]
    exact hmode.trans (by simp [bitsN, fl])
  · change bitsN (y.rd .semCfg n).toNat 16 16 = _
    rw [hrd, bitsN_toNat_ofNat _ _ _ (by decide)]
    exact hbits

/-- A semaphore in use keeps its settings. -/
theorem semConfigWrite_refused (hbusy : s.semIdle n = false) : Gives (.semConfigWrite p d n w) s fun t =>
    t.rd .semCfg n = s.rd .semCfg n ∧ t.b F.semStat_BADGIVE n = true := by
  have hign : ∀ f cur x, s.ignores .semCfg n f cur x = true := fun f cur x => by
    change (!s.semIdle n) = true
    rw [hbusy]
    rfl
  have hset : (s.written p d .semCfg n .reg w.toNat).ign = true := ign_written_first rfl rfl (by
    simp [State.ignored, fieldNew, hign, State.fieldOwned, RegId.rule])
  obtain ⟨hne, hrec, -⟩ := sem_place n
  obtain ⟨hrd, hflag⟩ := rd_flagged_refused (.inr (.inr rfl)) hset (f := F.semStat_BADGIVE) (k := n) (fun _ => rfl) hrec hne
    (by decide) rfl
  have hacc : ∀ f ∈ effFields .semCfg n, f.acc = .rw := show ∀ f ∈ fieldsRacks .semCfg, f.acc = .rw by decide
  have hword := word_written_ignored (p := p) (d := d) (w := w.toNat) hacc hign
  refine gives_of (show exec (.semConfigWrite p d n w) s = _ from writeReg_refusable (.inr (.inr rfl)) h) ?_
  have hsame : (bitN (s.written p d .semCfg n .reg w.toNat).word 0 == bitN (s.rd .semCfg n).toNat 0) = true := by
    rw [hword, beq_self_eq_true]
  rw [show ∀ (y : State) a v c, y.onWrite s p d a .semCfg n v w.toNat (s.written p d .semCfg n .reg w.toNat).word c = y from
    fun y a v c => if_pos hsame]
  refine ⟨hrd.trans ?_, hflag⟩
  rw [hword, BitVec.ofNat_toNat, BitVec.setWidth_eq]

end

end Sys2Proof.Machine
end

section

/-!
PROOF. Waits that time out, and deadlocks (09 R347-R350). With the semaphores they settle O49.
-/

namespace Sys2Proof.Machine

/-! ### The record of an abort (09 R348) -/

/-- The count of aborts with a status. -/
def dlkCount (status : Nat) : Fld := if status = 4 then F.dlkCnt_DEADLOCK else F.dlkCnt_TIMEOUT

theorem dlkCount_place (status : Nat) : (dlkCount status).r = .dlkCnt ∧ (dlkCount status).lo + (dlkCount status).w ≤ 32 := by
  unfold dlkCount
  split <;> decide

theorem Quiet.dlkRecord (s : State) (w : Wait) (status : Nat) : Quiet s (s.dlkRecord w status) := by
  change Quiet s (State.pendIrq _ 80)
  refine (Quiet.incSat s (dlkCount status) 0).trans (.trans ?_ (.pendIrq ..))
  exact .ite (.pb ..) (.wr ..)

/-- The capture of an abort writes its own register. -/
theorem rd_dlkCapture (s : State) (c : Bool) (v : Word) {r : RegId} {j : Nat} (h : r.addr j ≠ RegId.dlkCap.addr 0) :
    (if c then s.pb F.dlkCap_OVF 0 true else s.wr .dlkCap 0 v).rd r j = s.rd r j := by
  split
  · exact rd_pb_ne s F.dlkCap_OVF 0 true h
  · exact rd_wr_ne s .dlkCap r 0 j v h

theorem counts_dlkRecord (s : State) (w : Wait) (status : Nat) : Counts (dlkCount status) s (s.dlkRecord w status) := by
  obtain ⟨hr, h32⟩ := dlkCount_place status
  have hplace : RegId.dlkCnt.addr 0 / 0x1000 ∉ [0x2, 0x9] ∧ RegId.dlkCnt.addr 0 ≠ RegId.dlkCap.addr 0 := by decide
  obtain ⟨hirq, hcap⟩ := hplace
  refine counts_of_rd (counts_incSat s h32) ?_
  rw [hr]
  exact ((IrqFrame.pendIrq ..).rd _ _ hirq).trans (rd_dlkCapture (s.incSat (dlkCount status)) _ _ hcap)

/-! ### Aborts of waits (09 R348) -/

section
variable {s : State} {w : Wait} (hw : w.what ≠ .slot) (status : Nat)
include hw

theorem abortWait_context (h1 : 1 ≤ w.agent) (h16 : w.agent ≤ 16) :
    s.abortWait w status = (s.leaveWait w).modCx (ctxOfAgent w.agent) (·.waitDone status []) := by
  rw [State.abortWait, if_pos (by simp [h1, h16])]
  split
  · exact absurd ‹_› hw
  · rfl

theorem abortWait_copy (h : w.agent = 18) : s.abortWait w status = (s.leaveWait w).copyEnd status 0 := by
  simp [State.abortWait, h, hw]

theorem abortWait_net (h : w.agent = 17) : s.abortWait w status = (s.leaveWait w).netAbort w.what := by
  simp [State.abortWait, h, hw]

/-- What an abort leaves of a context's wait, once it is recorded. -/
theorem abortWait_context_shows (h1 : 1 ≤ w.agent) (h16 : w.agent ≤ 16) :
    let t := (s.dlkRecord w status).abortWait w status
    t.rack.waits = s.rack.waits.erase w ∧ Counts (dlkCount status) s t ∧ (t.cx (ctxOfAgent w.agent)).wst = status ∧
      (t.cx (ctxOfAgent w.agent)).z = (status == 1) ∧ (t.cx (ctxOfAgent w.agent)).st = .runnable := by
  have hrack := (Quiet.dlkRecord s w status).rack
  dsimp only
  rw [abortWait_context hw status h1 h16, modCx_cx, if_pos rfl]
  exact ⟨congrArg (fun r : Rack => r.waits.erase w) hrack, counts_of_rd (counts_dlkRecord s w status) rfl, rfl, rfl, rfl⟩

end

/-! ### Timeouts (09 R347, R348) -/

section
variable {s : State} {x : Wait}

/-- The wait found for an agent is that agent's. -/
theorem agent_of_waitOf {a : Nat} (h : s.waitOf a = some x) : x.agent = a := by simpa using List.find?_some h

theorem exec_waitTimeout {a : Fin 19} (h : s.waitOf a.val = some x) (hx : x.what ≠ .slot) :
    exec (.waitTimeout a) s = .next ((s.dlkRecord x 3).abortWait x 3) := by
  change execWaitTimeout a s = _
  rw [execWaitTimeout, h]
  dsimp only
  rw [beq_eq_false_iff_ne.mpr hx]
  rfl

/-- The instruction of a context. -/
theorem waitTimeout_context {a : Fin 19} (h : s.waitOf a.val = some x) (h1 : 1 ≤ a.val) (h16 : a.val ≤ 16) (hx : x.what ≠ .slot) :
    Gives (.waitTimeout a) s fun t => t.rack.waits = s.rack.waits.erase x ∧ Counts F.dlkCnt_TIMEOUT s t ∧
      (t.cx (ctxOfAgent a.val)).wst = 3 ∧ (t.cx (ctxOfAgent a.val)).z = false ∧ (t.cx (ctxOfAgent a.val)).st = .runnable := by
  have ha := agent_of_waitOf h
  have hshows := abortWait_context_shows (s := s) hx 3 (ha ▸ h1) (ha ▸ h16)
  rw [ha] at hshows
  exact gives_of (exec_waitTimeout h hx) hshows

/-- The COPY of the SPI burst engine. -/
theorem waitTimeout_copy {j : CopyJob} (h : s.waitOf 18 = some x) (hx : x.what ≠ .slot) (hj : s.rack.copy = some j)
    (hg : j.guard = false) (hn : j.rack < 32) : Gives (.waitTimeout 18) s fun t => t.rack.waits = s.rack.waits.erase x ∧
      Counts F.dlkCnt_TIMEOUT s t ∧ t.rack.copy = none ∧ t.g F.rackRet_LAST j.rack = 3 := by
  have hplace : ∀ n : Fin 32, RegId.dlkCnt.addr 0 ≠ RegId.rackStat.addr n ∧ RegId.dlkCnt.addr 0 ≠ RegId.rackRet.addr n := by decide
  obtain ⟨hstat, hret⟩ := hplace ⟨j.rack, hn⟩
  have hrec := (Quiet.dlkRecord s x 3).rack
  let u := ((s.dlkRecord x 3).leaveWait x).modRack fun r => { r with copy := none }
  have hcopy : ((s.dlkRecord x 3).leaveWait x).rack.copy = some j := (congrArg Rack.copy hrec).trans hj
  have hend : (s.dlkRecord x 3).abortWait x 3 = u.retire j.rack j.d 3 0 := by
    rw [abortWait_copy hx 3 (agent_of_waitOf h), State.copyEnd, hcopy]
    dsimp only
    rw [hg]
    rfl
  have hrack := (Quiet.retire u j.rack j.d 3 0).rack
  have hx' : exec (.waitTimeout 18) s = .next (u.retire j.rack j.d 3 0) := (exec_waitTimeout h hx).trans (congrArg _ hend)
  refine gives_of hx' ⟨?_, ?_, congrArg Rack.copy hrack, last_retire u j.d 3 0 hn⟩
  · exact (congrArg Rack.waits hrack).trans (congrArg (fun r : Rack => r.waits.erase x) hrec)
  · exact counts_of_rd (counts_dlkRecord s x 3) (rd_retire u _ _ _ _ (r := .dlkCnt) (j := 0) (by decide) hstat hret)

/-- The answer or EVENT of the network. -/
theorem waitTimeout_net {n : Nat} {y : Desc} (h : s.waitOf 17 = some x) (hx : x.what = .push n y) :
    Gives (.waitTimeout 17) s fun t => t.rack.waits = s.rack.waits.erase x ∧ Counts F.dlkCnt_TIMEOUT s t ∧
      t.b F.netStat_TXDROP = true ∧ t.rack.q = s.rack.q := by
  have hpush : x.what ≠ .slot := by
    rw [hx]
    nofun
  have hrec := (Quiet.dlkRecord s x 3).rack
  let u := (s.dlkRecord x 3).leaveWait x
  have hrack := (Quiet.flagIrq u F.netStat_TXDROP 0 83).rack
  have hx' := exec_waitTimeout (a := 17) h hpush
  rw [abortWait_net hpush 3 (agent_of_waitOf h), hx] at hx'
  refine gives_of hx' ⟨?_, ?_, b_netFlag_same u rfl (by decide) rfl, ?_⟩
  · exact (congrArg Rack.waits hrack).trans (congrArg (fun r : Rack => r.waits.erase x) hrec)
  · exact counts_of_rd (counts_dlkRecord s x 3)
      (rd_netFlag_apart (f := F.netStat_TXDROP) u (r := .dlkCnt) (j := 0) rfl (by decide) (by decide))
  · exact (congrArg Rack.q hrack).trans (congrArg Rack.q hrec :)

end

/-! ### Deadlocks (09 R349, R350) -/

section
variable {s : State} {a b : Nat}

/-- Two nodes whose edges lead to each other. -/
structure MutualWait (s : State) (a b : Nat) : Prop where
  edge : s.waitEdge a = b
  back : s.waitEdge b = a
  ne : a ≠ b
  nodes : 1 ≤ a ∧ a ≤ 18 ∧ 1 ≤ b ∧ b ≤ 18

/-- They are a cycle. -/
theorem MutualWait.cycleOf (h : MutualWait s a b) : s.cycleOf a = [a, b] := by
  obtain ⟨hab, hba, hne, ha1, ha18, hb1, hb18⟩ := h
  have hpath : s.waitPath a 19 = b :: a :: s.waitPath a 17 := by
    have ha : ¬(a = 0 ∨ 18 < a) := by omega
    have hb : ¬(b = 0 ∨ 18 < b) := by omega
    simp only [State.waitPath, hab, hba]
    simp [ha, hb]
  rw [State.cycleOf, hpath]
  simp [hne, Ne.symm hne]

end

section
variable {s : State} {x y : Wait} (hw : s.rack.waits = [x, y]) (hne : x.agent ≠ y.agent)
include hw hne

theorem blockOf_pair (hx : x.what ≠ .slot) (hy : y.what ≠ .slot) : s.blockOf x.agent = some x ∧ s.blockOf y.agent = some y := by
  simp [State.blockOf, hw, hx, hy, hne]

end

/-- The edge of a context that waits for a held LOCK semaphore (09 R349). -/
theorem waitEdge_take {s : State} {a n : Nat} {x : Wait} (h : s.blockOf a = some x) (hx : x.what = .take n)
    (hm : s.b F.semCfg_MODE n = false) (hh : s.b F.semStat_HELD n = true) : s.waitEdge a = s.g F.semStat_HOLDER n := by
  simp [State.waitEdge, h, hx, hm, hh]

/-- Of two waits the one that began last is the youngest, in whichever order they are met. -/
theorem youngest_pair {s : State} {x y : Wait} (hx : s.blockOf x.agent = some x) (hy : s.blockOf y.agent = some y)
    (hlast : x.start < y.start ∨ x.start = y.start ∧ x.agent < y.agent) :
    s.youngest [x.agent, y.agent] = some y ∧ s.youngest [y.agent, x.agent] = some y := by
  have hyes : (x.start < y.start || (x.start == y.start && x.agent < y.agent)) = true := by simpa using hlast
  have hno : (y.start < x.start || (y.start == x.start && y.agent < x.agent)) = false := by
    simp only [Bool.or_eq_false_iff, Bool.and_eq_false_iff, decide_eq_false_iff_not, beq_eq_false_iff_ne]
    omega
  constructor
  · simp only [State.youngest, List.filterMap_cons, List.filterMap_nil, hx, hy, List.foldl_cons, List.foldl_nil, hyes, if_true]
  · simp only [State.youngest, List.filterMap_cons, List.filterMap_nil, hx, hy, List.foldl_cons, List.foldl_nil, hno, Bool.false_eq_true,
      if_false]

/-- Of two contexts that wait for the semaphores of each other the later one is aborted. -/
theorem deadlockScan_gives {s : State} {x y : Wait} {n m : Nat} (hlive : s.live = true) (hw : s.rack.waits = [x, y])
    (hx : 1 ≤ x.agent ∧ x.agent ≤ 16) (hy : 1 ≤ y.agent ∧ y.agent ≤ 16) (hne : x.agent ≠ y.agent) (hxn : x.what = .take n)
    (hym : y.what = .take m) (hn : s.b F.semCfg_MODE n = false ∧ s.b F.semStat_HELD n = true ∧ s.g F.semStat_HOLDER n = y.agent)
    (hm : s.b F.semCfg_MODE m = false ∧ s.b F.semStat_HELD m = true ∧ s.g F.semStat_HOLDER m = x.agent)
    (hlast : x.start < y.start ∨ x.start = y.start ∧ x.agent < y.agent) :
    Gives .deadlockScan s fun t => t.rack.waits = [x] ∧ Counts F.dlkCnt_DEADLOCK s t ∧
      (t.cx (ctxOfAgent y.agent)).wst = 4 ∧ (t.cx (ctxOfAgent y.agent)).st = .runnable := by
  obtain ⟨hnm, hnh, hnx⟩ := hn
  obtain ⟨hmm, hmh, hmy⟩ := hm
  have hxs : x.what ≠ .slot := by rw [hxn]; nofun
  have hys : y.what ≠ .slot := by rw [hym]; nofun
  obtain ⟨hbx, hby⟩ := blockOf_pair hw hne hxs hys
  have hedge := (waitEdge_take hbx hxn hnm hnh).trans hnx
  have hback := (waitEdge_take hby hym hmm hmh).trans hmy
  have hcx : s.cycleOf x.agent = [x.agent, y.agent] := MutualWait.cycleOf ⟨hedge, hback, hne, by omega⟩
  have hcy : s.cycleOf y.agent = [y.agent, x.agent] := MutualWait.cycleOf ⟨hback, hedge, hne.symm, by omega⟩
  obtain ⟨hyx, hyy⟩ := youngest_pair hbx hby hlast
  have hyne : y ≠ x := fun e => hne (congrArg Wait.agent e.symm)
  have hhit : s.rack.waits.filter (fun w => s.youngest (s.cycleOf w.agent) == some w) = [y] := by
    simp [hw, hcx, hcy, hyx, hyy, hyne]
  have hexec : exec .deadlockScan s = .next ((s.dlkRecord y 4).abortWait y 4) := by
    obtain ⟨hrun, hclk⟩ := (Bool.and_eq_true ..).mp hlive
    change execDeadlockScan s = _
    rw [execDeadlockScan, hrun, hclk]
    dsimp only
    rw [hhit]
    rfl
  obtain ⟨hwaits, hcount, hwst, -, hst⟩ := abortWait_context_shows (s := s) hys 4 hy.1 hy.2
  refine gives_of hexec ⟨hwaits.trans ?_, hcount, hwst, hst⟩
  simp [hw, hyne.symm]

/-- Settles O49: takes, gives, settings, timeouts and deadlocks, each by its lemma. -/
theorem semaphoresAndWaitsComplete : Obligations.SemaphoresAndWaitsComplete := by
  refine ⟨fun s p d n w => ⟨fun h => ?_, fun h hw => ?_, fun x ws h hw h1 h16 h4 hm hh ha hd => ?_, fun h h1 => ?_⟩,
    fun s a x h h1 h16 hx => waitTimeout_context h h1 h16 hx, fun s x j h hx hj hg hn => waitTimeout_copy h hx hj hg hn,
    fun s x n y h hx => waitTimeout_net h hx,
    fun s x y n m hlive hw hx1 hx16 hy1 hy16 hne hxn hym hnm hmm hnh hmh hny hmx hlast =>
      deadlockScan_gives hlive hw ⟨hx1, hx16⟩ ⟨hy1, hy16⟩ hne hxn hym ⟨hnm, hnh, hny⟩ ⟨hmm, hmh, hmx⟩ hlast⟩
  · exact ⟨semTake_counts_gives h, semTake_free_gives h, semTake_refused_gives h⟩
  · exact ⟨semGive_counts_gives h hw, semGive_frees_gives h hw, semGive_bad_gives h⟩
  · exact semGive_grants_gives h hw h1 h16 h4 hm hh ha hd
  · exact ⟨semConfigWrite_taken h h1, semConfigWrite_refused h⟩

end Sys2Proof.Machine
end

section

/-!
PROOF. O50: COPY (09 R341, R342): what an access of the SPI burst engine to data SRAM does, the grant of its arbiter, the word that is
moved, the retirement after the last one.
-/

namespace Sys2Proof.Machine

/-! ### Accesses of the DMA agents to data SRAM (06 R185; 10 R369) -/

/-- An aligned address of data SRAM in a unit of domain `dom`. -/
def State.inData (s : State) (a dom : Nat) : Prop := a % 4 = 0 ∧ 0x840000 ≤ a ∧ a < 0x850000 ∧ s.memOwner a = dom

theorem memWord_lt (m : List Host.Cell) (a : Nat) : memWord m a < 2 ^ 32 := by
  have h0 := (memGet m a).isLt
  have h1 := (memGet m (a + 1)).isLt
  have h2 := (memGet m (a + 2)).isLt
  have h3 := (memGet m (a + 3)).isLt
  rw [memWord]
  omega

/-- A word written to memory leaves the racks and every register. -/
theorem writeMem_apart (s : State) (a w : Nat) : (s.writeMem a w).rack = s.rack ∧ ∀ r j, (s.writeMem a w).rd r j = s.rd r j := by
  unfold State.writeMem
  dsimp only
  split <;> exact ⟨rfl, fun _ _ => rfl⟩

theorem regionOf_data {a : Nat} (h1 : 0x840000 ≤ a) (h2 : a < 0x850000) : regionOf a = some .data := by
  unfold regionOf
  iterate 2 rw [if_neg (by simp; omega)]
  exact if_pos (by simp [h1, h2])

theorem decode_data {a : Nat} (h4 : a % 4 = 0) (h1 : 0x840000 ≤ a) (h2 : a < 0x850000) (wr : Bool) : decode a wr = .mem .data := by
  unfold decode
  rw [if_neg (by omega), regionOf_data h1 h2]
  cases wr <;> simp [h4]

section
variable {s : State} {a dom : Nat} (hpost : s.posted = []) (hg : s.gateCause .dma dom false = 0) (ha : s.inData a dom)
include hpost hg ha

theorem portRead_data (hecc : s.ecc = []) : s.portRead .dma dom a = (0, memWord s.mem a, false, s) := by
  obtain ⟨h4, h1, h2, hown⟩ := ha
  have hregion := regionOf_data h1 h2
  have hstore : s.programmed a = none := by
    unfold State.programmed
    split
    next j _ =>
      refine if_neg fun hc => ?_
      obtain ⟨hlow, -⟩ := (Bool.and_eq_true ..).mp hc
      have hle : imgBase j.bank + j.dst ≤ a := of_decide_eq_true ((Bool.and_eq_true ..).mp hlow).2
      unfold imgBase at hle
      omega
    · rfl
  have hwindow : s.windowRead Port.dma.code a = (memWord s.mem a, false, s) := by
    simp [State.windowRead, hstore, hregion, readMem_clean hecc]
  have hn : s.noSession .dma dom false = false := rfl
  have hident : isIdent (.mem .data) = false := rfl
  have hexempt : isExempt (.mem .data) = false := rfl
  simp [State.portRead, drain_empty s .dma hpost, State.readAt, decode_data h4 h1 h2, hident, hexempt, hg, hn, State.memRight,
    hown, hwindow]

theorem portWrite_data (w : Nat) : s.portWrite .dma dom a w = (0, s.writeMem a w) := by
  obtain ⟨h4, h1, h2, hown⟩ := ha
  have hregion := regionOf_data h1 h2
  have hwindow : s.windowWrite a w = s.writeMem a w := by simp [State.windowWrite, hregion]
  have hn : s.noSession .dma dom false = false := rfl
  have hexempt : isExempt (.mem .data) = false := rfl
  simp [State.portWrite, drain_empty s .dma hpost, decode_data h4 h1 h2, hexempt, hg, hn, State.memRight, hown, hwindow]

end

/-! ### One word (09 R341) -/

/-- The engine executes the COPY `j`. -/
def State.copying (s : State) (j : CopyJob) : State := s.modRack fun k => { k with copy := some j }

/-- Word `j.i` of the COPY `j` is moved. -/
def State.wordMoved (s : State) (j : CopyJob) : State :=
  (s.writeMem (copyDst j.d j.i) (memWord s.mem (copySrc j.d j.i))).copying { j with i := j.i + 1 }

theorem wordMoved_shows (s : State) (j : CopyJob) :
    (s.wordMoved j).mem = memSetWord s.mem (copyDst j.d j.i) (memWord s.mem (copySrc j.d j.i)) ∧
    (s.wordMoved j).rack = { s.rack with copy := some { j with i := j.i + 1 } } := by
  obtain ⟨hmem, -⟩ := writeMem_shows s (copyDst j.d j.i) (memWord s.mem (copySrc j.d j.i))
  obtain ⟨hrack, -⟩ := writeMem_apart s (copyDst j.d j.i) (memWord s.mem (copySrc j.d j.i))
  exact ⟨hmem, congrArg (fun r : Rack => { r with copy := some { j with i := j.i + 1 } }) hrack⟩

/-- The destination holds the word of the source, and no other byte of memory changes. -/
theorem memSetWord_moves {m : List Host.Cell} (h : Memory.wf m = true) (a b : Nat) :
    memWord (memSetWord m b (memWord m a)) b = memWord m a ∧
      ∀ c, (c < b ∨ b + 4 ≤ c) → memGet (memSetWord m b (memWord m a)) c = memGet m c :=
  ⟨(memWord_memSetWord h b _).trans (Nat.mod_eq_of_lt (memWord_lt m a)), fun _ => memGet_memSetWord_out m _⟩

/-- A COPY whose next word may be moved: it lies in data SRAM of the rack's domain, and so does the place it goes to. -/
structure Moves (s : State) (j : CopyJob) : Prop where
  posted : s.posted = []
  ecc : s.ecc = []
  waits : s.rack.waits = []
  gate : s.gateCause .dma (s.ownRack j.rack) false = 0
  plain : bitN j.d.w3 9 = false
  src : s.inData (copySrc j.d j.i) (s.ownRack j.rack)
  dst : s.inData (copyDst j.d j.i) (s.ownRack j.rack)
  more : j.i < copyCount j.d

section
variable {s : State} {j : CopyJob} (h : Moves s j)
include h

theorem Moves.copyWord : s.copyWord j = s.wordMoved j := by
  have hfull : ∀ w, s.copyFull (s.ownRack j.rack) j.d w = none := fun w => by simp [State.copyFull, h.plain]
  rw [State.copyWord, portRead_data h.posted h.gate h.src h.ecc]
  dsimp only
  rw [hfull]
  dsimp only
  rw [portWrite_data h.posted h.gate h.dst]
  rfl

theorem Moves.copyWords (hj : s.rack.copy = some j) : s.copyWords 1 = s.wordMoved j := by
  have hblock : s.blockOf 18 = none := by simp [State.blockOf, h.waits]
  simp only [State.copyWords, hj, hblock, h.copyWord, Option.isSome_none, Bool.false_eq_true, if_false, if_neg (Nat.not_le.mpr h.more)]

end

/-! ### The command (09 R341) -/

/-- A COPY that has moved its last word ends. -/
def State.copyLast (s : State) : State :=
  match s.rack.copy with
  | some j => if (s.blockOf 18).isNone && copyCount j.d ≤ j.i then s.copyEnd 1 0 else s
  | none => s

/-- The engine goes on with its COPY. -/
theorem exec_copy_goesOn {s : State} (hlive : s.live = true) (h : s.rack.copy.isSome = true) :
    exec (.copyExecute 1) s = .next (s.copyGuard.copyWords 1).copyLast := by
  change execCopyExecute 1 s = _
  rw [execCopyExecute, hlive, h]
  rfl

/-- The engine takes the COPY that its arbiter grants. -/
theorem exec_copy_starts {s s1 : State} {n : Nat} (hlive : s.live = true) (h : s.rack.copy = none) (hpick : s.copyPick = (some n, s1)) :
    exec (.copyExecute 1) s = .next ((s1.copyStart n).copyWords 1).copyLast := by
  change execCopyExecute 1 s = _
  rw [execCopyExecute, hlive, h, hpick]
  rfl

theorem copyLast_more (s : State) {j : CopyJob} (hmore : j.i + 1 < copyCount j.d) : (s.wordMoved j).copyLast = s.wordMoved j := by
  obtain ⟨-, hrack⟩ := wordMoved_shows s j
  rw [State.copyLast, hrack]
  exact if_neg (by simp [Nat.not_le.mpr hmore])

theorem Moves.copyLast_end {s : State} {j : CopyJob} (h : Moves s j) (hguard : j.guard = false) (hlast : j.i + 1 = copyCount j.d) :
    (s.wordMoved j).copyLast = ((s.wordMoved j).modRack fun k => { k with copy := none }).retire j.rack j.d 1 0 := by
  obtain ⟨-, hrack⟩ := wordMoved_shows s j
  have hcopy : (s.wordMoved j).rack.copy = some { j with i := j.i + 1 } := congrArg Rack.copy hrack
  have hblock : (s.wordMoved j).blockOf 18 = none := by simp [State.blockOf, hrack, h.waits]
  rw [State.copyLast, hcopy]
  dsimp only
  rw [hblock, if_pos (by simp [hlast]), State.copyEnd, hcopy]
  dsimp only
  rw [hguard]
  rfl

/-! ### A COPY in execution -/

/-- A flag of RACKn_STAT leaves RACKn_RET, at an index of any size. -/
theorem rd_rackRet_rackFlag (s : State) {f : Fld} (n : Nat) (hf : f.r = .rackStat) :
    (s.rackFlag f n).rd .rackRet n = s.rd .rackRet n := by
  have hne : RegId.rackRet.addr n ≠ RegId.rackStat.addr n := by
    simp only [RegId.addr, RegId.place, Nat.div_one, Nat.mod_one]
    omega
  have hpend : ∀ t : State, (t.pendIrq (32 + n)).rd .rackRet n = t.rd .rackRet n := fun t => by
    by_cases hn : n < 64
    · have hirq : ∀ n : Fin 64, RegId.rackRet.addr n / 0x1000 ∉ [0x2, 0x9] := by decide
      exact (IrqFrame.pendIrq ..).rd _ _ (hirq ⟨n, hn⟩)
    · rw [State.pendIrq, t.irqOwner_none (by omega)]
  exact (hpend _).trans (rd_pb_ne _ _ _ _ (hf ▸ hne))

/-- `last_retire` without its bound: the rack of a COPY in execution is any number. -/
theorem last_retire_any (s : State) (n : Nat) (d : Desc) (status erridx : Nat) :
    (s.retire n d status erridx).g F.rackRet_LAST n = status % 16 := by
  let s1 := s.p F.rackRet_LAST n status
  let s2 := s1.p F.rackRet_TAG n (d.w0 / 256)
  let s3 := s2.p F.rackRet_ERRIDX n (if status = 5 then erridx else s.g F.rackRet_ERRIDX n)
  have hf : (if status = 1 then F.rackStat_DONE else F.rackStat_ABORT).r = .rackStat := by split <;> rfl
  calc (s.retire n d status erridx).g F.rackRet_LAST n
      = (s3.incMod F.rackRet_RETCNT n).g F.rackRet_LAST n := g_of_rd (rd_rackRet_rackFlag _ n hf)
    _ = s3.g F.rackRet_LAST n := g_p_field s3 F.rackRet_RETCNT F.rackRet_LAST n _ rfl (by decide) (by decide)
    _ = s2.g F.rackRet_LAST n := g_p_field s2 F.rackRet_ERRIDX F.rackRet_LAST n _ rfl (by decide) (by decide)
    _ = s1.g F.rackRet_LAST n := g_p_field s1 F.rackRet_TAG F.rackRet_LAST n _ rfl (by decide) (by decide)
    _ = status % 16 := g_p_same s F.rackRet_LAST n status (by decide)

/-- The word at `a` has gone to `b`, and no other byte of memory has changed. -/
def MovedWord (s : State) (a b : Nat) (t : State) : Prop :=
  memWord t.mem b = memWord s.mem a ∧ ∀ c, (c < b ∨ b + 4 ≤ c) → memGet t.mem c = memGet s.mem c

theorem movedWord_of_mem {s t : State} (h : s.memOk) {a b : Nat} (ht : t.mem = memSetWord s.mem b (memWord s.mem a)) :
    MovedWord s a b t := by
  rw [MovedWord, ht]
  exact memSetWord_moves h a b

/-- The COPY `j` as an engine goes on with it that has taken no guard. -/
def CopyJob.unguarded (j : CopyJob) : CopyJob := { j with guard := false }

section
variable {s : State} {j : CopyJob} (hlive : s.live = true) (hecc : s.ecc = []) (hpost : s.posted = [])
  (hwaits : s.rack.waits = []) (hj : s.rack.copy = some j) (hg : s.gateCause .dma (s.ownRack j.rack) false = 0)
  (hplain : bitN j.d.w3 9 = false) (hsrc : s.inData (copySrc j.d j.i) (s.ownRack j.rack))
  (hdst : s.inData (copyDst j.d j.i) (s.ownRack j.rack)) (hnog : bitN j.d.w0 21 = false)
include hlive hecc hpost hwaits hj hg hplain hsrc hdst hnog

/-- The state of an engine that goes on with a COPY without guard, and the whole effect of its command. -/
theorem copy_goesOn (hmore : j.i < copyCount j.d) : Moves (s.copying j.unguarded) j.unguarded ∧
    exec (.copyExecute 1) s = .next ((s.copying j.unguarded).wordMoved j.unguarded).copyLast := by
  have hmoves : Moves (s.copying j.unguarded) j.unguarded := ⟨hpost, hecc, hwaits, hg, hplain, hsrc, hdst, hmore⟩
  have hguard : s.copyGuard = s.copying j.unguarded := by
    have hblock : s.blockOf 18 = none := by simp [State.blockOf, hwaits]
    rw [State.copyGuard, hj]
    dsimp only
    rw [hblock, hnog]
    rfl
  refine ⟨hmoves, ?_⟩
  rw [exec_copy_goesOn hlive (by rw [hj]; rfl), hguard, hmoves.copyWords rfl]

variable (hm : s.memOk)
include hm

theorem copyExecute_more (hmore : j.i + 1 < copyCount j.d) : Gives (.copyExecute 1) s fun t =>
    MovedWord s (copySrc j.d j.i) (copyDst j.d j.i) t ∧ t.rack.copy = some { j with i := j.i + 1, guard := false } := by
  obtain ⟨hmoves, hx⟩ := copy_goesOn hlive hecc hpost hwaits hj hg hplain hsrc hdst hnog (Nat.lt_of_succ_lt hmore)
  rw [copyLast_more (j := j.unguarded) _ hmore] at hx
  obtain ⟨hmem, hrack⟩ := wordMoved_shows (s.copying j.unguarded) j.unguarded
  exact gives_of hx ⟨movedWord_of_mem hm hmem, congrArg Rack.copy hrack⟩

theorem copyExecute_last (hlast : j.i + 1 = copyCount j.d) : Gives (.copyExecute 1) s fun t =>
    MovedWord s (copySrc j.d j.i) (copyDst j.d j.i) t ∧ t.rack.copy = none ∧ t.g F.rackRet_LAST j.rack = 1 := by
  obtain ⟨hmoves, hx⟩ := copy_goesOn hlive hecc hpost hwaits hj hg hplain hsrc hdst hnog (by omega)
  rw [hmoves.copyLast_end rfl hlast] at hx
  obtain ⟨hmem, -⟩ := wordMoved_shows (s.copying j.unguarded) j.unguarded
  have hq := Quiet.retire (((s.copying j.unguarded).wordMoved j.unguarded).modRack fun k => { k with copy := none }) j.rack j.d 1 0
  exact gives_of hx ⟨movedWord_of_mem hm (hq.mem.trans hmem), congrArg Rack.copy hq.rack, last_retire_any ..⟩

end

/-! ### The grant of the arbiter (09 R342) -/

/-- The arbiter of the engine changes waits, grants of slots and its own state; of the registers it writes DOM_INFL, beside the interrupt
that it makes pending. -/
structure PickFrame (s t : State) : Prop where
  ecc : t.ecc = s.ecc
  q : t.rack.q = s.rack.q
  rd : ∀ r j, r.addr j / 0x1000 ∉ [0x2, 0x9] → (∀ d : Dom, r.addr j ≠ RegId.domInfl.addr d) → t.rd r j = s.rd r j

namespace PickFrame

theorem refl (s : State) : PickFrame s s := ⟨rfl, rfl, fun _ _ _ _ => rfl⟩

theorem trans {s t u : State} (a : PickFrame s t) (b : PickFrame t u) : PickFrame s u :=
  ⟨b.ecc.trans a.ecc, b.q.trans a.q, fun r j h hd => (b.rd r j h hd).trans (a.rd r j h hd)⟩

theorem each {α : Type} {l : List α} {f : α → State → State} (h : ∀ a ∈ l, ∀ t, PickFrame t (f a t)) (s : State) :
    PickFrame s (Machine.each l f s) := by
  induction l generalizing s with
  | nil => exact .refl s
  | cons a t ih => exact (h a List.mem_cons_self s).trans (ih (fun b hb => h b (List.mem_cons_of_mem a hb)) (f a s))

theorem quotaHit (s : State) {d : Nat} (hd : d < 4) : PickFrame s (s.quotaHit d) := by
  have hq := Quiet.flagIrq s F.domInfl_QUOTAHIT d (72 + d)
  exact ⟨hq.ecc, congrArg Rack.q hq.rack, fun r j h hne => (rd_flagIrq s F.domInfl_QUOTAHIT d (72 + d) r j h).trans
    (rd_pb_ne s F.domInfl_QUOTAHIT d true (hne ⟨d, hd⟩))⟩

theorem slotWait (s : State) (agent : Nat) {d : Nat} (hd : d < 4) (need : Bool) : PickFrame s (s.slotWait agent d need) := by
  have hwaits : ∀ f : Rack → List Wait, PickFrame s (s.modRack fun r => { r with waits := f r }) := fun f =>
    ⟨rfl, rfl, fun _ _ _ _ => rfl⟩
  unfold State.slotWait
  dsimp only
  split
  · exact hwaits _
  split
  · exact .refl s
  · exact (hwaits _).trans (quotaHit _ hd)

theorem copyPick (s : State) : PickFrame s s.copyPick.2 := by
  have hslots : PickFrame s (Machine.each (upto 4) (fun d t => t.slotWait 18 d (!(s.copyRacks d).isEmpty && !s.copyDoms.contains d)) s) :=
    .each (fun d hd t => slotWait t 18 (List.mem_range.mp hd) _) s
  have harb : ∀ (t : State) (a : Arb), PickFrame t (t.modRack fun k => { k with arb18 := a }) := fun _ _ =>
    ⟨rfl, rfl, fun _ _ _ _ => rfl⟩
  have huse : ∀ (t : State) (d : Nat), PickFrame t (t.useSlot 18 d) := fun _ _ => ⟨rfl, rfl, fun _ _ _ _ => rfl⟩
  unfold State.copyPick
  dsimp only
  split
  · dsimp only
    exact hslots.trans (harb ..)
  · dsimp only
    exact (hslots.trans (huse ..)).trans (harb ..)

end PickFrame

theorem nextAfter_mem {last n : Nat} {l : List Nat} (h : nextAfter last l = some n) : n ∈ l := by
  unfold nextAfter at h
  split at h
  next m hm => exact Option.some.inj h ▸ List.mem_of_find?_eq_some hm
  · exact List.mem_of_mem_head? h

/-- The rack that the arbiter grants has a COPY at its head. -/
theorem copyHead_of_copyPick {s s1 : State} {n : Nat} (h : s.copyPick = (some n, s1)) : s.copyHead n = true := by
  have hfst : s.copyPick.1 = some n := congrArg Prod.fst h
  unfold State.copyPick at hfst
  dsimp only at hfst
  split at hfst
  · cases hfst
  · have hn := (List.mem_filter.mp (nextAfter_mem hfst)).2
    exact ((Bool.and_eq_true ..).mp hn).1

section
variable {s t : State} (h : PickFrame s t)
include h

theorem PickFrame.ownRack (n : Nat) : t.ownRack n = s.ownRack n := by
  have hlo : t.rd .ownRackLo = s.rd .ownRackLo := h.rd _ _ (by decide) (by decide)
  have hhi : t.rd .ownRackHi = s.rd .ownRackHi := h.rd _ _ (by decide) (by decide)
  simp only [State.ownRack, State.own2, hlo, hhi]

theorem PickFrame.inData {a dom : Nat} (ha : s.inData a dom) : t.inData a dom := by
  obtain ⟨h4, h1, h2, hown⟩ := ha
  have hrd : t.rd .ownDmem = s.rd .ownDmem := h.rd _ _ (by decide) (by decide)
  refine ⟨h4, h1, h2, ?_⟩
  rw [← hown]
  simp only [State.memOwner, regionOf_data h1 h2, State.own2, hrd]

theorem PickFrame.copyHead (n : Fin 32) : t.copyHead n = s.copyHead n := by
  have hplace : ∀ n : Fin 32, RegId.rackCfg.addr n / 0x1000 ∉ [0x2, 0x9] ∧
      ∀ d : Dom, RegId.rackCfg.addr n ≠ RegId.domInfl.addr d := by decide
  obtain ⟨hirq, hne⟩ := hplace n
  have hrd : t.rd .rackCfg n = s.rd .rackCfg n := h.rd _ _ hirq hne
  have hen : t.rackEn n = s.rackEn n := congrArg (fun x : Word => bitsN x.toNat 0 1 == 1) hrd
  have hcons : t.cons n = s.cons n := by
    unfold State.cons
    rw [g_of_rd (f := F.rackCfg_CONS) hrd]
  have hq : t.rq n = s.rq n := congrArg (fun q => kvD q n.val []) h.q
  rw [State.copyHead, State.copyHead, hen, hcons, hq]

end

/-! ### A COPY that starts -/

/-- A COPY without guard is taken from its calm rack. -/
theorem copyStart_noGuard {s : State} {n : Nat} {x : Desc} {rest : List Desc} (hq : s.rq n = x :: rest) (hcalm : s.rackCalm n = true)
    (hhead : s.copyHead n = true) (hnog : bitN x.w0 21 = false) :
    s.copyStart n = (s.setRq n rest).copying ⟨n, x, 0, false⟩ := by
  obtain ⟨-, herrs⟩ := (rackCalm_iff ..).mp hcalm
  have hx : x.errs.isEmpty = true := List.all_eq_true.mp herrs x (hq ▸ List.mem_cons_self)
  have hclean : s.rackClean n ((s.rq n).length + 1) = s := by
    rw [State.rackClean, hq]
    exact if_pos hx
  rw [State.copyStart]
  dsimp only
  rw [hclean, if_pos hhead, rackTake_calm hcalm hq]
  dsimp only
  rw [hnog]
  rfl

theorem copyExecute_starts {s s1 : State} {n : Nat} {x : Desc} {rest : List Desc} (hlive : s.live = true) (hm : s.memOk)
    (hecc : s.ecc = []) (hn : n < 32) (hnone : s.rack.copy = none) (hpick : s.copyPick = (some n, s1)) (hq : s1.rq n = x :: rest)
    (hpost : s1.posted = []) (hcalm : s1.rackCalm n = true) (hmem : s1.mem = s.mem) (hnog : bitN x.w0 21 = false)
    (hplain : bitN x.w3 9 = false) (hcount : 2 ≤ copyCount x) (hg : s1.gateCause .dma (s1.ownRack n) false = 0)
    (hsrc : s.inData x.w1 (s.ownRack n)) (hdst : s.inData x.w2 (s.ownRack n)) : Gives (.copyExecute 1) s fun t =>
      MovedWord s x.w1 x.w2 t ∧ t.rq n = rest ∧ t.rack.copy = some ⟨n, x, 1, false⟩ := by
  have hframe : PickFrame s s1 := (congrArg (fun r => PickFrame s r.2) hpick).mp (.copyPick s)
  have hhead : s1.copyHead n = true := (hframe.copyHead ⟨n, hn⟩).trans (copyHead_of_copyPick hpick)
  have hwaits := ((rackCalm_iff ..).mp hcalm).1
  let j : CopyJob := ⟨n, x, 0, false⟩
  let u := (s1.setRq n rest).copying j
  have hsrc0 : copySrc x 0 = x.w1 := by simp [copySrc]
  have hdst0 : copyDst x 0 = x.w2 := by simp [copyDst]
  have hown := hframe.ownRack n
  have hmoves : Moves u j := by
    refine ⟨hpost, hframe.ecc.trans hecc, hwaits, hg, hplain, ?_, ?_, Nat.lt_of_lt_of_le Nat.zero_lt_two hcount⟩
    · change s1.inData (copySrc x 0) (s1.ownRack n)
      rw [hsrc0, hown]
      exact hframe.inData hsrc
    · change s1.inData (copyDst x 0) (s1.ownRack n)
      rw [hdst0, hown]
      exact hframe.inData hdst
  have hx := exec_copy_starts hlive hnone hpick
  rw [copyStart_noGuard hq hcalm hhead hnog, hmoves.copyWords rfl, copyLast_more u (j := j) hcount] at hx
  obtain ⟨hset, hrack⟩ := wordMoved_shows u j
  refine gives_of hx ⟨movedWord_of_mem hm ?_, ?_, congrArg Rack.copy hrack⟩
  · rw [hset]
    change memSetWord s1.mem (copyDst x 0) (memWord s1.mem (copySrc x 0)) = _
    rw [hsrc0, hdst0, hmem]
  · exact (congrArg (fun r : Rack => kvD r.q n []) hrack).trans (rq_setRq s1 n rest)

/-- Settles O50: the COPY in execution, by whether the word is its last, and the COPY that the arbiter grants. -/
theorem copyMovesItsWords : Obligations.CopyMovesItsWords := by
  intro s hlive hm hecc hpost hwaits
  refine ⟨fun j hj hg hplain hsrc hdst hnog => ?_,
    fun n s1 x rest hn hnone hpick hq _ hpost1 hcalm hmem hnog hplain hcount hg hsrc hdst => ?_⟩
  · exact ⟨copyExecute_more hlive hecc hpost hwaits hj hg hplain hsrc hdst hnog hm,
      copyExecute_last hlive hecc hpost hwaits hj hg hplain hsrc hdst hnog hm⟩
  · exact copyExecute_starts hlive hm hecc hn hnone hpick hq hpost1 hcalm hmem hnog hplain hcount hg hsrc hdst

end Sys2Proof.Machine
end
